-- ==== Sys2Proof/Word.lean ====
section
/-! DEFINITION. The widths the spec works with and the shapes that describe a register: a field of a
register with its type (R7 of spec/00_scope.md), a register of the map (R4, R182), and the sparse store
that holds registers and memories as plain data. -/

namespace Sys2Proof

/-- A byte. -/
abbrev Byte := BitVec 8
/-- A 32-bit word: a Guide register, a register of the map. -/
abbrev W32 := BitVec 32
/-- The native word S40 (R185), a Cavern word, a Chamber register. -/
abbrev W40 := BitVec 40
/-- A 64-bit word: the widest access and the widest register. -/
abbrev W64 := BitVec 64
/-- A Chamber accumulator (R187). -/
abbrev W88 := BitVec 88

/-- The types a register field can have (R7). -/
inductive FieldType where
  | rw | ro | wo | w1c | w1s | rc | rwl
  deriving DecidableEq, Repr

/-- A field of a register: bits hi down to lo, and its type (R7). -/
structure Fld where
  hi : Nat
  lo : Nat
  ty : FieldType
  deriving DecidableEq, Repr

/-- A row of the register map: name, system address of its first instance, its index ranges from the
outermost (count and stride), whether it is 64 bits wide, its reset value, its fields. Bits that no field
names are reserved (R6). -/
structure RegDesc where
  name : String
  base : Nat
  dims : List (Nat × Nat)
  wide : Bool
  reset : Nat
  flds : List Fld
  deriving DecidableEq, Repr

/-- A sparse store of words by key: keys strictly rising, no entry equal to what an unlisted key reads as. -/
abbrev Cells (w : Nat) := List (Nat × BitVec w)

/-- The access the other port of the host window makes to the same word at the same time (R154): whether it
writes, and the word it writes. -/
structure HwnAccess where
  write : Bool
  value : W32
  deriving DecidableEq, Repr

/-- A transaction in flight at the bus matrix, by the list that holds it and its place there: those issued under an
identifier, the Guide's loads and posted stores, an element of a Siphon channel, the oldest Cavern access of a Chamber
(R169, R172). -/
inductive TxnRef where
  | matrix (i : BitVec 7)
  | load (i : BitVec 3)
  | store (i : BitVec 3)
  | siphon (channel i : BitVec 4)
  | chamber (tile : BitVec 4)
  deriving DecidableEq, Repr

/-- Bits of a Chamber memory word that have flipped before a command finds them (R204): the memory (0 X,
1 Y, 2 and 3 the program banks), the word, and the bits of word and check bits. -/
structure ChmFlip where
  space : Nat
  word : Nat
  mask : BitVec 72
  deriving DecidableEq, Repr

/-- What shares a Chamber bundle with a short-slot command (R212): whether the command stands in slot B, the
other slot's 31 bits, and bits that have flipped before the bundle is fetched. -/
structure CoSlot where
  slotB : Bool
  other : BitVec 31
  flip : Option ChmFlip
  deriving DecidableEq, Repr

/-- A cartridge's authentication element and life memory as the sideband finds them (R461, R462, R468): its ID
block, its key, its two life slots, and the attempts that fail before one succeeds. -/
structure CartElement where
  id : List Byte
  key : List Byte
  lifeA : List Byte
  lifeB : List Byte
  fails : Nat
  deriving DecidableEq, Repr

end Sys2Proof
end

