-- ==== Sys2Proof/Syntax.lean ====
section
/-! DEFINITION. The commands of spec/opcode_table.json, one constructor a row in the table's order, each with
the operands its rule gives it. -/

namespace Sys2Proof

/-- The block's commands. A field that a rule makes must-be-zero is an operand too, so that its illegal values are
commands with a meaning. -/
inductive Instr where
  /-- R61: The first ramp of VAON releases the power-on reset, which clears the always-on domain including PWR_UPTIME and resets the whole device. -/
  | powerOnReset (vsel : BitVec 5)
  /-- R84: An nRESET low of at least 1 µs is recognised and holds the device in chip reset while nRESET stays low. -/
  | pinReset (low : Bool)
  /-- R85: A write to RST_CTL with KEY 0xA5C3 and CHIP 1 starts a software chip reset; any other write raises the bad reset key source. -/
  | softwareChipReset (v : W32)
  /-- R86: A correctly keyed RST_BLK write places the named block in block reset and returns its registers to their reset values. -/
  | blockReset (v : W32)
  /-- R86: The block reset hold ends at most 2 µs after it began and the block runs again. -/
  | blockResetEnd (block : BitVec 6)
  /-- R491: Once the event-log FIFO has drained and any nERR wait has passed, within 20 µs of the raise, the Sump starts a chip reset. -/
  | sumpChipReset
  /-- R90: At the end of every reset the boot sequencer runs its ordered sequence from BOOTSEL sampling to the Guide's release. -/
  | bootSequence (bootsel hmode : Bool) (flash : Cells 8)
  /-- R100: The host writes word 0 with FULL and the boot sequencer takes or refuses the chunk. -/
  | hostChunkFull (nn : BitVec 16)
  /-- R100: The host writes word 0 with FULL_LAST and the boot sequencer completes the image, answering DONE or REFUSED. -/
  | hostChunkFullLast (nn : BitVec 16)
  /-- R7: A primary write to a peripheral register with no row of its own stores its fields as their types give, after the width and offset checks. -/
  | registerWrite (master : BitVec 3) (addr : W32) (wide : Bool) (v : W64)
  /-- R7: A read of a register that holds an RC field returns the value and clears the field in the same access. -/
  | rcRead (master : BitVec 3) (addr : W32) (wide : Bool)
  /-- R151: A write through the bit-set window performs one atomic read-modify-write of a register. -/
  | registerBitSetWrite (addr : W32) (wide : Bool) (v : W64)
  /-- R151: A write through the bit-clear window performs one atomic read-modify-write of a register. -/
  | registerBitClearWrite (addr : W32) (wide : Bool) (v : W64)
  /-- R150: A read through an alias window is refused with an error response. -/
  | aliasRead (master : BitVec 3) (addr : W32) (wide : Bool)
  /-- R42: Datum raises a cycle boundary every T of its timebase and releases that cycle's units. -/
  | cycleBoundary
  /-- R42: The mid-cycle instant at T/2 releases the second run of double-rate CLE slots. -/
  | midCycleInstant
  /-- R48: A released unit completes before its deadline tick, publishes its outputs, reports its slack and releases its successors. -/
  | unitCompletion (monitor : BitVec 6)
  /-- R49: A unit's deadline tick arrives before its completion; the unit is stopped, publishes nothing and its monitor records the miss. -/
  | unitDeadlineMiss (monitor : BitVec 6) (written : BitVec 16)
  /-- R45: Firmware requests that the written deadline table be checked and applied at the next boundary. -/
  | dlApply
  /-- R51: A write of MIN_CLR sets MIN_SLACK of a monitor to 0x1_FFFF. -/
  | minClr (monitor : BitVec 6)
  /-- R64: A write of ON to a domain powers it, waking it from OFF, RETAIN or sleep. -/
  | pwrModeOn (dom : BitVec 8)
  /-- R64: A write of AUTO makes a domain wake and sleep around its unit's work in each cycle. -/
  | pwrModeAuto (dom : BitVec 8)
  /-- R64: A write of RETAIN holds a memory domain's array at retention level, or is refused for protected domains. -/
  | pwrModeRetain (dom : BitVec 8)
  /-- R64: A write of OFF switches a domain off and loses its contents, or is refused for protected domains. -/
  | pwrModeOff (dom : BitVec 8)
  /-- R68: Setting HOLD keeps an AUTO domain powered and wakes it if it sleeps; clearing it lets it sleep. -/
  | pwrHoldWrite (dom : BitVec 8) (hold : Bool)
  /-- R70: WAKE_LEAD before a release point the power controller switches on the AUTO domains of that release, within the switching limit. -/
  | domainWake (dom : BitVec 8)
  /-- R66: A waking domain reports ON after its wake and any clearing, letting a waiting unit start. -/
  | domainWakeComplete (dom : BitVec 8)
  /-- R74: A sleep transition ends within 200 ns and any pending mode write then takes effect. -/
  | sleepTransitionEnd (dom : BitVec 8)
  /-- R79: The settle time after an issued code expires and the evaluation window restarts. -/
  | wtbSettleEnd
  /-- R77: A write of FLOOR or CEIL is checked, refused or taken, and forces the nearer bound if the current code lies outside. -/
  | wtbBoundWrite (ceil : Bool) (code : BitVec 8)
  /-- R78: A write of WTB_TARGET makes MANUAL mode issue the clamped code at the next boundary. -/
  | wtbTargetWrite (code : BitVec 8)
  /-- R76: A write of Water table MODE starts or stops the loop at the next boundary. -/
  | wtbModeWrite (mode : BitVec 2)
  /-- R82: An AVSBus transaction ends, updating WTB_CUR, or after its retries sets AVS_ERR and raises INTEGRITY. -/
  | avsbusTransactionDone (good : Bool)
  /-- R112: add writes ga + gb modulo 2^32 to gd. -/
  | gdeAdd (gd ga gb : BitVec 5)
  /-- R112: sub writes ga − gb modulo 2^32 to gd. -/
  | gdeSub (gd ga gb : BitVec 5)
  /-- R112: and writes the bitwise AND of ga and gb. -/
  | gdeAnd (gd ga gb : BitVec 5)
  /-- R112: or writes the bitwise OR of ga and gb. -/
  | gdeOr (gd ga gb : BitVec 5)
  /-- R112: xor writes the bitwise XOR of ga and gb. -/
  | gdeXor (gd ga gb : BitVec 5)
  /-- R112: shl shifts ga left by gb[4:0]. -/
  | gdeShl (gd ga gb : BitVec 5)
  /-- R112: shr shifts ga logically right by gb[4:0]. -/
  | gdeShr (gd ga gb : BitVec 5)
  /-- R112: sra shifts ga arithmetically right by gb[4:0]. -/
  | gdeSra (gd ga gb : BitVec 5)
  /-- R112: lts writes 1 if ga is less than gb signed, else 0. -/
  | gdeLts (gd ga gb : BitVec 5)
  /-- R112: ltu writes 1 if ga is less than gb unsigned, else 0. -/
  | gdeLtu (gd ga gb : BitVec 5)
  /-- R112: mul writes the low 32 bits of the product. -/
  | gdeMul (gd ga gb : BitVec 5)
  /-- R112: mhs writes the high 32 bits of the signed product. -/
  | gdeMhs (gd ga gb : BitVec 5)
  /-- R112: mhu writes the high 32 bits of the unsigned product. -/
  | gdeMhu (gd ga gb : BitVec 5)
  /-- R113: div writes the signed quotient, saturating on a zero divisor or overflow and setting ASTAT. -/
  | gdeDiv (gd ga gb : BitVec 5)
  /-- R113: divu writes the unsigned quotient, 0xFFFF_FFFF on a zero divisor. -/
  | gdeDivu (gd ga gb : BitVec 5)
  /-- R113: rem writes the signed remainder with the dividend's sign. -/
  | gdeRem (gd ga gb : BitVec 5)
  /-- R113: remu writes the unsigned remainder. -/
  | gdeRemu (gd ga gb : BitVec 5)
  /-- R112: min writes the signed minimum of ga and gb. -/
  | gdeMin (gd ga gb : BitVec 5)
  /-- R112: max writes the signed maximum of ga and gb. -/
  | gdeMax (gd ga gb : BitVec 5)
  /-- R112: clz writes the count of leading zeros of ga. -/
  | gdeClz (gd ga gb : BitVec 5)
  /-- R112: addi adds the sign-extended immediate to ga. -/
  | gdeAddi (gd ga : BitVec 5) (imm : BitVec 15)
  /-- R112: ltsi compares ga with the immediate, signed. -/
  | gdeLtsi (gd ga : BitVec 5) (imm : BitVec 15)
  /-- R112: ltui compares ga with the immediate, unsigned. -/
  | gdeLtui (gd ga : BitVec 5) (imm : BitVec 15)
  /-- R112: andi ANDs ga with the zero-extended immediate. -/
  | gdeAndi (gd ga : BitVec 5) (imm : BitVec 15)
  /-- R112: ori ORs ga with the zero-extended immediate. -/
  | gdeOri (gd ga : BitVec 5) (imm : BitVec 15)
  /-- R112: xori XORs ga with the zero-extended immediate. -/
  | gdeXori (gd ga : BitVec 5) (imm : BitVec 15)
  /-- R112: shli shifts ga left by imm15[4:0]. -/
  | gdeShli (gd ga : BitVec 5) (imm : BitVec 15)
  /-- R112: shri shifts ga logically right by imm15[4:0]. -/
  | gdeShri (gd ga : BitVec 5) (imm : BitVec 15)
  /-- R112: srai shifts ga arithmetically right by imm15[4:0]. -/
  | gdeSrai (gd ga : BitVec 5) (imm : BitVec 15)
  /-- R112: himm writes imm20 × 2^12 to gd. -/
  | gdeHimm (gd : BitVec 5) (imm : BitVec 20)
  /-- R112: pcadd writes the instruction's address plus imm20 × 2^12. -/
  | gdePcadd (gd : BitVec 5) (imm : BitVec 20)
  /-- R112: ldb loads a signed byte. -/
  | gdeLdb (gd ga : BitVec 5) (imm : BitVec 15)
  /-- R112: ldbu loads an unsigned byte. -/
  | gdeLdbu (gd ga : BitVec 5) (imm : BitVec 15)
  /-- R112: ldh loads a signed halfword. -/
  | gdeLdh (gd ga : BitVec 5) (imm : BitVec 15)
  /-- R112: ldhu loads an unsigned halfword. -/
  | gdeLdhu (gd ga : BitVec 5) (imm : BitVec 15)
  /-- R112: ldw loads a word. -/
  | gdeLdw (gd ga : BitVec 5) (imm : BitVec 15)
  /-- R112: ldw2 loads 64 bits in one access into an even register pair. -/
  | gdeLdw2 (gd ga : BitVec 5) (imm : BitVec 15)
  /-- R112: stb stores the low byte of gb. -/
  | gdeStb (gb ga : BitVec 5) (imm : BitVec 15)
  /-- R112: sth stores the low halfword of gb. -/
  | gdeSth (gb ga : BitVec 5) (imm : BitVec 15)
  /-- R112: stw stores the word of gb, posted through the store queue for matrix targets. -/
  | gdeStw (gb ga : BitVec 5) (imm : BitVec 15)
  /-- R112: stw2 stores 64 bits from an even register pair in one access. -/
  | gdeStw2 (gb ga : BitVec 5) (imm : BitVec 15)
  /-- R112: breq branches if ga equals gb. -/
  | gdeBreq (ga gb : BitVec 5) (off : BitVec 15)
  /-- R112: brne branches if ga differs from gb. -/
  | gdeBrne (ga gb : BitVec 5) (off : BitVec 15)
  /-- R112: brlt branches if ga is less than gb signed. -/
  | gdeBrlt (ga gb : BitVec 5) (off : BitVec 15)
  /-- R112: brge branches if ga is not less than gb signed. -/
  | gdeBrge (ga gb : BitVec 5) (off : BitVec 15)
  /-- R112: brltu branches if ga is less than gb unsigned. -/
  | gdeBrltu (ga gb : BitVec 5) (off : BitVec 15)
  /-- R112: brgeu branches if ga is not less than gb unsigned. -/
  | gdeBrgeu (ga gb : BitVec 5) (off : BitVec 15)
  /-- R112: jmp branches by off25. -/
  | gdeJmp (off : BitVec 25)
  /-- R112: call writes the return address to g28 and branches by off25. -/
  | gdeCall (off : BitVec 25)
  /-- R112: jmpr writes the return address to gd and jumps to ga + imm15. -/
  | gdeJmpr (gd ga : BitVec 5) (imm : BitVec 15)
  /-- R108: drain completes only when every issued load and posted store has completed. -/
  | gdeDrain (gd ga gb : BitVec 5)
  /-- R119: exret clears EXC and continues at EPC. -/
  | gdeExret (gd ga gb : BitVec 5)
  /-- R122: nmiret returns from BN to the bank in NSTAT at NEPC, taking any pending NMI first. -/
  | gdeNmiret (gd ga gb : BitVec 5)
  /-- R130: tend ends the running task instance and the roster decides at once what runs next. -/
  | gdeTend (gd ga gb : BitVec 5)
  /-- R130: wait idles the background until the roster dispatches. -/
  | gdeWait (gd ga gb : BitVec 5)
  /-- R117: mfs reads a system register into gd. -/
  | gdeMfs (gd ga : BitVec 5) (num : BitVec 14)
  /-- R117: mts writes ga to a system register, with VBASE checked as R118 states. -/
  | gdeMts (gd ga : BitVec 5) (num : BitVec 14)
  /-- R119: trap raises the TRAP exception with the immediate in EADDR. -/
  | gdeTrap (gd ga : BitVec 5) (imm : BitVec 15)
  /-- R114: addq adds simm6 to gd. -/
  | gdeAddq (gd : BitVec 5) (imm : BitVec 6)
  /-- R114: ldq loads a word from g29 + uimm6 × 4. -/
  | gdeLdq (gd : BitVec 5) (imm : BitVec 6)
  /-- R114: stq stores a word to g29 + uimm6 × 4. -/
  | gdeStq (gb : BitVec 5) (imm : BitVec 6)
  /-- R114: bzq branches if ga is zero. -/
  | gdeBzq (ga : BitVec 5) (off : BitVec 6)
  /-- R114: bnzq branches if ga is not zero. -/
  | gdeBnzq (ga : BitVec 5) (off : BitVec 6)
  /-- R114: braq branches by soff11. -/
  | gdeBraq (off : BitVec 11)
  /-- R114: addrq adds ga to gd. -/
  | gdeAddrq (gd ga : BitVec 5)
  /-- R114: subrq subtracts ga from gd. -/
  | gdeSubrq (gd ga : BitVec 5)
  /-- R114: jrq jumps to ga. -/
  | gdeJrq (ga z : BitVec 5)
  /-- R114: jcq calls ga, writing g28. -/
  | gdeJcq (ga z : BitVec 5)
  /-- R114: movq copies ga to gd. -/
  | gdeMovq (gd : BitVec 5) (z : Bool) (ga : BitVec 5)
  /-- R114: liq loads simm6 into gd. -/
  | gdeLiq (gd : BitVec 5) (imm : BitVec 6)
  /-- R114: shlq shifts gd left by uimm5. -/
  | gdeShlq (gd amt : BitVec 5)
  /-- R114: shrq shifts gd logically right by uimm5. -/
  | gdeShrq (gd amt : BitVec 5)
  /-- R109: A Guide load in flight returns its data into the issuing bank and releases any stalled reader. -/
  | guideLoadComplete (index : BitVec 3)
  /-- R120: A Guide load draws an error response, writes zero and raises an imprecise LOADERR. -/
  | guideLoadError (index : BitVec 3)
  /-- R120: A posted Guide store draws an error response and is recorded in GDE_PERR and GDE_PERR_CNT. -/
  | postedStoreError
  /-- R122: After the running bank's loads drain, the Guide saves NEPC and NSTAT and enters BN at VBASE + 0x40. -/
  | nmiEntry
  /-- R125: A primary write of a slot number to GDE_ROSTER_READY readies that slot. -/
  | rosterReady (slot : BitVec 6)
  /-- R127: A primary write of a slot number to GDE_ROSTER_CANCEL clears the slot's pending ready. -/
  | rosterCancel (slot : BitVec 6)
  /-- R572: An arbitration window closes at most 20 ns after it opened and resolves its readies and cancels. -/
  | arbitrationWindowClose
  /-- R129: After the pre-empted bank's loads drain, the roster dispatches the slot with ENTRY, ARG and slot number. -/
  | taskDispatch
  /-- R131: A write to GDE_TASK_CFG_n updates the slot for its next dispatch; clearing EN acts as a cancel. -/
  | taskCfgWrite (slot : BitVec 6) (v : W32)
  /-- R134: A tick finds CNT at or above PERIOD; the timer sets EXP, raises its event and reloads or stops. -/
  | timerExpiry (timer : BitVec 3)
  /-- R134: A timer in CAPTURE mode wraps from 0xFFFF_FFFF to 0 and sets OVF. -/
  | timerWrap (timer : BitVec 3)
  /-- R136: An accepted edge on the timer's TSIN pin copies CNT into TIM_CAP and raises the timer's event. -/
  | timerEdgeCapture (timer : BitVec 3) (pin : BitVec 4) (rising : Bool) (held : BitVec 32)
  /-- R139: A matrix read of a Cavern slot is checked by SECDED, corrected and written back if needed. -/
  | cavernRead (ident : BitVec 6) (off : BitVec 23) (wide : Bool) (flips : BitVec 48)
  /-- R139: A 64-bit or 32-bit write stores into a Cavern word, the 32-bit form as one read-modify-write. -/
  | cavernWrite (ident : BitVec 6) (off : BitVec 23) (wide : Bool) (v : W64) (flips : BitVec 48)
  /-- R149: A write through the Cavern bit-set window ORs its mask into the word in one bank cycle. -/
  | cavernBitSetWrite (ident : BitVec 6) (off : BitVec 23) (wide : Bool) (v : W64) (flips : BitVec 48)
  /-- R149: A write through the Cavern bit-clear window clears its mask from the word in one bank cycle. -/
  | cavernBitClearWrite (ident : BitVec 6) (off : BitVec 23) (wide : Bool) (v : W64) (flips : BitVec 48)
  /-- R147: Every SCRUB_US microseconds the patrol scrubber reads the next powered word on an idle bank cycle. -/
  | patrolScrub (flips : BitVec 48)
  /-- R152: A bus-matrix access reaches a host-window word at port A, with collision checking. -/
  | hostPortAAccess (master : BitVec 3) (off : BitVec 14) (bytes : BitVec 4) (write : Bool) (v : W64) (coll : List (Nat × HwnAccess))
  /-- R157: The READ command returns array words on one line from the given index. -/
  | spiRead (addr : BitVec 16) (count : BitVec 13) (coll : List (Nat × HwnAccess))
  /-- R157: The QREAD command returns array words on four lines. -/
  | spiQread (addr : BitVec 16) (count : BitVec 13) (coll : List (Nat × HwnAccess))
  /-- R157: The WRITE command stores array words received on one line. -/
  | spiWrite (addr : BitVec 16) (words : List W32) (coll : List (Nat × HwnAccess))
  /-- R157: The QWRITE command stores array words received on four lines. -/
  | spiQwrite (addr : BitVec 16) (words : List W32) (coll : List (Nat × HwnAccess))
  /-- R157: The RDSR command returns the status byte while SCK runs. -/
  | spiRdsr
  /-- R157: An unlisted command or bad address makes the slave ignore the transaction and set BADCMD. -/
  | spiBadCommand (code : Byte) (addr : BitVec 16)
  /-- R155: nHCS rises, ending the SPI transaction and releasing HBUSY raised by a collision. -/
  | spiTransactionEnd
  /-- R158: A host read of a half word through the holding register, with an array cycle where the table gives one. -/
  | parallelRead (ha : BitVec 13) (coll : Option HwnAccess)
  /-- R158: A host write of a half word through the holding register, writing the array where the table gives it. -/
  | parallelWrite (ha : BitVec 13) (v : BitVec 16) (coll : Option HwnAccess)
  /-- R161: Setting SPH_CTL_n.EN copies SPH_DESC_n to SPH_CUR_n, clears ERR and arms the channel. -/
  | siphonEnable (channel : BitVec 4)
  /-- R164: Clearing EN during a block stops the channel after the current element with ERR 0x5. -/
  | siphonDisable (channel : BitVec 4)
  /-- R161: A write of SPH_TRIG bits gives a software trigger to each named channel. -/
  | sphTrig (mask : BitVec 16)
  /-- R161: A selected event triggers a channel, starting a block, latching it in PEND or dropping it. -/
  | siphonTrigger (channel : BitVec 4)
  /-- R162: An element's read returns and its write is issued, or the channel stops on an error. -/
  | siphonReadReturn (channel : BitVec 4)
  /-- R162: An element's write is acknowledged; after the last, the block completes and the next block or DONE follows. -/
  | siphonWriteAck (channel : BitVec 4)
  /-- R169: A master issues a transaction holding a tracking entry, after waiting for a free one if all are held. -/
  | bmxTransactionIssue (ident : BitVec 6) (addr : W32) (bytes : BitVec 4) (write : Bool) (v : W64)
  /-- R172: A target's response returns to its master and frees the tracking entry. -/
  | bmxTransactionResponse (txn : TxnRef)
  /-- R175: A granted transaction gives no response within TMO_US and receives error code 0xB. -/
  | bmxTimeout (txn : TxnRef)
  /-- R169: A write of PEAK_CLR sets PEAK of a master to its current OUT. -/
  | peakClr (master : BitVec 3)
  /-- R205: A 64-bit write to the loader window writes one shadow bundle and updates the loader CRC and count. -/
  | loaderWrite (tile : BitVec 4) (index : BitVec 13) (v : W64)
  /-- R206: CNT_CLR clears CHM_LDR_CNT_n. -/
  | loaderCntClr (tile : BitVec 4)
  /-- R206: CRC_CLR sets CHM_LDR_CRC_n to the CRC-32 initial state. -/
  | loaderCrcClr (tile : BitVec 4)
  /-- R209: A Chamber Cavern load response writes its destination, or zero with GERR on an error response. -/
  | chamberCavernLoadReturn (tile : BitVec 4)
  /-- R218: nop does nothing. -/
  | chmNop (tile : BitVec 4) (bundle : W64) (flip : Option ChmFlip)
  /-- R218: add writes dA + dB, saturating or wrapping. -/
  | chmAdd (tile : BitVec 4) (f : BitVec 25) (co : CoSlot)
  /-- R218: sub writes dA − dB, saturating or wrapping. -/
  | chmSub (tile : BitVec 4) (f : BitVec 25) (co : CoSlot)
  /-- R218: min writes the signed minimum. -/
  | chmMin (tile : BitVec 4) (f : BitVec 25) (co : CoSlot)
  /-- R218: max writes the signed maximum. -/
  | chmMax (tile : BitVec 4) (f : BitVec 25) (co : CoSlot)
  /-- R218: abs writes |dA|. -/
  | chmAbs (tile : BitVec 4) (f : BitVec 25) (co : CoSlot)
  /-- R218: neg writes −dA. -/
  | chmNeg (tile : BitVec 4) (f : BitVec 25) (co : CoSlot)
  /-- R218: mul writes dA × dB rounded to the operand format. -/
  | chmMul (tile : BitVec 4) (f : BitVec 25) (co : CoSlot)
  /-- R218: and writes the bitwise AND over 40 bits. -/
  | chmAnd (tile : BitVec 4) (f : BitVec 25) (co : CoSlot)
  /-- R218: or writes the bitwise OR over 40 bits. -/
  | chmOr (tile : BitVec 4) (f : BitVec 25) (co : CoSlot)
  /-- R218: xor writes the bitwise XOR over 40 bits. -/
  | chmXor (tile : BitVec 4) (f : BitVec 25) (co : CoSlot)
  /-- R218: cmp sets Z and N from comparing dA with dB. -/
  | chmCmp (tile : BitVec 4) (f : BitVec 25) (co : CoSlot)
  /-- R218: tst sets Z and N from dA. -/
  | chmTst (tile : BitVec 4) (f : BitVec 25) (co : CoSlot)
  /-- R218: sel writes dA if COND holds, else dB. -/
  | chmSel (tile : BitVec 4) (f : BitVec 25) (co : CoSlot)
  /-- R218: shli shifts dA left by IMM6. -/
  | chmShli (tile : BitVec 4) (f : BitVec 25) (co : CoSlot)
  /-- R218: shri shifts dA right by IMM6 with rounding. -/
  | chmShri (tile : BitVec 4) (f : BitVec 25) (co : CoSlot)
  /-- R218: lsri shifts the 40 bits logically right by IMM6. -/
  | chmLsri (tile : BitVec 4) (f : BitVec 25) (co : CoSlot)
  /-- R218: sha shifts dA by the signed amount in dB. -/
  | chmSha (tile : BitVec 4) (f : BitVec 25) (co : CoSlot)
  /-- R218: mov copies dA to dD. -/
  | chmMov (tile : BitVec 4) (f : BitVec 25) (co : CoSlot)
  /-- R218: movi writes the sign-extended IMM18. -/
  | chmMovi (tile : BitVec 4) (f : BitVec 25) (co : CoSlot)
  /-- R218: nrm writes the count of redundant sign bits. -/
  | chmNrm (tile : BitVec 4) (f : BitVec 25) (co : CoSlot)
  /-- R218: pack converts two S40 values into F16 lanes. -/
  | chmPack (tile : BitVec 4) (f : BitVec 25) (co : CoSlot)
  /-- R218: unpk writes one F16 lane as S40. -/
  | chmUnpk (tile : BitVec 4) (f : BitVec 25) (co : CoSlot)
  /-- R219: ext extracts an accumulator scaled by 2^K4 into dR. -/
  | chmExt (tile : BitVec 4) (f : BitVec 25) (co : CoSlot)
  /-- R219: ext4 extracts four accumulators into four registers. -/
  | chmExt4 (tile : BitVec 4) (f : BitVec 25) (co : CoSlot)
  /-- R219: aclr clears an accumulator. -/
  | chmAclr (tile : BitVec 4) (f : BitVec 25) (co : CoSlot)
  /-- R219: amov copies one accumulator to another. -/
  | chmAmov (tile : BitVec 4) (f : BitVec 25) (co : CoSlot)
  /-- R219: aadd adds two accumulators. -/
  | chmAadd (tile : BitVec 4) (f : BitVec 25) (co : CoSlot)
  /-- R219: asub subtracts two accumulators. -/
  | chmAsub (tile : BitVec 4) (f : BitVec 25) (co : CoSlot)
  /-- R219: ald loads dR into an accumulator exactly. -/
  | chmAld (tile : BitVec 4) (f : BitVec 25) (co : CoSlot)
  /-- R219: ashr shifts an accumulator right by K4 with rounding. -/
  | chmAshr (tile : BitVec 4) (f : BitVec 25) (co : CoSlot)
  /-- R219: aget reads one part of an accumulator into dR. -/
  | chmAget (tile : BitVec 4) (f : BitVec 25) (co : CoSlot)
  /-- R219: aput writes dR into one part of an accumulator. -/
  | chmAput (tile : BitVec 4) (f : BitVec 25) (co : CoSlot)
  /-- R220: mset sets accumulators to the MAC quad products. -/
  | chmMset (tile : BitVec 4) (f : BitVec 25) (co : CoSlot)
  /-- R220: mneg sets accumulators to the negated products. -/
  | chmMneg (tile : BitVec 4) (f : BitVec 25) (co : CoSlot)
  /-- R220: macc adds the products to accumulators. -/
  | chmMacc (tile : BitVec 4) (f : BitVec 25) (co : CoSlot)
  /-- R220: msub subtracts the products from accumulators. -/
  | chmMsub (tile : BitVec 4) (f : BitVec 25) (co : CoSlot)
  /-- R221: ld loads one word, or two with W, through a pointer. -/
  | chmLd (tile : BitVec 4) (f : BitVec 25) (co : CoSlot)
  /-- R221: st stores one word, or two with W, through a pointer. -/
  | chmSt (tile : BitVec 4) (f : BitVec 25) (co : CoSlot)
  /-- R222: mtc writes a control register from dR. -/
  | chmMtc (tile : BitVec 4) (f : BitVec 25) (co : CoSlot)
  /-- R222: mfc reads a control register into dR. -/
  | chmMfc (tile : BitVec 4) (f : BitVec 25) (co : CoSlot)
  /-- R222: setcg sets the current channel group. -/
  | chmSetcg (tile : BitVec 4) (f : BitVec 25) (co : CoSlot)
  /-- R222: evget removes the oldest event record into dR. -/
  | chmEvget (tile : BitVec 4) (f : BitVec 25) (co : CoSlot)
  /-- R222: br continues at TGT if COND holds, popping repeats it leaves. -/
  | chmBr (tile : BitVec 4) (f : BitVec 25) (co : CoSlot)
  /-- R222: rep opens a block repeat of CNT + 1 passes. -/
  | chmRep (tile : BitVec 4) (f : BitVec 25) (co : CoSlot)
  /-- R222: repr opens a block repeat with the count in dR. -/
  | chmRepr (tile : BitVec 4) (f : BitVec 25) (co : CoSlot)
  /-- R222: end ends the Chamber run. -/
  | chmEnd (tile : BitVec 4) (f : BitVec 25) (co : CoSlot)
  /-- R237: rot advances the rotation base by K6. -/
  | chmRot (tile : BitVec 4) (f : BitVec 25) (co : CoSlot)
  /-- R224: The long MAC with memory operands and parallel loads, stores or ext4. -/
  | chmLongMac (tile : BitVec 4) (f : BitVec 58) (flip : Option ChmFlip)
  /-- R224: ldi writes IMM40 to dR. -/
  | chmLdi (tile : BitVec 4) (f : BitVec 58) (flip : Option ChmFlip)
  /-- R224: cset writes IMM24 to a control register. -/
  | chmCset (tile : BitVec 4) (f : BitVec 58) (flip : Option ChmFlip)
  /-- R247: FLUSH empties the Chamber's event queue. -/
  | chmEvqFlush (tile : BitVec 4)
  /-- R268: A write of CFL_XP_DATA stores a crosspoint gain as a step at the next mix pass. -/
  | cflXpDataWrite (gain : W32)
  /-- R263: A change of CFL_IN_i.MUTE ramps the input in or out over 32 samples from the next mix pass. -/
  | cflMuteWrite (input : BitVec 8) (mute : Bool)
  /-- R278: A STAGE request sets a slot CHECKING and queues its check. -/
  | flwStage (slot : BitVec 4)
  /-- R274: A DISCARD request sets a slot not in use EMPTY. -/
  | flwDiscard (slot : BitVec 4)
  /-- R278: Flowstone finishes reading and checking a set, which becomes STAGED or FAILED. -/
  | setCheckDone
  /-- R281: A write of FLW_CMT with GO and CHAIN clear requests a local commit, accepted or refused. -/
  | flwLocalCommit (slot : BitVec 4) (cyc : BitVec 48)
  /-- R281: A write of FLW_CMT with GO and CHAIN set on the head originates a chain commit. -/
  | flwChainCommit (slot : BitVec 4) (dest : BitVec 8) (cyc : BitVec 48)
  /-- R282: Within 5 µs of acceptance Flowstone starts reading the set again and loading shadow copies. -/
  | armingStart
  /-- R282: Arming ends after rechecking the CRC and loading the shadow copies. -/
  | armingDone
  /-- R274: A write of FLW_SLOT_BASE_s places a slot and sets it EMPTY, unless it is in use. -/
  | flwSlotBaseWrite (slot : BitVec 4) (word : BitVec 20)
  /-- R288: A write of FLW_MORPH_BASE places the morph area, ignored while a commit is pending or a ramp runs. -/
  | flwMorphBaseWrite (word : BitVec 20)
  /-- R307: Setting EN checks the port configuration and starts the port, or refuses it with CFG_ERR. -/
  | sapEnable (port : BitVec 3)
  /-- R308: Clearing EN ramps the port to zero and enters TRAIL, or returns it to IDLE. -/
  | sapDisable (port : BitVec 3)
  /-- R307: Frame edges arrive at a slave port in WAIT_CLK and it enters LEAD. -/
  | sapClockArrival (port : BitVec 3)
  /-- R307: LEAD frames of zero have been sent and the port waits for the cycle boundary to enter RUN. -/
  | sapLeadEnd (port : BitVec 3)
  /-- R308: The trail ends, a master stops its clocks and the port returns to IDLE or restarts. -/
  | sapTrailEnd (port : BitVec 3)
  /-- R295: A serial-audio frame begins and its slot words are sent and received. -/
  | sapFrame (port : BitVec 3) (di : List Bool)
  /-- R303: At each sample grid point the node reads the input buffers and writes the output buffers, slipping where the fill requires. -/
  | sampleGridPoint
  /-- R309: No frame edge for four frame periods makes a clock fault and the port waits for clocks. -/
  | sapClockLoss (port : BitVec 3)
  /-- R309: The frame rate measured over 1,024 frames lies outside tolerance and a clock fault follows. -/
  | sapRateError (port : BitVec 3)
  /-- R312: GO sends one frame in ONCE mode, or a responder's RDM reply if not late. -/
  | dmxGo (port : BitVec 1)
  /-- R312: SWAP switches to the other transmit buffer at the next break. -/
  | dmxSwap (port : BitVec 1)
  /-- R312: A DMX transmit frame begins with its break, taking buffers, settings and light store values. -/
  | dmxBreakStart (port : BitVec 1)
  /-- R313: A received DMX frame ends and is published whole with RX_LEN and RX_SEQ. -/
  | dmxRxFrame (port : BitVec 1) (brk mark : BitVec 32) (bytes : List Byte) (framingError : Bool) (ago : BitVec 32)
  /-- R315: No RDM response edge arrives within RESP_TMO and RDM_TMO is set. -/
  | dmxRdmTimeout (port : BitVec 1)
  /-- R337: A write of GAL_CTL.EN starts or stops Gallery and takes the fields latched at EN. -/
  | galEnable (on : Bool)
  /-- R333: A node receives a train section and handles it on the outbound pass, turnaround or return pass. -/
  | trainSection (port : BitVec 1) (eighths : BitVec 3) (sa : List Byte) (payload : List Byte) (fcs : BitVec 2)
  /-- R30: A train not fully arrived G before the processing cycle is treated as lost and sets LATE. -/
  | blockLate
  /-- R330: A COMMIT message reaches a node on the outbound pass and is handed to Flowstone. -/
  | msgCommit (dest : Byte) (slot : BitVec 4) (cyc : BitVec 48)
  /-- R329: A SETDATA message writes set words into a slot, or is discarded with SET_REJ. -/
  | msgSetdata (dest : Byte) (slot : BitVec 4) (word : BitVec 16) (words : List W40)
  /-- R329: A SETEND message requests a STAGE of the slot. -/
  | msgSetend (dest : Byte) (slot : BitVec 4)
  /-- R329: An ASSIGN message sets STORED_ID on the node whose MAC matches. -/
  | msgAssign (mac : List Byte) (ident : Byte)
  /-- R329: An IDENT message makes the named node queue a reply, which the head queues in GAL_RXMSG. -/
  | msgIdent (pos : Byte)
  /-- R329: A USER message is queued in GAL_RXMSG. -/
  | msgUser (dest : Byte) (data : List Byte)
  /-- R339: A received LINK frame gives a link delay sample and counts toward GLINK, or carries a WRAP request. -/
  | linkFrameReceive (port : BitVec 1) (eighths : BitVec 3) (payload : List Byte) (good : Bool)
  /-- R340: A port loses GLINK after link down, two missing trains or 48 cycles without LINK frames. -/
  | glinkLoss (port : BitVec 1)
  /-- R347: A write of RESTORE on the head schedules the ring restore 4 cycles ahead. -/
  | galRestore
  /-- R341: A write of STORED_ID in STORED mode makes the member derive its ID afresh at a boundary. -/
  | storedIdWrite (ident : Byte)
  /-- R331: GO queues the written message in GAL_TXMSG. -/
  | galTxmsgGo
  /-- R330: POP removes the oldest message of GAL_RXMSG. -/
  | galRxmsgPop
  /-- R331: GO on the head starts streaming a slot's set as SETDATA and SETEND messages. -/
  | galSettxGo (src dst : BitVec 4) (dest : Byte)
  /-- R317: GO starts one Clause 22 MDIO transaction. -/
  | galMdioGo (write : Bool) (phy reg : BitVec 5) (data : BitVec 16)
  /-- R317: An MDIO transaction ends and BUSY clears with any read data. -/
  | mdioTransactionDone (data : BitVec 16)
  /-- R317: A PHY's in-band status reports a change of link, speed or duplex. -/
  | phyStatusChange (port : BitVec 1) (up fdx : Bool) (speed : BitVec 2)
  /-- R318: An ordinary frame received on a Gallery port is switched, timestamped or dropped. -/
  | ethFrameReceive (port : BitVec 1) (eighths : BitVec 3) (bytes : List Byte) (good : Bool)
  /-- R319: An ordinary or LINK frame waiting for a gap is sent on a Gallery port. -/
  | ethFrameTransmit (port : BitVec 1)
  /-- R320: TXPOLL makes the device scan the transmit descriptor ring. -/
  | ethTxpoll
  /-- R351: GO captures DTM_SET_SEC and DTM_SET_NS for loading at the next tick. -/
  | dtmSetGo
  /-- R351: At the next tick the timebase loads the captured value, clears TIME_VALID and signals Cairn. -/
  | timebaseSetApply
  /-- R351: A write of DTM_STEP adds a signed step pending for the next tick. -/
  | dtmStepWrite (v : W64)
  /-- R351: At the next tick the summed step is added, TIME_VALID clears and Cairn is signalled. -/
  | timebaseStepApply
  /-- R349: A write of DTM_ADDEND sets the per-tick advance, clamped to ±1000 ppm. -/
  | dtmAddendWrite (v : W32)
  /-- R350: A read of DTM_TB_NS takes the master's snapshot of the timebase and cycle index. -/
  | dtmTbNsRead (master : BitVec 3)
  /-- R356: SET in SOFT mode sets TIME_VALID. -/
  | dtmTvSet
  /-- R356: CLR in SOFT mode clears TIME_VALID. -/
  | dtmTvClr
  /-- R354: A write that changes MODE loads I bumplessly, clears TIME_VALID and puts the selector in holdover. -/
  | dtmModeWrite (servo : Bool)
  /-- R354: A write of DTM_PTP_OFS gives one PTP-derived offset sample. -/
  | dtmPtpOfsWrite (v : W64)
  /-- R384: Each second of timebase, the mean of I is stored in the holdover history if the conditions held. -/
  | holdoverSecond
  /-- R373: An accepted edge on DTM_PPSI gives a PPS offset sample. -/
  | ppsInputEdge (eighths : BitVec 3) (rising : Bool) (held : BitVec 32)
  /-- R373: The first accepted DTM_WCLK edge after a boundary gives a WCLK offset sample. -/
  | wclkInputEdge (eighths : BitVec 3) (rising : Bool) (held : BitVec 32)
  /-- R386: DTM_PPSO rises at its grid value and falls after WIDTH. -/
  | ppsoEdge
  /-- R386: DTM_FRMO rises at its grid value and falls after half its period. -/
  | frmoEdge
  /-- R361: POP removes the oldest PTP timestamp entry. -/
  | ptsPop
  /-- R365: An accepted TSIN edge is stamped with the interpolated timebase. -/
  | cairnPinEdge (pin : BitVec 4) (eighths : BitVec 3) (rising : Bool) (held : BitVec 32)
  /-- R366: Cairn commits a stamped event as one FIFO entry, or into an overrun record when full. -/
  | cairnCommit
  /-- R368: POP removes the oldest Cairn entry, letting a pending overrun record commit. -/
  | cairnPop
  /-- R368: FLUSH empties the Cairn FIFO and discards any overrun record. -/
  | cairnFlush
  /-- R389: A write of a synthesizer's EN, NINT or PDIV is checked and starts a relock. -/
  | synConfigWrite (syn : BitVec 2) (ctl : W32) (frac : BitVec 24) (div : W32)
  /-- R389: A synthesizer reaches lock and its outputs run. -/
  | synLock (syn : BitVec 2)
  /-- R389: A synthesizer loses lock, holds its outputs low and raises TIMING. -/
  | synUnlock (syn : BitVec 2)
  /-- R390: A write of STEP adds phase steps to PEND, ignored while ALIGN is set. -/
  | synStepWrite (syn : BitVec 2) (v : BitVec 16)
  /-- R403: nop does nothing. -/
  | cleNop (w : W32)
  /-- R408: end ends the run, which then publishes its pending writes together. -/
  | cleEnd (f : BitVec 26)
  /-- R403: add writes vA + vB. -/
  | cleAdd (f : BitVec 26)
  /-- R403: sub writes vA − vB. -/
  | cleSub (f : BitVec 26)
  /-- R403: min writes the signed minimum. -/
  | cleMin (f : BitVec 26)
  /-- R403: max writes the signed maximum. -/
  | cleMax (f : BitVec 26)
  /-- R403: neg writes −vA. -/
  | cleNeg (f : BitVec 26)
  /-- R403: mov copies vA. -/
  | cleMov (f : BitVec 26)
  /-- R403: sel writes vA if vD ≥ 0, else vB. -/
  | cleSel (f : BitVec 26)
  /-- R403: mul sets acc to vA × kK. -/
  | cleMul (f : BitVec 26)
  /-- R403: mac adds vA × kK to acc. -/
  | cleMac (f : BitVec 26)
  /-- R403: msb subtracts vA × kK from acc. -/
  | cleMsb (f : BitVec 26)
  /-- R403: mulv sets acc to vA × vB. -/
  | cleMulv (f : BitVec 26)
  /-- R403: macv adds vA × vB to acc. -/
  | cleMacv (f : BitVec 26)
  /-- R403: msbv subtracts vA × vB from acc. -/
  | cleMsbv (f : BitVec 26)
  /-- R403: ext rounds acc into vD. -/
  | cleExt (f : BitVec 26)
  /-- R403: ldacc loads vA into acc exactly. -/
  | cleLdacc (f : BitVec 26)
  /-- R403: ldk loads a coefficient into vD. -/
  | cleLdk (f : BitVec 26)
  /-- R407: in reads an input port into vD. -/
  | cleIn (f : BitVec 26)
  /-- R408: out holds a value pending for an output port until publication. -/
  | cleOut (f : BitVec 26)
  /-- R403: lds reads a state word, or its pending value. -/
  | cleLds (f : BitVec 26)
  /-- R408: sts holds a state word write pending until publication. -/
  | cleSts (f : BitVec 26)
  /-- R411: bq computes one transposed direct form II biquad stage. -/
  | cleBq (f : BitVec 26)
  /-- R403: sincos writes the cosine and sine of πθ. -/
  | cleSincos (f : BitVec 26)
  /-- R403: atan2 writes atan2(vA, vB)/π. -/
  | cleAtan2 (f : BitVec 26)
  /-- R403: clarke writes the alpha and beta components. -/
  | cleClarke (f : BitVec 26)
  /-- R403: park rotates into the d and q frame. -/
  | clePark (f : BitVec 26)
  /-- R403: ipark rotates back from the d and q frame. -/
  | cleIpark (f : BitVec 26)
  /-- R412: svm writes three phase duties. -/
  | cleSvm (f : BitVec 26)
  /-- R417: inj adds the Echo test signal to vA in the target slot. -/
  | cleInj (f : BitVec 26)
  /-- R419: cap records vA and vB as an Echo entry at publication. -/
  | cleCap (f : BitVec 26)
  /-- R400: A REQ bit requests an exchange at the slot's next boundary release. -/
  | cleSwapReq (mask : BitVec 16)
  /-- R400: A CMT bit requests an exchange at the next change of FLW_ACT. -/
  | cleSwapCmt (mask : BitVec 16)
  /-- R413: A window write of a state word takes effect at once or after the running run's publication. -/
  | cleStateWrite (slot word : BitVec 4) (v : W32)
  /-- R418: GO triggers Echo, or is ignored and counted while busy. -/
  | echoGo
  /-- R420: ABORT ends Echo and sets DONE. -/
  | echoAbort
  /-- R422: A group's period ends and the reload takes the pairs, computing bounded high times. -/
  | pwmReload (group : BitVec 4)
  /-- R429: The CENTRE event of a group falls TRG_OFS after the period midpoint and triggers converters. -/
  | pwmCentre (group : BitVec 4)
  /-- R425: A 64-bit write of a duty and period pair is ordered against the reload, late writes counted. -/
  | pwmDpWrite (output : BitVec 6) (duty : W32) (period : W32)
  /-- R426: Clearing HOLD lets the next reload take every pair of the group together. -/
  | pwmHoldClear (group : BitVec 4)
  /-- R428: Setting EN starts the group at its next reload. -/
  | pwmEnable (group : BitVec 4)
  /-- R428: Clearing EN drives every output of the group low within 20 ns. -/
  | pwmDisable (group : BitVec 4)
  /-- R431: The first bit of a frame leaves after the light pass and the least blanking. -/
  | lanternDataStart (port : BitVec 2) (first lack : BitVec 14)
  /-- R431: A frame's last bit ends, blanking begins and a pending pair is taken. -/
  | lanternBlankStart (port : BitVec 2)
  /-- R435: A 64-bit write of LTN_FB_n commits a base and length pair for a later frame. -/
  | ltnFbCommit (port : BitVec 2) (base : BitVec 20) (npixm1 : BitVec 11)
  /-- R437: Setting EN puts the port into blanking, or refuses a bad lane rate. -/
  | ltnEnable (port : BitVec 2)
  /-- R437: Clearing EN stops the port at the next BLANK_START and leaves its balls high-impedance. -/
  | ltnDisable (port : BitVec 2)
  /-- R444: RSWT gives a software trigger to the regular sequence. -/
  | adcRswt (adc : BitVec 1)
  /-- R444: ISWT gives a software trigger to the injected sequence. -/
  | adcIswt (adc : BitVec 1)
  /-- R441: A conversion begins sampling at the first converter edge at least 20 ns after its trigger. -/
  | adcSamplingStart (adc : BitVec 1)
  /-- R440: The approximation ends, the result is published and the next conversion or sequence begins; uv is
  the voltage of the ball, sensor output or supply at the sample instant in microvolts. -/
  | adcConversionEnd (adc : BitVec 1) (uv : BitVec 32)
  /-- R451: Setting EN starts readying the converter. -/
  | adcEnable (adc : BitVec 1)
  /-- R451: The converter becomes ready within 10 µs of EN and READY sets. -/
  | adcReady (adc : BitVec 1)
  /-- R451: Clearing EN abandons any sequence and clears RPEND. -/
  | adcDisable (adc : BitVec 1)
  /-- R455: A fast comparator input crosses its threshold and the comparator trips; uv is the input in microvolts. -/
  | comparatorTrip (cmp : BitVec 4) (uv : BitVec 32)
  /-- R455: A comparator input returns past its hysteresis and leaves the tripped state; uv is the input in
  microvolts. -/
  | comparatorRelease (cmp : BitVec 4) (uv : BitVec 32)
  /-- R479: A GTE_REL bit requests the release of a group, ignored with REL_REF if not releasable. -/
  | gteRelWrite (mask : BitVec 16)
  /-- R459: CARTc_nPRS high for 10 µs makes the cartridge MISSING and discards ACC. -/
  | cartPresenceLoss (cart : BitVec 2)
  /-- R459: CARTc_nPRS held low for 50 ms starts a probe. -/
  | cartPresenceSettled (cart : BitVec 2)
  /-- R463: The probe reads the ID block, checks the response, chooses a life slot and sets the state. -/
  | cartProbe (cart : BitVec 2) (element : CartElement)
  /-- R464: Every REAUTH minutes a VALID cartridge repeats the challenge and response. -/
  | cartReauth (cart : BitVec 2) (element : CartElement)
  /-- R465: Every second a VALID cartridge's weight is added to ACC. -/
  | cartSample (cart : BitVec 2) (tj : Option (BitVec 16)) (fails : BitVec 3)
  /-- R471: REPROBE commits ACC if VALID and then probes. -/
  | cartReprobe (cart : BitVec 2) (fails : BitVec 3)
  /-- R471: A write of EN starts the cartridge engine or, on clearing, commits ACC and sets OFF. -/
  | cartEnable (cart : BitVec 2) (on : Bool) (fails : BitVec 3)
  /-- R458: GO queues a firmware two-wire transaction, refused with DENY at 0x5A on TW0 to TW3. -/
  | twGo (ctl : BitVec 3)
  /-- R457: A two-wire transaction ends with its STOP, setting DONE, NACK or TMO. -/
  | twTransactionDone (ctl : BitVec 3) (nack tmo : Bool) (nbytes : BitVec 5) (bytes : List Byte)
  /-- R489: A write of SMP_ACK acknowledges classes and clears their nERR holds. -/
  | smpAck (mask : BitVec 8)
  /-- R487: Setting SMP_CTL.LOCK makes the source options read-only until chip reset. -/
  | smpLock
  /-- R496: The log writer takes a FIFO entry and commits one record in five writes. -/
  | logRecordCommit (good : BitVec 3)
  /-- R499: LOG_CLR starts clearing every record header. -/
  | logClr
  /-- R499: The clear ends with the write position at record 0. -/
  | logClearDone
  /-- R505: A Guide write to the key store window stores staged fields or is refused. -/
  | keystoreWindowWrite (master : BitVec 3) (off : BitVec 16) (wide : Bool) (v : W64)
  /-- R507: A write of a greater value raises a rollback floor as a key-store write. -/
  | rollbackRaise (profile : Bool) (v : W32)
  /-- R506: A key-store write ends and KEYWR clears; bad: the bank of an install has read back wrong twice. -/
  | keystoreWriteDone (bad : Bool)
  /-- R510: INSTALL checks the staged licence and installs or rotates a fleet key through its marker word. -/
  | secInstall (slot : BitVec 2)
  /-- R509: RETIRE sets a fleet slot EMPTY. -/
  | secRetire (slot : BitVec 2)
  /-- R510: ROOT installs the staged key bytes as ROOT. -/
  | secRoot
  /-- R513: The crypto engine hashes the buffer with SHA-256. -/
  | ceSha256 (ksel : BitVec 4)
  /-- R513: The crypto engine computes HMAC-SHA-256 with the selected key. -/
  | ceHmac (ksel : BitVec 4)
  /-- R513: The crypto engine encrypts the buffer with AES-256-GCM. -/
  | ceGcmEncrypt (ksel : BitVec 4)
  /-- R513: The crypto engine decrypts and checks the buffer with AES-256-GCM. -/
  | ceGcmDecrypt (ksel : BitVec 4)
  /-- R513: The crypto engine verifies an ECDSA P-256 signature. -/
  | ceEcdsaVerify (ksel : BitVec 4)
  /-- R513: The crypto engine fills the buffer from the random source. -/
  | ceRandomFill (ksel : BitVec 4)
  /-- R513: A crypto engine operation ends, writing RESULT and clearing BUSY. -/
  | ceOperationDone
  /-- R514: An entropy health test fails, the source sets RNG_FAIL and restarts. -/
  | rngTestFailure
  /-- R514: The 1 ms start-up test of the random source ends and output resumes. -/
  | rngStartupDone
  /-- R515: A tamper ball holds its active level for DEB µs and violates, taking its alarm action; level is
  the ball's, held for that many µs. -/
  | tamperInput (ball : BitVec 2) (level : Bool) (held : BitVec 32)
  /-- R515: The mesh pattern returns wrong and the shield mesh violates. -/
  | shieldMeshFault
  /-- R516: Setting SEC_CTL.LOCK makes the alarm and tamper configuration read-only until chip reset. -/
  | secLock
  /-- R521: REOPEN clears DBG_DENY while the licence verdict is valid. -/
  | secReopen
  /-- R535: nTRST low or five TCK periods with TMS high reset the TAP and select IDCODE. -/
  | tapReset
  /-- R520: IDCODE shifts out 0x1489_6B47. -/
  | jtagIdcode
  /-- R520: BYPASS selects the 1-bit register. -/
  | jtagBypass
  /-- R537: EXTEST drives the balls from the boundary-scan cells, except guarded outputs. -/
  | jtagExtest (balls shift : BitVec 666)
  /-- R535: SAMPLE/PRELOAD captures and preloads the boundary-scan cells. -/
  | jtagSamplePreload (balls shift : BitVec 666)
  /-- R537: HIGHZ places every unguarded output high-impedance. -/
  | jtagHighz
  /-- R537: CLAMP holds the outputs from the boundary-scan cells with bypass selected. -/
  | jtagClamp
  /-- R521: CHAL shifts out a fresh 128-bit nonce, or zeros within 1 s of a failure. -/
  | jtagChal
  /-- R521: RESP shifts in a public key and signature and starts verification. -/
  | jtagResp (pub sig : List Byte)
  /-- R521: Verification ends, unlocking debug or counting a failure that may violate. -/
  | debugVerifyDone
  /-- R539: HALT stops the Guide at its next instruction boundary. -/
  | dbgHalt
  /-- R539: RESUME lets the halted Guide run again. -/
  | dbgResume
  /-- R539: STEP executes one Guide instruction and halts again. -/
  | dbgStep
  /-- R540: DBGMEM with GO issues one access on the Guide's port. -/
  | dbgmemGo (dr : BitVec 100)
  /-- R115: The Guide meets an unlisted op6, fn10 or op4 (such as the erased halfword 0x0000), or a must-be-zero field that is not zero, and raises the ILLEGAL exception without effect. -/
  | gdeIllegalInstruction
  /-- R315: The last stop bit of a transmitted DMX frame ends; TX_BUSY clears and, for an RDM controller in ONCE mode, DE goes low within 2 µs and the port turns to receive the response. -/
  | dmxTxFrameEnd (port : BitVec 1)
  /-- R515: A tamper ball leaves its active level, TLEVEL clears, the VIOL bit may be cleared and the input re-arms so that a later entry violates again. -/
  | tamperInputRelease (ball : BitVec 2)
  deriving DecidableEq, Repr

end Sys2Proof
end

