-- ==== Sys2Proof/Config.lean ====
section
/-! DEFINITION. What the spec leaves open. A free value is an opaque constant without a body: a claim that
holds, holds whatever it is. Each is applied to the model's own counter (State.free) or to the operands. -/

namespace Sys2Proof.Config

/-- A value the spec leaves open, of w bits, the n-th the run has met (notes/assumptions/3.md). -/
opaque freeBits : (w : Nat) → Nat → BitVec w

/-- An order the arbiter of R39 takes where the spec lets either stand, the n-th the run has met:
true when the first named comes first (notes/assumptions/4.md). -/
opaque arbiterFirst : Nat → Bool

/-- The compensating filter of the A_TO_C bridge, whose taps the spec does not give (R269; notes/assumptions/101.md):
how many earlier values it takes, and the weight of the i-th of them in units of 2⁻³⁰, for n samples a pass. -/
opaque firLen : Nat
opaque firTap : (n i : Nat) → Int

/-- What a byte or a word of a memory reads as when nothing has been written since the memory was cleared:
zero, as R66 and R87 clear every memory to zero. -/
def clearedWord (w : Nat) : BitVec w := 0

end Sys2Proof.Config
end

