-- ==== Sys2Proof/Machine/Regs.lean ====
section
/-! DEFINITION. The register map: every memory-mapped register the chapters of spec/ list, with its
system address (R182 and the chapters' "Registers" sections), its width, its reset value and its
fields with their types (R4 to R8). Registers no field of which is listed do not exist. -/

namespace Sys2Proof.Machine

open Sys2Proof

/-- DTM_CYC_CTL: 32 bits of spec/02_cycles_deadlines_and_handshake_timing.md. -/
def rDTM_CYC_CTL : Nat := 0x40040C00
def DTM_CYC_CTL.FAM : Fld := ⟨3, 2, .rw⟩
def DTM_CYC_CTL.MISS_MUTE : Fld := ⟨1, 1, .rw⟩
def DTM_CYC_CTL.DL_APPLY : Fld := ⟨0, 0, .wo⟩
/-- DTM_CYC_STAT: 32 bits of spec/02_cycles_deadlines_and_handshake_timing.md. -/
def rDTM_CYC_STAT : Nat := 0x40040C04
def DTM_CYC_STAT.DL_CFG_ERR : Fld := ⟨1, 1, .w1c⟩
def DTM_CYC_STAT.DL_PENDING : Fld := ⟨0, 0, .ro⟩
/-- DTM_DL_FLW: 32 bits of spec/02_cycles_deadlines_and_handshake_timing.md. -/
def rDTM_DL_FLW : Nat := 0x40040C10
def DTM_DL_FLW.TICKS : Fld := ⟨15, 0, .rw⟩
/-- DTM_DL_PRE: 32 bits of spec/02_cycles_deadlines_and_handshake_timing.md. -/
def rDTM_DL_PRE : Nat := 0x40040C14
def DTM_DL_PRE.TICKS : Fld := ⟨15, 0, .rw⟩
/-- DTM_DL_MIX: 32 bits of spec/02_cycles_deadlines_and_handshake_timing.md. -/
def rDTM_DL_MIX : Nat := 0x40040C18
def DTM_DL_MIX.TICKS : Fld := ⟨15, 0, .rw⟩
/-- DTM_DL_POST: 32 bits of spec/02_cycles_deadlines_and_handshake_timing.md. -/
def rDTM_DL_POST : Nat := 0x40040C1C
def DTM_DL_POST.TICKS : Fld := ⟨15, 0, .rw⟩
/-- DTM_DL_FREE: 32 bits of spec/02_cycles_deadlines_and_handshake_timing.md. -/
def rDTM_DL_FREE : Nat := 0x40040C20
def DTM_DL_FREE.TICKS : Fld := ⟨15, 0, .rw⟩
/-- DTM_DL_BRG: 32 bits of spec/02_cycles_deadlines_and_handshake_timing.md. -/
def rDTM_DL_BRG : Nat := 0x40040C24
def DTM_DL_BRG.TICKS : Fld := ⟨15, 0, .rw⟩
/-- DTM_DL_LIT: 32 bits of spec/02_cycles_deadlines_and_handshake_timing.md. -/
def rDTM_DL_LIT : Nat := 0x40040C28
def DTM_DL_LIT.TICKS : Fld := ⟨15, 0, .rw⟩
/-- DTM_CHM_STAGE: 32 bits of spec/02_cycles_deadlines_and_handshake_timing.md. -/
def rDTM_CHM_STAGE : Nat := 0x40040C30
def DTM_CHM_STAGE.STAGE : Fld := ⟨31, 0, .rw⟩
/-- DTM_MISS_FLAG_LO: 32 bits of spec/02_cycles_deadlines_and_handshake_timing.md. -/
def rDTM_MISS_FLAG_LO : Nat := 0x40040C40
def DTM_MISS_FLAG_LO.MISS : Fld := ⟨31, 0, .w1c⟩
/-- DTM_MISS_FLAG_HI: 32 bits of spec/02_cycles_deadlines_and_handshake_timing.md. -/
def rDTM_MISS_FLAG_HI : Nat := 0x40040C44
def DTM_MISS_FLAG_HI.MISS : Fld := ⟨3, 0, .w1c⟩
/-- DTM_DL_SLACK_n: 32 bits of spec/02_cycles_deadlines_and_handshake_timing.md; n = 0 to 35. -/
def rDTM_DL_SLACK (n : Nat) : Nat := 0x40040D00 + 0x10 * n
def DTM_DL_SLACK.LAST_SLACK : Fld := ⟨17, 0, .ro⟩
/-- DTM_DL_MIN_n: 32 bits of spec/02_cycles_deadlines_and_handshake_timing.md; n = 0 to 35. -/
def rDTM_DL_MIN (n : Nat) : Nat := 0x40040D04 + 0x10 * n
def DTM_DL_MIN.MIN_CLR : Fld := ⟨31, 31, .wo⟩
def DTM_DL_MIN.MIN_SLACK : Fld := ⟨17, 0, .ro⟩
/-- DTM_DL_MISS_n: 64 bits of spec/02_cycles_deadlines_and_handshake_timing.md; n = 0 to 35. -/
def rDTM_DL_MISS (n : Nat) : Nat := 0x40040D08 + 0x10 * n
def DTM_DL_MISS.OVF : Fld := ⟨40, 40, .w1c⟩
def DTM_DL_MISS.CNT : Fld := ⟨39, 0, .rw⟩
/-- PWR_UPTIME: 64 bits of spec/03_power_rails_domains_and_water_table.md. -/
def rPWR_UPTIME : Nat := 0x40010000
def PWR_UPTIME.US : Fld := ⟨63, 0, .ro⟩
/-- PWR_STAT: 32 bits of spec/03_power_rails_domains_and_water_table.md. -/
def rPWR_STAT : Nat := 0x40010008
def PWR_STAT.VSEL : Fld := ⟨4, 0, .ro⟩
/-- PWR_WAKE_LEAD: 32 bits of spec/03_power_rails_domains_and_water_table.md. -/
def rPWR_WAKE_LEAD : Nat := 0x40010010
def PWR_WAKE_LEAD.TICKS : Fld := ⟨11, 0, .rw⟩
/-- PWR_MIN_OFF: 32 bits of spec/03_power_rails_domains_and_water_table.md. -/
def rPWR_MIN_OFF : Nat := 0x40010014
def PWR_MIN_OFF.TICKS : Fld := ⟨11, 0, .rw⟩
/-- PWR_WAKE_LATE_CNT: 32 bits of spec/03_power_rails_domains_and_water_table.md. -/
def rPWR_WAKE_LATE_CNT : Nat := 0x40010018
def PWR_WAKE_LATE_CNT.CNT : Fld := ⟨15, 0, .rc⟩
/-- PWR_DOM_CTL_n: 32 bits of spec/03_power_rails_domains_and_water_table.md; n = 0 to 135. -/
def rPWR_DOM_CTL (n : Nat) : Nat := 0x40010100 + 0x4 * n
def PWR_DOM_CTL.HOLD : Fld := ⟨2, 2, .rw⟩
def PWR_DOM_CTL.MODE : Fld := ⟨1, 0, .rw⟩
/-- PWR_DOM_STAT_n: 32 bits of spec/03_power_rails_domains_and_water_table.md; n = 0 to 135. -/
def rPWR_DOM_STAT (n : Nat) : Nat := 0x40010400 + 0x4 * n
def PWR_DOM_STAT.WAKE_LATE : Fld := ⟨2, 2, .w1c⟩
def PWR_DOM_STAT.STATE : Fld := ⟨1, 0, .ro⟩
/-- WTB_CTL: 32 bits of spec/03_power_rails_domains_and_water_table.md. -/
def rWTB_CTL : Nat := 0x40020000
def WTB_CTL.AVS_RAIL : Fld := ⟨11, 8, .rw⟩
def WTB_CTL.AVS_DIV : Fld := ⟨7, 4, .rw⟩
def WTB_CTL.IFACE : Fld := ⟨2, 2, .rw⟩
def WTB_CTL.MODE : Fld := ⟨1, 0, .rw⟩
/-- WTB_FLOOR: 32 bits of spec/03_power_rails_domains_and_water_table.md. -/
def rWTB_FLOOR : Nat := 0x40020004
def WTB_FLOOR.CODE : Fld := ⟨7, 0, .rw⟩
/-- WTB_CEIL: 32 bits of spec/03_power_rails_domains_and_water_table.md. -/
def rWTB_CEIL : Nat := 0x40020008
def WTB_CEIL.CODE : Fld := ⟨7, 0, .rw⟩
/-- WTB_TARGET: 32 bits of spec/03_power_rails_domains_and_water_table.md. -/
def rWTB_TARGET : Nat := 0x4002000C
def WTB_TARGET.CODE : Fld := ⟨7, 0, .rw⟩
/-- WTB_CUR: 32 bits of spec/03_power_rails_domains_and_water_table.md. -/
def rWTB_CUR : Nat := 0x40020010
def WTB_CUR.VALID : Fld := ⟨8, 8, .ro⟩
def WTB_CUR.CODE : Fld := ⟨7, 0, .ro⟩
/-- WTB_LOOP: 32 bits of spec/03_power_rails_domains_and_water_table.md. -/
def rWTB_LOOP : Nat := 0x40020014
def WTB_LOOP.STEP_MISS : Fld := ⟨19, 16, .rw⟩
def WTB_LOOP.EVAL : Fld := ⟨7, 0, .rw⟩
/-- WTB_SLACK: 32 bits of spec/03_power_rails_domains_and_water_table.md. -/
def rWTB_SLACK : Nat := 0x40020018
def WTB_SLACK.SLK_BAND : Fld := ⟨31, 16, .rw⟩
def WTB_SLACK.SLK_TGT : Fld := ⟨15, 0, .rw⟩
/-- WTB_SETTLE: 32 bits of spec/03_power_rails_domains_and_water_table.md. -/
def rWTB_SETTLE : Nat := 0x4002001C
def WTB_SETTLE.US : Fld := ⟨9, 0, .rw⟩
/-- WTB_VID_BASE: 32 bits of spec/03_power_rails_domains_and_water_table.md. -/
def rWTB_VID_BASE : Nat := 0x40020020
def WTB_VID_BASE.CODE : Fld := ⟨7, 0, .rw⟩
/-- WTB_MON_MASK_LO: 32 bits of spec/03_power_rails_domains_and_water_table.md. -/
def rWTB_MON_MASK_LO : Nat := 0x40020024
def WTB_MON_MASK_LO.EN : Fld := ⟨31, 0, .rw⟩
/-- WTB_MON_MASK_HI: 32 bits of spec/03_power_rails_domains_and_water_table.md. -/
def rWTB_MON_MASK_HI : Nat := 0x40020028
def WTB_MON_MASK_HI.EN : Fld := ⟨3, 0, .rw⟩
/-- WTB_STAT: 32 bits of spec/03_power_rails_domains_and_water_table.md. -/
def rWTB_STAT : Nat := 0x4002002C
def WTB_STAT.CEIL_HIT_CNT : Fld := ⟨19, 4, .rc⟩
def WTB_STAT.AVS_ERR : Fld := ⟨3, 3, .w1c⟩
def WTB_STAT.BOUND_ERR : Fld := ⟨2, 2, .w1c⟩
def WTB_STAT.AT_FLOOR : Fld := ⟨1, 1, .ro⟩
def WTB_STAT.AT_CEIL : Fld := ⟨0, 0, .ro⟩
/-- RST_ID: 32 bits of spec/04_reset_boot_and_image_loading.md. -/
def rRST_ID : Nat := 0x40000000
def RST_ID.PART : Fld := ⟨31, 16, .ro⟩
def RST_ID.STEP : Fld := ⟨15, 8, .ro⟩
/-- RST_CAUSE: 32 bits of spec/04_reset_boot_and_image_loading.md. -/
def rRST_CAUSE : Nat := 0x40000004
def RST_CAUSE.SRC : Fld := ⟨15, 8, .ro⟩
def RST_CAUSE.CAUSE : Fld := ⟨2, 0, .ro⟩
/-- RST_CTL: 32 bits of spec/04_reset_boot_and_image_loading.md. -/
def rRST_CTL : Nat := 0x40000008
def RST_CTL.KEY : Fld := ⟨31, 16, .wo⟩
def RST_CTL.CHIP : Fld := ⟨0, 0, .wo⟩
/-- RST_BLK: 32 bits of spec/04_reset_boot_and_image_loading.md. -/
def rRST_BLK : Nat := 0x4000000C
def RST_BLK.KEY : Fld := ⟨31, 16, .wo⟩
def RST_BLK.BLOCK : Fld := ⟨5, 0, .wo⟩
/-- RST_BLK_STAT: 64 bits of spec/04_reset_boot_and_image_loading.md. -/
def rRST_BLK_STAT : Nat := 0x40000010
def RST_BLK_STAT.HELD : Fld := ⟨35, 0, .ro⟩
/-- RST_BOOT_STAT: 32 bits of spec/04_reset_boot_and_image_loading.md. -/
def rRST_BOOT_STAT : Nat := 0x40000018
def RST_BOOT_STAT.PFAIL_B : Fld := ⟨27, 24, .ro⟩
def RST_BOOT_STAT.PFAIL_A : Fld := ⟨23, 20, .ro⟩
def RST_BOOT_STAT.BOOTSEL : Fld := ⟨16, 16, .ro⟩
def RST_BOOT_STAT.FAIL_B : Fld := ⟨15, 12, .ro⟩
def RST_BOOT_STAT.FAIL_A : Fld := ⟨11, 8, .ro⟩
def RST_BOOT_STAT.DIR_BAD1 : Fld := ⟨7, 7, .ro⟩
def RST_BOOT_STAT.DIR_BAD0 : Fld := ⟨6, 6, .ro⟩
def RST_BOOT_STAT.MAINT : Fld := ⟨5, 5, .ro⟩
def RST_BOOT_STAT.PROF : Fld := ⟨4, 3, .ro⟩
def RST_BOOT_STAT.TRIAL : Fld := ⟨2, 2, .ro⟩
def RST_BOOT_STAT.SLOT : Fld := ⟨1, 0, .ro⟩
/-- RST_BOOT_VER: 32 bits of spec/04_reset_boot_and_image_loading.md. -/
def rRST_BOOT_VER : Nat := 0x4000001C
def RST_BOOT_VER.VERSION : Fld := ⟨31, 0, .ro⟩
/-- RST_TRIAL: 32 bits of spec/04_reset_boot_and_image_loading.md. -/
def rRST_TRIAL : Nat := 0x40000020
def RST_TRIAL.FAILED : Fld := ⟨1, 1, .w1c⟩
def RST_TRIAL.ARMED : Fld := ⟨0, 0, .w1c⟩
/-- RST_BOOT_TIME: 32 bits of spec/04_reset_boot_and_image_loading.md. -/
def rRST_BOOT_TIME : Nat := 0x40000024
def RST_BOOT_TIME.US : Fld := ⟨31, 0, .ro⟩
/-- GDE_STAT: 32 bits of spec/05_guide_core_and_roster.md. -/
def rGDE_STAT : Nat := 0x400E0000
def GDE_STAT.HALT : Fld := ⟨6, 6, .ro⟩
def GDE_STAT.NMI_PEND : Fld := ⟨5, 5, .ro⟩
def GDE_STAT.NMI_ACT : Fld := ⟨4, 4, .ro⟩
def GDE_STAT.BANK : Fld := ⟨3, 0, .ro⟩
/-- GDE_ROSTER_READY: 32 bits of spec/05_guide_core_and_roster.md. -/
def rGDE_ROSTER_READY : Nat := 0x400E0004
def GDE_ROSTER_READY.SLOT : Fld := ⟨5, 0, .wo⟩
/-- GDE_ROSTER_CANCEL: 32 bits of spec/05_guide_core_and_roster.md. -/
def rGDE_ROSTER_CANCEL : Nat := 0x400E0008
def GDE_ROSTER_CANCEL.SLOT : Fld := ⟨5, 0, .wo⟩
/-- GDE_ROSTER_CUR: 32 bits of spec/05_guide_core_and_roster.md. -/
def rGDE_ROSTER_CUR : Nat := 0x400E000C
def GDE_ROSTER_CUR.BG : Fld := ⟨15, 15, .ro⟩
def GDE_ROSTER_CUR.PRIO : Fld := ⟨10, 8, .ro⟩
def GDE_ROSTER_CUR.SLOT : Fld := ⟨5, 0, .ro⟩
/-- GDE_ROSTER_PEND_LO: 32 bits of spec/05_guide_core_and_roster.md. -/
def rGDE_ROSTER_PEND_LO : Nat := 0x400E0010
def GDE_ROSTER_PEND_LO.PEND : Fld := ⟨31, 0, .ro⟩
/-- GDE_ROSTER_PEND_HI: 32 bits of spec/05_guide_core_and_roster.md. -/
def rGDE_ROSTER_PEND_HI : Nat := 0x400E0014
def GDE_ROSTER_PEND_HI.PEND : Fld := ⟨31, 0, .ro⟩
/-- GDE_ROSTER_ACT_LO: 32 bits of spec/05_guide_core_and_roster.md. -/
def rGDE_ROSTER_ACT_LO : Nat := 0x400E0018
def GDE_ROSTER_ACT_LO.ACT : Fld := ⟨31, 0, .ro⟩
/-- GDE_ROSTER_ACT_HI: 32 bits of spec/05_guide_core_and_roster.md. -/
def rGDE_ROSTER_ACT_HI : Nat := 0x400E001C
def GDE_ROSTER_ACT_HI.ACT : Fld := ⟨31, 0, .ro⟩
/-- GDE_ROSTER_RACE: 64 bits of spec/05_guide_core_and_roster.md. -/
def rGDE_ROSTER_RACE : Nat := 0x400E0020
def GDE_ROSTER_RACE.OVF : Fld := ⟨40, 40, .w1c⟩
def GDE_ROSTER_RACE.CNT : Fld := ⟨39, 0, .rw⟩
/-- GDE_ROSTER_MERGE: 64 bits of spec/05_guide_core_and_roster.md. -/
def rGDE_ROSTER_MERGE : Nat := 0x400E0028
def GDE_ROSTER_MERGE.OVF : Fld := ⟨40, 40, .w1c⟩
def GDE_ROSTER_MERGE.CNT : Fld := ⟨39, 0, .rw⟩
/-- GDE_PERR: 32 bits of spec/05_guide_core_and_roster.md. -/
def rGDE_PERR : Nat := 0x400E0030
def GDE_PERR.ADDR : Fld := ⟨31, 0, .ro⟩
/-- GDE_PERR_CNT: 32 bits of spec/05_guide_core_and_roster.md. -/
def rGDE_PERR_CNT : Nat := 0x400E0034
def GDE_PERR_CNT.CNT : Fld := ⟨15, 0, .rc⟩
/-- GDE_TASK_CFG_n: 32 bits of spec/05_guide_core_and_roster.md; n = 0 to 63. -/
def rGDE_TASK_CFG (n : Nat) : Nat := 0x400E0100 + 0x10 * n
def GDE_TASK_CFG.EN : Fld := ⟨31, 31, .rw⟩
def GDE_TASK_CFG.SRC : Fld := ⟨20, 16, .rw⟩
def GDE_TASK_CFG.PRIO : Fld := ⟨2, 0, .rw⟩
/-- GDE_TASK_ENTRY_n: 32 bits of spec/05_guide_core_and_roster.md; n = 0 to 63. -/
def rGDE_TASK_ENTRY (n : Nat) : Nat := 0x400E0104 + 0x10 * n
def GDE_TASK_ENTRY.ADDR : Fld := ⟨31, 1, .rw⟩
/-- GDE_TASK_ARG_n: 32 bits of spec/05_guide_core_and_roster.md; n = 0 to 63. -/
def rGDE_TASK_ARG (n : Nat) : Nat := 0x400E0108 + 0x10 * n
def GDE_TASK_ARG.ARG : Fld := ⟨31, 0, .rw⟩
/-- TIM_CTL_n: 32 bits of spec/05_guide_core_and_roster.md; n = 0 to 7. -/
def rTIM_CTL (n : Nat) : Nat := 0x400F0000 + 0x20 * n
def TIM_CTL.CHMEV : Fld := ⟨31, 16, .rw⟩
def TIM_CTL.PRESC : Fld := ⟨15, 8, .rw⟩
def TIM_CTL.TSEL : Fld := ⟨7, 4, .rw⟩
def TIM_CTL.TICK : Fld := ⟨3, 2, .rw⟩
def TIM_CTL.MODE : Fld := ⟨1, 0, .rw⟩
/-- TIM_CNT_n: 32 bits of spec/05_guide_core_and_roster.md; n = 0 to 7. -/
def rTIM_CNT (n : Nat) : Nat := 0x400F0004 + 0x20 * n
def TIM_CNT.CNT : Fld := ⟨31, 0, .rw⟩
/-- TIM_PERIOD_n: 32 bits of spec/05_guide_core_and_roster.md; n = 0 to 7. -/
def rTIM_PERIOD (n : Nat) : Nat := 0x400F0008 + 0x20 * n
def TIM_PERIOD.PERIOD : Fld := ⟨31, 0, .rw⟩
/-- TIM_CAP_n: 32 bits of spec/05_guide_core_and_roster.md; n = 0 to 7. -/
def rTIM_CAP (n : Nat) : Nat := 0x400F000C + 0x20 * n
def TIM_CAP.CAP : Fld := ⟨31, 0, .ro⟩
/-- TIM_STAT_n: 32 bits of spec/05_guide_core_and_roster.md; n = 0 to 7. -/
def rTIM_STAT (n : Nat) : Nat := 0x400F0010 + 0x20 * n
def TIM_STAT.CAP_OVR : Fld := ⟨3, 3, .w1c⟩
def TIM_STAT.CAPF : Fld := ⟨2, 2, .w1c⟩
def TIM_STAT.OVF : Fld := ⟨1, 1, .w1c⟩
def TIM_STAT.EXP : Fld := ⟨0, 0, .w1c⟩
/-- TIM_DEB_n: 32 bits of spec/05_guide_core_and_roster.md; n = 0 to 7. -/
def rTIM_DEB (n : Nat) : Nat := 0x400F0014 + 0x20 * n
def TIM_DEB.EDGE : Fld := ⟨17, 16, .rw⟩
def TIM_DEB.TICKS : Fld := ⟨15, 0, .rw⟩
/-- MEM_CTL: 32 bits of spec/06_cavern_memory_host_window_and_siphon.md. -/
def rMEM_CTL : Nat := 0x400A0000
def MEM_CTL.SCRUB_EN : Fld := ⟨0, 0, .rw⟩
/-- MEM_SCRUB: 32 bits of spec/06_cavern_memory_host_window_and_siphon.md. -/
def rMEM_SCRUB : Nat := 0x400A0004
def MEM_SCRUB.SCRUB_US : Fld := ⟨15, 0, .rw⟩
/-- MEM_SCRUB_POS: 32 bits of spec/06_cavern_memory_host_window_and_siphon.md. -/
def rMEM_SCRUB_POS : Nat := 0x400A0008
def MEM_SCRUB_POS.WORD : Fld := ⟨19, 0, .ro⟩
/-- MEM_STAT: 32 bits of spec/06_cavern_memory_host_window_and_siphon.md. -/
def rMEM_STAT : Nat := 0x400A000C
def MEM_STAT.UE : Fld := ⟨1, 1, .w1c⟩
def MEM_STAT.CE : Fld := ⟨0, 0, .w1c⟩
/-- MEM_CE_ADDR: 32 bits of spec/06_cavern_memory_host_window_and_siphon.md. -/
def rMEM_CE_ADDR : Nat := 0x400A0010
def MEM_CE_ADDR.WORD : Fld := ⟨19, 0, .ro⟩
/-- MEM_UE_ADDR: 32 bits of spec/06_cavern_memory_host_window_and_siphon.md. -/
def rMEM_UE_ADDR : Nat := 0x400A0014
def MEM_UE_ADDR.WORD : Fld := ⟨19, 0, .ro⟩
/-- MEM_CE_CNT: 64 bits of spec/06_cavern_memory_host_window_and_siphon.md. -/
def rMEM_CE_CNT : Nat := 0x400A0018
def MEM_CE_CNT.OVF : Fld := ⟨40, 40, .w1c⟩
def MEM_CE_CNT.CNT : Fld := ⟨39, 0, .rw⟩
/-- MEM_UE_CNT: 64 bits of spec/06_cavern_memory_host_window_and_siphon.md. -/
def rMEM_UE_CNT : Nat := 0x400A0020
def MEM_UE_CNT.OVF : Fld := ⟨40, 40, .w1c⟩
def MEM_UE_CNT.CNT : Fld := ⟨39, 0, .rw⟩
/-- HWN_CTL: 32 bits of spec/06_cavern_memory_host_window_and_siphon.md. -/
def rHWN_CTL : Nat := 0x400B0000
def HWN_CTL.DB_EN : Fld := ⟨0, 0, .rw⟩
/-- HWN_STAT: 32 bits of spec/06_cavern_memory_host_window_and_siphon.md. -/
def rHWN_STAT : Nat := 0x400B0004
def HWN_STAT.HMODE : Fld := ⟨16, 16, .ro⟩
def HWN_STAT.BADCMD : Fld := ⟨2, 2, .w1c⟩
def HWN_STAT.COLL_B : Fld := ⟨1, 1, .w1c⟩
def HWN_STAT.COLL_A : Fld := ⟨0, 0, .w1c⟩
/-- HWN_COLL_ADDR: 32 bits of spec/06_cavern_memory_host_window_and_siphon.md. -/
def rHWN_COLL_ADDR : Nat := 0x400B0008
def HWN_COLL_ADDR.WORD : Fld := ⟨11, 0, .ro⟩
/-- HWN_COLL_CNT: 32 bits of spec/06_cavern_memory_host_window_and_siphon.md. -/
def rHWN_COLL_CNT : Nat := 0x400B000C
def HWN_COLL_CNT.CNT : Fld := ⟨15, 0, .rc⟩
/-- HWN_DB_IN: 32 bits of spec/06_cavern_memory_host_window_and_siphon.md. -/
def rHWN_DB_IN : Nat := 0x400B0010
def HWN_DB_IN.DB : Fld := ⟨31, 0, .w1c⟩
/-- HWN_DB_OUT: 32 bits of spec/06_cavern_memory_host_window_and_siphon.md. -/
def rHWN_DB_OUT : Nat := 0x400B0014
def HWN_DB_OUT.DB : Fld := ⟨31, 0, .w1s⟩
/-- SPH_TRIG: 32 bits of spec/06_cavern_memory_host_window_and_siphon.md. -/
def rSPH_TRIG : Nat := 0x400C0000
def SPH_TRIG.CH : Fld := ⟨15, 0, .wo⟩
/-- SPH_CTL_n: 32 bits of spec/06_cavern_memory_host_window_and_siphon.md; n = 0 to 15. -/
def rSPH_CTL (n : Nat) : Nat := 0x400C0100 + 0x20 * n
def SPH_CTL.EN : Fld := ⟨31, 31, .rw⟩
def SPH_CTL.TRIG : Fld := ⟨4, 0, .rw⟩
/-- SPH_DESC_n: 32 bits of spec/06_cavern_memory_host_window_and_siphon.md; n = 0 to 15. -/
def rSPH_DESC (n : Nat) : Nat := 0x400C0104 + 0x20 * n
def SPH_DESC.ADDR : Fld := ⟨31, 6, .rw⟩
/-- SPH_CUR_n: 32 bits of spec/06_cavern_memory_host_window_and_siphon.md; n = 0 to 15. -/
def rSPH_CUR (n : Nat) : Nat := 0x400C0108 + 0x20 * n
def SPH_CUR.ADDR : Fld := ⟨31, 6, .ro⟩
/-- SPH_STAT_n: 32 bits of spec/06_cavern_memory_host_window_and_siphon.md; n = 0 to 15. -/
def rSPH_STAT (n : Nat) : Nat := 0x400C010C + 0x20 * n
def SPH_STAT.BUSY : Fld := ⟨7, 7, .ro⟩
def SPH_STAT.PEND : Fld := ⟨6, 6, .ro⟩
def SPH_STAT.DONE : Fld := ⟨5, 5, .w1c⟩
def SPH_STAT.BLK : Fld := ⟨4, 4, .w1c⟩
def SPH_STAT.ERR : Fld := ⟨3, 0, .ro⟩
/-- SPH_LEFT_n: 32 bits of spec/06_cavern_memory_host_window_and_siphon.md; n = 0 to 15. -/
def rSPH_LEFT (n : Nat) : Nat := 0x400C0110 + 0x20 * n
def SPH_LEFT.YLEFT : Fld := ⟨31, 16, .ro⟩
def SPH_LEFT.XLEFT : Fld := ⟨15, 0, .ro⟩
/-- SPH_TDROP_n: 32 bits of spec/06_cavern_memory_host_window_and_siphon.md; n = 0 to 15. -/
def rSPH_TDROP (n : Nat) : Nat := 0x400C0114 + 0x20 * n
def SPH_TDROP.CNT : Fld := ⟨15, 0, .rc⟩
/-- BMX_CTL: 32 bits of spec/07_bus_matrix_and_address_map.md. -/
def rBMX_CTL : Nat := 0x400D0000
def BMX_CTL.TMO_US : Fld := ⟨15, 0, .rw⟩
/-- BMX_ERR_ADDR: 32 bits of spec/07_bus_matrix_and_address_map.md. -/
def rBMX_ERR_ADDR : Nat := 0x400D0010
def BMX_ERR_ADDR.ADDR : Fld := ⟨31, 0, .ro⟩
/-- BMX_ERR_INFO: 32 bits of spec/07_bus_matrix_and_address_map.md. -/
def rBMX_ERR_INFO : Nat := 0x400D0014
def BMX_ERR_INFO.VALID : Fld := ⟨31, 31, .w1c⟩
def BMX_ERR_INFO.OVR : Fld := ⟨30, 30, .w1c⟩
def BMX_ERR_INFO.WR : Fld := ⟨24, 24, .ro⟩
def BMX_ERR_INFO.CODE : Fld := ⟨19, 16, .ro⟩
def BMX_ERR_INFO.ID : Fld := ⟨13, 8, .ro⟩
def BMX_ERR_INFO.MASTER : Fld := ⟨2, 0, .ro⟩
/-- BMX_ERR_CNT: 64 bits of spec/07_bus_matrix_and_address_map.md. -/
def rBMX_ERR_CNT : Nat := 0x400D0018
def BMX_ERR_CNT.OVF : Fld := ⟨40, 40, .w1c⟩
def BMX_ERR_CNT.CNT : Fld := ⟨39, 0, .rw⟩
/-- BMX_OUT_n: 32 bits of spec/07_bus_matrix_and_address_map.md; n = 0 to 5. -/
def rBMX_OUT (n : Nat) : Nat := 0x400D0100 + 0x10 * n
def BMX_OUT.PEAK_CLR : Fld := ⟨31, 31, .wo⟩
def BMX_OUT.PEAK : Fld := ⟨12, 8, .ro⟩
def BMX_OUT.OUT : Fld := ⟨4, 0, .ro⟩
/-- BMX_QSTALL_n: 32 bits of spec/07_bus_matrix_and_address_map.md; n = 0 to 5. -/
def rBMX_QSTALL (n : Nat) : Nat := 0x400D0104 + 0x10 * n
def BMX_QSTALL.CNT : Fld := ⟨15, 0, .rc⟩
/-- CHM_ENTRY_n: 32 bits of spec/08_chamber_datapath_and_number_formats.md; n = 0 to 15. -/
def rCHM_ENTRY (n : Nat) : Nat := 0x40180000 + 0x100 * n
def CHM_ENTRY.BUNDLE : Fld := ⟨12, 0, .rw⟩
/-- CHM_RND_DEF_n: 32 bits of spec/08_chamber_datapath_and_number_formats.md; n = 0 to 15. -/
def rCHM_RND_DEF (n : Nat) : Nat := 0x40180004 + 0x100 * n
def CHM_RND_DEF.RND : Fld := ⟨7, 0, .rw⟩
/-- CHM_FLAGS_n: 32 bits of spec/08_chamber_datapath_and_number_formats.md; n = 0 to 15. -/
def rCHM_FLAGS (n : Nat) : Nat := 0x40180008 + 0x100 * n
def CHM_FLAGS.AFLT : Fld := ⟨4, 4, .w1c⟩
def CHM_FLAGS.GERR : Fld := ⟨3, 3, .w1c⟩
def CHM_FLAGS.AOV : Fld := ⟨2, 2, .w1c⟩
def CHM_FLAGS.WRAP : Fld := ⟨1, 1, .w1c⟩
def CHM_FLAGS.SAT : Fld := ⟨0, 0, .w1c⟩
/-- CHM_GERR_ADDR_n: 32 bits of spec/08_chamber_datapath_and_number_formats.md; n = 0 to 15. -/
def rCHM_GERR_ADDR (n : Nat) : Nat := 0x4018000C + 0x100 * n
def CHM_GERR_ADDR.PTR : Fld := ⟨23, 0, .ro⟩
/-- CHM_ECC_n: 32 bits of spec/08_chamber_datapath_and_number_formats.md; n = 0 to 15. -/
def rCHM_ECC (n : Nat) : Nat := 0x40180010 + 0x100 * n
def CHM_ECC.UE : Fld := ⟨31, 16, .rc⟩
def CHM_ECC.CE : Fld := ⟨15, 0, .rc⟩
/-- CHM_STALL_n: 32 bits of spec/08_chamber_datapath_and_number_formats.md; n = 0 to 15. -/
def rCHM_STALL (n : Nat) : Nat := 0x40180014 + 0x100 * n
def CHM_STALL.GWC : Fld := ⟨31, 16, .rc⟩
def CHM_STALL.XYC : Fld := ⟨15, 0, .rc⟩
/-- CHM_LDR_CTL_n: 32 bits of spec/08_chamber_datapath_and_number_formats.md; n = 0 to 15. -/
def rCHM_LDR_CTL (n : Nat) : Nat := 0x40180018 + 0x100 * n
def CHM_LDR_CTL.CNT_CLR : Fld := ⟨1, 1, .wo⟩
def CHM_LDR_CTL.CRC_CLR : Fld := ⟨0, 0, .wo⟩
/-- CHM_LDR_CRC_n: 32 bits of spec/08_chamber_datapath_and_number_formats.md; n = 0 to 15. -/
def rCHM_LDR_CRC (n : Nat) : Nat := 0x4018001C + 0x100 * n
def CHM_LDR_CRC.CRC : Fld := ⟨31, 0, .ro⟩
/-- CHM_LDR_CNT_n: 32 bits of spec/08_chamber_datapath_and_number_formats.md; n = 0 to 15. -/
def rCHM_LDR_CNT (n : Nat) : Nat := 0x40180020 + 0x100 * n
def CHM_LDR_CNT.CNT : Fld := ⟨15, 0, .ro⟩
/-- CHM_EXC_n: 32 bits of spec/09_chamber_instruction_set.md; n = 0 to 15. -/
def rCHM_EXC (n : Nat) : Nat := 0x40180024 + 0x100 * n
def CHM_EXC.ILL : Fld := ⟨31, 31, .w1c⟩
def CHM_EXC.CAUSE : Fld := ⟨18, 16, .ro⟩
def CHM_EXC.BUNDLE : Fld := ⟨12, 0, .ro⟩
/-- CHM_CC_n: 32 bits of spec/09_chamber_instruction_set.md; n = 0 to 15. -/
def rCHM_CC (n : Nat) : Nat := 0x40180028 + 0x100 * n
def CHM_CC.O : Fld := ⟨2, 2, .ro⟩
def CHM_CC.N : Fld := ⟨1, 1, .ro⟩
def CHM_CC.Z : Fld := ⟨0, 0, .ro⟩
/-- CHM_LOOP_STAT_n: 32 bits of spec/10_chamber_loops_pipelining_and_program_exchange.md; n = 0 to 15. -/
def rCHM_LOOP_STAT (n : Nat) : Nat := 0x40180040 + 0x100 * n
def CHM_LOOP_STAT.LFLT : Fld := ⟨31, 31, .w1c⟩
def CHM_LOOP_STAT.PMW : Fld := ⟨30, 30, .w1c⟩
def CHM_LOOP_STAT.LCAUSE : Fld := ⟨29, 27, .ro⟩
def CHM_LOOP_STAT.LBUNDLE : Fld := ⟨25, 13, .ro⟩
def CHM_LOOP_STAT.DEPTH : Fld := ⟨12, 10, .ro⟩
def CHM_LOOP_STAT.RB : Fld := ⟨5, 0, .ro⟩
/-- CHM_XCH_n: 32 bits of spec/10_chamber_loops_pipelining_and_program_exchange.md; n = 0 to 15. -/
def rCHM_XCH (n : Nat) : Nat := 0x40180044 + 0x100 * n
def CHM_XCH.GEN : Fld := ⟨31, 16, .ro⟩
def CHM_XCH.ACT : Fld := ⟨0, 0, .ro⟩
/-- CHM_EVQ_n: 32 bits of spec/10_chamber_loops_pipelining_and_program_exchange.md; n = 0 to 15. -/
def rCHM_EVQ (n : Nat) : Nat := 0x40180048 + 0x100 * n
def CHM_EVQ.DROP : Fld := ⟨31, 16, .rc⟩
def CHM_EVQ.FLUSH : Fld := ⟨8, 8, .wo⟩
def CHM_EVQ.LEVEL : Fld := ⟨3, 0, .ro⟩
/-- CFL_CFG: 32 bits of spec/11_confluence_mixing_routing_and_rate_bridges.md. -/
def rCFL_CFG : Nat := 0x40100000
def CFL_CFG.RATE : Fld := ⟨1, 0, .ro⟩
/-- CFL_DEB: 32 bits of spec/11_confluence_mixing_routing_and_rate_bridges.md. -/
def rCFL_DEB : Nat := 0x40100004
def CFL_DEB.CYCLES : Fld := ⟨7, 0, .rw⟩
/-- CFL_STAT: 32 bits of spec/11_confluence_mixing_routing_and_rate_bridges.md. -/
def rCFL_STAT : Nat := 0x40100008
def CFL_STAT.RING_ERR : Fld := ⟨3, 3, .w1c⟩
def CFL_STAT.RING_SHORT : Fld := ⟨2, 2, .w1c⟩
def CFL_STAT.XP_LOST : Fld := ⟨1, 1, .w1c⟩
def CFL_STAT.SEL_ERR : Fld := ⟨0, 0, .w1c⟩
/-- CFL_RING_BASE: 32 bits of spec/11_confluence_mixing_routing_and_rate_bridges.md. -/
def rCFL_RING_BASE : Nat := 0x4010000C
def CFL_RING_BASE.WORD : Fld := ⟨19, 0, .rw⟩
/-- CFL_RING_LEN: 32 bits of spec/11_confluence_mixing_routing_and_rate_bridges.md. -/
def rCFL_RING_LEN : Nat := 0x40100010
def CFL_RING_LEN.WORD : Fld := ⟨19, 0, .rw⟩
/-- CFL_XP_ADDR: 32 bits of spec/11_confluence_mixing_routing_and_rate_bridges.md. -/
def rCFL_XP_ADDR : Nat := 0x40100014
def CFL_XP_ADDR.BUS : Fld := ⟨13, 8, .rw⟩
def CFL_XP_ADDR.INPUT : Fld := ⟨7, 0, .rw⟩
/-- CFL_XP_DATA: 32 bits of spec/11_confluence_mixing_routing_and_rate_bridges.md. -/
def rCFL_XP_DATA : Nat := 0x40100018
def CFL_XP_DATA.GAIN : Fld := ⟨31, 0, .rw⟩
/-- CFL_IN_i: 32 bits of spec/11_confluence_mixing_routing_and_rate_bridges.md; i = 0 to 255. -/
def rCFL_IN (i : Nat) : Nat := 0x40100400 + 0x4 * i
def CFL_IN.ACTIVE : Fld := ⟨31, 31, .ro⟩
def CFL_IN.MUTE : Fld := ⟨30, 30, .rw⟩
def CFL_IN.SRC : Fld := ⟨15, 0, .ro⟩
/-- CFL_BUS_b: 32 bits of spec/11_confluence_mixing_routing_and_rate_bridges.md; b = 0 to 63. -/
def rCFL_BUS (b : Nat) : Nat := 0x40100800 + 0x8 * b
def CFL_BUS.PLANE : Fld := ⟨25, 25, .ro⟩
def CFL_BUS.N : Fld := ⟨24, 16, .ro⟩
def CFL_BUS.SAT : Fld := ⟨15, 8, .rc⟩
def CFL_BUS.RND : Fld := ⟨4, 4, .ro⟩
def CFL_BUS.LAW : Fld := ⟨1, 0, .ro⟩
/-- CFL_BUS_SCALE_b: 32 bits of spec/11_confluence_mixing_routing_and_rate_bridges.md; b = 0 to 63. -/
def rCFL_BUS_SCALE (b : Nat) : Nat := 0x40100804 + 0x8 * b
def CFL_BUS_SCALE.SCALE : Fld := ⟨31, 0, .ro⟩
/-- CFL_CHM_IN_n: 32 bits of spec/11_confluence_mixing_routing_and_rate_bridges.md; n = 0 to 15. -/
def rCFL_CHM_IN (n : Nat) : Nat := 0x40100A00 + 0x8 * n
def CFL_CHM_IN.PLANE : Fld := ⟨31, 31, .ro⟩
def CFL_CHM_IN.CNT : Fld := ⟨20, 16, .ro⟩
def CFL_CHM_IN.BASE : Fld := ⟨13, 0, .ro⟩
/-- CFL_CHM_OUT_n: 32 bits of spec/11_confluence_mixing_routing_and_rate_bridges.md; n = 0 to 15. -/
def rCFL_CHM_OUT (n : Nat) : Nat := 0x40100A04 + 0x8 * n
def CFL_CHM_OUT.PLANE : Fld := ⟨31, 31, .ro⟩
def CFL_CHM_OUT.CNT : Fld := ⟨20, 16, .ro⟩
def CFL_CHM_OUT.BASE : Fld := ⟨13, 0, .ro⟩
/-- CFL_BRG_CFG_k: 32 bits of spec/11_confluence_mixing_routing_and_rate_bridges.md; k = 0 to 31. -/
def rCFL_BRG_CFG (k : Nat) : Nat := 0x40100C00 + 0x10 * k
def CFL_BRG_CFG.KIND : Fld := ⟨3, 0, .ro⟩
/-- CFL_BRG_SEL_k: 32 bits of spec/11_confluence_mixing_routing_and_rate_bridges.md; k = 0 to 31. -/
def rCFL_BRG_SEL (k : Nat) : Nat := 0x40100C04 + 0x10 * k
def CFL_BRG_SEL.DST : Fld := ⟨31, 16, .ro⟩
def CFL_BRG_SEL.SRC : Fld := ⟨15, 0, .ro⟩
/-- CFL_BRG_STAT_k: 32 bits of spec/11_confluence_mixing_routing_and_rate_bridges.md; k = 0 to 31. -/
def rCFL_BRG_STAT (k : Nat) : Nat := 0x40100C08 + 0x10 * k
def CFL_BRG_STAT.COLL : Fld := ⟨0, 0, .w1c⟩
/-- CFL_SAPOUT_j: 32 bits of spec/11_confluence_mixing_routing_and_rate_bridges.md; j = 0 to 127. -/
def rCFL_SAPOUT (j : Nat) : Nat := 0x40100E00 + 0x4 * j
def CFL_SAPOUT.SRC : Fld := ⟨15, 0, .ro⟩
/-- CFL_CIN_j: 32 bits of spec/11_confluence_mixing_routing_and_rate_bridges.md; j = 0 to 255. -/
def rCFL_CIN (j : Nat) : Nat := 0x40101000 + 0x4 * j
def CFL_CIN.SRC : Fld := ⟨15, 0, .ro⟩
/-- CFL_TALK_c: 32 bits of spec/11_confluence_mixing_routing_and_rate_bridges.md; c = 0 to 511. -/
def rCFL_TALK (c : Nat) : Nat := 0x40102000 + 0x4 * c
def CFL_TALK.GRANT : Fld := ⟨31, 31, .ro⟩
def CFL_TALK.SRC : Fld := ⟨15, 0, .ro⟩
/-- CFL_CS_w: 32 bits of spec/11_confluence_mixing_routing_and_rate_bridges.md; w = 0 to 255. -/
def rCFL_CS (w : Nat) : Nat := 0x40103000 + 0x4 * w
def CFL_CS.VALUE : Fld := ⟨31, 0, .rw⟩
/-- CFL_LS_w: 32 bits of spec/11_confluence_mixing_routing_and_rate_bridges.md; w = 0 to 4095. -/
def rCFL_LS (w : Nat) : Nat := 0x40108000 + 0x4 * w
def CFL_LS.VALUE : Fld := ⟨15, 0, .rw⟩
/-- FLW_STAT: 32 bits of spec/12_flowstone_scenes_and_safe_load.md. -/
def rFLW_STAT : Nat := 0x40110000
def FLW_STAT.CHM_HELD : Fld := ⟨7, 7, .w1c⟩
def FLW_STAT.MORPH_CUT : Fld := ⟨6, 6, .w1c⟩
def FLW_STAT.PLANE_CHG : Fld := ⟨5, 5, .w1c⟩
def FLW_STAT.TIME_DROP : Fld := ⟨4, 4, .w1c⟩
def FLW_STAT.ARM_FAIL : Fld := ⟨3, 3, .w1c⟩
def FLW_STAT.CMD_ERR : Fld := ⟨2, 2, .w1c⟩
def FLW_STAT.ARMING : Fld := ⟨1, 1, .ro⟩
def FLW_STAT.PENDING : Fld := ⟨0, 0, .ro⟩
/-- FLW_LAST: 64 bits of spec/12_flowstone_scenes_and_safe_load.md. -/
def rFLW_LAST : Nat := 0x40110008
def FLW_LAST.VALID : Fld := ⟨63, 63, .ro⟩
def FLW_LAST.REASON : Fld := ⟨55, 52, .ro⟩
def FLW_LAST.SLOT : Fld := ⟨51, 48, .ro⟩
def FLW_LAST.C : Fld := ⟨47, 0, .ro⟩
/-- FLW_BUSY_CNT: 32 bits of spec/12_flowstone_scenes_and_safe_load.md. -/
def rFLW_BUSY_CNT : Nat := 0x40110010
def FLW_BUSY_CNT.CNT : Fld := ⟨15, 0, .rc⟩
/-- FLW_ACT: 32 bits of spec/12_flowstone_scenes_and_safe_load.md. -/
def rFLW_ACT : Nat := 0x40110014
def FLW_ACT.VALID : Fld := ⟨8, 8, .ro⟩
def FLW_ACT.SLOT : Fld := ⟨3, 0, .ro⟩
/-- FLW_ACT_ID: 32 bits of spec/12_flowstone_scenes_and_safe_load.md. -/
def rFLW_ACT_ID : Nat := 0x40110018
def FLW_ACT_ID.SET_ID : Fld := ⟨31, 0, .ro⟩
/-- FLW_MORPH_BASE: 32 bits of spec/12_flowstone_scenes_and_safe_load.md. -/
def rFLW_MORPH_BASE : Nat := 0x4011001C
def FLW_MORPH_BASE.WORD : Fld := ⟨19, 0, .rw⟩
/-- FLW_CMD: 32 bits of spec/12_flowstone_scenes_and_safe_load.md. -/
def rFLW_CMD : Nat := 0x40110020
def FLW_CMD.OP : Fld := ⟨9, 8, .wo⟩
def FLW_CMD.SLOT : Fld := ⟨3, 0, .wo⟩
/-- FLW_CMT: 64 bits of spec/12_flowstone_scenes_and_safe_load.md. -/
def rFLW_CMT : Nat := 0x40110028
def FLW_CMT.GO : Fld := ⟨63, 63, .wo⟩
def FLW_CMT.CHAIN : Fld := ⟨62, 62, .wo⟩
def FLW_CMT.DEST : Fld := ⟨59, 52, .wo⟩
def FLW_CMT.SLOT : Fld := ⟨51, 48, .wo⟩
def FLW_CMT.C : Fld := ⟨47, 0, .wo⟩
/-- FLW_SLOT_BASE_s: 32 bits of spec/12_flowstone_scenes_and_safe_load.md; s = 0 to 15. -/
def rFLW_SLOT_BASE (s : Nat) : Nat := 0x40110100 + 0x8 * s
def FLW_SLOT_BASE.WORD : Fld := ⟨19, 0, .rw⟩
/-- FLW_SLOT_STAT_s: 32 bits of spec/12_flowstone_scenes_and_safe_load.md; s = 0 to 15. -/
def rFLW_SLOT_STAT (s : Nat) : Nat := 0x40110104 + 0x8 * s
def FLW_SLOT_STAT.INUSE : Fld := ⟨8, 8, .ro⟩
def FLW_SLOT_STAT.FAIL : Fld := ⟨7, 4, .ro⟩
def FLW_SLOT_STAT.STATE : Fld := ⟨1, 0, .ro⟩
/-- SAP_CTL_n: 32 bits of spec/13_serial_audio_ports.md; n = 0 to 7. -/
def rSAP_CTL (n : Nat) : Nat := 0x40120000 + 0x100 * n
def SAP_CTL.LEAD : Fld := ⟨28, 16, .rw⟩
def SAP_CTL.HIZ : Fld := ⟨5, 5, .rw⟩
def SAP_CTL.RND : Fld := ⟨4, 4, .rw⟩
def SAP_CTL.MASTER : Fld := ⟨3, 3, .rw⟩
def SAP_CTL.MODE : Fld := ⟨2, 1, .rw⟩
def SAP_CTL.EN : Fld := ⟨0, 0, .rw⟩
/-- SAP_FMT_n: 32 bits of spec/13_serial_audio_ports.md; n = 0 to 7. -/
def rSAP_FMT (n : Nat) : Nat := 0x40120004 + 0x100 * n
def SAP_FMT.BCK_INV : Fld := ⟨15, 15, .rw⟩
def SAP_FMT.FS_INV : Fld := ⟨14, 14, .rw⟩
def SAP_FMT.FSW : Fld := ⟨13, 13, .rw⟩
def SAP_FMT.DLY : Fld := ⟨12, 12, .rw⟩
def SAP_FMT.WLEN : Fld := ⟨11, 10, .rw⟩
def SAP_FMT.SLOTW : Fld := ⟨9, 8, .rw⟩
def SAP_FMT.SLOTS : Fld := ⟨7, 4, .rw⟩
def SAP_FMT.FMT : Fld := ⟨1, 0, .rw⟩
/-- SAP_CLK_n: 32 bits of spec/13_serial_audio_ports.md; n = 0 to 7. -/
def rSAP_CLK (n : Nat) : Nat := 0x40120008 + 0x100 * n
def SAP_CLK.DIV : Fld := ⟨15, 8, .rw⟩
def SAP_CLK.SRC : Fld := ⟨2, 0, .rw⟩
/-- SAP_SLOT_n: 32 bits of spec/13_serial_audio_ports.md; n = 0 to 7. -/
def rSAP_SLOT (n : Nat) : Nat := 0x4012000C + 0x100 * n
def SAP_SLOT.OUT_EN : Fld := ⟨31, 16, .rw⟩
def SAP_SLOT.IN_EN : Fld := ⟨15, 0, .rw⟩
/-- SAP_STAT_n: 32 bits of spec/13_serial_audio_ports.md; n = 0 to 7. -/
def rSAP_STAT (n : Nat) : Nat := 0x40120010 + 0x100 * n
def SAP_STAT.SAT : Fld := ⟨16, 16, .w1c⟩
def SAP_STAT.OUT_REP : Fld := ⟨15, 15, .w1c⟩
def SAP_STAT.OUT_DROP : Fld := ⟨14, 14, .w1c⟩
def SAP_STAT.IN_REP : Fld := ⟨13, 13, .w1c⟩
def SAP_STAT.IN_DROP : Fld := ⟨12, 12, .w1c⟩
def SAP_STAT.SYNC_LOST : Fld := ⟨11, 11, .w1c⟩
def SAP_STAT.CLK_LOSS : Fld := ⟨10, 10, .w1c⟩
def SAP_STAT.RATE_ERR : Fld := ⟨9, 9, .w1c⟩
def SAP_STAT.CFG_ERR : Fld := ⟨8, 8, .w1c⟩
def SAP_STAT.STATE : Fld := ⟨2, 0, .ro⟩
/-- SAP_FILL_n: 32 bits of spec/13_serial_audio_ports.md; n = 0 to 7. -/
def rSAP_FILL (n : Nat) : Nat := 0x40120014 + 0x100 * n
def SAP_FILL.OUT : Fld := ⟨13, 8, .ro⟩
def SAP_FILL.IN : Fld := ⟨5, 0, .ro⟩
/-- SAP_PHASE_n: 32 bits of spec/13_serial_audio_ports.md; n = 0 to 7. -/
def rSAP_PHASE (n : Nat) : Nat := 0x40120018 + 0x100 * n
def SAP_PHASE.PHASE : Fld := ⟨31, 0, .ro⟩
/-- SAP_SLIP_n: 64 bits of spec/13_serial_audio_ports.md; n = 0 to 7. -/
def rSAP_SLIP (n : Nat) : Nat := 0x40120020 + 0x100 * n
def SAP_SLIP.OVF : Fld := ⟨40, 40, .w1c⟩
def SAP_SLIP.CNT : Fld := ⟨39, 0, .rw⟩
/-- DMX_CTL_d: 32 bits of spec/13_serial_audio_ports.md; d = 0 to 1. -/
def rDMX_CTL (d : Nat) : Nat := 0x40170000 + 0x40 * d
def DMX_CTL.TX_LEN : Fld := ⟨25, 16, .rw⟩
def DMX_CTL.SWAP : Fld := ⟨9, 9, .wo⟩
def DMX_CTL.GO : Fld := ⟨8, 8, .wo⟩
def DMX_CTL.NOBRK : Fld := ⟨6, 6, .rw⟩
def DMX_CTL.RXLS : Fld := ⟨5, 5, .rw⟩
def DMX_CTL.SRC : Fld := ⟨4, 4, .rw⟩
def DMX_CTL.RDM : Fld := ⟨3, 2, .rw⟩
def DMX_CTL.MODE : Fld := ⟨1, 0, .rw⟩
/-- DMX_TTIM_d: 32 bits of spec/13_serial_audio_ports.md; d = 0 to 1. -/
def rDMX_TTIM (d : Nat) : Nat := 0x40170004 + 0x40 * d
def DMX_TTIM.MAB : Fld := ⟨25, 16, .rw⟩
def DMX_TTIM.BRK : Fld := ⟨9, 0, .rw⟩
/-- DMX_TPER_d: 32 bits of spec/13_serial_audio_ports.md; d = 0 to 1. -/
def rDMX_TPER (d : Nat) : Nat := 0x40170008 + 0x40 * d
def DMX_TPER.IST : Fld := ⟨23, 16, .rw⟩
def DMX_TPER.PER : Fld := ⟨15, 0, .rw⟩
/-- DMX_LS_d: 32 bits of spec/13_serial_audio_ports.md; d = 0 to 1. -/
def rDMX_LS (d : Nat) : Nat := 0x4017000C + 0x40 * d
def DMX_LS.RXBASE : Fld := ⟨27, 16, .rw⟩
def DMX_LS.TXBASE : Fld := ⟨11, 0, .rw⟩
/-- DMX_RTMO_d: 32 bits of spec/13_serial_audio_ports.md; d = 0 to 1. -/
def rDMX_RTMO (d : Nat) : Nat := 0x40170010 + 0x40 * d
def DMX_RTMO.RESP_TMO : Fld := ⟨15, 0, .rw⟩
/-- DMX_STAT_d: 32 bits of spec/13_serial_audio_ports.md; d = 0 to 1. -/
def rDMX_STAT (d : Nat) : Nat := 0x40170014 + 0x40 * d
def DMX_STAT.RX_SEQ : Fld := ⟨31, 16, .ro⟩
def DMX_STAT.RDM_LATE : Fld := ⟨15, 15, .w1c⟩
def DMX_STAT.RDM_TMO : Fld := ⟨14, 14, .w1c⟩
def DMX_STAT.FE : Fld := ⟨13, 13, .w1c⟩
def DMX_STAT.TX_BUSY : Fld := ⟨12, 12, .ro⟩
def DMX_STAT.RX_LEN : Fld := ⟨9, 0, .ro⟩
/-- DMX_TXD_d_w: 32 bits of spec/13_serial_audio_ports.md; d = 0 to 1, w = 0 to 128. -/
def rDMX_TXD (d : Nat) (w : Nat) : Nat := 0x40171000 + 0x400 * d + 0x4 * w
def DMX_TXD.BYTES : Fld := ⟨31, 0, .rw⟩
/-- DMX_RXD_d_w: 32 bits of spec/13_serial_audio_ports.md; d = 0 to 1, w = 0 to 128. -/
def rDMX_RXD (d : Nat) (w : Nat) : Nat := 0x40172000 + 0x400 * d + 0x4 * w
def DMX_RXD.BYTES : Fld := ⟨31, 0, .ro⟩
/-- GAL_CTL: 32 bits of spec/14_gallery_chain_link.md. -/
def rGAL_CTL : Nat := 0x40030000
def GAL_CTL.RESTORE : Fld := ⟨8, 8, .wo⟩
def GAL_CTL.TXSYN : Fld := ⟨7, 6, .rw⟩
def GAL_CTL.IDMODE : Fld := ⟨3, 3, .rw⟩
def GAL_CTL.RING : Fld := ⟨2, 2, .rw⟩
def GAL_CTL.HEAD : Fld := ⟨1, 1, .rw⟩
def GAL_CTL.EN : Fld := ⟨0, 0, .rw⟩
/-- GAL_ETYPE: 32 bits of spec/14_gallery_chain_link.md. -/
def rGAL_ETYPE : Nat := 0x40030004
def GAL_ETYPE.ETYPE : Fld := ⟨15, 0, .rw⟩
/-- GAL_MAC_HI: 32 bits of spec/14_gallery_chain_link.md. -/
def rGAL_MAC_HI : Nat := 0x40030008
def GAL_MAC_HI.MAC : Fld := ⟨31, 0, .rw⟩
/-- GAL_MAC_LO: 32 bits of spec/14_gallery_chain_link.md. -/
def rGAL_MAC_LO : Nat := 0x4003000C
def GAL_MAC_LO.MAC : Fld := ⟨31, 0, .rw⟩
/-- GAL_NODE: 32 bits of spec/14_gallery_chain_link.md. -/
def rGAL_NODE : Nat := 0x40030010
def GAL_NODE.STORED_ID : Fld := ⟨31, 24, .rw⟩
def GAL_NODE.ID : Fld := ⟨23, 16, .ro⟩
def GAL_NODE.POS : Fld := ⟨15, 8, .ro⟩
def GAL_NODE.ARM : Fld := ⟨7, 7, .ro⟩
def GAL_NODE.WRAP : Fld := ⟨6, 6, .ro⟩
def GAL_NODE.ROLE : Fld := ⟨5, 4, .ro⟩
/-- GAL_STAT: 32 bits of spec/14_gallery_chain_link.md. -/
def rGAL_STAT : Nat := 0x40030014
def GAL_STAT.FAM_ERR : Fld := ⟨9, 9, .w1c⟩
def GAL_STAT.RELAY_LATE : Fld := ⟨8, 8, .w1c⟩
def GAL_STAT.RELAY_SHORT : Fld := ⟨7, 7, .w1c⟩
def GAL_STAT.SET_REJ : Fld := ⟨6, 6, .w1c⟩
def GAL_STAT.P_CHG : Fld := ⟨5, 5, .w1c⟩
def GAL_STAT.DUP : Fld := ⟨4, 4, .w1c⟩
def GAL_STAT.LATE : Fld := ⟨3, 3, .w1c⟩
def GAL_STAT.TALK_CLASH : Fld := ⟨2, 2, .w1c⟩
def GAL_STAT.HEAD_CONFLICT : Fld := ⟨1, 1, .w1c⟩
def GAL_STAT.TXFULL : Fld := ⟨0, 0, .w1c⟩
/-- GAL_PORT_n: 32 bits of spec/14_gallery_chain_link.md; n = 0 to 1. -/
def rGAL_PORT (n : Nat) : Nat := 0x40030020 + 0x8 * n
def GAL_PORT.PRST_REL : Fld := ⟨4, 4, .rw⟩
def GAL_PORT.MGMT : Fld := ⟨3, 3, .rw⟩
def GAL_PORT.RXDLY : Fld := ⟨2, 2, .rw⟩
def GAL_PORT.TXDLY : Fld := ⟨1, 1, .rw⟩
/-- GAL_PORT_STAT_n: 32 bits of spec/14_gallery_chain_link.md; n = 0 to 1. -/
def rGAL_PORT_STAT (n : Nat) : Nat := 0x40030024 + 0x8 * n
def GAL_PORT_STAT.GLINK : Fld := ⟨7, 7, .ro⟩
def GAL_PORT_STAT.STANDBY : Fld := ⟨6, 6, .ro⟩
def GAL_PORT_STAT.SPEED : Fld := ⟨5, 4, .ro⟩
def GAL_PORT_STAT.FDX : Fld := ⟨3, 3, .ro⟩
def GAL_PORT_STAT.PHY_UP : Fld := ⟨2, 2, .ro⟩
/-- GAL_MDIO: 32 bits of spec/14_gallery_chain_link.md. -/
def rGAL_MDIO : Nat := 0x40030030
def GAL_MDIO.GO : Fld := ⟨31, 31, .wo⟩
def GAL_MDIO.WR : Fld := ⟨30, 30, .rw⟩
def GAL_MDIO.BUSY : Fld := ⟨29, 29, .ro⟩
def GAL_MDIO.PHYAD : Fld := ⟨25, 21, .rw⟩
def GAL_MDIO.REGAD : Fld := ⟨20, 16, .rw⟩
def GAL_MDIO.DATA : Fld := ⟨15, 0, .rw⟩
/-- GAL_CYC_CTL: 32 bits of spec/14_gallery_chain_link.md. -/
def rGAL_CYC_CTL : Nat := 0x40030040
def GAL_CYC_CTL.FAM : Fld := ⟨31, 30, .rw⟩
def GAL_CYC_CTL.LBLK : Fld := ⟨29, 27, .rw⟩
def GAL_CYC_CTL.N_L : Fld := ⟨26, 20, .rw⟩
def GAL_CYC_CTL.TRIM : Fld := ⟨19, 14, .rw⟩
def GAL_CYC_CTL.P_US : Fld := ⟨13, 0, .rw⟩
/-- GAL_CYC_STAT: 32 bits of spec/14_gallery_chain_link.md. -/
def rGAL_CYC_STAT : Nat := 0x40030044
def GAL_CYC_STAT.FAM : Fld := ⟨31, 30, .ro⟩
def GAL_CYC_STAT.LBLK : Fld := ⟨29, 27, .ro⟩
def GAL_CYC_STAT.N_L : Fld := ⟨26, 20, .ro⟩
def GAL_CYC_STAT.P_US : Fld := ⟨13, 0, .ro⟩
/-- GAL_LOSTCNT: 64 bits of spec/14_gallery_chain_link.md. -/
def rGAL_LOSTCNT : Nat := 0x40030048
def GAL_LOSTCNT.OVF : Fld := ⟨40, 40, .w1c⟩
def GAL_LOSTCNT.CNT : Fld := ⟨39, 0, .rw⟩
/-- GAL_CLASH_CNT: 32 bits of spec/14_gallery_chain_link.md. -/
def rGAL_CLASH_CNT : Nat := 0x40030050
def GAL_CLASH_CNT.CNT : Fld := ⟨15, 0, .rc⟩
/-- GAL_ETH_DROP: 32 bits of spec/14_gallery_chain_link.md. -/
def rGAL_ETH_DROP : Nat := 0x40030070
def GAL_ETH_DROP.CNT : Fld := ⟨15, 0, .rc⟩
/-- GAL_FCS_n: 32 bits of spec/14_gallery_chain_link.md; n = 0 to 1. -/
def rGAL_FCS (n : Nat) : Nat := 0x40030054 + 0x4 * n
def GAL_FCS.STOMP : Fld := ⟨31, 16, .rc⟩
def GAL_FCS.BAD : Fld := ⟨15, 0, .rc⟩
/-- GAL_LDLY_n: 32 bits of spec/14_gallery_chain_link.md; n = 0 to 1. -/
def rGAL_LDLY (n : Nat) : Nat := 0x4003005C + 0x4 * n
def GAL_LDLY.VALUE : Fld := ⟨31, 0, .ro⟩
/-- GAL_ASYM_n: 32 bits of spec/14_gallery_chain_link.md; n = 0 to 1. -/
def rGAL_ASYM (n : Nat) : Nat := 0x40030064 + 0x4 * n
def GAL_ASYM.VALUE : Fld := ⟨31, 0, .rw⟩
/-- GAL_WRAP: 32 bits of spec/14_gallery_chain_link.md. -/
def rGAL_WRAP : Nat := 0x4003006C
def GAL_WRAP.FAR_TURN : Fld := ⟨23, 16, .ro⟩
def GAL_WRAP.NEAR_TURN : Fld := ⟨15, 8, .ro⟩
def GAL_WRAP.RLAG : Fld := ⟨7, 0, .ro⟩
/-- GAL_TXMSG_w: 32 bits of spec/14_gallery_chain_link.md; w = 0 to 7. -/
def rGAL_TXMSG (w : Nat) : Nat := 0x40030100 + 0x4 * w
def GAL_TXMSG.BYTES : Fld := ⟨31, 0, .rw⟩
/-- GAL_RXMSG_w: 32 bits of spec/14_gallery_chain_link.md; w = 0 to 7. -/
def rGAL_RXMSG (w : Nat) : Nat := 0x40030140 + 0x4 * w
def GAL_RXMSG.BYTES : Fld := ⟨31, 0, .ro⟩
/-- GAL_TXMSG_CTL: 32 bits of spec/14_gallery_chain_link.md. -/
def rGAL_TXMSG_CTL : Nat := 0x40030120
def GAL_TXMSG_CTL.DROP : Fld := ⟨31, 16, .rc⟩
def GAL_TXMSG_CTL.GO : Fld := ⟨8, 8, .wo⟩
def GAL_TXMSG_CTL.LEVEL : Fld := ⟨4, 0, .ro⟩
/-- GAL_RXMSG_CTL: 32 bits of spec/14_gallery_chain_link.md. -/
def rGAL_RXMSG_CTL : Nat := 0x40030160
def GAL_RXMSG_CTL.DROP : Fld := ⟨31, 16, .rc⟩
def GAL_RXMSG_CTL.POP : Fld := ⟨8, 8, .wo⟩
def GAL_RXMSG_CTL.LEVEL : Fld := ⟨4, 0, .ro⟩
/-- GAL_SETTX: 32 bits of spec/14_gallery_chain_link.md. -/
def rGAL_SETTX : Nat := 0x40030170
def GAL_SETTX.GO : Fld := ⟨31, 31, .wo⟩
def GAL_SETTX.BUSY : Fld := ⟨30, 30, .ro⟩
def GAL_SETTX.DST_SLOT : Fld := ⟨19, 16, .rw⟩
def GAL_SETTX.DEST : Fld := ⟨15, 8, .rw⟩
def GAL_SETTX.SRC_SLOT : Fld := ⟨3, 0, .rw⟩
/-- GAL_ETH_RX: 32 bits of spec/14_gallery_chain_link.md. -/
def rGAL_ETH_RX : Nat := 0x40030180
def GAL_ETH_RX.LEN : Fld := ⟨31, 20, .rw⟩
def GAL_ETH_RX.BASE : Fld := ⟨19, 0, .rw⟩
/-- GAL_ETH_TX: 32 bits of spec/14_gallery_chain_link.md. -/
def rGAL_ETH_TX : Nat := 0x40030184
def GAL_ETH_TX.LEN : Fld := ⟨31, 20, .rw⟩
def GAL_ETH_TX.BASE : Fld := ⟨19, 0, .rw⟩
/-- GAL_ETH_CTL: 32 bits of spec/14_gallery_chain_link.md. -/
def rGAL_ETH_CTL : Nat := 0x40030188
def GAL_ETH_CTL.TXPOLL : Fld := ⟨2, 2, .wo⟩
def GAL_ETH_CTL.TXEN : Fld := ⟨1, 1, .rw⟩
def GAL_ETH_CTL.RXEN : Fld := ⟨0, 0, .rw⟩
/-- GAL_NSTAT_w: 32 bits of spec/14_gallery_chain_link.md; w = 0 to 63. -/
def rGAL_NSTAT (w : Nat) : Nat := 0x40030200 + 0x4 * w
def GAL_NSTAT.ENTRY : Fld := ⟨31, 0, .ro⟩
/-- DTM_CTL: 32 bits of spec/15_datum_timebase_and_cairn_timestamps.md. -/
def rDTM_CTL : Nat := 0x40040000
def DTM_CTL.AUTO_GAIN : Fld := ⟨1, 1, .rw⟩
def DTM_CTL.MODE : Fld := ⟨0, 0, .rw⟩
/-- DTM_STAT: 32 bits of spec/15_datum_timebase_and_cairn_timestamps.md. -/
def rDTM_STAT : Nat := 0x40040004
def DTM_STAT.SET_PEND : Fld := ⟨4, 4, .ro⟩
def DTM_STAT.STEPPED : Fld := ⟨3, 3, .w1c⟩
def DTM_STAT.TV_LOST : Fld := ⟨2, 2, .w1c⟩
def DTM_STAT.ADD_CLAMP : Fld := ⟨1, 1, .w1c⟩
def DTM_STAT.TIME_VALID : Fld := ⟨0, 0, .ro⟩
/-- DTM_TV: 32 bits of spec/15_datum_timebase_and_cairn_timestamps.md. -/
def rDTM_TV : Nat := 0x40040008
def DTM_TV.CLR : Fld := ⟨1, 1, .wo⟩
def DTM_TV.SET : Fld := ⟨0, 0, .wo⟩
/-- DTM_ADDEND: 32 bits of spec/15_datum_timebase_and_cairn_timestamps.md. -/
def rDTM_ADDEND : Nat := 0x4004000C
def DTM_ADDEND.ADDEND : Fld := ⟨31, 0, .rw⟩
/-- DTM_TB_NS: 64 bits of spec/15_datum_timebase_and_cairn_timestamps.md. -/
def rDTM_TB_NS : Nat := 0x40040010
def DTM_TB_NS.VALUE : Fld := ⟨47, 0, .ro⟩
/-- DTM_TB_SEC: 64 bits of spec/15_datum_timebase_and_cairn_timestamps.md. -/
def rDTM_TB_SEC : Nat := 0x40040018
def DTM_TB_SEC.VALUE : Fld := ⟨47, 0, .ro⟩
/-- DTM_CYCLE: 64 bits of spec/15_datum_timebase_and_cairn_timestamps.md. -/
def rDTM_CYCLE : Nat := 0x40040020
def DTM_CYCLE.VALUE : Fld := ⟨47, 0, .ro⟩
/-- DTM_SET_NS: 64 bits of spec/15_datum_timebase_and_cairn_timestamps.md. -/
def rDTM_SET_NS : Nat := 0x40040028
def DTM_SET_NS.VALUE : Fld := ⟨47, 0, .rw⟩
/-- DTM_SET_SEC: 64 bits of spec/15_datum_timebase_and_cairn_timestamps.md. -/
def rDTM_SET_SEC : Nat := 0x40040030
def DTM_SET_SEC.VALUE : Fld := ⟨47, 0, .rw⟩
/-- DTM_SET_CTL: 32 bits of spec/15_datum_timebase_and_cairn_timestamps.md. -/
def rDTM_SET_CTL : Nat := 0x40040038
def DTM_SET_CTL.GO : Fld := ⟨0, 0, .wo⟩
/-- DTM_STEP: 64 bits of spec/15_datum_timebase_and_cairn_timestamps.md. -/
def rDTM_STEP : Nat := 0x40040040
def DTM_STEP.OFS : Fld := ⟨63, 0, .wo⟩
/-- DTM_SRV_KP: 32 bits of spec/15_datum_timebase_and_cairn_timestamps.md. -/
def rDTM_SRV_KP : Nat := 0x40040050
def DTM_SRV_KP.E : Fld := ⟨21, 16, .rw⟩
def DTM_SRV_KP.M : Fld := ⟨15, 0, .rw⟩
/-- DTM_SRV_KI: 32 bits of spec/15_datum_timebase_and_cairn_timestamps.md. -/
def rDTM_SRV_KI : Nat := 0x40040054
def DTM_SRV_KI.E : Fld := ⟨21, 16, .rw⟩
def DTM_SRV_KI.M : Fld := ⟨15, 0, .rw⟩
/-- DTM_SRV_THR: 32 bits of spec/15_datum_timebase_and_cairn_timestamps.md. -/
def rDTM_SRV_THR : Nat := 0x40040058
def DTM_SRV_THR.LOCK_THR : Fld := ⟨31, 16, .rw⟩
def DTM_SRV_THR.UNLOCK_THR : Fld := ⟨15, 0, .rw⟩
/-- DTM_SRV_CNT: 32 bits of spec/15_datum_timebase_and_cairn_timestamps.md. -/
def rDTM_SRV_CNT : Nat := 0x4004005C
def DTM_SRV_CNT.HOLD_TV : Fld := ⟨31, 16, .rw⟩
def DTM_SRV_CNT.LOCK_CNT : Fld := ⟨15, 8, .rw⟩
def DTM_SRV_CNT.UNLOCK_CNT : Fld := ⟨7, 0, .rw⟩
/-- DTM_SRV_STEP: 32 bits of spec/15_datum_timebase_and_cairn_timestamps.md. -/
def rDTM_SRV_STEP : Nat := 0x40040060
def DTM_SRV_STEP.STEP_THR : Fld := ⟨31, 0, .rw⟩
/-- DTM_SRV_OFS: 64 bits of spec/15_datum_timebase_and_cairn_timestamps.md. -/
def rDTM_SRV_OFS : Nat := 0x40040068
def DTM_SRV_OFS.THETA : Fld := ⟨63, 0, .ro⟩
/-- DTM_PTP_OFS: 64 bits of spec/15_datum_timebase_and_cairn_timestamps.md. -/
def rDTM_PTP_OFS : Nat := 0x40040078
def DTM_PTP_OFS.THETA : Fld := ⟨63, 0, .wo⟩
/-- DTM_SRV_INT: 32 bits of spec/15_datum_timebase_and_cairn_timestamps.md. -/
def rDTM_SRV_INT : Nat := 0x40040070
def DTM_SRV_INT.I : Fld := ⟨31, 0, .ro⟩
/-- DTM_SRV_SKIP: 32 bits of spec/15_datum_timebase_and_cairn_timestamps.md. -/
def rDTM_SRV_SKIP : Nat := 0x40040074
def DTM_SRV_SKIP.CNT : Fld := ⟨15, 0, .rc⟩
/-- DTM_PTP_CTL: 32 bits of spec/15_datum_timebase_and_cairn_timestamps.md. -/
def rDTM_PTP_CTL : Nat := 0x40040100
def DTM_PTP_CTL.USE_GAL : Fld := ⟨6, 6, .rw⟩
def DTM_PTP_CTL.TC_P2P : Fld := ⟨5, 5, .rw⟩
def DTM_PTP_CTL.TC_EN : Fld := ⟨4, 4, .rw⟩
def DTM_PTP_CTL.ONESTEP : Fld := ⟨3, 3, .rw⟩
def DTM_PTP_CTL.IPV6 : Fld := ⟨2, 2, .rw⟩
def DTM_PTP_CTL.IPV4 : Fld := ⟨1, 1, .rw⟩
def DTM_PTP_CTL.L2 : Fld := ⟨0, 0, .rw⟩
/-- DTM_PTP_LAT_n: 32 bits of spec/15_datum_timebase_and_cairn_timestamps.md; n = 0 to 1. -/
def rDTM_PTP_LAT (n : Nat) : Nat := 0x40040108 + 0x4 * n
def DTM_PTP_LAT.VALUE : Fld := ⟨31, 0, .rw⟩
/-- DTM_PTP_LDLY_n: 32 bits of spec/15_datum_timebase_and_cairn_timestamps.md; n = 0 to 1. -/
def rDTM_PTP_LDLY (n : Nat) : Nat := 0x40040110 + 0x4 * n
def DTM_PTP_LDLY.VALUE : Fld := ⟨31, 0, .rw⟩
/-- DTM_PTS_ID: 32 bits of spec/15_datum_timebase_and_cairn_timestamps.md. -/
def rDTM_PTS_ID : Nat := 0x40040120
def DTM_PTS_ID.SEQID : Fld := ⟨31, 16, .ro⟩
def DTM_PTS_ID.DOMAIN : Fld := ⟨15, 8, .ro⟩
def DTM_PTS_ID.MSG : Fld := ⟨7, 4, .ro⟩
def DTM_PTS_ID.DIR : Fld := ⟨3, 3, .ro⟩
def DTM_PTS_ID.PORT : Fld := ⟨2, 1, .ro⟩
def DTM_PTS_ID.VALID : Fld := ⟨0, 0, .ro⟩
/-- DTM_PTS_SEC: 64 bits of spec/15_datum_timebase_and_cairn_timestamps.md. -/
def rDTM_PTS_SEC : Nat := 0x40040128
def DTM_PTS_SEC.VALUE : Fld := ⟨47, 0, .ro⟩
/-- DTM_PTS_NS: 64 bits of spec/15_datum_timebase_and_cairn_timestamps.md. -/
def rDTM_PTS_NS : Nat := 0x40040130
def DTM_PTS_NS.VALUE : Fld := ⟨47, 0, .ro⟩
/-- DTM_PTS_CTL: 32 bits of spec/15_datum_timebase_and_cairn_timestamps.md. -/
def rDTM_PTS_CTL : Nat := 0x40040138
def DTM_PTS_CTL.DROP : Fld := ⟨31, 16, .rc⟩
def DTM_PTS_CTL.POP : Fld := ⟨8, 8, .wo⟩
def DTM_PTS_CTL.LEVEL : Fld := ⟨4, 0, .ro⟩
/-- DTM_TC_SKIP: 32 bits of spec/15_datum_timebase_and_cairn_timestamps.md. -/
def rDTM_TC_SKIP : Nat := 0x4004013C
def DTM_TC_SKIP.CNT : Fld := ⟨15, 0, .rc⟩
/-- CRN_CTL: 32 bits of spec/15_datum_timebase_and_cairn_timestamps.md. -/
def rCRN_CTL : Nat := 0x40050000
def CRN_CTL.EN : Fld := ⟨31, 0, .rw⟩
/-- CRN_STAT: 32 bits of spec/15_datum_timebase_and_cairn_timestamps.md. -/
def rCRN_STAT : Nat := 0x40050004
def CRN_STAT.LEVEL : Fld := ⟨15, 8, .ro⟩
def CRN_STAT.PEND : Fld := ⟨1, 1, .ro⟩
def CRN_STAT.OVERRUN : Fld := ⟨0, 0, .w1c⟩
/-- CRN_CYCDIV: 32 bits of spec/15_datum_timebase_and_cairn_timestamps.md. -/
def rCRN_CYCDIV : Nat := 0x40050008
def CRN_CYCDIV.SAP : Fld := ⟨18, 16, .rw⟩
def CRN_CYCDIV.DIV : Fld := ⟨15, 0, .rw⟩
/-- CRN_PIN_k: 32 bits of spec/15_datum_timebase_and_cairn_timestamps.md; k = 0 to 15. -/
def rCRN_PIN (k : Nat) : Nat := 0x40050010 + 0x4 * k
def CRN_PIN.EDGE : Fld := ⟨17, 16, .rw⟩
def CRN_PIN.GLITCH : Fld := ⟨15, 0, .rw⟩
/-- CRN_ENT_HDR: 64 bits of spec/15_datum_timebase_and_cairn_timestamps.md. -/
def rCRN_ENT_HDR : Nat := 0x40050100
def CRN_ENT_HDR.VALID : Fld := ⟨63, 63, .ro⟩
def CRN_ENT_HDR.KIND : Fld := ⟨62, 61, .ro⟩
def CRN_ENT_HDR.LEVEL : Fld := ⟨60, 60, .ro⟩
def CRN_ENT_HDR.TV : Fld := ⟨59, 59, .ro⟩
def CRN_ENT_HDR.SRC : Fld := ⟨52, 48, .ro⟩
def CRN_ENT_HDR.SEQ : Fld := ⟨47, 32, .ro⟩
def CRN_ENT_HDR.COUNT : Fld := ⟨31, 0, .ro⟩
/-- CRN_ENT_SEC: 64 bits of spec/15_datum_timebase_and_cairn_timestamps.md. -/
def rCRN_ENT_SEC : Nat := 0x40050108
def CRN_ENT_SEC.VALUE : Fld := ⟨47, 0, .ro⟩
/-- CRN_ENT_NS: 64 bits of spec/15_datum_timebase_and_cairn_timestamps.md. -/
def rCRN_ENT_NS : Nat := 0x40050110
def CRN_ENT_NS.VALUE : Fld := ⟨47, 0, .ro⟩
/-- CRN_ENT_LSEC: 64 bits of spec/15_datum_timebase_and_cairn_timestamps.md. -/
def rCRN_ENT_LSEC : Nat := 0x40050118
def CRN_ENT_LSEC.VALUE : Fld := ⟨47, 0, .ro⟩
/-- CRN_ENT_LNS: 64 bits of spec/15_datum_timebase_and_cairn_timestamps.md. -/
def rCRN_ENT_LNS : Nat := 0x40050120
def CRN_ENT_LNS.VALUE : Fld := ⟨47, 0, .ro⟩
/-- CRN_POP: 32 bits of spec/15_datum_timebase_and_cairn_timestamps.md. -/
def rCRN_POP : Nat := 0x40050128
def CRN_POP.FLUSH : Fld := ⟨1, 1, .wo⟩
def CRN_POP.POP : Fld := ⟨0, 0, .wo⟩
/-- CRN_LOST: 64 bits of spec/15_datum_timebase_and_cairn_timestamps.md. -/
def rCRN_LOST : Nat := 0x40050130
def CRN_LOST.OVF : Fld := ⟨40, 40, .w1c⟩
def CRN_LOST.CNT : Fld := ⟨39, 0, .rw⟩
/-- CRN_FAST_CNT: 32 bits of spec/15_datum_timebase_and_cairn_timestamps.md. -/
def rCRN_FAST_CNT : Nat := 0x40050138
def CRN_FAST_CNT.CNT : Fld := ⟨15, 0, .rc⟩
/-- DTM_REF_CTL: 32 bits of spec/16_datum_references_holdover_and_synthesis.md. -/
def rDTM_REF_CTL : Nat := 0x40040200
def DTM_REF_CTL.HWIN : Fld := ⟨31, 22, .rw⟩
def DTM_REF_CTL.BW : Fld := ⟨20, 16, .rw⟩
def DTM_REF_CTL.REVERT : Fld := ⟨8, 8, .rw⟩
def DTM_REF_CTL.FORCE : Fld := ⟨7, 7, .rw⟩
def DTM_REF_CTL.FSRC : Fld := ⟨2, 0, .rw⟩
/-- DTM_REF_SLOPE: 32 bits of spec/16_datum_references_holdover_and_synthesis.md. -/
def rDTM_REF_SLOPE : Nat := 0x40040204
def DTM_REF_SLOPE.SLOPE : Fld := ⟨13, 0, .rw⟩
/-- DTM_REF_XOTRIM: 32 bits of spec/16_datum_references_holdover_and_synthesis.md. -/
def rDTM_REF_XOTRIM : Nat := 0x40040208
def DTM_REF_XOTRIM.TRIM : Fld := ⟨31, 0, .rw⟩
/-- DTM_REF_IN: 32 bits of spec/16_datum_references_holdover_and_synthesis.md. -/
def rDTM_REF_IN : Nat := 0x4004020C
def DTM_REF_IN.WDIV : Fld := ⟨23, 16, .rw⟩
def DTM_REF_IN.WEDGE : Fld := ⟨11, 10, .rw⟩
def DTM_REF_IN.PEDGE : Fld := ⟨9, 8, .rw⟩
def DTM_REF_IN.SAPSEL : Fld := ⟨6, 4, .rw⟩
def DTM_REF_IN.PTP_LOG : Fld := ⟨3, 0, .rw⟩
/-- DTM_REF_INOFS_P: 32 bits of spec/16_datum_references_holdover_and_synthesis.md. -/
def rDTM_REF_INOFS_P : Nat := 0x40040210
def DTM_REF_INOFS_P.OFS : Fld := ⟨31, 0, .rw⟩
/-- DTM_REF_INOFS_W: 32 bits of spec/16_datum_references_holdover_and_synthesis.md. -/
def rDTM_REF_INOFS_W : Nat := 0x40040214
def DTM_REF_INOFS_W.OFS : Fld := ⟨31, 0, .rw⟩
/-- DTM_REF_STAT: 32 bits of spec/16_datum_references_holdover_and_synthesis.md. -/
def rDTM_REF_STAT : Nat := 0x40040218
def DTM_REF_STAT.BW_EFF : Fld := ⟨20, 16, .ro⟩
def DTM_REF_STAT.BW_LIM : Fld := ⟨7, 7, .w1c⟩
def DTM_REF_STAT.FORCED : Fld := ⟨6, 6, .ro⟩
def DTM_REF_STAT.PULL : Fld := ⟨5, 5, .ro⟩
def DTM_REF_STAT.HOLD : Fld := ⟨4, 4, .ro⟩
def DTM_REF_STAT.SEL : Fld := ⟨2, 0, .ro⟩
/-- DTM_SWITCH_CNT: 32 bits of spec/16_datum_references_holdover_and_synthesis.md. -/
def rDTM_SWITCH_CNT : Nat := 0x4004021C
def DTM_SWITCH_CNT.HOLDS : Fld := ⟨31, 16, .rc⟩
def DTM_SWITCH_CNT.SWITCHES : Fld := ⟨15, 0, .rc⟩
/-- DTM_REF_CFG_s: 32 bits of spec/16_datum_references_holdover_and_synthesis.md; s = 0 to 5. -/
def rDTM_REF_CFG (s : Nat) : Nat := 0x40040220 + 0x10 * s
def DTM_REF_CFG.LOS : Fld := ⟨31, 16, .rw⟩
def DTM_REF_CFG.FTOL : Fld := ⟨15, 8, .rw⟩
def DTM_REF_CFG.PRIO : Fld := ⟨2, 0, .rw⟩
/-- DTM_REF_QUAL_s: 32 bits of spec/16_datum_references_holdover_and_synthesis.md; s = 0 to 5. -/
def rDTM_REF_QUAL (s : Nat) : Nat := 0x40040224 + 0x10 * s
def DTM_REF_QUAL.QUAL : Fld := ⟨31, 16, .rw⟩
def DTM_REF_QUAL.PTOL : Fld := ⟨15, 0, .rw⟩
/-- DTM_REF_MON_s: 32 bits of spec/16_datum_references_holdover_and_synthesis.md; s = 0 to 5. -/
def rDTM_REF_MON (s : Nat) : Nat := 0x40040228 + 0x10 * s
def DTM_REF_MON.FOFS : Fld := ⟨31, 16, .ro⟩
def DTM_REF_MON.HITS : Fld := ⟨15, 8, .rc⟩
def DTM_REF_MON.LOCKF : Fld := ⟨4, 4, .w1c⟩
def DTM_REF_MON.HIT : Fld := ⟨3, 3, .w1c⟩
def DTM_REF_MON.FREQ : Fld := ⟨2, 2, .w1c⟩
def DTM_REF_MON.LOS : Fld := ⟨1, 1, .w1c⟩
def DTM_REF_MON.QUAL : Fld := ⟨0, 0, .ro⟩
/-- DTM_HOLD: 32 bits of spec/16_datum_references_holdover_and_synthesis.md. -/
def rDTM_HOLD : Nat := 0x40040280
def DTM_HOLD.VALUE : Fld := ⟨31, 0, .ro⟩
/-- DTM_HOLD_N: 32 bits of spec/16_datum_references_holdover_and_synthesis.md. -/
def rDTM_HOLD_N : Nat := 0x40040284
def DTM_HOLD_N.VALUE : Fld := ⟨31, 0, .ro⟩
/-- DTM_PULL: 64 bits of spec/16_datum_references_holdover_and_synthesis.md. -/
def rDTM_PULL : Nat := 0x40040288
def DTM_PULL.PI : Fld := ⟨63, 0, .ro⟩
/-- DTM_PPSO_CTL: 32 bits of spec/16_datum_references_holdover_and_synthesis.md. -/
def rDTM_PPSO_CTL : Nat := 0x40040380
def DTM_PPSO_CTL.EN : Fld := ⟨31, 31, .rw⟩
def DTM_PPSO_CTL.WIDTH : Fld := ⟨19, 0, .rw⟩
/-- DTM_FRMO_CTL: 32 bits of spec/16_datum_references_holdover_and_synthesis.md. -/
def rDTM_FRMO_CTL : Nat := 0x40040388
def DTM_FRMO_CTL.EN : Fld := ⟨31, 31, .rw⟩
def DTM_FRMO_CTL.FDIV : Fld := ⟨15, 0, .rw⟩
/-- DTM_PPSO_OFS: 32 bits of spec/16_datum_references_holdover_and_synthesis.md. -/
def rDTM_PPSO_OFS : Nat := 0x40040384
def DTM_PPSO_OFS.OFS : Fld := ⟨31, 0, .rw⟩
/-- DTM_FRMO_OFS: 32 bits of spec/16_datum_references_holdover_and_synthesis.md. -/
def rDTM_FRMO_OFS : Nat := 0x4004038C
def DTM_FRMO_OFS.OFS : Fld := ⟨31, 0, .rw⟩
/-- SYN_CTL_n: 32 bits of spec/16_datum_references_holdover_and_synthesis.md; n = 0 to 2. -/
def rSYN_CTL (n : Nat) : Nat := 0x40060000 + 0x20 * n
def SYN_CTL.NINT : Fld := ⟨23, 16, .rw⟩
def SYN_CTL.PDIV : Fld := ⟨9, 8, .rw⟩
def SYN_CTL.ALIGN : Fld := ⟨2, 2, .rw⟩
def SYN_CTL.TRACK : Fld := ⟨1, 1, .rw⟩
def SYN_CTL.EN : Fld := ⟨0, 0, .rw⟩
/-- SYN_FRAC_n: 32 bits of spec/16_datum_references_holdover_and_synthesis.md; n = 0 to 2. -/
def rSYN_FRAC (n : Nat) : Nat := 0x40060004 + 0x20 * n
def SYN_FRAC.FRAC : Fld := ⟨23, 0, .rw⟩
/-- SYN_DIV_n: 32 bits of spec/16_datum_references_holdover_and_synthesis.md; n = 0 to 2. -/
def rSYN_DIV (n : Nat) : Nat := 0x40060008 + 0x20 * n
def SYN_DIV.ADIV : Fld := ⟨31, 16, .rw⟩
def SYN_DIV.ODIV : Fld := ⟨9, 0, .rw⟩
/-- SYN_PHASE_n: 32 bits of spec/16_datum_references_holdover_and_synthesis.md; n = 0 to 2. -/
def rSYN_PHASE (n : Nat) : Nat := 0x4006000C + 0x20 * n
def SYN_PHASE.PEND : Fld := ⟨31, 16, .ro⟩
def SYN_PHASE.STEP : Fld := ⟨15, 0, .wo⟩
/-- SYN_STAT_n: 32 bits of spec/16_datum_references_holdover_and_synthesis.md; n = 0 to 2. -/
def rSYN_STAT (n : Nat) : Nat := 0x40060010 + 0x20 * n
def SYN_STAT.AERR : Fld := ⟨31, 16, .ro⟩
def SYN_STAT.CFG_ERR : Fld := ⟨4, 4, .w1c⟩
def SYN_STAT.UNLOCK : Fld := ⟨3, 3, .w1c⟩
def SYN_STAT.ALIGNED : Fld := ⟨1, 1, .ro⟩
def SYN_STAT.LOCK : Fld := ⟨0, 0, .ro⟩
/-- SYN_CKO_k: 32 bits of spec/16_datum_references_holdover_and_synthesis.md; k = 0 to 5. -/
def rSYN_CKO (k : Nat) : Nat := 0x40060100 + 0x4 * k
def SYN_CKO.CDIV : Fld := ⟨23, 16, .rw⟩
def SYN_CKO.SRC : Fld := ⟨5, 4, .rw⟩
def SYN_CKO.DIS : Fld := ⟨3, 2, .rw⟩
def SYN_CKO.FMT : Fld := ⟨1, 0, .rw⟩
/-- CLE_STAT: 32 bits of spec/17_control_law_engine_and_echo.md. -/
def rCLE_STAT : Nat := 0x40130000
def CLE_STAT.CFG_ERR : Fld := ⟨0, 0, .w1c⟩
/-- CLE_SWAP: 32 bits of spec/17_control_law_engine_and_echo.md. -/
def rCLE_SWAP : Nat := 0x40130004
def CLE_SWAP.CMT : Fld := ⟨31, 16, .w1s⟩
def CLE_SWAP.REQ : Fld := ⟨15, 0, .w1s⟩
/-- CLE_SLOT_CFG_s: 32 bits of spec/17_control_law_engine_and_echo.md; s = 0 to 15. -/
def rCLE_SLOT_CFG (s : Nat) : Nat := 0x40130100 + 0x20 * s
def CLE_SLOT_CFG.EN : Fld := ⟨31, 31, .rw⟩
def CLE_SLOT_CFG.RATE : Fld := ⟨30, 30, .rw⟩
def CLE_SLOT_CFG.FMT : Fld := ⟨29, 29, .rw⟩
def CLE_SLOT_CFG.RND : Fld := ⟨28, 28, .rw⟩
def CLE_SLOT_CFG.DL : Fld := ⟨15, 0, .rw⟩
/-- CLE_SLOT_STAT_s: 32 bits of spec/17_control_law_engine_and_echo.md; s = 0 to 15. -/
def rCLE_SLOT_STAT (s : Nat) : Nat := 0x40130104 + 0x20 * s
def CLE_SLOT_STAT.ILL : Fld := ⟨31, 31, .w1c⟩
def CLE_SLOT_STAT.SAT : Fld := ⟨30, 30, .w1c⟩
def CLE_SLOT_STAT.CAUSE : Fld := ⟨29, 27, .ro⟩
def CLE_SLOT_STAT.BANK : Fld := ⟨26, 26, .ro⟩
def CLE_SLOT_STAT.INDEX : Fld := ⟨25, 20, .ro⟩
def CLE_SLOT_STAT.REG : Fld := ⟨18, 16, .ro⟩
def CLE_SLOT_STAT.REBASES : Fld := ⟨15, 0, .rc⟩
/-- CLE_SCHED_s: 32 bits of spec/17_control_law_engine_and_echo.md; s = 0 to 15. -/
def rCLE_SCHED (s : Nat) : Nat := 0x40130108 + 0x20 * s
def CLE_SCHED.EN : Fld := ⟨31, 31, .rw⟩
def CLE_SCHED.BMP : Fld := ⟨30, 30, .rw⟩
def CLE_SCHED.NREG : Fld := ⟨29, 27, .rw⟩
def CLE_SCHED.BMP_K : Fld := ⟨26, 24, .rw⟩
def CLE_SCHED.BMP_E : Fld := ⟨23, 20, .rw⟩
def CLE_SCHED.BMP_I : Fld := ⟨19, 16, .rw⟩
def CLE_SCHED.SRC : Fld := ⟨9, 0, .rw⟩
/-- CLE_HYST_s: 32 bits of spec/17_control_law_engine_and_echo.md; s = 0 to 15. -/
def rCLE_HYST (s : Nat) : Nat := 0x4013010C + 0x20 * s
def CLE_HYST.VALUE : Fld := ⟨31, 0, .rw⟩
/-- CLE_REBASE_s: 32 bits of spec/17_control_law_engine_and_echo.md; s = 0 to 15. -/
def rCLE_REBASE (s : Nat) : Nat := 0x40130110 + 0x20 * s
def CLE_REBASE.VALUE : Fld := ⟨31, 0, .ro⟩
/-- CLE_THR_s_j: 32 bits of spec/17_control_law_engine_and_echo.md; s = 0 to 15, j = 1 to 7. -/
def rCLE_THR (s : Nat) (j : Nat) : Nat := 0x40130400 + 0x20 * s + 0x4 * j
def CLE_THR.THR : Fld := ⟨31, 0, .rw⟩
/-- CLE_DUTY_n: 32 bits of spec/17_control_law_engine_and_echo.md; n = 0 to 35. -/
def rCLE_DUTY (n : Nat) : Nat := 0x40130800 + 0x4 * n
def CLE_DUTY.DUTY : Fld := ⟨31, 0, .ro⟩
/-- ECHO_CTL: 32 bits of spec/17_control_law_engine_and_echo.md. -/
def rECHO_CTL : Nat := 0x40130C00
def ECHO_CTL.GO : Fld := ⟨31, 31, .wo⟩
def ECHO_CTL.ABORT : Fld := ⟨30, 30, .wo⟩
def ECHO_CTL.CSH : Fld := ⟨19, 16, .rw⟩
def ECHO_CTL.SLOT : Fld := ⟨11, 8, .rw⟩
def ECHO_CTL.TSEL : Fld := ⟨7, 5, .rw⟩
def ECHO_CTL.TTRIG : Fld := ⟨4, 4, .rw⟩
def ECHO_CTL.SIG : Fld := ⟨1, 0, .rw⟩
/-- ECHO_AMP: 32 bits of spec/17_control_law_engine_and_echo.md. -/
def rECHO_AMP : Nat := 0x40130C04
def ECHO_AMP.VALUE : Fld := ⟨31, 0, .rw⟩
/-- ECHO_DPH0: 32 bits of spec/17_control_law_engine_and_echo.md. -/
def rECHO_DPH0 : Nat := 0x40130C08
def ECHO_DPH0.VALUE : Fld := ⟨31, 0, .rw⟩
/-- ECHO_X: 32 bits of spec/17_control_law_engine_and_echo.md. -/
def rECHO_X : Nat := 0x40130C0C
def ECHO_X.VALUE : Fld := ⟨31, 0, .ro⟩
/-- ECHO_LEN: 32 bits of spec/17_control_law_engine_and_echo.md. -/
def rECHO_LEN : Nat := 0x40130C10
def ECHO_LEN.DEC : Fld := ⟨23, 16, .rw⟩
def ECHO_LEN.LEN : Fld := ⟨13, 0, .rw⟩
/-- ECHO_PRBS: 32 bits of spec/17_control_law_engine_and_echo.md. -/
def rECHO_PRBS : Nat := 0x40130C14
def ECHO_PRBS.SEED : Fld := ⟨31, 16, .rw⟩
def ECHO_PRBS.HOLD : Fld := ⟨11, 8, .rw⟩
def ECHO_PRBS.ORD : Fld := ⟨2, 0, .rw⟩
/-- ECHO_SINE: 32 bits of spec/17_control_law_engine_and_echo.md. -/
def rECHO_SINE : Nat := 0x40130C18
def ECHO_SINE.G : Fld := ⟨31, 16, .rw⟩
def ECHO_SINE.DWELL : Fld := ⟨15, 0, .rw⟩
/-- ECHO_SINE2: 32 bits of spec/17_control_law_engine_and_echo.md. -/
def rECHO_SINE2 : Nat := 0x40130C1C
def ECHO_SINE2.SETTLE : Fld := ⟨31, 16, .rw⟩
def ECHO_SINE2.NSTEP : Fld := ⟨7, 0, .rw⟩
/-- ECHO_PRE: 32 bits of spec/17_control_law_engine_and_echo.md. -/
def rECHO_PRE : Nat := 0x40130C20
def ECHO_PRE.PRE : Fld := ⟨15, 0, .rw⟩
/-- ECHO_STAT: 32 bits of spec/17_control_law_engine_and_echo.md. -/
def rECHO_STAT : Nat := 0x40130C24
def ECHO_STAT.BUSY : Fld := ⟨31, 31, .ro⟩
def ECHO_STAT.DONE : Fld := ⟨30, 30, .w1c⟩
def ECHO_STAT.IDX : Fld := ⟨13, 0, .ro⟩
/-- ECHO_CNT: 32 bits of spec/17_control_law_engine_and_echo.md. -/
def rECHO_CNT : Nat := 0x40130C28
def ECHO_CNT.TRIG_IGN : Fld := ⟨31, 16, .rc⟩
def ECHO_CNT.MISSN : Fld := ⟨15, 0, .rc⟩
/-- PWM_CTL_g: 32 bits of spec/18_motion_led_and_lantern_outputs.md; g = 0 to 15. -/
def rPWM_CTL (g : Nat) : Nat := 0x40140000 + 0x20 * g
def PWM_CTL.EN : Fld := ⟨31, 31, .rw⟩
def PWM_CTL.MODE : Fld := ⟨30, 30, .rw⟩
def PWM_CTL.SYNC : Fld := ⟨29, 29, .rw⟩
def PWM_CTL.HOLD : Fld := ⟨28, 28, .rw⟩
def PWM_CTL.DT : Fld := ⟨25, 16, .rw⟩
def PWM_CTL.MINPW : Fld := ⟨15, 8, .rw⟩
/-- PWM_PHASE_g: 32 bits of spec/18_motion_led_and_lantern_outputs.md; g = 0 to 15. -/
def rPWM_PHASE (g : Nat) : Nat := 0x40140004 + 0x20 * g
def PWM_PHASE.PHASE : Fld := ⟨15, 0, .rw⟩
/-- PWM_TRG_g: 32 bits of spec/18_motion_led_and_lantern_outputs.md; g = 0 to 15. -/
def rPWM_TRG (g : Nat) : Nat := 0x40140008 + 0x20 * g
def PWM_TRG.LATE_WIN : Fld := ⟨31, 16, .rw⟩
def PWM_TRG.TRG_OFS : Fld := ⟨15, 0, .rw⟩
/-- PWM_LSRC_g: 32 bits of spec/18_motion_led_and_lantern_outputs.md; g = 0 to 15. -/
def rPWM_LSRC (g : Nat) : Nat := 0x4014000C + 0x20 * g
def PWM_LSRC.EN : Fld := ⟨31, 31, .rw⟩
def PWM_LSRC.WORD : Fld := ⟨11, 0, .rw⟩
/-- PWM_STAT_g: 32 bits of spec/18_motion_led_and_lantern_outputs.md; g = 0 to 15. -/
def rPWM_STAT (g : Nat) : Nat := 0x40140010 + 0x20 * g
def PWM_STAT.LATE_CNT : Fld := ⟨31, 16, .rc⟩
def PWM_STAT.RESYNC_CUT : Fld := ⟨2, 2, .w1c⟩
def PWM_STAT.DUTY_LATE : Fld := ⟨1, 1, .w1c⟩
def PWM_STAT.RUN : Fld := ⟨0, 0, .ro⟩
/-- PWM_DP_n: 64 bits of spec/18_motion_led_and_lantern_outputs.md; n = 0 to 35. -/
def rPWM_DP (n : Nat) : Nat := 0x40140400 + 0x8 * n
def PWM_DP.PERIOD : Fld := ⟨47, 32, .rw⟩
def PWM_DP.DUTY : Fld := ⟨31, 0, .rw⟩
/-- PWM_CUR_n: 64 bits of spec/18_motion_led_and_lantern_outputs.md; n = 0 to 35. -/
def rPWM_CUR (n : Nat) : Nat := 0x40140800 + 0x8 * n
def PWM_CUR.GCLAMP : Fld := ⟨63, 63, .ro⟩
def PWM_CUR.PERIOD : Fld := ⟨47, 32, .ro⟩
def PWM_CUR.HT : Fld := ⟨20, 0, .ro⟩
/-- LTN_CTL_n: 32 bits of spec/18_motion_led_and_lantern_outputs.md; n = 0 to 3. -/
def rLTN_CTL (n : Nat) : Nat := 0x40150000 + 0x40 * n
def LTN_CTL.EN : Fld := ⟨31, 31, .rw⟩
def LTN_CTL.DIV : Fld := ⟨15, 8, .rw⟩
def LTN_CTL.SRC : Fld := ⟨1, 0, .rw⟩
/-- LTN_BLANK_n: 32 bits of spec/18_motion_led_and_lantern_outputs.md; n = 0 to 3. -/
def rLTN_BLANK (n : Nat) : Nat := 0x40150004 + 0x40 * n
def LTN_BLANK.BLANK_MIN : Fld := ⟨15, 0, .rw⟩
/-- LTN_MAP_n: 32 bits of spec/18_motion_led_and_lantern_outputs.md; n = 0 to 3. -/
def rLTN_MAP (n : Nat) : Nat := 0x40150008 + 0x40 * n
def LTN_MAP.EN : Fld := ⟨31, 31, .rw⟩
def LTN_MAP.CNT : Fld := ⟨28, 16, .rw⟩
def LTN_MAP.LBASE : Fld := ⟨11, 0, .rw⟩
/-- LTN_MAP_FIRST_n: 32 bits of spec/18_motion_led_and_lantern_outputs.md; n = 0 to 3. -/
def rLTN_MAP_FIRST (n : Nat) : Nat := 0x4015000C + 0x40 * n
def LTN_MAP_FIRST.FIRST : Fld := ⟨12, 0, .rw⟩
/-- LTN_FB_n: 64 bits of spec/18_motion_led_and_lantern_outputs.md; n = 0 to 3. -/
def rLTN_FB (n : Nat) : Nat := 0x40150010 + 0x40 * n
def LTN_FB.NPIXM1 : Fld := ⟨43, 32, .rw⟩
def LTN_FB.BASE : Fld := ⟨19, 0, .rw⟩
/-- LTN_FRAME_SEQ_n: 64 bits of spec/18_motion_led_and_lantern_outputs.md; n = 0 to 3. -/
def rLTN_FRAME_SEQ (n : Nat) : Nat := 0x40150018 + 0x40 * n
def LTN_FRAME_SEQ.SEQ : Fld := ⟨63, 48, .ro⟩
def LTN_FRAME_SEQ.NPIXM1 : Fld := ⟨43, 32, .ro⟩
def LTN_FRAME_SEQ.BASE : Fld := ⟨19, 0, .ro⟩
/-- LTN_STAT_n: 32 bits of spec/18_motion_led_and_lantern_outputs.md; n = 0 to 3. -/
def rLTN_STAT (n : Nat) : Nat := 0x40150020 + 0x40 * n
def LTN_STAT.SKIP_CNT : Fld := ⟨31, 16, .rc⟩
def LTN_STAT.CFG_ERR : Fld := ⟨5, 5, .w1c⟩
def LTN_STAT.MAP_ERR : Fld := ⟨4, 4, .w1c⟩
def LTN_STAT.STOMP : Fld := ⟨3, 3, .w1c⟩
def LTN_STAT.COMMIT_LATE : Fld := ⟨2, 2, .w1c⟩
def LTN_STAT.PEND : Fld := ⟨1, 1, .ro⟩
def LTN_STAT.BLANK : Fld := ⟨0, 0, .ro⟩
/-- LTN_ERR_CNT_n: 32 bits of spec/18_motion_led_and_lantern_outputs.md; n = 0 to 3. -/
def rLTN_ERR_CNT (n : Nat) : Nat := 0x40150024 + 0x40 * n
def LTN_ERR_CNT.UNDER : Fld := ⟨31, 16, .rc⟩
def LTN_ERR_CNT.RDERR : Fld := ⟨15, 0, .rc⟩
/-- ADC_CTL_i: 32 bits of spec/19_sensing_converters.md; i = 0 to 1. -/
def rADC_CTL (i : Nat) : Nat := 0x40160000 + 0x100 * i
def ADC_CTL.EN : Fld := ⟨31, 31, .rw⟩
def ADC_CTL.RTRIG : Fld := ⟨29, 24, .rw⟩
def ADC_CTL.ITRIG : Fld := ⟨21, 16, .rw⟩
def ADC_CTL.RLENM1 : Fld := ⟨11, 8, .rw⟩
def ADC_CTL.ILENM1 : Fld := ⟨5, 4, .rw⟩
/-- ADC_CMD_i: 32 bits of spec/19_sensing_converters.md; i = 0 to 1. -/
def rADC_CMD (i : Nat) : Nat := 0x40160004 + 0x100 * i
def ADC_CMD.ISWT : Fld := ⟨1, 1, .wo⟩
def ADC_CMD.RSWT : Fld := ⟨0, 0, .wo⟩
/-- ADC_STAT_i: 32 bits of spec/19_sensing_converters.md; i = 0 to 1. -/
def rADC_STAT (i : Nat) : Nat := 0x40160008 + 0x100 * i
def ADC_STAT.CH_ERR : Fld := ⟨8, 8, .w1c⟩
def ADC_STAT.READY : Fld := ⟨7, 7, .ro⟩
def ADC_STAT.RPEND : Fld := ⟨3, 3, .ro⟩
def ADC_STAT.RSUSP : Fld := ⟨2, 2, .ro⟩
def ADC_STAT.IBUSY : Fld := ⟨1, 1, .ro⟩
def ADC_STAT.RBUSY : Fld := ⟨0, 0, .ro⟩
/-- ADC_DROP_i: 32 bits of spec/19_sensing_converters.md; i = 0 to 1. -/
def rADC_DROP (i : Nat) : Nat := 0x4016000C + 0x100 * i
def ADC_DROP.IDROP : Fld := ⟨31, 16, .rc⟩
def ADC_DROP.RDROP : Fld := ⟨15, 0, .rc⟩
/-- ADC_ABORT_i: 32 bits of spec/19_sensing_converters.md; i = 0 to 1. -/
def rADC_ABORT (i : Nat) : Nat := 0x40160010 + 0x100 * i
def ADC_ABORT.CNT : Fld := ⟨15, 0, .rc⟩
/-- ADC_RSQ_i_j: 32 bits of spec/19_sensing_converters.md; i = 0 to 1, j = 0 to 15. -/
def rADC_RSQ (i : Nat) (j : Nat) : Nat := 0x40160040 + 0x100 * i + 0x4 * j
def ADC_RSQ.ST : Fld := ⟨15, 8, .rw⟩
def ADC_RSQ.CH : Fld := ⟨4, 0, .rw⟩
/-- ADC_ISQ_i_j: 32 bits of spec/19_sensing_converters.md; i = 0 to 1, j = 0 to 3. -/
def rADC_ISQ (i : Nat) (j : Nat) : Nat := 0x40160080 + 0x100 * i + 0x4 * j
def ADC_ISQ.ST : Fld := ⟨15, 8, .rw⟩
def ADC_ISQ.CH : Fld := ⟨4, 0, .rw⟩
/-- ADC_IRES_i_j: 32 bits of spec/19_sensing_converters.md; i = 0 to 1, j = 0 to 3. -/
def rADC_IRES (i : Nat) (j : Nat) : Nat := 0x40160090 + 0x100 * i + 0x4 * j
def ADC_IRES.TAG : Fld := ⟨31, 24, .ro⟩
def ADC_IRES.CODE : Fld := ⟨11, 0, .ro⟩
/-- ADC_RRES_i_j: 32 bits of spec/19_sensing_converters.md; i = 0 to 1, j = 0 to 15. -/
def rADC_RRES (i : Nat) (j : Nat) : Nat := 0x401600C0 + 0x100 * i + 0x4 * j
def ADC_RRES.TAG : Fld := ⟨31, 24, .ro⟩
def ADC_RRES.CODE : Fld := ⟨11, 0, .ro⟩
/-- ADC_THERM: 32 bits of spec/19_sensing_converters.md. -/
def rADC_THERM : Nat := 0x40160200
def ADC_THERM.HYS : Fld := ⟨23, 16, .rw⟩
def ADC_THERM.HOT : Fld := ⟨11, 0, .rw⟩
/-- ADC_TSTAT: 32 bits of spec/19_sensing_converters.md. -/
def rADC_TSTAT : Nat := 0x40160204
def ADC_TSTAT.HOTL : Fld := ⟨13, 8, .w1c⟩
def ADC_TSTAT.HOT : Fld := ⟨5, 0, .ro⟩
/-- ADC_TCAL_k: 32 bits of spec/19_sensing_converters.md; k = 0 to 5. -/
def rADC_TCAL (k : Nat) : Nat := 0x40160210 + 0x4 * k
def ADC_TCAL.CODE : Fld := ⟨11, 0, .ro⟩
/-- ADC_CMP_k: 32 bits of spec/19_sensing_converters.md; k = 0 to 11. -/
def rADC_CMP (k : Nat) : Nat := 0x40160300 + 0x4 * k
def ADC_CMP.EN : Fld := ⟨31, 31, .ro⟩
def ADC_CMP.POL : Fld := ⟨30, 30, .ro⟩
def ADC_CMP.HYS : Fld := ⟨25, 24, .ro⟩
def ADC_CMP.THR : Fld := ⟨9, 0, .ro⟩
/-- ADC_CMP_STAT: 32 bits of spec/19_sensing_converters.md. -/
def rADC_CMP_STAT : Nat := 0x40160340
def ADC_CMP_STAT.LEVEL : Fld := ⟨11, 0, .ro⟩
/-- ADC_CMP_CNT_k: 32 bits of spec/19_sensing_converters.md; k = 0 to 11. -/
def rADC_CMP_CNT (k : Nat) : Nat := 0x40160380 + 0x4 * k
def ADC_CMP_CNT.CNT : Fld := ⟨15, 0, .rc⟩
/-- LTN_CART_CFG_c: 32 bits of spec/20_lantern_cartridges_identity_and_life.md; c = 0 to 3. -/
def rLTN_CART_CFG (c : Nat) : Nat := 0x40150100 + 0x40 * c
def LTN_CART_CFG.EN : Fld := ⟨31, 31, .rw⟩
def LTN_CART_CFG.SPEED : Fld := ⟨30, 30, .rw⟩
def LTN_CART_CFG.REAUTH : Fld := ⟨23, 16, .rw⟩
def LTN_CART_CFG.ISRC : Fld := ⟨9, 0, .rw⟩
/-- LTN_CART_STAT_c: 32 bits of spec/20_lantern_cartridges_identity_and_life.md; c = 0 to 3. -/
def rLTN_CART_STAT (c : Nat) : Nat := 0x40150104 + 0x40 * c
def LTN_CART_STAT.CART_OK : Fld := ⟨31, 31, .ro⟩
def LTN_CART_STAT.EXPIRED : Fld := ⟨30, 30, .ro⟩
def LTN_CART_STAT.LIFE_BAD : Fld := ⟨29, 29, .ro⟩
def LTN_CART_STAT.WFAIL : Fld := ⟨28, 28, .w1c⟩
def LTN_CART_STAT.LOST : Fld := ⟨27, 27, .w1c⟩
def LTN_CART_STAT.CAUSE : Fld := ⟨23, 20, .ro⟩
def LTN_CART_STAT.STATE : Fld := ⟨2, 0, .ro⟩
/-- LTN_CART_SER_HI_c: 32 bits of spec/20_lantern_cartridges_identity_and_life.md; c = 0 to 3. -/
def rLTN_CART_SER_HI (c : Nat) : Nat := 0x40150108 + 0x40 * c
def LTN_CART_SER_HI.SERIAL : Fld := ⟨31, 0, .ro⟩
/-- LTN_CART_SER_LO_c: 32 bits of spec/20_lantern_cartridges_identity_and_life.md; c = 0 to 3. -/
def rLTN_CART_SER_LO (c : Nat) : Nat := 0x4015010C + 0x40 * c
def LTN_CART_SER_LO.SERIAL : Fld := ⟨31, 0, .ro⟩
/-- LTN_CART_INFO_c: 32 bits of spec/20_lantern_cartridges_identity_and_life.md; c = 0 to 3. -/
def rLTN_CART_INFO (c : Nat) : Nat := 0x40150110 + 0x40 * c
def LTN_CART_INFO.RATED : Fld := ⟨23, 0, .ro⟩
/-- LTN_CART_TYPE_c: 32 bits of spec/20_lantern_cartridges_identity_and_life.md; c = 0 to 3. -/
def rLTN_CART_TYPE (c : Nat) : Nat := 0x40150114 + 0x40 * c
def LTN_CART_TYPE.FMT : Fld := ⟨23, 16, .ro⟩
def LTN_CART_TYPE.TYPE : Fld := ⟨15, 0, .ro⟩
/-- LTN_CART_EH_c: 64 bits of spec/20_lantern_cartridges_identity_and_life.md; c = 0 to 3. -/
def rLTN_CART_EH (c : Nat) : Nat := 0x40150118 + 0x40 * c
def LTN_CART_EH.EH : Fld := ⟨47, 0, .ro⟩
/-- LTN_CART_SEQ_c: 32 bits of spec/20_lantern_cartridges_identity_and_life.md; c = 0 to 3. -/
def rLTN_CART_SEQ (c : Nat) : Nat := 0x40150120 + 0x40 * c
def LTN_CART_SEQ.VALUE : Fld := ⟨31, 0, .ro⟩
/-- LTN_CART_ACC_c: 32 bits of spec/20_lantern_cartridges_identity_and_life.md; c = 0 to 3. -/
def rLTN_CART_ACC (c : Nat) : Nat := 0x40150124 + 0x40 * c
def LTN_CART_ACC.VALUE : Fld := ⟨31, 0, .ro⟩
/-- LTN_CART_LIVE_c: 32 bits of spec/20_lantern_cartridges_identity_and_life.md; c = 0 to 3. -/
def rLTN_CART_LIVE (c : Nat) : Nat := 0x40150128 + 0x40 * c
def LTN_CART_LIVE.TJ : Fld := ⟨31, 16, .ro⟩
def LTN_CART_LIVE.ICODE : Fld := ⟨11, 0, .ro⟩
/-- LTN_CART_MAP_c: 32 bits of spec/20_lantern_cartridges_identity_and_life.md; c = 0 to 3. -/
def rLTN_CART_MAP (c : Nat) : Nat := 0x4015012C + 0x40 * c
def LTN_CART_MAP.EXP_DARK : Fld := ⟨31, 31, .ro⟩
def LTN_CART_MAP.LTN : Fld := ⟨16, 13, .ro⟩
def LTN_CART_MAP.PWM : Fld := ⟨11, 0, .ro⟩
/-- LTN_CART_CNT_c: 32 bits of spec/20_lantern_cartridges_identity_and_life.md; c = 0 to 3. -/
def rLTN_CART_CNT (c : Nat) : Nat := 0x40150130 + 0x40 * c
def LTN_CART_CNT.AUTH_FAIL : Fld := ⟨31, 16, .rc⟩
def LTN_CART_CNT.TJ_ERR : Fld := ⟨15, 8, .rc⟩
def LTN_CART_CNT.RETRY : Fld := ⟨7, 0, .rc⟩
/-- LTN_CART_CMD_c: 32 bits of spec/20_lantern_cartridges_identity_and_life.md; c = 0 to 3. -/
def rLTN_CART_CMD (c : Nat) : Nat := 0x40150134 + 0x40 * c
def LTN_CART_CMD.REPROBE : Fld := ⟨0, 0, .wo⟩
/-- LTN_TW_CMD_k: 32 bits of spec/20_lantern_cartridges_identity_and_life.md; k = 0 to 4. -/
def rLTN_TW_CMD (k : Nat) : Nat := 0x40150300 + 0x20 * k
def LTN_TW_CMD.GO : Fld := ⟨31, 31, .wo⟩
def LTN_TW_CMD.SPEED : Fld := ⟨23, 23, .rw⟩
def LTN_TW_CMD.ADDR : Fld := ⟨22, 16, .rw⟩
def LTN_TW_CMD.RLEN : Fld := ⟨12, 8, .rw⟩
def LTN_TW_CMD.WLEN : Fld := ⟨4, 0, .rw⟩
/-- LTN_TW_DATA_k_w: 32 bits of spec/20_lantern_cartridges_identity_and_life.md; k = 0 to 3, w = 0 to 3. -/
def rLTN_TW_DATA (k : Nat) (w : Nat) : Nat := 0x40150304 + 0x20 * k + 0x4 * w
def LTN_TW_DATA.BYTES : Fld := ⟨31, 0, .rw⟩
/-- LTN_TW_STAT_k: 32 bits of spec/20_lantern_cartridges_identity_and_life.md; k = 0 to 4. -/
def rLTN_TW_STAT (k : Nat) : Nat := 0x40150314 + 0x20 * k
def LTN_TW_STAT.BUSY : Fld := ⟨31, 31, .ro⟩
def LTN_TW_STAT.DENY : Fld := ⟨11, 11, .w1c⟩
def LTN_TW_STAT.TMO : Fld := ⟨10, 10, .w1c⟩
def LTN_TW_STAT.NACK : Fld := ⟨9, 9, .w1c⟩
def LTN_TW_STAT.DONE : Fld := ⟨8, 8, .w1c⟩
def LTN_TW_STAT.NBYTES : Fld := ⟨4, 0, .ro⟩
/-- LTN_CART_W_c_m: 32 bits of spec/20_lantern_cartridges_identity_and_life.md; c = 0 to 3, m = 0 to 127. -/
def rLTN_CART_W (c : Nat) (m : Nat) : Nat := 0x40150400 + 0x200 * c + 0x4 * m
def LTN_CART_W.W_HI : Fld := ⟨31, 16, .ro⟩
def LTN_CART_W.W_LO : Fld := ⟨15, 0, .ro⟩
/-- GTE_STAT: 32 bits of spec/21_gate_hardware_limits.md. -/
def rGTE_STAT : Nat := 0x40080000
def GTE_STAT.LOCK : Fld := ⟨31, 31, .ro⟩
def GTE_STAT.MAINT : Fld := ⟨30, 30, .ro⟩
def GTE_STAT.ZERO : Fld := ⟨29, 29, .ro⟩
/-- GTE_ID: 32 bits of spec/21_gate_hardware_limits.md. -/
def rGTE_ID : Nat := 0x40080004
def GTE_ID.FIXTURE_ID : Fld := ⟨31, 0, .ro⟩
/-- GTE_TRIP: 32 bits of spec/21_gate_hardware_limits.md. -/
def rGTE_TRIP : Nat := 0x40080008
def GTE_TRIP.LOCKOUT : Fld := ⟨31, 16, .ro⟩
def GTE_TRIP.TRIPPED : Fld := ⟨15, 0, .ro⟩
/-- GTE_TRIPL: 32 bits of spec/21_gate_hardware_limits.md. -/
def rGTE_TRIPL : Nat := 0x4008000C
def GTE_TRIPL.REL_REF : Fld := ⟨28, 28, .w1c⟩
def GTE_TRIPL.CMP : Fld := ⟨27, 16, .w1c⟩
def GTE_TRIPL.GRP : Fld := ⟨15, 0, .w1c⟩
/-- GTE_REL: 32 bits of spec/21_gate_hardware_limits.md. -/
def rGTE_REL : Nat := 0x40080010
def GTE_REL.REL : Fld := ⟨15, 0, .wo⟩
/-- GTE_AXIS_a: 32 bits of spec/21_gate_hardware_limits.md; a = 0 to 3. -/
def rGTE_AXIS (a : Nat) : Nat := 0x40080020 + 0x4 * a
def GTE_AXIS.TRV : Fld := ⟨31, 31, .w1c⟩
def GTE_AXIS.SPD : Fld := ⟨30, 30, .w1c⟩
def GTE_AXIS.STALE : Fld := ⟨29, 29, .w1c⟩
def GTE_AXIS.POS : Fld := ⟨11, 0, .ro⟩
/-- GTE_LED_PWR: 32 bits of spec/21_gate_hardware_limits.md. -/
def rGTE_LED_PWR : Nat := 0x40080030
def GTE_LED_PWR.PWR : Fld := ⟨15, 0, .ro⟩
/-- GTE_LIM: 32 bits of spec/21_gate_hardware_limits.md. -/
def rGTE_LIM : Nat := 0x40080034
def GTE_LIM.FLK_L : Fld := ⟨31, 28, .ro⟩
def GTE_LIM.FLK : Fld := ⟨27, 16, .ro⟩
def GTE_LIM.SPK : Fld := ⟨15, 12, .ro⟩
def GTE_LIM.PWR_M : Fld := ⟨11, 0, .ro⟩
/-- GTE_SPK_s: 32 bits of spec/21_gate_hardware_limits.md; s = 0 to 3. -/
def rGTE_SPK (s : Nat) : Nat := 0x40080040 + 0x4 * s
def GTE_SPK.GAIN : Fld := ⟨31, 16, .ro⟩
def GTE_SPK.PKCNT : Fld := ⟨15, 0, .rc⟩
/-- GTE_FLK_CNT: 32 bits of spec/21_gate_hardware_limits.md. -/
def rGTE_FLK_CNT : Nat := 0x40080050
def GTE_FLK_CNT.CNT : Fld := ⟨15, 0, .rc⟩
/-- GTE_REC_w: 32 bits of spec/21_gate_hardware_limits.md; w = 0 to 255. -/
def rGTE_REC (w : Nat) : Nat := 0x40081000 + 0x4 * w
def GTE_REC.WORD : Fld := ⟨31, 0, .ro⟩
/-- SMP_CTL: 32 bits of spec/22_sump_fault_collection_and_event_log.md. -/
def rSMP_CTL : Nat := 0x40070000
def SMP_CTL.LOG_CLR : Fld := ⟨1, 1, .wo⟩
def SMP_CTL.LOCK : Fld := ⟨0, 0, .w1s⟩
/-- SMP_PEND: 32 bits of spec/22_sump_fault_collection_and_event_log.md. -/
def rSMP_PEND : Nat := 0x40070004
def SMP_PEND.CLASS : Fld := ⟨7, 0, .ro⟩
/-- SMP_NERR: 32 bits of spec/22_sump_fault_collection_and_event_log.md. -/
def rSMP_NERR : Nat := 0x4007000C
def SMP_NERR.CLASS : Fld := ⟨7, 0, .ro⟩
/-- SMP_ACK: 32 bits of spec/22_sump_fault_collection_and_event_log.md. -/
def rSMP_ACK : Nat := 0x40070008
def SMP_ACK.ACK : Fld := ⟨7, 0, .wo⟩
/-- SMP_NMI: 32 bits of spec/22_sump_fault_collection_and_event_log.md. -/
def rSMP_NMI : Nat := 0x40070010
def SMP_NMI.CLASS : Fld := ⟨10, 8, .ro⟩
def SMP_NMI.SRC : Fld := ⟨7, 0, .ro⟩
/-- SMP_LOG_STAT: 32 bits of spec/22_sump_fault_collection_and_event_log.md. -/
def rSMP_LOG_STAT : Nat := 0x40070014
def SMP_LOG_STAT.CLEARING : Fld := ⟨31, 31, .ro⟩
def SMP_LOG_STAT.LOG_ERR : Fld := ⟨30, 30, .w1c⟩
def SMP_LOG_STAT.PEND : Fld := ⟨29, 29, .ro⟩
def SMP_LOG_STAT.OVR : Fld := ⟨28, 28, .w1c⟩
def SMP_LOG_STAT.LEVEL : Fld := ⟨21, 16, .ro⟩
def SMP_LOG_STAT.WR : Fld := ⟨9, 0, .ro⟩
/-- SMP_LOG_SEQ: 32 bits of spec/22_sump_fault_collection_and_event_log.md. -/
def rSMP_LOG_SEQ : Nat := 0x40070018
def SMP_LOG_SEQ.VALUE : Fld := ⟨15, 0, .ro⟩
/-- SMP_LOG_ERRCNT: 32 bits of spec/22_sump_fault_collection_and_event_log.md. -/
def rSMP_LOG_ERRCNT : Nat := 0x4007001C
def SMP_LOG_ERRCNT.VALUE : Fld := ⟨15, 0, .rc⟩
/-- SMP_TOTAL: 64 bits of spec/22_sump_fault_collection_and_event_log.md. -/
def rSMP_TOTAL : Nat := 0x40070020
def SMP_TOTAL.OVF : Fld := ⟨40, 40, .w1c⟩
def SMP_TOTAL.CNT : Fld := ⟨39, 0, .rw⟩
/-- SMP_LOST: 64 bits of spec/22_sump_fault_collection_and_event_log.md. -/
def rSMP_LOST : Nat := 0x40070028
def SMP_LOST.OVF : Fld := ⟨40, 40, .w1c⟩
def SMP_LOST.CNT : Fld := ⟨39, 0, .rw⟩
/-- SMP_CLS_c: 32 bits of spec/22_sump_fault_collection_and_event_log.md; c = 0 to 7. -/
def rSMP_CLS (c : Nat) : Nat := 0x40070040 + 0x4 * c
def SMP_CLS.PEND : Fld := ⟨31, 31, .ro⟩
def SMP_CLS.LEVEL : Fld := ⟨25, 24, .ro⟩
def SMP_CLS.SRC : Fld := ⟨23, 16, .ro⟩
def SMP_CLS.CNT : Fld := ⟨15, 0, .ro⟩
/-- SMP_SRC_n: 32 bits of spec/22_sump_fault_collection_and_event_log.md; n = 0 to 159. -/
def rSMP_SRC (n : Nat) : Nat := 0x40070100 + 0x4 * n
def SMP_SRC.EN : Fld := ⟨31, 31, .rwl⟩
def SMP_SRC.LOG : Fld := ⟨30, 30, .rwl⟩
def SMP_SRC.NERR : Fld := ⟨29, 29, .rwl⟩
def SMP_SRC.LEVEL : Fld := ⟨1, 0, .rwl⟩
/-- SMP_CNT_n: 32 bits of spec/22_sump_fault_collection_and_event_log.md; n = 0 to 159. -/
def rSMP_CNT (n : Nat) : Nat := 0x40070400 + 0x4 * n
def SMP_CNT.CNT : Fld := ⟨15, 0, .rc⟩
/-- SEC_CTL: 32 bits of spec/23_key_store_tamper_and_alarm.md. -/
def rSEC_CTL : Nat := 0x40090000
def SEC_CTL.LOCK : Fld := ⟨0, 0, .w1s⟩
/-- SEC_STAT: 32 bits of spec/23_key_store_tamper_and_alarm.md. -/
def rSEC_STAT : Nat := 0x40090004
def SEC_STAT.LIC_VALID : Fld := ⟨31, 31, .ro⟩
def SEC_STAT.LIC_SLOT : Fld := ⟨29, 28, .ro⟩
def SEC_STAT.MAINT_ERASE : Fld := ⟨27, 27, .ro⟩
def SEC_STAT.RNG_FAIL : Fld := ⟨3, 3, .w1c⟩
def SEC_STAT.ERASING : Fld := ⟨2, 2, .ro⟩
def SEC_STAT.KEYWR : Fld := ⟨1, 1, .ro⟩
/-- SEC_ROT: 32 bits of spec/23_key_store_tamper_and_alarm.md. -/
def rSEC_ROT : Nat := 0x40090008
def SEC_ROT.GO : Fld := ⟨31, 31, .wo⟩
def SEC_ROT.OP : Fld := ⟨9, 8, .wo⟩
def SEC_ROT.SLOT : Fld := ⟨1, 0, .wo⟩
/-- SEC_ROT_STAT: 32 bits of spec/23_key_store_tamper_and_alarm.md. -/
def rSEC_ROT_STAT : Nat := 0x4009000C
def SEC_ROT_STAT.BUSY : Fld := ⟨31, 31, .ro⟩
def SEC_ROT_STAT.ROT_ABORT : Fld := ⟨30, 30, .w1c⟩
def SEC_ROT_STAT.RESULT : Fld := ⟨3, 0, .ro⟩
/-- SEC_ALM_s: 32 bits of spec/23_key_store_tamper_and_alarm.md; s = 0 to 6. -/
def rSEC_ALM (s : Nat) : Nat := 0x40090040 + 0x4 * s
def SEC_ALM.ACTION : Fld := ⟨1, 0, .rwl⟩
/-- SEC_TAMP_CFG_k: 32 bits of spec/23_key_store_tamper_and_alarm.md; k = 0 to 3. -/
def rSEC_TAMP_CFG (k : Nat) : Nat := 0x40090060 + 0x4 * k
def SEC_TAMP_CFG.EN : Fld := ⟨31, 31, .rwl⟩
def SEC_TAMP_CFG.POL : Fld := ⟨30, 30, .rwl⟩
def SEC_TAMP_CFG.DEB : Fld := ⟨7, 0, .rwl⟩
/-- SEC_MESH: 32 bits of spec/23_key_store_tamper_and_alarm.md. -/
def rSEC_MESH : Nat := 0x40090070
def SEC_MESH.EN : Fld := ⟨31, 31, .rwl⟩
/-- SEC_VIOL: 32 bits of spec/23_key_store_tamper_and_alarm.md. -/
def rSEC_VIOL : Nat := 0x40090080
def SEC_VIOL.TLEVEL : Fld := ⟨19, 16, .ro⟩
def SEC_VIOL.VIOL : Fld := ⟨6, 0, .w1c⟩
/-- SEC_DBG: 32 bits of spec/23_key_store_tamper_and_alarm.md. -/
def rSEC_DBG : Nat := 0x40090084
def SEC_DBG.REOPEN : Fld := ⟨31, 31, .wo⟩
def SEC_DBG.STATE : Fld := ⟨17, 16, .ro⟩
def SEC_DBG.FAIL : Fld := ⟨7, 0, .ro⟩
/-- SEC_CE_CTL: 32 bits of spec/23_key_store_tamper_and_alarm.md. -/
def rSEC_CE_CTL : Nat := 0x40090100
def SEC_CE_CTL.GO : Fld := ⟨31, 31, .wo⟩
def SEC_CE_CTL.OP : Fld := ⟨27, 24, .rw⟩
def SEC_CE_CTL.KSEL : Fld := ⟨19, 16, .rw⟩
/-- SEC_CE_LEN: 32 bits of spec/23_key_store_tamper_and_alarm.md. -/
def rSEC_CE_LEN : Nat := 0x40090104
def SEC_CE_LEN.ALEN : Fld := ⟨27, 16, .rw⟩
def SEC_CE_LEN.LEN : Fld := ⟨12, 0, .rw⟩
/-- SEC_CE_STAT: 32 bits of spec/23_key_store_tamper_and_alarm.md. -/
def rSEC_CE_STAT : Nat := 0x40090108
def SEC_CE_STAT.BUSY : Fld := ⟨31, 31, .ro⟩
def SEC_CE_STAT.BUFCOL : Fld := ⟨30, 30, .w1c⟩
def SEC_CE_STAT.RESULT : Fld := ⟨3, 0, .ro⟩
/-- SEC_CE_OUT_i: 32 bits of spec/23_key_store_tamper_and_alarm.md; i = 0 to 7. -/
def rSEC_CE_OUT (i : Nat) : Nat := 0x40090120 + 0x4 * i
def SEC_CE_OUT.BYTES : Fld := ⟨31, 0, .ro⟩
/-- SEC_CE_LABEL_i: 32 bits of spec/23_key_store_tamper_and_alarm.md; i = 0 to 7. -/
def rSEC_CE_LABEL (i : Nat) : Nat := 0x40090140 + 0x4 * i
def SEC_CE_LABEL.BYTES : Fld := ⟨31, 0, .rw⟩
/-- SEC_CE_BUF_w: 32 bits of spec/23_key_store_tamper_and_alarm.md; w = 0 to 1023. -/
def rSEC_CE_BUF (w : Nat) : Nat := 0x40091000 + 0x4 * w
def SEC_CE_BUF.BYTES : Fld := ⟨31, 0, .rw⟩

/-- The registers of block RST (index 0 of R182). -/
def regsRST : List RegDesc :=
  [
    ⟨"RST_ID", 0x40000000, [], false, 0x48961000, [RST_ID.PART, RST_ID.STEP]⟩,
    ⟨"RST_CAUSE", 0x40000004, [], false, 0x0, [RST_CAUSE.SRC, RST_CAUSE.CAUSE]⟩,
    ⟨"RST_CTL", 0x40000008, [], false, 0x0, [RST_CTL.KEY, RST_CTL.CHIP]⟩,
    ⟨"RST_BLK", 0x4000000C, [], false, 0x0, [RST_BLK.KEY, RST_BLK.BLOCK]⟩,
    ⟨"RST_BLK_STAT", 0x40000010, [], true, 0x0, [RST_BLK_STAT.HELD]⟩,
    ⟨"RST_BOOT_STAT", 0x40000018, [], false, 0x0, [RST_BOOT_STAT.PFAIL_B, RST_BOOT_STAT.PFAIL_A, RST_BOOT_STAT.BOOTSEL, RST_BOOT_STAT.FAIL_B, RST_BOOT_STAT.FAIL_A, RST_BOOT_STAT.DIR_BAD1, RST_BOOT_STAT.DIR_BAD0, RST_BOOT_STAT.MAINT, RST_BOOT_STAT.PROF, RST_BOOT_STAT.TRIAL, RST_BOOT_STAT.SLOT]⟩,
    ⟨"RST_BOOT_VER", 0x4000001C, [], false, 0x0, [RST_BOOT_VER.VERSION]⟩,
    ⟨"RST_TRIAL", 0x40000020, [], false, 0x0, [RST_TRIAL.FAILED, RST_TRIAL.ARMED]⟩,
    ⟨"RST_BOOT_TIME", 0x40000024, [], false, 0x0, [RST_BOOT_TIME.US]⟩ ]

/-- The registers of block PWR (index 1 of R182). -/
def regsPWR : List RegDesc :=
  [
    ⟨"PWR_UPTIME", 0x40010000, [], true, 0x0, [PWR_UPTIME.US]⟩,
    ⟨"PWR_STAT", 0x40010008, [], false, 0x0, [PWR_STAT.VSEL]⟩,
    ⟨"PWR_WAKE_LEAD", 0x40010010, [], false, 0x1F4, [PWR_WAKE_LEAD.TICKS]⟩,
    ⟨"PWR_MIN_OFF", 0x40010014, [], false, 0x4E2, [PWR_MIN_OFF.TICKS]⟩,
    ⟨"PWR_WAKE_LATE_CNT", 0x40010018, [], false, 0x0, [PWR_WAKE_LATE_CNT.CNT]⟩,
    ⟨"PWR_DOM_CTL", 0x40010100, [(136, 0x4)], false, 0x0, [PWR_DOM_CTL.HOLD, PWR_DOM_CTL.MODE]⟩,
    ⟨"PWR_DOM_STAT", 0x40010400, [(136, 0x4)], false, 0x0, [PWR_DOM_STAT.WAKE_LATE, PWR_DOM_STAT.STATE]⟩ ]

/-- The registers of block WTB (index 2 of R182). -/
def regsWTB : List RegDesc :=
  [
    ⟨"WTB_CTL", 0x40020000, [], false, 0x0, [WTB_CTL.AVS_RAIL, WTB_CTL.AVS_DIV, WTB_CTL.IFACE, WTB_CTL.MODE]⟩,
    ⟨"WTB_FLOOR", 0x40020004, [], false, 0x0, [WTB_FLOOR.CODE]⟩,
    ⟨"WTB_CEIL", 0x40020008, [], false, 0x28, [WTB_CEIL.CODE]⟩,
    ⟨"WTB_TARGET", 0x4002000C, [], false, 0x28, [WTB_TARGET.CODE]⟩,
    ⟨"WTB_CUR", 0x40020010, [], false, 0x0, [WTB_CUR.VALID, WTB_CUR.CODE]⟩,
    ⟨"WTB_LOOP", 0x40020014, [], false, 0x40008, [WTB_LOOP.STEP_MISS, WTB_LOOP.EVAL]⟩,
    ⟨"WTB_SLACK", 0x40020018, [], false, 0x4E204E2, [WTB_SLACK.SLK_BAND, WTB_SLACK.SLK_TGT]⟩,
    ⟨"WTB_SETTLE", 0x4002001C, [], false, 0xC8, [WTB_SETTLE.US]⟩,
    ⟨"WTB_VID_BASE", 0x40020020, [], false, 0x0, [WTB_VID_BASE.CODE]⟩,
    ⟨"WTB_MON_MASK_LO", 0x40020024, [], false, 0xFFFFFFFF, [WTB_MON_MASK_LO.EN]⟩,
    ⟨"WTB_MON_MASK_HI", 0x40020028, [], false, 0xF, [WTB_MON_MASK_HI.EN]⟩,
    ⟨"WTB_STAT", 0x4002002C, [], false, 0x0, [WTB_STAT.CEIL_HIT_CNT, WTB_STAT.AVS_ERR, WTB_STAT.BOUND_ERR, WTB_STAT.AT_FLOOR, WTB_STAT.AT_CEIL]⟩ ]

/-- The registers of block GAL (index 3 of R182). -/
def regsGAL : List RegDesc :=
  [
    ⟨"GAL_CTL", 0x40030000, [], false, 0x0, [GAL_CTL.RESTORE, GAL_CTL.TXSYN, GAL_CTL.IDMODE, GAL_CTL.RING, GAL_CTL.HEAD, GAL_CTL.EN]⟩,
    ⟨"GAL_ETYPE", 0x40030004, [], false, 0x88B5, [GAL_ETYPE.ETYPE]⟩,
    ⟨"GAL_MAC_HI", 0x40030008, [], false, 0x0, [GAL_MAC_HI.MAC]⟩,
    ⟨"GAL_MAC_LO", 0x4003000C, [], false, 0x0, [GAL_MAC_LO.MAC]⟩,
    ⟨"GAL_NODE", 0x40030010, [], false, 0x30, [GAL_NODE.STORED_ID, GAL_NODE.ID, GAL_NODE.POS, GAL_NODE.ARM, GAL_NODE.WRAP, GAL_NODE.ROLE]⟩,
    ⟨"GAL_STAT", 0x40030014, [], false, 0x0, [GAL_STAT.FAM_ERR, GAL_STAT.RELAY_LATE, GAL_STAT.RELAY_SHORT, GAL_STAT.SET_REJ, GAL_STAT.P_CHG, GAL_STAT.DUP, GAL_STAT.LATE, GAL_STAT.TALK_CLASH, GAL_STAT.HEAD_CONFLICT, GAL_STAT.TXFULL]⟩,
    ⟨"GAL_PORT", 0x40030020, [(2, 0x8)], false, 0x0, [GAL_PORT.PRST_REL, GAL_PORT.MGMT, GAL_PORT.RXDLY, GAL_PORT.TXDLY]⟩,
    ⟨"GAL_PORT_STAT", 0x40030024, [(2, 0x8)], false, 0x0, [GAL_PORT_STAT.GLINK, GAL_PORT_STAT.STANDBY, GAL_PORT_STAT.SPEED, GAL_PORT_STAT.FDX, GAL_PORT_STAT.PHY_UP]⟩,
    ⟨"GAL_MDIO", 0x40030030, [], false, 0x0, [GAL_MDIO.GO, GAL_MDIO.WR, GAL_MDIO.BUSY, GAL_MDIO.PHYAD, GAL_MDIO.REGAD, GAL_MDIO.DATA]⟩,
    ⟨"GAL_CYC_CTL", 0x40030040, [], false, 0x88007D0, [GAL_CYC_CTL.FAM, GAL_CYC_CTL.LBLK, GAL_CYC_CTL.N_L, GAL_CYC_CTL.TRIM, GAL_CYC_CTL.P_US]⟩,
    ⟨"GAL_CYC_STAT", 0x40030044, [], false, 0x0, [GAL_CYC_STAT.FAM, GAL_CYC_STAT.LBLK, GAL_CYC_STAT.N_L, GAL_CYC_STAT.P_US]⟩,
    ⟨"GAL_LOSTCNT", 0x40030048, [], true, 0x0, [GAL_LOSTCNT.OVF, GAL_LOSTCNT.CNT]⟩ ] ++
  [
    ⟨"GAL_CLASH_CNT", 0x40030050, [], false, 0x0, [GAL_CLASH_CNT.CNT]⟩,
    ⟨"GAL_ETH_DROP", 0x40030070, [], false, 0x0, [GAL_ETH_DROP.CNT]⟩,
    ⟨"GAL_FCS", 0x40030054, [(2, 0x4)], false, 0x0, [GAL_FCS.STOMP, GAL_FCS.BAD]⟩,
    ⟨"GAL_LDLY", 0x4003005C, [(2, 0x4)], false, 0x0, [GAL_LDLY.VALUE]⟩,
    ⟨"GAL_ASYM", 0x40030064, [(2, 0x4)], false, 0x0, [GAL_ASYM.VALUE]⟩,
    ⟨"GAL_WRAP", 0x4003006C, [], false, 0x0, [GAL_WRAP.FAR_TURN, GAL_WRAP.NEAR_TURN, GAL_WRAP.RLAG]⟩,
    ⟨"GAL_TXMSG", 0x40030100, [(8, 0x4)], false, 0x0, [GAL_TXMSG.BYTES]⟩,
    ⟨"GAL_RXMSG", 0x40030140, [(8, 0x4)], false, 0x0, [GAL_RXMSG.BYTES]⟩,
    ⟨"GAL_TXMSG_CTL", 0x40030120, [], false, 0x0, [GAL_TXMSG_CTL.DROP, GAL_TXMSG_CTL.GO, GAL_TXMSG_CTL.LEVEL]⟩,
    ⟨"GAL_RXMSG_CTL", 0x40030160, [], false, 0x0, [GAL_RXMSG_CTL.DROP, GAL_RXMSG_CTL.POP, GAL_RXMSG_CTL.LEVEL]⟩,
    ⟨"GAL_SETTX", 0x40030170, [], false, 0x0, [GAL_SETTX.GO, GAL_SETTX.BUSY, GAL_SETTX.DST_SLOT, GAL_SETTX.DEST, GAL_SETTX.SRC_SLOT]⟩,
    ⟨"GAL_ETH_RX", 0x40030180, [], false, 0x0, [GAL_ETH_RX.LEN, GAL_ETH_RX.BASE]⟩ ] ++
  [
    ⟨"GAL_ETH_TX", 0x40030184, [], false, 0x0, [GAL_ETH_TX.LEN, GAL_ETH_TX.BASE]⟩,
    ⟨"GAL_ETH_CTL", 0x40030188, [], false, 0x0, [GAL_ETH_CTL.TXPOLL, GAL_ETH_CTL.TXEN, GAL_ETH_CTL.RXEN]⟩,
    ⟨"GAL_NSTAT", 0x40030200, [(64, 0x4)], false, 0x0, [GAL_NSTAT.ENTRY]⟩ ]

/-- The registers of block DTM (index 4 of R182). -/
def regsDTM : List RegDesc :=
  [
    ⟨"DTM_CYC_CTL", 0x40040C00, [], false, 0x2, [DTM_CYC_CTL.FAM, DTM_CYC_CTL.MISS_MUTE, DTM_CYC_CTL.DL_APPLY]⟩,
    ⟨"DTM_CYC_STAT", 0x40040C04, [], false, 0x0, [DTM_CYC_STAT.DL_CFG_ERR, DTM_CYC_STAT.DL_PENDING]⟩,
    ⟨"DTM_DL_FLW", 0x40040C10, [], false, 0x5DC, [DTM_DL_FLW.TICKS]⟩,
    ⟨"DTM_DL_PRE", 0x40040C14, [], false, 0x30D4, [DTM_DL_PRE.TICKS]⟩,
    ⟨"DTM_DL_MIX", 0x40040C18, [], false, 0x445C, [DTM_DL_MIX.TICKS]⟩,
    ⟨"DTM_DL_POST", 0x40040C1C, [], false, 0x704E, [DTM_DL_POST.TICKS]⟩,
    ⟨"DTM_DL_FREE", 0x40040C20, [], false, 0x7530, [DTM_DL_FREE.TICKS]⟩,
    ⟨"DTM_DL_BRG", 0x40040C24, [], false, 0x7530, [DTM_DL_BRG.TICKS]⟩,
    ⟨"DTM_DL_LIT", 0x40040C28, [], false, 0x6B6C, [DTM_DL_LIT.TICKS]⟩,
    ⟨"DTM_CHM_STAGE", 0x40040C30, [], false, 0x0, [DTM_CHM_STAGE.STAGE]⟩,
    ⟨"DTM_MISS_FLAG_LO", 0x40040C40, [], false, 0x0, [DTM_MISS_FLAG_LO.MISS]⟩,
    ⟨"DTM_MISS_FLAG_HI", 0x40040C44, [], false, 0x0, [DTM_MISS_FLAG_HI.MISS]⟩ ] ++
  [
    ⟨"DTM_DL_SLACK", 0x40040D00, [(36, 0x10)], false, 0x0, [DTM_DL_SLACK.LAST_SLACK]⟩,
    ⟨"DTM_DL_MIN", 0x40040D04, [(36, 0x10)], false, 0x1FFFF, [DTM_DL_MIN.MIN_CLR, DTM_DL_MIN.MIN_SLACK]⟩,
    ⟨"DTM_DL_MISS", 0x40040D08, [(36, 0x10)], true, 0x0, [DTM_DL_MISS.OVF, DTM_DL_MISS.CNT]⟩,
    ⟨"DTM_CTL", 0x40040000, [], false, 0x2, [DTM_CTL.AUTO_GAIN, DTM_CTL.MODE]⟩,
    ⟨"DTM_STAT", 0x40040004, [], false, 0x0, [DTM_STAT.SET_PEND, DTM_STAT.STEPPED, DTM_STAT.TV_LOST, DTM_STAT.ADD_CLAMP, DTM_STAT.TIME_VALID]⟩,
    ⟨"DTM_TV", 0x40040008, [], false, 0x0, [DTM_TV.CLR, DTM_TV.SET]⟩,
    ⟨"DTM_ADDEND", 0x4004000C, [], false, 0x40000000, [DTM_ADDEND.ADDEND]⟩,
    ⟨"DTM_TB_NS", 0x40040010, [], true, 0x0, [DTM_TB_NS.VALUE]⟩,
    ⟨"DTM_TB_SEC", 0x40040018, [], true, 0x0, [DTM_TB_SEC.VALUE]⟩,
    ⟨"DTM_CYCLE", 0x40040020, [], true, 0x0, [DTM_CYCLE.VALUE]⟩,
    ⟨"DTM_SET_NS", 0x40040028, [], true, 0x0, [DTM_SET_NS.VALUE]⟩,
    ⟨"DTM_SET_SEC", 0x40040030, [], true, 0x0, [DTM_SET_SEC.VALUE]⟩ ] ++
  [
    ⟨"DTM_SET_CTL", 0x40040038, [], false, 0x0, [DTM_SET_CTL.GO]⟩,
    ⟨"DTM_STEP", 0x40040040, [], true, 0x0, [DTM_STEP.OFS]⟩,
    ⟨"DTM_SRV_KP", 0x40040050, [], false, 0x0, [DTM_SRV_KP.E, DTM_SRV_KP.M]⟩,
    ⟨"DTM_SRV_KI", 0x40040054, [], false, 0x0, [DTM_SRV_KI.E, DTM_SRV_KI.M]⟩,
    ⟨"DTM_SRV_THR", 0x40040058, [], false, 0x6403E8, [DTM_SRV_THR.LOCK_THR, DTM_SRV_THR.UNLOCK_THR]⟩,
    ⟨"DTM_SRV_CNT", 0x4004005C, [], false, 0x104008, [DTM_SRV_CNT.HOLD_TV, DTM_SRV_CNT.LOCK_CNT, DTM_SRV_CNT.UNLOCK_CNT]⟩,
    ⟨"DTM_SRV_STEP", 0x40040060, [], false, 0x2710, [DTM_SRV_STEP.STEP_THR]⟩,
    ⟨"DTM_SRV_OFS", 0x40040068, [], true, 0x0, [DTM_SRV_OFS.THETA]⟩,
    ⟨"DTM_PTP_OFS", 0x40040078, [], true, 0x0, [DTM_PTP_OFS.THETA]⟩,
    ⟨"DTM_SRV_INT", 0x40040070, [], false, 0x0, [DTM_SRV_INT.I]⟩,
    ⟨"DTM_SRV_SKIP", 0x40040074, [], false, 0x0, [DTM_SRV_SKIP.CNT]⟩,
    ⟨"DTM_PTP_CTL", 0x40040100, [], false, 0x0, [DTM_PTP_CTL.USE_GAL, DTM_PTP_CTL.TC_P2P, DTM_PTP_CTL.TC_EN, DTM_PTP_CTL.ONESTEP, DTM_PTP_CTL.IPV6, DTM_PTP_CTL.IPV4, DTM_PTP_CTL.L2]⟩ ] ++
  [
    ⟨"DTM_PTP_LAT", 0x40040108, [(2, 0x4)], false, 0x0, [DTM_PTP_LAT.VALUE]⟩,
    ⟨"DTM_PTP_LDLY", 0x40040110, [(2, 0x4)], false, 0x0, [DTM_PTP_LDLY.VALUE]⟩,
    ⟨"DTM_PTS_ID", 0x40040120, [], false, 0x0, [DTM_PTS_ID.SEQID, DTM_PTS_ID.DOMAIN, DTM_PTS_ID.MSG, DTM_PTS_ID.DIR, DTM_PTS_ID.PORT, DTM_PTS_ID.VALID]⟩,
    ⟨"DTM_PTS_SEC", 0x40040128, [], true, 0x0, [DTM_PTS_SEC.VALUE]⟩,
    ⟨"DTM_PTS_NS", 0x40040130, [], true, 0x0, [DTM_PTS_NS.VALUE]⟩,
    ⟨"DTM_PTS_CTL", 0x40040138, [], false, 0x0, [DTM_PTS_CTL.DROP, DTM_PTS_CTL.POP, DTM_PTS_CTL.LEVEL]⟩,
    ⟨"DTM_TC_SKIP", 0x4004013C, [], false, 0x0, [DTM_TC_SKIP.CNT]⟩,
    ⟨"DTM_REF_CTL", 0x40040200, [], false, 0x190C0100, [DTM_REF_CTL.HWIN, DTM_REF_CTL.BW, DTM_REF_CTL.REVERT, DTM_REF_CTL.FORCE, DTM_REF_CTL.FSRC]⟩,
    ⟨"DTM_REF_SLOPE", 0x40040204, [], false, 0x3E8, [DTM_REF_SLOPE.SLOPE]⟩,
    ⟨"DTM_REF_XOTRIM", 0x40040208, [], false, 0x0, [DTM_REF_XOTRIM.TRIM]⟩,
    ⟨"DTM_REF_IN", 0x4004020C, [], false, 0x10500, [DTM_REF_IN.WDIV, DTM_REF_IN.WEDGE, DTM_REF_IN.PEDGE, DTM_REF_IN.SAPSEL, DTM_REF_IN.PTP_LOG]⟩,
    ⟨"DTM_REF_INOFS_P", 0x40040210, [], false, 0x0, [DTM_REF_INOFS_P.OFS]⟩ ] ++
  [
    ⟨"DTM_REF_INOFS_W", 0x40040214, [], false, 0x0, [DTM_REF_INOFS_W.OFS]⟩,
    ⟨"DTM_REF_STAT", 0x40040218, [], false, 0x17, [DTM_REF_STAT.BW_EFF, DTM_REF_STAT.BW_LIM, DTM_REF_STAT.FORCED, DTM_REF_STAT.PULL, DTM_REF_STAT.HOLD, DTM_REF_STAT.SEL]⟩,
    ⟨"DTM_SWITCH_CNT", 0x4004021C, [], false, 0x0, [DTM_SWITCH_CNT.HOLDS, DTM_SWITCH_CNT.SWITCHES]⟩,
    ⟨"DTM_REF_CFG", 0x40040220, [(6, 0x10)], false, 0x36400, [DTM_REF_CFG.LOS, DTM_REF_CFG.FTOL, DTM_REF_CFG.PRIO]⟩,
    ⟨"DTM_REF_QUAL", 0x40040224, [(6, 0x10)], false, 0x32001F4, [DTM_REF_QUAL.QUAL, DTM_REF_QUAL.PTOL]⟩,
    ⟨"DTM_REF_MON", 0x40040228, [(6, 0x10)], false, 0x0, [DTM_REF_MON.FOFS, DTM_REF_MON.HITS, DTM_REF_MON.LOCKF, DTM_REF_MON.HIT, DTM_REF_MON.FREQ, DTM_REF_MON.LOS, DTM_REF_MON.QUAL]⟩,
    ⟨"DTM_HOLD", 0x40040280, [], false, 0x0, [DTM_HOLD.VALUE]⟩,
    ⟨"DTM_HOLD_N", 0x40040284, [], false, 0x0, [DTM_HOLD_N.VALUE]⟩,
    ⟨"DTM_PULL", 0x40040288, [], true, 0x0, [DTM_PULL.PI]⟩,
    ⟨"DTM_PPSO_CTL", 0x40040380, [], false, 0x186A0, [DTM_PPSO_CTL.EN, DTM_PPSO_CTL.WIDTH]⟩,
    ⟨"DTM_FRMO_CTL", 0x40040388, [], false, 0x1, [DTM_FRMO_CTL.EN, DTM_FRMO_CTL.FDIV]⟩,
    ⟨"DTM_PPSO_OFS", 0x40040384, [], false, 0x0, [DTM_PPSO_OFS.OFS]⟩ ] ++
  [
    ⟨"DTM_FRMO_OFS", 0x4004038C, [], false, 0x0, [DTM_FRMO_OFS.OFS]⟩ ]

/-- The registers of block CRN (index 5 of R182). -/
def regsCRN : List RegDesc :=
  [
    ⟨"CRN_CTL", 0x40050000, [], false, 0x0, [CRN_CTL.EN]⟩,
    ⟨"CRN_STAT", 0x40050004, [], false, 0x0, [CRN_STAT.LEVEL, CRN_STAT.PEND, CRN_STAT.OVERRUN]⟩,
    ⟨"CRN_CYCDIV", 0x40050008, [], false, 0x1F40, [CRN_CYCDIV.SAP, CRN_CYCDIV.DIV]⟩,
    ⟨"CRN_PIN", 0x40050010, [(16, 0x4)], false, 0x0, [CRN_PIN.EDGE, CRN_PIN.GLITCH]⟩,
    ⟨"CRN_ENT_HDR", 0x40050100, [], true, 0x0, [CRN_ENT_HDR.VALID, CRN_ENT_HDR.KIND, CRN_ENT_HDR.LEVEL, CRN_ENT_HDR.TV, CRN_ENT_HDR.SRC, CRN_ENT_HDR.SEQ, CRN_ENT_HDR.COUNT]⟩,
    ⟨"CRN_ENT_SEC", 0x40050108, [], true, 0x0, [CRN_ENT_SEC.VALUE]⟩,
    ⟨"CRN_ENT_NS", 0x40050110, [], true, 0x0, [CRN_ENT_NS.VALUE]⟩,
    ⟨"CRN_ENT_LSEC", 0x40050118, [], true, 0x0, [CRN_ENT_LSEC.VALUE]⟩,
    ⟨"CRN_ENT_LNS", 0x40050120, [], true, 0x0, [CRN_ENT_LNS.VALUE]⟩,
    ⟨"CRN_POP", 0x40050128, [], false, 0x0, [CRN_POP.FLUSH, CRN_POP.POP]⟩,
    ⟨"CRN_LOST", 0x40050130, [], true, 0x0, [CRN_LOST.OVF, CRN_LOST.CNT]⟩,
    ⟨"CRN_FAST_CNT", 0x40050138, [], false, 0x0, [CRN_FAST_CNT.CNT]⟩ ]

/-- The registers of block SYN (index 6 of R182). -/
def regsSYN : List RegDesc :=
  [
    ⟨"SYN_CTL", 0x40060000, [(3, 0x20)], false, 0x620000, [SYN_CTL.NINT, SYN_CTL.PDIV, SYN_CTL.ALIGN, SYN_CTL.TRACK, SYN_CTL.EN]⟩,
    ⟨"SYN_FRAC", 0x40060004, [(3, 0x20)], false, 0x4DD2F1, [SYN_FRAC.FRAC]⟩,
    ⟨"SYN_DIV", 0x40060008, [(3, 0x20)], false, 0xC000064, [SYN_DIV.ADIV, SYN_DIV.ODIV]⟩,
    ⟨"SYN_PHASE", 0x4006000C, [(3, 0x20)], false, 0x0, [SYN_PHASE.PEND, SYN_PHASE.STEP]⟩,
    ⟨"SYN_STAT", 0x40060010, [(3, 0x20)], false, 0x0, [SYN_STAT.AERR, SYN_STAT.CFG_ERR, SYN_STAT.UNLOCK, SYN_STAT.ALIGNED, SYN_STAT.LOCK]⟩,
    ⟨"SYN_CKO", 0x40060100, [(6, 0x4)], false, 0x0, [SYN_CKO.CDIV, SYN_CKO.SRC, SYN_CKO.DIS, SYN_CKO.FMT]⟩ ]

/-- The registers of block SMP (index 7 of R182). -/
def regsSMP : List RegDesc :=
  [
    ⟨"SMP_CTL", 0x40070000, [], false, 0x0, [SMP_CTL.LOG_CLR, SMP_CTL.LOCK]⟩,
    ⟨"SMP_PEND", 0x40070004, [], false, 0x0, [SMP_PEND.CLASS]⟩,
    ⟨"SMP_NERR", 0x4007000C, [], false, 0x0, [SMP_NERR.CLASS]⟩,
    ⟨"SMP_ACK", 0x40070008, [], false, 0x0, [SMP_ACK.ACK]⟩,
    ⟨"SMP_NMI", 0x40070010, [], false, 0x0, [SMP_NMI.CLASS, SMP_NMI.SRC]⟩,
    ⟨"SMP_LOG_STAT", 0x40070014, [], false, 0x0, [SMP_LOG_STAT.CLEARING, SMP_LOG_STAT.LOG_ERR, SMP_LOG_STAT.PEND, SMP_LOG_STAT.OVR, SMP_LOG_STAT.LEVEL, SMP_LOG_STAT.WR]⟩,
    ⟨"SMP_LOG_SEQ", 0x40070018, [], false, 0x0, [SMP_LOG_SEQ.VALUE]⟩,
    ⟨"SMP_LOG_ERRCNT", 0x4007001C, [], false, 0x0, [SMP_LOG_ERRCNT.VALUE]⟩,
    ⟨"SMP_TOTAL", 0x40070020, [], true, 0x0, [SMP_TOTAL.OVF, SMP_TOTAL.CNT]⟩,
    ⟨"SMP_LOST", 0x40070028, [], true, 0x0, [SMP_LOST.OVF, SMP_LOST.CNT]⟩,
    ⟨"SMP_CLS", 0x40070040, [(8, 0x4)], false, 0x0, [SMP_CLS.PEND, SMP_CLS.LEVEL, SMP_CLS.SRC, SMP_CLS.CNT]⟩,
    ⟨"SMP_SRC", 0x40070100, [(160, 0x4)], false, 0xC0000000, [SMP_SRC.EN, SMP_SRC.LOG, SMP_SRC.NERR, SMP_SRC.LEVEL]⟩ ] ++
  [
    ⟨"SMP_CNT", 0x40070400, [(160, 0x4)], false, 0x0, [SMP_CNT.CNT]⟩ ]

/-- The registers of block GTE (index 8 of R182). -/
def regsGTE : List RegDesc :=
  [
    ⟨"GTE_STAT", 0x40080000, [], false, 0x0, [GTE_STAT.LOCK, GTE_STAT.MAINT, GTE_STAT.ZERO]⟩,
    ⟨"GTE_ID", 0x40080004, [], false, 0x0, [GTE_ID.FIXTURE_ID]⟩,
    ⟨"GTE_TRIP", 0x40080008, [], false, 0x0, [GTE_TRIP.LOCKOUT, GTE_TRIP.TRIPPED]⟩,
    ⟨"GTE_TRIPL", 0x4008000C, [], false, 0x0, [GTE_TRIPL.REL_REF, GTE_TRIPL.CMP, GTE_TRIPL.GRP]⟩,
    ⟨"GTE_REL", 0x40080010, [], false, 0x0, [GTE_REL.REL]⟩,
    ⟨"GTE_AXIS", 0x40080020, [(4, 0x4)], false, 0x0, [GTE_AXIS.TRV, GTE_AXIS.SPD, GTE_AXIS.STALE, GTE_AXIS.POS]⟩,
    ⟨"GTE_LED_PWR", 0x40080030, [], false, 0x0, [GTE_LED_PWR.PWR]⟩,
    ⟨"GTE_LIM", 0x40080034, [], false, 0x0, [GTE_LIM.FLK_L, GTE_LIM.FLK, GTE_LIM.SPK, GTE_LIM.PWR_M]⟩,
    ⟨"GTE_SPK", 0x40080040, [(4, 0x4)], false, 0x80000000, [GTE_SPK.GAIN, GTE_SPK.PKCNT]⟩,
    ⟨"GTE_FLK_CNT", 0x40080050, [], false, 0x0, [GTE_FLK_CNT.CNT]⟩,
    ⟨"GTE_REC", 0x40081000, [(256, 0x4)], false, 0x0, [GTE_REC.WORD]⟩ ]

/-- The registers of block SEC (index 9 of R182). -/
def regsSEC : List RegDesc :=
  [
    ⟨"SEC_CTL", 0x40090000, [], false, 0x0, [SEC_CTL.LOCK]⟩,
    ⟨"SEC_STAT", 0x40090004, [], false, 0x0, [SEC_STAT.LIC_VALID, SEC_STAT.LIC_SLOT, SEC_STAT.MAINT_ERASE, SEC_STAT.RNG_FAIL, SEC_STAT.ERASING, SEC_STAT.KEYWR]⟩,
    ⟨"SEC_ROT", 0x40090008, [], false, 0x0, [SEC_ROT.GO, SEC_ROT.OP, SEC_ROT.SLOT]⟩,
    ⟨"SEC_ROT_STAT", 0x4009000C, [], false, 0xF, [SEC_ROT_STAT.BUSY, SEC_ROT_STAT.ROT_ABORT, SEC_ROT_STAT.RESULT]⟩,
    ⟨"SEC_ALM", 0x40090040, [(7, 0x4)], false, 0x0, [SEC_ALM.ACTION]⟩,
    ⟨"SEC_TAMP_CFG", 0x40090060, [(4, 0x4)], false, 0x0, [SEC_TAMP_CFG.EN, SEC_TAMP_CFG.POL, SEC_TAMP_CFG.DEB]⟩,
    ⟨"SEC_MESH", 0x40090070, [], false, 0x0, [SEC_MESH.EN]⟩,
    ⟨"SEC_VIOL", 0x40090080, [], false, 0x0, [SEC_VIOL.TLEVEL, SEC_VIOL.VIOL]⟩,
    ⟨"SEC_DBG", 0x40090084, [], false, 0x0, [SEC_DBG.REOPEN, SEC_DBG.STATE, SEC_DBG.FAIL]⟩,
    ⟨"SEC_CE_CTL", 0x40090100, [], false, 0x0, [SEC_CE_CTL.GO, SEC_CE_CTL.OP, SEC_CE_CTL.KSEL]⟩,
    ⟨"SEC_CE_LEN", 0x40090104, [], false, 0x0, [SEC_CE_LEN.ALEN, SEC_CE_LEN.LEN]⟩,
    ⟨"SEC_CE_STAT", 0x40090108, [], false, 0x0, [SEC_CE_STAT.BUSY, SEC_CE_STAT.BUFCOL, SEC_CE_STAT.RESULT]⟩ ] ++
  [
    ⟨"SEC_CE_OUT", 0x40090120, [(8, 0x4)], false, 0x0, [SEC_CE_OUT.BYTES]⟩,
    ⟨"SEC_CE_LABEL", 0x40090140, [(8, 0x4)], false, 0x0, [SEC_CE_LABEL.BYTES]⟩,
    ⟨"SEC_CE_BUF", 0x40091000, [(1024, 0x4)], false, 0x0, [SEC_CE_BUF.BYTES]⟩ ]

/-- The registers of block MEM (index 10 of R182). -/
def regsMEM : List RegDesc :=
  [
    ⟨"MEM_CTL", 0x400A0000, [], false, 0x0, [MEM_CTL.SCRUB_EN]⟩,
    ⟨"MEM_SCRUB", 0x400A0004, [], false, 0xA, [MEM_SCRUB.SCRUB_US]⟩,
    ⟨"MEM_SCRUB_POS", 0x400A0008, [], false, 0x0, [MEM_SCRUB_POS.WORD]⟩,
    ⟨"MEM_STAT", 0x400A000C, [], false, 0x0, [MEM_STAT.UE, MEM_STAT.CE]⟩,
    ⟨"MEM_CE_ADDR", 0x400A0010, [], false, 0x0, [MEM_CE_ADDR.WORD]⟩,
    ⟨"MEM_UE_ADDR", 0x400A0014, [], false, 0x0, [MEM_UE_ADDR.WORD]⟩,
    ⟨"MEM_CE_CNT", 0x400A0018, [], true, 0x0, [MEM_CE_CNT.OVF, MEM_CE_CNT.CNT]⟩,
    ⟨"MEM_UE_CNT", 0x400A0020, [], true, 0x0, [MEM_UE_CNT.OVF, MEM_UE_CNT.CNT]⟩ ]

/-- The registers of block HWN (index 11 of R182). -/
def regsHWN : List RegDesc :=
  [
    ⟨"HWN_CTL", 0x400B0000, [], false, 0x0, [HWN_CTL.DB_EN]⟩,
    ⟨"HWN_STAT", 0x400B0004, [], false, 0x0, [HWN_STAT.HMODE, HWN_STAT.BADCMD, HWN_STAT.COLL_B, HWN_STAT.COLL_A]⟩,
    ⟨"HWN_COLL_ADDR", 0x400B0008, [], false, 0x0, [HWN_COLL_ADDR.WORD]⟩,
    ⟨"HWN_COLL_CNT", 0x400B000C, [], false, 0x0, [HWN_COLL_CNT.CNT]⟩,
    ⟨"HWN_DB_IN", 0x400B0010, [], false, 0x0, [HWN_DB_IN.DB]⟩,
    ⟨"HWN_DB_OUT", 0x400B0014, [], false, 0x0, [HWN_DB_OUT.DB]⟩ ]

/-- The registers of block SPH (index 12 of R182). -/
def regsSPH : List RegDesc :=
  [
    ⟨"SPH_TRIG", 0x400C0000, [], false, 0x0, [SPH_TRIG.CH]⟩,
    ⟨"SPH_CTL", 0x400C0100, [(16, 0x20)], false, 0x0, [SPH_CTL.EN, SPH_CTL.TRIG]⟩,
    ⟨"SPH_DESC", 0x400C0104, [(16, 0x20)], false, 0x0, [SPH_DESC.ADDR]⟩,
    ⟨"SPH_CUR", 0x400C0108, [(16, 0x20)], false, 0x0, [SPH_CUR.ADDR]⟩,
    ⟨"SPH_STAT", 0x400C010C, [(16, 0x20)], false, 0x0, [SPH_STAT.BUSY, SPH_STAT.PEND, SPH_STAT.DONE, SPH_STAT.BLK, SPH_STAT.ERR]⟩,
    ⟨"SPH_LEFT", 0x400C0110, [(16, 0x20)], false, 0x0, [SPH_LEFT.YLEFT, SPH_LEFT.XLEFT]⟩,
    ⟨"SPH_TDROP", 0x400C0114, [(16, 0x20)], false, 0x0, [SPH_TDROP.CNT]⟩ ]

/-- The registers of block BMX (index 13 of R182). -/
def regsBMX : List RegDesc :=
  [
    ⟨"BMX_CTL", 0x400D0000, [], false, 0x14, [BMX_CTL.TMO_US]⟩,
    ⟨"BMX_ERR_ADDR", 0x400D0010, [], false, 0x0, [BMX_ERR_ADDR.ADDR]⟩,
    ⟨"BMX_ERR_INFO", 0x400D0014, [], false, 0x0, [BMX_ERR_INFO.VALID, BMX_ERR_INFO.OVR, BMX_ERR_INFO.WR, BMX_ERR_INFO.CODE, BMX_ERR_INFO.ID, BMX_ERR_INFO.MASTER]⟩,
    ⟨"BMX_ERR_CNT", 0x400D0018, [], true, 0x0, [BMX_ERR_CNT.OVF, BMX_ERR_CNT.CNT]⟩,
    ⟨"BMX_OUT", 0x400D0100, [(6, 0x10)], false, 0x0, [BMX_OUT.PEAK_CLR, BMX_OUT.PEAK, BMX_OUT.OUT]⟩,
    ⟨"BMX_QSTALL", 0x400D0104, [(6, 0x10)], false, 0x0, [BMX_QSTALL.CNT]⟩ ]

/-- The registers of block GDE (index 14 of R182). -/
def regsGDE : List RegDesc :=
  [
    ⟨"GDE_STAT", 0x400E0000, [], false, 0x8, [GDE_STAT.HALT, GDE_STAT.NMI_PEND, GDE_STAT.NMI_ACT, GDE_STAT.BANK]⟩,
    ⟨"GDE_ROSTER_READY", 0x400E0004, [], false, 0x0, [GDE_ROSTER_READY.SLOT]⟩,
    ⟨"GDE_ROSTER_CANCEL", 0x400E0008, [], false, 0x0, [GDE_ROSTER_CANCEL.SLOT]⟩,
    ⟨"GDE_ROSTER_CUR", 0x400E000C, [], false, 0x8000, [GDE_ROSTER_CUR.BG, GDE_ROSTER_CUR.PRIO, GDE_ROSTER_CUR.SLOT]⟩,
    ⟨"GDE_ROSTER_PEND_LO", 0x400E0010, [], false, 0x0, [GDE_ROSTER_PEND_LO.PEND]⟩,
    ⟨"GDE_ROSTER_PEND_HI", 0x400E0014, [], false, 0x0, [GDE_ROSTER_PEND_HI.PEND]⟩,
    ⟨"GDE_ROSTER_ACT_LO", 0x400E0018, [], false, 0x0, [GDE_ROSTER_ACT_LO.ACT]⟩,
    ⟨"GDE_ROSTER_ACT_HI", 0x400E001C, [], false, 0x0, [GDE_ROSTER_ACT_HI.ACT]⟩,
    ⟨"GDE_ROSTER_RACE", 0x400E0020, [], true, 0x0, [GDE_ROSTER_RACE.OVF, GDE_ROSTER_RACE.CNT]⟩,
    ⟨"GDE_ROSTER_MERGE", 0x400E0028, [], true, 0x0, [GDE_ROSTER_MERGE.OVF, GDE_ROSTER_MERGE.CNT]⟩,
    ⟨"GDE_PERR", 0x400E0030, [], false, 0x0, [GDE_PERR.ADDR]⟩,
    ⟨"GDE_PERR_CNT", 0x400E0034, [], false, 0x0, [GDE_PERR_CNT.CNT]⟩ ] ++
  [
    ⟨"GDE_TASK_CFG", 0x400E0100, [(64, 0x10)], false, 0x0, [GDE_TASK_CFG.EN, GDE_TASK_CFG.SRC, GDE_TASK_CFG.PRIO]⟩,
    ⟨"GDE_TASK_ENTRY", 0x400E0104, [(64, 0x10)], false, 0x0, [GDE_TASK_ENTRY.ADDR]⟩,
    ⟨"GDE_TASK_ARG", 0x400E0108, [(64, 0x10)], false, 0x0, [GDE_TASK_ARG.ARG]⟩ ]

/-- The registers of block TIM (index 15 of R182). -/
def regsTIM : List RegDesc :=
  [
    ⟨"TIM_CTL", 0x400F0000, [(8, 0x20)], false, 0x0, [TIM_CTL.CHMEV, TIM_CTL.PRESC, TIM_CTL.TSEL, TIM_CTL.TICK, TIM_CTL.MODE]⟩,
    ⟨"TIM_CNT", 0x400F0004, [(8, 0x20)], false, 0x0, [TIM_CNT.CNT]⟩,
    ⟨"TIM_PERIOD", 0x400F0008, [(8, 0x20)], false, 0x0, [TIM_PERIOD.PERIOD]⟩,
    ⟨"TIM_CAP", 0x400F000C, [(8, 0x20)], false, 0x0, [TIM_CAP.CAP]⟩,
    ⟨"TIM_STAT", 0x400F0010, [(8, 0x20)], false, 0x0, [TIM_STAT.CAP_OVR, TIM_STAT.CAPF, TIM_STAT.OVF, TIM_STAT.EXP]⟩,
    ⟨"TIM_DEB", 0x400F0014, [(8, 0x20)], false, 0x0, [TIM_DEB.EDGE, TIM_DEB.TICKS]⟩ ]

/-- The registers of block CFL (index 16 of R182). -/
def regsCFL : List RegDesc :=
  [
    ⟨"CFL_CFG", 0x40100000, [], false, 0x0, [CFL_CFG.RATE]⟩,
    ⟨"CFL_DEB", 0x40100004, [], false, 0x8, [CFL_DEB.CYCLES]⟩,
    ⟨"CFL_STAT", 0x40100008, [], false, 0x0, [CFL_STAT.RING_ERR, CFL_STAT.RING_SHORT, CFL_STAT.XP_LOST, CFL_STAT.SEL_ERR]⟩,
    ⟨"CFL_RING_BASE", 0x4010000C, [], false, 0x0, [CFL_RING_BASE.WORD]⟩,
    ⟨"CFL_RING_LEN", 0x40100010, [], false, 0x0, [CFL_RING_LEN.WORD]⟩,
    ⟨"CFL_XP_ADDR", 0x40100014, [], false, 0x0, [CFL_XP_ADDR.BUS, CFL_XP_ADDR.INPUT]⟩,
    ⟨"CFL_XP_DATA", 0x40100018, [], false, 0x0, [CFL_XP_DATA.GAIN]⟩,
    ⟨"CFL_IN", 0x40100400, [(256, 0x4)], false, 0x40000000, [CFL_IN.ACTIVE, CFL_IN.MUTE, CFL_IN.SRC]⟩,
    ⟨"CFL_BUS", 0x40100800, [(64, 0x8)], false, 0x10, [CFL_BUS.PLANE, CFL_BUS.N, CFL_BUS.SAT, CFL_BUS.RND, CFL_BUS.LAW]⟩,
    ⟨"CFL_BUS_SCALE", 0x40100804, [(64, 0x8)], false, 0x80000000, [CFL_BUS_SCALE.SCALE]⟩,
    ⟨"CFL_CHM_IN", 0x40100A00, [(16, 0x8)], false, 0x0, [CFL_CHM_IN.PLANE, CFL_CHM_IN.CNT, CFL_CHM_IN.BASE]⟩,
    ⟨"CFL_CHM_OUT", 0x40100A04, [(16, 0x8)], false, 0x0, [CFL_CHM_OUT.PLANE, CFL_CHM_OUT.CNT, CFL_CHM_OUT.BASE]⟩ ] ++
  [
    ⟨"CFL_BRG_CFG", 0x40100C00, [(32, 0x10)], false, 0x0, [CFL_BRG_CFG.KIND]⟩,
    ⟨"CFL_BRG_SEL", 0x40100C04, [(32, 0x10)], false, 0x0, [CFL_BRG_SEL.DST, CFL_BRG_SEL.SRC]⟩,
    ⟨"CFL_BRG_STAT", 0x40100C08, [(32, 0x10)], false, 0x0, [CFL_BRG_STAT.COLL]⟩,
    ⟨"CFL_SAPOUT", 0x40100E00, [(128, 0x4)], false, 0x0, [CFL_SAPOUT.SRC]⟩,
    ⟨"CFL_CIN", 0x40101000, [(256, 0x4)], false, 0x0, [CFL_CIN.SRC]⟩,
    ⟨"CFL_TALK", 0x40102000, [(512, 0x4)], false, 0x0, [CFL_TALK.GRANT, CFL_TALK.SRC]⟩,
    ⟨"CFL_CS", 0x40103000, [(256, 0x4)], false, 0x0, [CFL_CS.VALUE]⟩,
    ⟨"CFL_LS", 0x40108000, [(4096, 0x4)], false, 0x0, [CFL_LS.VALUE]⟩ ]

/-- The registers of block FLW (index 17 of R182). -/
def regsFLW : List RegDesc :=
  [
    ⟨"FLW_STAT", 0x40110000, [], false, 0x0, [FLW_STAT.CHM_HELD, FLW_STAT.MORPH_CUT, FLW_STAT.PLANE_CHG, FLW_STAT.TIME_DROP, FLW_STAT.ARM_FAIL, FLW_STAT.CMD_ERR, FLW_STAT.ARMING, FLW_STAT.PENDING]⟩,
    ⟨"FLW_LAST", 0x40110008, [], true, 0x0, [FLW_LAST.VALID, FLW_LAST.REASON, FLW_LAST.SLOT, FLW_LAST.C]⟩,
    ⟨"FLW_BUSY_CNT", 0x40110010, [], false, 0x0, [FLW_BUSY_CNT.CNT]⟩,
    ⟨"FLW_ACT", 0x40110014, [], false, 0x0, [FLW_ACT.VALID, FLW_ACT.SLOT]⟩,
    ⟨"FLW_ACT_ID", 0x40110018, [], false, 0x0, [FLW_ACT_ID.SET_ID]⟩,
    ⟨"FLW_MORPH_BASE", 0x4011001C, [], false, 0x0, [FLW_MORPH_BASE.WORD]⟩,
    ⟨"FLW_CMD", 0x40110020, [], false, 0x0, [FLW_CMD.OP, FLW_CMD.SLOT]⟩,
    ⟨"FLW_CMT", 0x40110028, [], true, 0x0, [FLW_CMT.GO, FLW_CMT.CHAIN, FLW_CMT.DEST, FLW_CMT.SLOT, FLW_CMT.C]⟩,
    ⟨"FLW_SLOT_BASE", 0x40110100, [(16, 0x8)], false, 0x0, [FLW_SLOT_BASE.WORD]⟩,
    ⟨"FLW_SLOT_STAT", 0x40110104, [(16, 0x8)], false, 0x0, [FLW_SLOT_STAT.INUSE, FLW_SLOT_STAT.FAIL, FLW_SLOT_STAT.STATE]⟩ ]

/-- The registers of block SAP (index 18 of R182). -/
def regsSAP : List RegDesc :=
  [
    ⟨"SAP_CTL", 0x40120000, [(8, 0x100)], false, 0x1000000, [SAP_CTL.LEAD, SAP_CTL.HIZ, SAP_CTL.RND, SAP_CTL.MASTER, SAP_CTL.MODE, SAP_CTL.EN]⟩,
    ⟨"SAP_FMT", 0x40120004, [(8, 0x100)], false, 0x0, [SAP_FMT.BCK_INV, SAP_FMT.FS_INV, SAP_FMT.FSW, SAP_FMT.DLY, SAP_FMT.WLEN, SAP_FMT.SLOTW, SAP_FMT.SLOTS, SAP_FMT.FMT]⟩,
    ⟨"SAP_CLK", 0x40120008, [(8, 0x100)], false, 0x0, [SAP_CLK.DIV, SAP_CLK.SRC]⟩,
    ⟨"SAP_SLOT", 0x4012000C, [(8, 0x100)], false, 0x0, [SAP_SLOT.OUT_EN, SAP_SLOT.IN_EN]⟩,
    ⟨"SAP_STAT", 0x40120010, [(8, 0x100)], false, 0x0, [SAP_STAT.SAT, SAP_STAT.OUT_REP, SAP_STAT.OUT_DROP, SAP_STAT.IN_REP, SAP_STAT.IN_DROP, SAP_STAT.SYNC_LOST, SAP_STAT.CLK_LOSS, SAP_STAT.RATE_ERR, SAP_STAT.CFG_ERR, SAP_STAT.STATE]⟩,
    ⟨"SAP_FILL", 0x40120014, [(8, 0x100)], false, 0x0, [SAP_FILL.OUT, SAP_FILL.IN]⟩,
    ⟨"SAP_PHASE", 0x40120018, [(8, 0x100)], false, 0x0, [SAP_PHASE.PHASE]⟩,
    ⟨"SAP_SLIP", 0x40120020, [(8, 0x100)], true, 0x0, [SAP_SLIP.OVF, SAP_SLIP.CNT]⟩ ]

/-- The registers of block CLE (index 19 of R182). -/
def regsCLE : List RegDesc :=
  [
    ⟨"CLE_STAT", 0x40130000, [], false, 0x0, [CLE_STAT.CFG_ERR]⟩,
    ⟨"CLE_SWAP", 0x40130004, [], false, 0x0, [CLE_SWAP.CMT, CLE_SWAP.REQ]⟩,
    ⟨"CLE_SLOT_CFG", 0x40130100, [(16, 0x20)], false, 0x1D4C, [CLE_SLOT_CFG.EN, CLE_SLOT_CFG.RATE, CLE_SLOT_CFG.FMT, CLE_SLOT_CFG.RND, CLE_SLOT_CFG.DL]⟩,
    ⟨"CLE_SLOT_STAT", 0x40130104, [(16, 0x20)], false, 0x0, [CLE_SLOT_STAT.ILL, CLE_SLOT_STAT.SAT, CLE_SLOT_STAT.CAUSE, CLE_SLOT_STAT.BANK, CLE_SLOT_STAT.INDEX, CLE_SLOT_STAT.REG, CLE_SLOT_STAT.REBASES]⟩,
    ⟨"CLE_SCHED", 0x40130108, [(16, 0x20)], false, 0x0, [CLE_SCHED.EN, CLE_SCHED.BMP, CLE_SCHED.NREG, CLE_SCHED.BMP_K, CLE_SCHED.BMP_E, CLE_SCHED.BMP_I, CLE_SCHED.SRC]⟩,
    ⟨"CLE_HYST", 0x4013010C, [(16, 0x20)], false, 0x0, [CLE_HYST.VALUE]⟩,
    ⟨"CLE_REBASE", 0x40130110, [(16, 0x20)], false, 0x0, [CLE_REBASE.VALUE]⟩,
    ⟨"CLE_THR", 0x40130404, [(16, 0x20), (7, 0x4)], false, 0x0, [CLE_THR.THR]⟩,
    ⟨"CLE_DUTY", 0x40130800, [(36, 0x4)], false, 0x0, [CLE_DUTY.DUTY]⟩,
    ⟨"ECHO_CTL", 0x40130C00, [], false, 0x0, [ECHO_CTL.GO, ECHO_CTL.ABORT, ECHO_CTL.CSH, ECHO_CTL.SLOT, ECHO_CTL.TSEL, ECHO_CTL.TTRIG, ECHO_CTL.SIG]⟩,
    ⟨"ECHO_AMP", 0x40130C04, [], false, 0x0, [ECHO_AMP.VALUE]⟩,
    ⟨"ECHO_DPH0", 0x40130C08, [], false, 0x0, [ECHO_DPH0.VALUE]⟩ ] ++
  [
    ⟨"ECHO_X", 0x40130C0C, [], false, 0x0, [ECHO_X.VALUE]⟩,
    ⟨"ECHO_LEN", 0x40130C10, [], false, 0x12000, [ECHO_LEN.DEC, ECHO_LEN.LEN]⟩,
    ⟨"ECHO_PRBS", 0x40130C14, [], false, 0x10000, [ECHO_PRBS.SEED, ECHO_PRBS.HOLD, ECHO_PRBS.ORD]⟩,
    ⟨"ECHO_SINE", 0x40130C18, [], false, 0x1, [ECHO_SINE.G, ECHO_SINE.DWELL]⟩,
    ⟨"ECHO_SINE2", 0x40130C1C, [], false, 0x1, [ECHO_SINE2.SETTLE, ECHO_SINE2.NSTEP]⟩,
    ⟨"ECHO_PRE", 0x40130C20, [], false, 0x0, [ECHO_PRE.PRE]⟩,
    ⟨"ECHO_STAT", 0x40130C24, [], false, 0x0, [ECHO_STAT.BUSY, ECHO_STAT.DONE, ECHO_STAT.IDX]⟩,
    ⟨"ECHO_CNT", 0x40130C28, [], false, 0x0, [ECHO_CNT.TRIG_IGN, ECHO_CNT.MISSN]⟩ ]

/-- The registers of block PWM (index 20 of R182). -/
def regsPWM : List RegDesc :=
  [
    ⟨"PWM_CTL", 0x40140000, [(16, 0x20)], false, 0x1904000, [PWM_CTL.EN, PWM_CTL.MODE, PWM_CTL.SYNC, PWM_CTL.HOLD, PWM_CTL.DT, PWM_CTL.MINPW]⟩,
    ⟨"PWM_PHASE", 0x40140004, [(16, 0x20)], false, 0x0, [PWM_PHASE.PHASE]⟩,
    ⟨"PWM_TRG", 0x40140008, [(16, 0x20)], false, 0xFA0000, [PWM_TRG.LATE_WIN, PWM_TRG.TRG_OFS]⟩,
    ⟨"PWM_LSRC", 0x4014000C, [(16, 0x20)], false, 0x0, [PWM_LSRC.EN, PWM_LSRC.WORD]⟩,
    ⟨"PWM_STAT", 0x40140010, [(16, 0x20)], false, 0x0, [PWM_STAT.LATE_CNT, PWM_STAT.RESYNC_CUT, PWM_STAT.DUTY_LATE, PWM_STAT.RUN]⟩,
    ⟨"PWM_DP", 0x40140400, [(36, 0x8)], true, 0x4E200000000, [PWM_DP.PERIOD, PWM_DP.DUTY]⟩,
    ⟨"PWM_CUR", 0x40140800, [(36, 0x8)], true, 0x0, [PWM_CUR.GCLAMP, PWM_CUR.PERIOD, PWM_CUR.HT]⟩ ]

/-- The registers of block LTN (index 21 of R182). -/
def regsLTN : List RegDesc :=
  [
    ⟨"LTN_CTL", 0x40150000, [(4, 0x40)], false, 0x0, [LTN_CTL.EN, LTN_CTL.DIV, LTN_CTL.SRC]⟩,
    ⟨"LTN_BLANK", 0x40150004, [(4, 0x40)], false, 0x9C4, [LTN_BLANK.BLANK_MIN]⟩,
    ⟨"LTN_MAP", 0x40150008, [(4, 0x40)], false, 0x0, [LTN_MAP.EN, LTN_MAP.CNT, LTN_MAP.LBASE]⟩,
    ⟨"LTN_MAP_FIRST", 0x4015000C, [(4, 0x40)], false, 0x0, [LTN_MAP_FIRST.FIRST]⟩,
    ⟨"LTN_FB", 0x40150010, [(4, 0x40)], true, 0x0, [LTN_FB.NPIXM1, LTN_FB.BASE]⟩,
    ⟨"LTN_FRAME_SEQ", 0x40150018, [(4, 0x40)], true, 0x0, [LTN_FRAME_SEQ.SEQ, LTN_FRAME_SEQ.NPIXM1, LTN_FRAME_SEQ.BASE]⟩,
    ⟨"LTN_STAT", 0x40150020, [(4, 0x40)], false, 0x0, [LTN_STAT.SKIP_CNT, LTN_STAT.CFG_ERR, LTN_STAT.MAP_ERR, LTN_STAT.STOMP, LTN_STAT.COMMIT_LATE, LTN_STAT.PEND, LTN_STAT.BLANK]⟩,
    ⟨"LTN_ERR_CNT", 0x40150024, [(4, 0x40)], false, 0x0, [LTN_ERR_CNT.UNDER, LTN_ERR_CNT.RDERR]⟩,
    ⟨"LTN_CART_CFG", 0x40150100, [(4, 0x40)], false, 0x0, [LTN_CART_CFG.EN, LTN_CART_CFG.SPEED, LTN_CART_CFG.REAUTH, LTN_CART_CFG.ISRC]⟩,
    ⟨"LTN_CART_STAT", 0x40150104, [(4, 0x40)], false, 0x0, [LTN_CART_STAT.CART_OK, LTN_CART_STAT.EXPIRED, LTN_CART_STAT.LIFE_BAD, LTN_CART_STAT.WFAIL, LTN_CART_STAT.LOST, LTN_CART_STAT.CAUSE, LTN_CART_STAT.STATE]⟩,
    ⟨"LTN_CART_SER_HI", 0x40150108, [(4, 0x40)], false, 0x0, [LTN_CART_SER_HI.SERIAL]⟩,
    ⟨"LTN_CART_SER_LO", 0x4015010C, [(4, 0x40)], false, 0x0, [LTN_CART_SER_LO.SERIAL]⟩ ] ++
  [
    ⟨"LTN_CART_INFO", 0x40150110, [(4, 0x40)], false, 0x0, [LTN_CART_INFO.RATED]⟩,
    ⟨"LTN_CART_TYPE", 0x40150114, [(4, 0x40)], false, 0x0, [LTN_CART_TYPE.FMT, LTN_CART_TYPE.TYPE]⟩,
    ⟨"LTN_CART_EH", 0x40150118, [(4, 0x40)], true, 0x0, [LTN_CART_EH.EH]⟩,
    ⟨"LTN_CART_SEQ", 0x40150120, [(4, 0x40)], false, 0x0, [LTN_CART_SEQ.VALUE]⟩,
    ⟨"LTN_CART_ACC", 0x40150124, [(4, 0x40)], false, 0x0, [LTN_CART_ACC.VALUE]⟩,
    ⟨"LTN_CART_LIVE", 0x40150128, [(4, 0x40)], false, 0x0, [LTN_CART_LIVE.TJ, LTN_CART_LIVE.ICODE]⟩,
    ⟨"LTN_CART_MAP", 0x4015012C, [(4, 0x40)], false, 0x0, [LTN_CART_MAP.EXP_DARK, LTN_CART_MAP.LTN, LTN_CART_MAP.PWM]⟩,
    ⟨"LTN_CART_CNT", 0x40150130, [(4, 0x40)], false, 0x0, [LTN_CART_CNT.AUTH_FAIL, LTN_CART_CNT.TJ_ERR, LTN_CART_CNT.RETRY]⟩,
    ⟨"LTN_CART_CMD", 0x40150134, [(4, 0x40)], false, 0x0, [LTN_CART_CMD.REPROBE]⟩,
    ⟨"LTN_TW_CMD", 0x40150300, [(5, 0x20)], false, 0x0, [LTN_TW_CMD.GO, LTN_TW_CMD.SPEED, LTN_TW_CMD.ADDR, LTN_TW_CMD.RLEN, LTN_TW_CMD.WLEN]⟩,
    ⟨"LTN_TW_DATA", 0x40150304, [(4, 0x20), (4, 0x4)], false, 0x0, [LTN_TW_DATA.BYTES]⟩,
    ⟨"LTN_TW_STAT", 0x40150314, [(5, 0x20)], false, 0x0, [LTN_TW_STAT.BUSY, LTN_TW_STAT.DENY, LTN_TW_STAT.TMO, LTN_TW_STAT.NACK, LTN_TW_STAT.DONE, LTN_TW_STAT.NBYTES]⟩ ] ++
  [
    ⟨"LTN_CART_W", 0x40150400, [(4, 0x200), (128, 0x4)], false, 0x0, [LTN_CART_W.W_HI, LTN_CART_W.W_LO]⟩ ]

/-- The registers of block ADC (index 22 of R182). -/
def regsADC : List RegDesc :=
  [
    ⟨"ADC_CTL", 0x40160000, [(2, 0x100)], false, 0x0, [ADC_CTL.EN, ADC_CTL.RTRIG, ADC_CTL.ITRIG, ADC_CTL.RLENM1, ADC_CTL.ILENM1]⟩,
    ⟨"ADC_CMD", 0x40160004, [(2, 0x100)], false, 0x0, [ADC_CMD.ISWT, ADC_CMD.RSWT]⟩,
    ⟨"ADC_STAT", 0x40160008, [(2, 0x100)], false, 0x0, [ADC_STAT.CH_ERR, ADC_STAT.READY, ADC_STAT.RPEND, ADC_STAT.RSUSP, ADC_STAT.IBUSY, ADC_STAT.RBUSY]⟩,
    ⟨"ADC_DROP", 0x4016000C, [(2, 0x100)], false, 0x0, [ADC_DROP.IDROP, ADC_DROP.RDROP]⟩,
    ⟨"ADC_ABORT", 0x40160010, [(2, 0x100)], false, 0x0, [ADC_ABORT.CNT]⟩,
    ⟨"ADC_RSQ", 0x40160040, [(2, 0x100), (16, 0x4)], false, 0xA00, [ADC_RSQ.ST, ADC_RSQ.CH]⟩,
    ⟨"ADC_ISQ", 0x40160080, [(2, 0x100), (4, 0x4)], false, 0xA00, [ADC_ISQ.ST, ADC_ISQ.CH]⟩,
    ⟨"ADC_IRES", 0x40160090, [(2, 0x100), (4, 0x4)], false, 0x0, [ADC_IRES.TAG, ADC_IRES.CODE]⟩,
    ⟨"ADC_RRES", 0x401600C0, [(2, 0x100), (16, 0x4)], false, 0x0, [ADC_RRES.TAG, ADC_RRES.CODE]⟩,
    ⟨"ADC_THERM", 0x40160200, [], false, 0x280280, [ADC_THERM.HYS, ADC_THERM.HOT]⟩,
    ⟨"ADC_TSTAT", 0x40160204, [], false, 0x0, [ADC_TSTAT.HOTL, ADC_TSTAT.HOT]⟩,
    ⟨"ADC_TCAL", 0x40160210, [(6, 0x4)], false, 0x0, [ADC_TCAL.CODE]⟩ ] ++
  [
    ⟨"ADC_CMP", 0x40160300, [(12, 0x4)], false, 0x0, [ADC_CMP.EN, ADC_CMP.POL, ADC_CMP.HYS, ADC_CMP.THR]⟩,
    ⟨"ADC_CMP_STAT", 0x40160340, [], false, 0x0, [ADC_CMP_STAT.LEVEL]⟩,
    ⟨"ADC_CMP_CNT", 0x40160380, [(12, 0x4)], false, 0x0, [ADC_CMP_CNT.CNT]⟩ ]

/-- The registers of block DMX (index 23 of R182). -/
def regsDMX : List RegDesc :=
  [
    ⟨"DMX_CTL", 0x40170000, [(2, 0x40)], false, 0x2010000, [DMX_CTL.TX_LEN, DMX_CTL.SWAP, DMX_CTL.GO, DMX_CTL.NOBRK, DMX_CTL.RXLS, DMX_CTL.SRC, DMX_CTL.RDM, DMX_CTL.MODE]⟩,
    ⟨"DMX_TTIM", 0x40170004, [(2, 0x40)], false, 0xC00B0, [DMX_TTIM.MAB, DMX_TTIM.BRK]⟩,
    ⟨"DMX_TPER", 0x40170008, [(2, 0x40)], false, 0x61A8, [DMX_TPER.IST, DMX_TPER.PER]⟩,
    ⟨"DMX_LS", 0x4017000C, [(2, 0x40)], false, 0x0, [DMX_LS.RXBASE, DMX_LS.TXBASE]⟩,
    ⟨"DMX_RTMO", 0x40170010, [(2, 0x40)], false, 0xAF0, [DMX_RTMO.RESP_TMO]⟩,
    ⟨"DMX_STAT", 0x40170014, [(2, 0x40)], false, 0x0, [DMX_STAT.RX_SEQ, DMX_STAT.RDM_LATE, DMX_STAT.RDM_TMO, DMX_STAT.FE, DMX_STAT.TX_BUSY, DMX_STAT.RX_LEN]⟩,
    ⟨"DMX_TXD", 0x40171000, [(2, 0x400), (129, 0x4)], false, 0x0, [DMX_TXD.BYTES]⟩,
    ⟨"DMX_RXD", 0x40172000, [(2, 0x400), (129, 0x4)], false, 0x0, [DMX_RXD.BYTES]⟩ ]

/-- The registers of block CHM (index 24 of R182). -/
def regsCHM : List RegDesc :=
  [
    ⟨"CHM_ENTRY", 0x40180000, [(16, 0x100)], false, 0x0, [CHM_ENTRY.BUNDLE]⟩,
    ⟨"CHM_RND_DEF", 0x40180004, [(16, 0x100)], false, 0x0, [CHM_RND_DEF.RND]⟩,
    ⟨"CHM_FLAGS", 0x40180008, [(16, 0x100)], false, 0x0, [CHM_FLAGS.AFLT, CHM_FLAGS.GERR, CHM_FLAGS.AOV, CHM_FLAGS.WRAP, CHM_FLAGS.SAT]⟩,
    ⟨"CHM_GERR_ADDR", 0x4018000C, [(16, 0x100)], false, 0x0, [CHM_GERR_ADDR.PTR]⟩,
    ⟨"CHM_ECC", 0x40180010, [(16, 0x100)], false, 0x0, [CHM_ECC.UE, CHM_ECC.CE]⟩,
    ⟨"CHM_STALL", 0x40180014, [(16, 0x100)], false, 0x0, [CHM_STALL.GWC, CHM_STALL.XYC]⟩,
    ⟨"CHM_LDR_CTL", 0x40180018, [(16, 0x100)], false, 0x0, [CHM_LDR_CTL.CNT_CLR, CHM_LDR_CTL.CRC_CLR]⟩,
    ⟨"CHM_LDR_CRC", 0x4018001C, [(16, 0x100)], false, 0x0, [CHM_LDR_CRC.CRC]⟩,
    ⟨"CHM_LDR_CNT", 0x40180020, [(16, 0x100)], false, 0x0, [CHM_LDR_CNT.CNT]⟩,
    ⟨"CHM_EXC", 0x40180024, [(16, 0x100)], false, 0x0, [CHM_EXC.ILL, CHM_EXC.CAUSE, CHM_EXC.BUNDLE]⟩,
    ⟨"CHM_CC", 0x40180028, [(16, 0x100)], false, 0x0, [CHM_CC.O, CHM_CC.N, CHM_CC.Z]⟩,
    ⟨"CHM_LOOP_STAT", 0x40180040, [(16, 0x100)], false, 0x0, [CHM_LOOP_STAT.LFLT, CHM_LOOP_STAT.PMW, CHM_LOOP_STAT.LCAUSE, CHM_LOOP_STAT.LBUNDLE, CHM_LOOP_STAT.DEPTH, CHM_LOOP_STAT.RB]⟩ ] ++
  [
    ⟨"CHM_XCH", 0x40180044, [(16, 0x100)], false, 0x0, [CHM_XCH.GEN, CHM_XCH.ACT]⟩,
    ⟨"CHM_EVQ", 0x40180048, [(16, 0x100)], false, 0x0, [CHM_EVQ.DROP, CHM_EVQ.FLUSH, CHM_EVQ.LEVEL]⟩ ]

/-- The registers of the block of index k (R182). -/
def regsOfBlock (k : Nat) : List RegDesc :=
  match k with
  | 0 => regsRST
  | 1 => regsPWR
  | 2 => regsWTB
  | 3 => regsGAL
  | 4 => regsDTM
  | 5 => regsCRN
  | 6 => regsSYN
  | 7 => regsSMP
  | 8 => regsGTE
  | 9 => regsSEC
  | 10 => regsMEM
  | 11 => regsHWN
  | 12 => regsSPH
  | 13 => regsBMX
  | 14 => regsGDE
  | 15 => regsTIM
  | 16 => regsCFL
  | 17 => regsFLW
  | 18 => regsSAP
  | 19 => regsCLE
  | 20 => regsPWM
  | 21 => regsLTN
  | 22 => regsADC
  | 23 => regsDMX
  | 24 => regsCHM
  | _ => []

end Sys2Proof.Machine
end

