-- ==== Sys2Proof/Machine/State.lean ====
section
/-! DEFINITION. The machine's state as plain data: the registers of the map, and beside them the state the
spec gives each block that no register shows. -/

namespace Sys2Proof.Machine

open Sys2Proof

/-- A sparse table by index: indices strictly rising, no entry equal to the default the reader names. -/
abbrev Tab (α : Type) := List (Nat × α)

/-- Where the device is between a reset and the running of firmware (R83, R90, R99). -/
inductive Phase where
  /-- held in reset, or between its end and the boot sequence -/
  | inReset
  /-- the boot sequencer waits for images from the host (R99, R100) -/
  | hostWait
  /-- the Guide has been released (R92) -/
  | running
  deriving DecidableEq, Repr

/-- The xSPI port as the boot sequencer sets it up (R90, R93, R94): 8-8-8 DTR is in force, or 1-1-1; the 8-8-8 clock
divider, read command with its extension byte and dummy clocks; and the configuration commands sent to the flash, in
order, each with its Write Enable before it. -/
structure Xspi where
  octal : Bool
  xdiv : Nat
  rdCmd : Nat
  dummy : Nat
  sent : List (List Byte)
  deriving DecidableEq, Repr

/-- 1-1-1 with nothing sent. -/
def Xspi.init : Xspi := { octal := false, xdiv := 0, rdCmd := 0, dummy := 0, sent := [] }

/-- The boot sequencer's and the reset controller's own state (R83 to R105). -/
structure Rst where
  phase : Phase
  /-- nRESET is low (R84) -/
  pinLow : Bool
  /-- the chunk the boot sequencer expects from the host (R100) -/
  chunk : Nat
  /-- the bytes of the image taken from the host so far, in order -/
  hostImage : List Byte
  /-- no profile was loaded yet, so the host must send one first (R100) -/
  needProfile : Bool
  /-- the greatest length of a firmware image, from the directory in use (R93, R97) -/
  slotLen : Nat
  /-- ENTRY of the image that booted (R87, R92) -/
  entry : W32
  /-- a commit has been accepted since the reset (R37, R328) -/
  joined : Bool
  /-- a commit has been accepted since the reset and since a change of family last ended the active set: the outputs
  are no longer as after reset (R37, R41) -/
  lit : Bool
  /-- ticks of the microsecond of PWR_UPTIME in progress (R62) -/
  upTicks : Nat
  xspi : Xspi
  deriving DecidableEq, Repr

/-- A FIFO entry of the event log (R495, R497). -/
inductive LogEntry where
  | fault (tv : Bool) (cls level src time : Nat) (detail : W32)
  | lost (first last count : Nat)
  deriving DecidableEq, Repr

/-- The Sump's state beside its registers (R486 to R500). -/
structure Smp where
  fifo : List LogEntry
  /-- the LOST record that accumulates: first and last log time and COUNT (R497) -/
  lost : Option (Nat × Nat × Nat)
  /-- the source whose reaction waits for a Sump chip reset, and the tick of its raise (R491) -/
  chipWait : Option (Nat × Nat)
  /-- the tick at which nERR last fell (R491, R492) -/
  nerrAt : Nat
  deriving DecidableEq, Repr

/-- One register bank of the Guide (R106, R117). -/
structure Bank where
  /-- g1 to g31; g0 is not stored (R106) -/
  g : Tab W32
  pc : W32
  epc : W32
  ecause : W32
  eaddr : W32
  exc : Bool
  /-- [0] DZ, [1] DOV (R113) -/
  astat : BitVec 2
  /-- slot of the instance that runs, or ran last, in this bank -/
  slot : Nat
  /-- address of a load that drew an error response, whose LOADERR waits for this bank's next instruction
  boundary (R120) -/
  loadErr : Option W32
  deriving DecidableEq, Repr

/-- A Guide load in flight (R109): bank and register it writes, its address, its width in bytes, whether it
sign-extends, the 64-bit data and the error code its target answered (0: none), and its place in the order of issue
(R172). Bank 10: the Guide discards the response (R178). -/
structure GLoad where
  bank : Nat
  reg : Nat
  addr : Nat
  bytes : Nat
  signed : Bool
  data : W64
  code : Nat
  seq : Nat
  deriving DecidableEq, Repr

/-- A posted store in the store queue, not yet issued to the matrix (R109, R170): its address, width in bytes and
data. -/
structure GPost where
  addr : Nat
  bytes : Nat
  data : W64
  deriving DecidableEq, Repr

/-- A posted store that has been issued and whose response has not come yet (R109, R120, R170): its address, the error
code its target answered (0: none), whether the Guide still takes the response (R178), and its place in the order of
issue. -/
structure GStore where
  addr : Nat
  code : Nat
  live : Bool
  seq : Nat
  deriving DecidableEq, Repr

/-- The Guide and its roster beside their registers (R106 to R132, R539). -/
structure Gde where
  banks : Tab Bank
  imem : Cells 8
  dmem : Cells 8
  vbase : W32
  nepc : W32
  nstat : Nat
  /-- loads in flight, oldest first -/
  loads : List GLoad
  /-- the store queue, oldest first: at most 8 (R109) -/
  posts : List GPost
  /-- posted stores in flight at the matrix, oldest first (R109, R120, R170) -/
  stores : List GStore
  /-- the access that waits for a tracking entry has been counted (R169) -/
  waits : Bool
  /-- an NMI the Sump has signalled and the Guide has not entered (R122) -/
  nmiSignal : Bool
  /-- BB idles in wait until the roster dispatches (R130) -/
  waiting : Bool
  /-- halted by DBGCTL (R539) -/
  dbgHalted : Bool
  /-- an arbitration window is open (R572) -/
  windowOpen : Bool
  /-- readies that belong to the open window -/
  readies : List Nat
  /-- cancels that belong to the open window -/
  cancels : List Nat
  /-- pending slots, oldest first (R126, R128) -/
  pend : List Nat
  /-- active instances, the running one first (R128): slot and the priority it was dispatched at -/
  active : List (Nat × Nat)
  /-- the slot the roster has decided to dispatch, not yet dispatched (R128, R129) -/
  decided : Option Nat
  deriving DecidableEq, Repr

/-- One timer beside its registers (R133 to R136). -/
structure Timer where
  /-- the period in effect (R135) -/
  period : W32
  /-- clocks counted toward the next tick of the prescaler (R133) -/
  presc : Nat
  /-- expiries whose event has not been delivered yet (R133, R134) -/
  due : Nat
  /-- the level of the edge detector's pin, debounced (R136) -/
  level : Bool
  deriving DecidableEq, Repr

/-- What a monitored unit is doing in its cycle (R44, R47, R48). -/
inductive UnitPhase where
  | idle
  /-- released and running -/
  | running
  /-- released while a domain wakes; starts when the last reports ON (R73) -/
  | waking
  /-- released and not started: its block is held (R86) or a domain is in OFF or RETAIN (R69) -/
  | blocked
  deriving DecidableEq, Repr

/-- The cycle sequencer beside its registers (R41 to R53). -/
structure Cyc where
  /-- index of the cycle that runs -/
  idx : Nat
  /-- no mid-cycle instant falls before the next boundary -/
  midDone : Bool
  /-- index of the next boundary: one more, or after a set or step the first whole multiple of T at or after the
  timebase (R42) -/
  next : Nat
  /-- the family in effect, coded as CFL_CFG.RATE (R41) -/
  fam : Nat
  /-- a family taken and not yet in effect (R41) -/
  famNext : Option Nat
  /-- the deadline table in effect: FLW, PRE, MIX, POST, FREE, BRG, LIT (R45) -/
  dl : List Nat
  /-- the stage assignment in effect, two bits a Chamber (R43, R45) -/
  stage : W32
  /-- what each of the 36 monitored units is doing -/
  units : Tab UnitPhase
  /-- 1 for a unit that missed its last release (R50) -/
  missed : Tab Bool
  /-- sample grid points seen in the cycle -/
  grid : Nat
  /-- tick at which the cycle began, and at which its mid-cycle instant fell -/
  start : Nat
  mid : Nat
  /-- light store words as the light pass found them at its release -/
  lightIn : Tab Nat
  /-- a member mutes its audio outputs for want of valid time, until a boundary (R36) -/
  timeMute : Bool
  deriving DecidableEq, Repr

/-- One switched domain beside its registers (R64 to R74). -/
structure Dom where
  /-- in the sleep transition of R74 -/
  sleeping : Bool
  /-- a wake has been called for while the sleep transition runs (R73) -/
  wakeReq : Bool
  /-- the mode write that waits for a transition to complete (R74) -/
  pendMode : Option Nat
  /-- the mode in effect (R64, R74) -/
  mode : Nat
  /-- the wake has been called for and its switch-on waits for the switching limit (R70) -/
  queued : Bool
  deriving DecidableEq, Repr

/-- An AVSBus transaction (R75, R82): a Write of the voltage command with the commit bit set, of a code, to a rail, the
millivolts it sends, and the attempts that failed. -/
structure Avs where
  code : Nat
  rail : Nat
  millivolts : Nat
  fails : Nat
  deriving DecidableEq, Repr

/-- Water table beside its registers (R75 to R82). -/
structure Wtb where
  /-- the mode in effect (R76, R80) -/
  mode : Nat
  /-- a code has been issued since reset (R76) -/
  issued : Bool
  /-- the code the loop works from; 40 before the first issue (notes/assumptions/83.md) -/
  code : Nat
  settling : Bool
  /-- the tick at which the settle time expires -/
  settleAt : Nat
  /-- boundaries of the evaluation window so far -/
  win : Nat
  /-- the least slack reported in the window -/
  minSlack : Int
  /-- the monitors, one bit each, that have reported a miss since the last change (R79) -/
  miss : BitVec 36
  /-- the monitor masks in effect (R79, R80) -/
  mask : BitVec 36
  /-- a write of WTB_TARGET in MANUAL waits for the boundary (R78) -/
  manual : Bool
  /-- a bound write left the code outside: the nearer bound is issued at the boundary (R80) -/
  forced : Bool
  /-- a write restarts the window at the boundary (R80) -/
  restart : Bool
  /-- the AVSBus transaction in progress (R75, R82) -/
  avs : Option Avs
  /-- a code whose transaction failed all its attempts, tried again at the next boundary (R82) -/
  again : Option Nat
  /-- the value driven on VID0 to VID5; none: high-impedance (R76) -/
  vid : Option Nat
  deriving DecidableEq, Repr

/-- Cavern (R138 to R149): its words and, for each, the bits of word and check bits that have flipped. -/
structure Cav where
  words : Cells 40
  /-- flipped bits by word: data bits in [39:0], check bits in [47:40] -/
  flips : Cells 48
  deriving DecidableEq, Repr

/-- The host's parallel-bus holding register (R158): the word, whether it holds a read, the half held. -/
structure Hold16 where
  word : Nat
  isRead : Bool
  half : BitVec 16
  deriving DecidableEq, Repr

/-- The host window beside its registers (R152 to R158). -/
structure Hwn where
  arr : Cells 32
  /-- the level of HBUSY (R155) -/
  hbusy : Bool
  /-- the tick at which HBUSY falls on the parallel bus (R155) -/
  busyOff : Option Nat
  /-- the open SPI transaction carries its data on HIO0 to HIO3 (R157) -/
  quad : Bool
  /-- the open SPI transaction is one in which the slave sends data (R157, R529) -/
  sends : Bool
  /-- a transaction is open on the SPI slave: nHCS is low -/
  spiOpen : Bool
  hold : Option Hold16
  /-- the words or halves port B has driven last -/
  sent : List W32
  deriving DecidableEq, Repr

/-- A transaction of a Siphon channel in flight (R162, R169): the element it moves, its address, whether it is the
element's write, the data and the code its target answered, its place in the order of issue. dead: the channel has
stopped and discards the response; early: the response has arrived and freed the entry. -/
structure SphElem where
  elem : Nat
  addr : Nat
  write : Bool
  data : W64
  code : Nat
  seq : Nat
  dead : Bool
  early : Bool
  deriving DecidableEq, Repr

/-- One Siphon channel beside its registers: the descriptor of the block in progress as R159 gives it, and its elements,
numbered row by row from 0 (R159 to R164). -/
structure SphCh where
  src : Nat
  dst : Nat
  xcnt : Nat
  ycnt : Nat
  sxinc : Int
  dxinc : Int
  syinc : Int
  dyinc : Int
  wide : Bool
  irq : Bool
  last : Bool
  next : Nat
  /-- the element whose read is issued next -/
  rnext : Nat
  /-- the element whose write is issued next -/
  wnext : Nat
  /-- elements whose write has been acknowledged -/
  acked : Nat
  /-- elements read and not yet issued as writes, with their data -/
  ready : List (Nat × W64)
  /-- transactions in flight, oldest first -/
  flight : List SphElem
  /-- the channel's next transaction has been counted as waiting for an entry (R169) -/
  waits : Bool
  /-- EN was cleared while the block runs (R164) -/
  stopping : Bool
  deriving DecidableEq, Repr

/-- A transaction at the bus matrix (R165, R169), and the answer its target has given; one not yet issued waits for a
tracking entry, and its data is what it writes. coll: the colliding port B accesses at the host array by word (R154);
seq: its place in the order of issue; early: the response has arrived and freed the entry. -/
structure Txn where
  master : Nat
  ident : Nat
  addr : Nat
  bytes : Nat
  write : Bool
  data : W64
  code : Nat
  issued : Bool
  coll : List (Nat × HwnAccess)
  seq : Nat
  early : Bool
  deriving DecidableEq, Repr

/-- What the matrix keeps beside its registers: the transactions issued since the reset, in whose order R172 orders
them, and the channel and the Chamber that took their turn last (R162, R201). -/
structure Mtx where
  issues : Nat
  sphTurn : Nat
  gwTurn : Nat
  deriving DecidableEq, Repr

/-- The answer the last access received: read data, or zero, and the error code of R174 or 0. -/
structure Resp where
  data : W64
  code : Nat
  deriving DecidableEq, Repr

/-- A Cavern access a Chamber has in flight (R201, R209): for a load, the register it writes; the pointer
value; the answer its target has given. -/
structure ChmAcc where
  /-- destination: 0 to 31 d, 32 to 95 physical q; none for a store -/
  dest : Option Nat
  ptr : BitVec 24
  data : W40
  code : Nat
  seq : Nat
  /-- the Chamber has been reset and discards the response (R178) -/
  dead : Bool
  deriving DecidableEq, Repr

/-- An entry of the loop stack (R232, R233). -/
structure Loop where
  start : Nat
  last : Nat
  left : Nat
  deriving DecidableEq, Repr

/-- One Chamber (R183 to R247). -/
structure Chamber where
  d : Tab W40
  /-- the physical rotating registers (R237) -/
  q : Tab W40
  a : Tab W88
  p : Tab (BitVec 24)
  m : Tab (BitVec 20)
  b : Tab (BitVec 20)
  l : Tab (BitVec 20)
  cg : Nat
  rb : Nat
  z : Bool
  n : Bool
  o : Bool
  /-- CHM_RND_DEF_n as latched at release (R193) -/
  rnd : BitVec 8
  /-- index of the next bundle -/
  pc : Nat
  stack : List Loop
  x : Cells 40
  y : Cells 40
  /-- flipped bits of X, Y and of the two program banks (R204): data bits low, check bits above -/
  xf : Cells 48
  yf : Cells 48
  pf : Cells 72
  /-- the two program banks: bundle i of bank k at 8192 × k + i -/
  prog : Cells 64
  act : Nat
  gen : Nat
  /-- event records, oldest first (R244) -/
  evq : List W40
  /-- accesses in flight, oldest first -/
  acc : List ChmAcc
  /-- the run has ended through end (R202) -/
  ended : Bool
  /-- the run has stopped as at a miss (R230, R236, R204) -/
  stopped : Bool
  /-- the next bundle has been counted as delayed (R201) -/
  delayed : Bool
  /-- the next bundle waits for an entry of the gateway (R201) -/
  wants : Bool
  /-- sub-banks at which a matrix access delays the next bundle that reaches them: 2 × space + parity (R199, R200) -/
  met : List Nat
  /-- a program swap waits for the run to end and its stores to be acknowledged (R240) -/
  swapPend : Bool
  /-- the input blocks taken at the release, not yet written to the input area (R44, R254) -/
  taken : List (List W40)
  deriving DecidableEq, Repr

/-- What a Chamber holds after power-on: everything zero, the banks cleared, bank 0 active. -/
def Chamber.init : Chamber :=
  { d := [], q := [], a := [], p := [], m := [], b := [], l := [], cg := 0, rb := 0, z := false, n := false
    o := false, rnd := 0, pc := 0, stack := [], x := [], y := [], xf := [], yf := [], pf := [], prog := []
    act := 0, gen := 0, evq := [], acc := [], ended := false, stopped := false, delayed := false
    wants := false, met := [], swapPend := false, taken := [] }

/-- A Chamber after its block reset: its memories keep, all else as after power-on, with bank 0 active (R86, R87,
R247). The responses of its accesses in flight are discarded when they arrive (R178). -/
def Chamber.cleared (c : Chamber) : Chamber :=
  { Chamber.init with
    x := c.x, y := c.y, xf := c.xf, yf := c.yf, pf := c.pf, prog := c.prog
    acc := c.acc.map fun a => { a with dest := none, code := 0, dead := true } }

/-- What production programs into OTP (R503): opaque to the model but for its use. The layout of the 8 bytes
of ALM_DEFAULT is not given; the model holds the register values they load. -/
structure Otp where
  uid : List Byte
  duk : List Byte
  bootHash : List Byte
  licHash : List Byte
  dbgHash : List Byte
  /-- the values of SEC_ALM_s, SEC_TAMP_CFG_k and SEC_MESH by register address -/
  almDefault : List (Nat × W64)
  /-- the production values of ADC_TCAL_k -/
  tcal : List Nat
  deriving DecidableEq, Repr

/-- One bank of a fleet slot (R503). -/
structure FleetBank where
  key : List Byte
  fleetId : W32
  keyHash : List Byte
  pub : List Byte
  sig : List Byte
  deriving DecidableEq, Repr

/-- A fleet slot: its marker word and its two banks (R503, R505, R511). -/
structure FleetSlot where
  active : Bool
  bank : Bool
  gen : Nat
  b0 : FleetBank
  b1 : FleetBank
  deriving DecidableEq, Repr

/-- The MRAM of the key store (R503). -/
structure Mram where
  slots : Tab FleetSlot
  /-- ROOT: its marker names the bank; no root is installed while it is none -/
  rootBank : Option Bool
  root0 : List Byte
  root1 : List Byte
  fwFloor : W32
  profFloor : W32
  dbgFail : Nat
  dbgDeny : Bool
  deriving DecidableEq, Repr

/-- The key-store write or command in progress (R506, R510). -/
inductive KeyOp where
  /-- a fleet install or rotation: slot, the fields copied at GO -/
  | install (slot : Nat) (f : FleetBank)
  | retire (slot : Nat)
  | root (key : List Byte)
  | floor (profile : Bool) (v : W32)
  | reopen
  deriving DecidableEq, Repr

/-- A crypto engine operation in progress (R513): its code, the key, and the lengths taken at GO. -/
structure CeOp where
  op : Nat
  key : List Byte
  stored : Bool
  alen : Nat
  len : Nat
  deriving DecidableEq, Repr

/-- The security controller beside its registers (R503 to R521). -/
structure Sec where
  otp : Otp
  mram : Mram
  /-- the erase marker: all (true) or fleet (false) scope (R518) -/
  eraseMark : Option Bool
  staged : FleetBank
  /-- the key-store writes in progress, in their order (R506) -/
  keyOps : List KeyOp
  ce : Option CeOp
  /-- the start-up test of the random source runs (R514) -/
  rngStarting : Bool
  /-- the nonce of the attempt that is open (R521) -/
  nonce : Option (List Byte)
  /-- the public key and signature of the attempt being verified (R521) -/
  response : Option (List Byte × List Byte)
  /-- debug is unlocked (R520) -/
  unlocked : Bool
  /-- PWR_UPTIME at the last failed attempt (R521) -/
  lastFail : Option Nat
  /-- tamper inputs that have violated and not yet left their active level (R515) -/
  debDown : List Nat
  /-- violations latched before the Guide's release, whose Sump source is raised at the release, each with whether its
  alarm action has been taken (R516) -/
  lateAlarm : List (Nat × Bool)
  deriving DecidableEq, Repr

/-- A block of samples that waits in the alignment ring (R257, R260): the address of the destination register
it is for, the cycle that takes it, the first Cavern word it lies in. -/
structure RingBlk where
  dest : Nat
  due : Nat
  word : Nat
  deriving DecidableEq, Repr

/-- The scale of a bus on its way from a0 to a1, pos samples in (R266). -/
structure Scale where
  a0 : Nat
  a1 : Nat
  pos : Nat
  deriving DecidableEq, Repr

/-- One rate bridge beside its registers (R269): the last value taken, the values of the light period so far; for
A_TO_C the samples the decimator still needs, the latest last, and what it gave, the latest first. -/
structure Brg where
  v1 : W32
  acc : List W32
  hist : List W40
  cic : List Int
  deriving DecidableEq, Repr

/-- The capture cycles that a change of plane skips on an output, from start up to stop (R286): the output's last
sample before them, and its j then. -/
structure Gap where
  start : Nat
  stop : Nat
  tail : W40
  j : Nat
  deriving DecidableEq, Repr

/-- A value a bridge holds until its presentation (R259): the bridge, the destination selector, the boundary
it is due at, the value. -/
structure BrgOut where
  bridge : Nat
  dst : Nat
  due : Nat
  value : W32
  deriving DecidableEq, Repr

/-- Confluence beside its registers (R248 to R273). Audio blocks lie by source selector. -/
structure Cfl where
  /-- gains used in the last pass, crosspoint (i, b) at 64 × i + b -/
  gains : Tab W32
  /-- live writes that wait for the next pass (R268) -/
  xpPend : Tab W32
  /-- crosspoints Flowstone has written for the next pass (R268) -/
  xpFlw : Tab W32
  /-- j of the mute ramp of each input (R263) -/
  muteJ : Tab Nat
  /-- inputs muted as the pass in progress found them -/
  mixMute : Tab Bool
  /-- input blocks of the pass in progress: i as its source gives it, 256 + i aligned (R257) -/
  mixIn : Tab (List W40)
  /-- passes the conditions of R264 have held in a row, by crosspoint -/
  runs : Tab Nat
  scale : Tab Scale
  /-- published audio blocks by source selector -/
  blk : Tab (List W40)
  /-- last sample published by a source, before the output's ramp scales it -/
  held : Tab W40
  /-- 32 − j of the one ramp that runs on a unit's outputs, by the selector of its first output: the mute ramp of R50
  and the ramps of R286 move the same j (R571) -/
  outJ : Tab Nat
  /-- first cycle after those in which a unit that went to the CHAIN plane repeats capture cycles (R286), by the
  selector of its first output -/
  gapEnd : Tab Nat
  /-- the capture cycles that an output that went to the LOCAL plane skips (R286), by selector -/
  gaps : Tab Gap
  /-- sources of the bridge pass in progress -/
  brgIn : Tab (List W40)
  brg : Tab Brg
  /-- audio blocks bridges have made for the next cycle (R269) -/
  brgNext : Tab (List W40)
  outq : List BrgOut
  /-- store words that bridges wrote at the boundary of the cycle: their value stands over Flowstone's (R292) -/
  bridged : List Nat
  ring : List RingBlk
  /-- the ring in effect: first word, length (R260) -/
  ringBase : Nat
  ringLen : Nat
  /-- addresses of the destination registers for which the ring is too small (R260) -/
  unserved : List Nat
  /-- for each SAP output slot, the block that began its emission before the current cycle, and the one that
  begins in it (R259) -/
  outPrev : Tab (List W40)
  outCur : Tab (List W40)
  /-- the values that wait to be talked on control and light chain channels, by selector (R270) -/
  talk : Tab W32
  deriving DecidableEq, Repr

/-- A bridge that has taken nothing. -/
def Brg.init : Brg := { v1 := 0, acc := [], hist := [], cic := [] }

/-- A bus scale at rest at 1.0 (R265). -/
def Scale.init : Scale := { a0 := 2147483648, a1 := 2147483648, pos := 256 }

/-- Confluence after its block reset: no gain, nothing published. -/
def Cfl.init : Cfl :=
  { gains := [], xpPend := [], xpFlw := [], muteJ := [], mixMute := [], mixIn := [], runs := [], scale := []
    blk := [], held := [], outJ := [], gapEnd := [], gaps := [], brgIn := [], brg := [], brgNext := [], outq := []
    bridged := [], ring := [], ringBase := 0, ringLen := 0, unserved := [], outPrev := [], outCur := [], talk := [] }

/-- Where the arming of an accepted commit stands (R282). -/
inductive ArmPhase where
  | waiting | busy | done | mismatch
  deriving DecidableEq, Repr

/-- A bridge's kind, source and destination (R269). -/
structure BridgeRoute where
  kind : Nat
  src : Nat
  dst : Nat
  deriving DecidableEq, Repr

/-- The routing of a set, or of the registers (R252): input, Chamber input and SAP output selectors, the channels
of each Chamber's input area, talk routes, bridges, and the crosspoints whose gain is not zero. -/
structure Routing where
  ins : List Nat
  cin : List Nat
  cnt : List Nat
  sap : List Nat
  talk : List Nat
  brg : List BridgeRoute
  xp : List Nat
  deriving DecidableEq, Repr

/-- The planes of R256, true for CHAIN, by Chamber, bus and bridge. -/
structure Planes where
  chm : List Bool
  bus : List Bool
  brg : List Bool
  deriving DecidableEq, Repr

/-- The routing before and under the set whose LOCAL swap point has passed, with their planes, and whether a set was
active before (R285, R286). -/
structure Swap where
  had : Bool
  old : Routing
  oldP : Planes
  new : Routing
  newP : Planes
  deriving DecidableEq, Repr

/-- The commit that is pending (R281 to R285): slot, commit instant, the words of the shadow copy, and
the swap in progress once the LOCAL swap point has passed. -/
structure Commit where
  slot : Nat
  c : Nat
  arm : ArmPhase
  shadow : List W40
  swap : Option Swap
  deriving DecidableEq, Repr

/-- A crosspoint gain on its way (R287): start value, end value, length, the cycle whose sample 0 has i = 1, slot of
its commit. -/
structure XpRamp where
  g0 : W32
  g1 : W32
  m : Nat
  start : Nat
  slot : Nat
  deriving DecidableEq, Repr

/-- A store or Chamber word the Flowstone pass writes (R276, R288): kind, Chamber, word, end value, length in
samples (0: a step), the position samples of the next pass, the word of the morph area that keeps its start
value, slot of its commit. -/
structure Morph where
  kind : Nat
  chm : Nat
  addr : Nat
  v1 : W40
  m : Nat
  pos : Nat
  idx : Nat
  slot : Nat
  deriving DecidableEq, Repr

/-- What a commit found at its LOCAL swap point, so that the previous set can be kept where TIME_VALID clears before
the CHAIN one (R284): that set as words, store and Chamber words with the values they had, FLW_ACT and FLW_ACT_ID. -/
structure Undo where
  image : List W40
  words : List Morph
  act : W64
  actId : W64
  deriving DecidableEq, Repr

/-- A commit that lost TIME_VALID between its swap points (R284): its swap, its slot, and what is put back at the next boundary. -/
structure Dropped where
  swap : Swap
  slot : Nat
  undo : Undo
  deriving DecidableEq, Repr

/-- Flowstone beside its registers (R274 to R292). -/
structure Flw where
  /-- slots that wait for their check, the one being served first (R280) -/
  queue : List Nat
  commit : Option Commit
  /-- what the LOCAL swap point of the pending commit found (R284) -/
  undo : Option Undo
  dropped : Option Dropped
  xr : Tab XpRamp
  morphs : List Morph
  /-- morph words the current pass has still to write -/
  due : List Morph
  /-- Chambers whose words the last pass left unwritten: theirs come first in the next (R291) -/
  late : List Nat
  /-- first word of the morph area when its start values were written (R288) -/
  morphBase : Nat
  deriving DecidableEq, Repr

/-- Flowstone after its block reset. -/
def Flw.init : Flw :=
  { queue := [], commit := none, undo := none, dropped := none, xr := [], morphs := [], due := [], late := [], morphBase := 0 }

/-- An exact fraction; the denominator is positive. -/
structure Frac where
  num : Int
  den : Nat
  deriving DecidableEq, Repr

/-- One serial audio port beside its registers (R293 to R310). -/
structure Sap where
  /-- SAP_CTL, SAP_FMT, SAP_CLK and SAP_SLOT as taken at the start (R300) -/
  ctl : W32
  fmt : W32
  clk : W32
  slot : W32
  /-- frames of the lead or trail still to send -/
  left : Nat
  /-- the lead has ended; RUN begins at a boundary (R307) -/
  leadDone : Bool
  /-- EN was cleared in RUN: the ramp to zero runs, then the trail (R308) -/
  stopping : Bool
  /-- j of the ramps of the inputs and of the outputs (R307, R308) -/
  inJ : Nat
  outJ : Nat
  /-- elastic buffers, oldest frame first, and whether reading has started (R303) -/
  inBuf : List (List W40)
  outBuf : List (List W40)
  inOn : Bool
  outOn : Bool
  /-- the frame each reader took last -/
  inLast : List W40
  outLast : List W40
  /-- input frames of the cycle in progress -/
  cap : List (List W40)
  /-- the inputs hold their last sample until the boundary (1), or ramp to zero (2), after a clock fault (R309) -/
  fault : Nat
  /-- tick of the latest frame-beginning edge -/
  edge : Nat
  /-- the frame the inputs took last, which they hold after a clock fault (R309) -/
  hold : List W40
  /-- (Φ − 16)/Fs at the latest grid point in units of 2⁻¹⁶ ns (R304, R306) -/
  off : Int
  /-- the words of the frame being sent, slot by slot; none where DO is high-impedance -/
  tx : List (Option W32)
  /-- the level of DO in each BCK period of the slots of the frame being sent, and in the last one of the frame before
  (R295, R296) -/
  bits : List (Option Bool)
  carry : Option Bool
  /-- the port has started since its block reset: in IDLE it holds its clocks and DO as R308 leaves them -/
  parked : Bool
  deriving DecidableEq, Repr

/-- A port in IDLE. -/
def Sap.init : Sap :=
  { ctl := 0, fmt := 0, clk := 0, slot := 0, left := 0, leadDone := false, stopping := false, inJ := 0, outJ := 0
    inBuf := [], outBuf := [], inOn := false, outOn := false, inLast := [], outLast := [], cap := [], fault := 0
    edge := 0, hold := [], off := 0, tx := [], bits := [], carry := some false, parked := false }

/-- One DMX port beside its registers (R311 to R315). -/
structure Dmx where
  /-- the transmit buffer in use -/
  used : Cells 8
  swap : Bool
  go : Bool
  /-- DMX_CTL as taken at the last break (R312) -/
  ctl : W32
  /-- the bytes of the frame being sent, none when the line is at mark; the tick at which it began; its break, its
  mark-after-break and its mark between bytes, in ticks (R311, R312) -/
  tx : List Byte
  began : Nat
  brk : Nat
  mab : Nat
  gap : Nat
  /-- tick before which no break starts: PER after the last in CONT (R312), 176 µs after the request's last stop bit for a
  responder (R315) -/
  after : Nat
  /-- an RDM controller waits for the response (R315) -/
  await : Bool
  /-- tick of the last stop bit of an RDM request a responder may answer -/
  request : Option Nat
  /-- DMXd_DE is high -/
  de : Bool
  deriving DecidableEq, Repr

/-- A DMX port that sends nothing. -/
def Dmx.init : Dmx :=
  { used := [], swap := false, go := false, ctl := 0, tx := [], began := 0, brk := 0, mab := 0, gap := 0, after := 0
    await := false, request := none, de := false }

/-- One PWM group beside its registers (R421 to R429). -/
structure PwmGrp where
  /-- the tick of its last reload -/
  reload : Option Nat
  /-- the tick at which EN was set (R428) -/
  since : Nat
  /-- the CENTRE event of this period has been raised (R429) -/
  centred : Bool
  deriving DecidableEq, Repr

/-- A PWM group that has not reloaded. -/
def PwmGrp.init : PwmGrp := { reload := none, since := 0, centred := false }

/-- The PWM block. -/
abbrev Pwm := Tab PwmGrp

/-- The PWM block after its block reset. -/
def Pwm.init : Pwm := []

/-- One Lantern port beside its registers (R430 to R437). -/
structure Ltn where
  /-- the pair the next frame uses: BASE and NPIX − 1 -/
  pair : Nat × Nat
  /-- a committed pair that waits to be taken -/
  pend : Option (Nat × Nat)
  /-- the port runs: EN was set and the port has not stopped -/
  on : Bool
  /-- a frame has started and its data not yet -/
  started : Bool
  /-- the data of a frame is being sent -/
  sending : Bool
  /-- the pair, light map and TIME_VALID of the frame that has started -/
  framePair : Nat × Nat
  /-- first colour index, count and first light store word -/
  map : Option (Nat × Nat × Nat)
  tv : Bool
  seq : Nat
  /-- the light latch (R434) -/
  latch : Tab (BitVec 16)
  /-- the words of the last frame sent (R432), and the tick at which its first bit left -/
  sent : List (BitVec 16)
  sentAt : Nat
  /-- the tick of the last BLANK_START (R431) -/
  blankAt : Option Nat
  deriving DecidableEq, Repr

/-- A Lantern port that does not run. -/
def Ltn.init : Ltn :=
  { pair := (0, 0), pend := none, on := false, started := false, sending := false, framePair := (0, 0)
    map := none, tv := false, seq := 0, latch := [], sent := [], sentAt := 0
    blankAt := none }

/-- One cartridge beside its registers (R457 to R472). -/
structure Cart where
  /-- CARTc_nPRS is high -/
  absent : Bool
  /-- slot A holds the record in use -/
  inA : Bool
  /-- samples of the interval in progress -/
  samples : Nat
  /-- the ID block last read -/
  id : List Byte
  /-- the life record last written: to slot A, and its 16 bytes -/
  wrote : Option (Bool × List Byte)
  /-- the second of PWR_UPTIME of the last sample, or in which the cartridge became VALID (R465) -/
  second : Nat
  /-- PWR_UPTIME in µs when the element last passed its check (R464) -/
  authAt : Nat
  deriving DecidableEq, Repr

/-- A cartridge connector nothing has been seen on. -/
def Cart.init : Cart := { absent := true, inA := true, samples := 0, id := [], wrote := none, second := 0, authAt := 0 }

/-- A conversion: of the injected sequence, of which slot, whether its sampling has started, and the tick of the
converter edge at which it does (R440, R441). -/
structure AdcConv where
  inj : Bool
  slot : Nat
  sampling : Bool
  start : Nat
  deriving DecidableEq, Repr

/-- One converter beside its registers (R438 to R453): the slots of both sequences as taken at their start
(channel and sample time), the conversion in progress, the slot at which the regular sequence goes on, the
counts of R449, and whether the sequence has reported a reserved channel. -/
structure Adc where
  rslots : List (Nat × Nat)
  islots : List (Nat × Nat)
  conv : Option AdcConv
  rnext : Nat
  rtag : Nat
  itag : Nat
  rerr : Bool
  ierr : Bool
  deriving DecidableEq, Repr

/-- A converter at rest. -/
def Adc.init : Adc :=
  { rslots := [], islots := [], conv := none, rnext := 0, rtag := 0, itag := 0, rerr := false, ierr := false }

/-- One PWM group as the Gate sees it (R478 to R480): PWR_UPTIME of its trips within the last second, and a
manual release that waits for a reload, and whether an axis fault has tripped it. -/
structure GateGrp where
  trips : List Nat
  release : Bool
  manual : Bool
  deriving DecidableEq, Repr

/-- A group that never tripped. -/
def GateGrp.init : GateGrp := { trips := [], release := false, manual := false }

/-- One axis as the Gate follows it (R481): the code and the TAG of the previous boundary, boundaries too fast
in a row, boundaries with the same TAG. -/
structure GateAxis where
  code : Option Nat
  tag : Option Nat
  fast : Nat
  stale : Nat
  deriving DecidableEq, Repr

/-- An axis not yet read. -/
def GateAxis.init : GateAxis := { code := none, tag := none, fast := 0, stale := 0 }

/-- One loudspeaker channel (R483): th, the sum of the squares of the cycle's samples and their number, the
target gain in Q1.15. -/
structure GateSpk where
  th : Nat
  sum : Nat
  n : Nat
  gt : Nat
  deriving DecidableEq, Repr

/-- A loudspeaker channel at its full gain. -/
def GateSpk.init : GateSpk := { th := 0, sum := 0, n := 0, gt := 32768 }

/-- One light quantity (R484, R485): filtered value, reference, direction, the quantity at the previous L
boundary, PWR_UPTIME of its flashes, the ceiling in LIMIT. -/
structure Quant where
  f : Frac
  r : Frac
  dir : Int
  o : Frac
  flashes : List Nat
  ceil : Frac
  deriving DecidableEq, Repr

/-- A light quantity in the dark; its direction is rising (notes/assumptions/27.md). -/
def Quant.init : Quant := { f := ⟨0, 1⟩, r := ⟨0, 1⟩, dir := 1, o := ⟨0, 1⟩, flashes := [], ceil := ⟨1, 1⟩ }

/-- The Gate beside its registers (R473 to R485). -/
structure Gte where
  /-- every guard acts as disabled (R477) -/
  maint : Bool
  grp : Tab GateGrp
  axis : Tab GateAxis
  spk : Tab GateSpk
  quant : Tab Quant
  deriving DecidableEq, Repr

/-- The Gate after a chip reset. -/
def Gte.init : Gte := { maint := false, grp := [], axis := [], spk := [], quant := [] }

/-- A Cairn event that has been stamped and not committed: timestamp in units of 2⁻²⁸ ns, source, LEVEL, the
TIME_VALID of its capture (R364 to R366). -/
structure CrnEvent where
  stamp : Nat
  src : Nat
  level : Bool
  tv : Bool
  deriving DecidableEq, Repr

/-- An entry of the Cairn FIFO (R366, R367): an OVERRUN entry has its last timestamp and its COUNT. -/
structure CrnEntry where
  stamp : Nat
  src : Nat
  level : Bool
  tv : Bool
  seq : Nat
  overrun : Option (Nat × Nat)
  deriving DecidableEq, Repr

/-- Cairn beside its registers (R364 to R369). -/
structure Crn where
  pend : List CrnEvent
  fifo : List CrnEntry
  /-- the overrun record that accumulates: FIRST, its TIME_VALID, LAST, COUNT -/
  overrun : Option (Nat × Bool × Nat × Nat)
  seq : Nat
  /-- the edge each pin accepted last, in eighths of a tick since the reset -/
  lastEdge : Tab Nat
  deriving DecidableEq, Repr

/-- Cairn with an empty FIFO. -/
def Crn.init : Crn := { pend := [], fifo := [], overrun := none, seq := 0, lastEdge := [] }

/-- An entry of the PTP timestamp FIFO (R361). -/
structure PtsEntry where
  port : Nat
  tx : Bool
  msg : Nat
  domain : Nat
  seqId : Nat
  stamp : Nat
  deriving DecidableEq, Repr

/-- A reference source as its monitors follow it (R372 to R376). -/
structure Ref where
  /-- the latest sample, in units of 2⁻¹⁶ ns -/
  theta : Option Int
  /-- samples since the last boundary -/
  fresh : Nat
  /-- cycles since the last sample -/
  age : Nat
  /-- two samples since the last boundary differed by more than PTOL -/
  hit : Bool
  /-- the frequency window: samples, cycles, tick and reference time at its start -/
  wn : Nat
  wc : Nat
  w0 : Option (Nat × Int)
  /-- cycles without a failure -/
  good : Nat
  /-- a set or step came after the latest sample, with which the next one is not compared (R375) -/
  cut : Bool
  deriving DecidableEq, Repr

/-- A source that has given nothing. -/
def Ref.init : Ref :=
  { theta := none, fresh := 0, age := 0, hit := false, wn := 0, wc := 0, w0 := none, good := 0, cut := false }

/-- A pulse output (R386, R387): its level; the timebase value, in units of 2⁻²⁸ ns, from which on a grid point gives
the next rise; the value at which the high phase ends; whether the ball has been driven since EN was set; the value
at which a cleared EN takes effect. -/
structure Pulse where
  high : Bool
  since : Nat
  fall : Nat
  driven : Bool
  off : Nat
  deriving DecidableEq, Repr

/-- A pulse output that has not begun. -/
def Pulse.init : Pulse := { high := false, since := 0, fall := 0, driven := false, off := 0 }

/-- One synthesizer beside its registers (R388 to R391): boundaries in a row within 2 ns, whether a set or step has
stopped its alignment, and the divider value, in units of 2⁻²⁴, that it follows ADDEND with. -/
structure Syn where
  near : Nat
  stopped : Bool
  divider : Nat
  deriving DecidableEq, Repr

/-- A synthesizer at rest. -/
def Syn.init : Syn := { near := 0, stopped := false, divider := 1649267441 }

/-- Datum beside its registers (R348 to R392). -/
structure Dtm where
  /-- the timebase in units of 2⁻²⁸ ns: S, NS, FRAC and the bits below it (R348) -/
  tb : Nat
  /-- ticks of the timebase counter clock since the reset -/
  ticks : Nat
  /-- a captured set, as a timebase value (R351) -/
  setPend : Option Nat
  /-- the sum of the steps that wait, in units of 2⁻¹⁶ ns (R351) -/
  stepPend : Option Int
  /-- each master's snapshot: timebase and cycle index (R350) -/
  snaps : Tab (Nat × Nat)
  refs : Tab Ref
  /-- servo updates within LOCK_THR in a row, and beyond UNLOCK_THR in a row (R356) -/
  lockN : Nat
  unlockN : Nat
  /-- cycles the holdover has lasted -/
  holdN : Nat
  /-- Π in units of 2⁻³² ns, and whether the next sample of the selected source sets it (R382) -/
  pi : Int
  piNext : Bool
  /-- the second in progress: the sum of I, its boundaries, and whether it may be stored (R384) -/
  secSum : Int
  secN : Nat
  secOk : Bool
  /-- stored means, the newest first -/
  hist : List Frac
  /-- the first DTM_WCLK edge after the boundary has come (R372) -/
  wclk : Bool
  syn : Tab Syn
  crn : Crn
  pts : List PtsEntry
  /-- DTM_PPSO and DTM_FRMO -/
  ppso : Pulse
  frmo : Pulse
  deriving DecidableEq, Repr

/-- Datum after a reset: the timebase at zero (R348). -/
def Dtm.init : Dtm :=
  { tb := 0, ticks := 0, setPend := none, stepPend := none, snaps := [], refs := [], lockN := 0, unlockN := 0
    holdN := 0, pi := 0, piNext := false, secSum := 0, secN := 0, secOk := true, hist := [], wclk := false
    syn := [], crn := Crn.init, pts := [], ppso := Pulse.init, frmo := Pulse.init }

/-- What a node has of a train on its return pass (R324, R333, R336): the sections that came, 16 added for those of the
far arm, and the tick at which the last of them had come; whether one came invalid; whether its family is not the one
taken; whether the cycle has been counted lost; whether its block, and its light block, came late; by channel the audio
blocks, control and light values whose channel state shows a talker, and those that came relayed. -/
structure GalTrain where
  came : List Nat
  full : Option Nat
  bad : Bool
  foreign : Bool
  counted : Bool
  late : Bool
  lightLate : Bool
  a : Tab (List W40)
  c : Tab W32
  l : Tab (BitVec 16)
  ra : Tab (List W40)
  rc : Tab W32
  rl : Tab (BitVec 16)
  deriving DecidableEq, Repr

/-- A train of which nothing has come. -/
def GalTrain.init : GalTrain :=
  { came := [], full := none, bad := false, foreign := false, counted := false, late := false, lightLate := false
    a := [], c := [], l := [], ra := [], rc := [], rl := [] }

/-- What this node writes into the train of one cycle: block j − 2 of its granted channels (R325, R326). -/
structure GalTalk where
  a : Tab (List W40)
  c : Tab W32
  l : Tab (BitVec 16)
  deriving DecidableEq, Repr

/-- Nothing to write. -/
def GalTalk.init : GalTalk := { a := [], c := [], l := [] }

/-- An ordinary frame that waits in a port's transmit queue (R318, R319): its bytes from DA to the end of the
payload, whether it came from the host port, and for a forwarded PTP event message its ingress timestamp. -/
structure EthFrame where
  bytes : List Byte
  host : Bool
  ingress : Option Nat
  port : Nat
  deriving DecidableEq, Repr

/-- A Gallery port beside its registers (R338 to R340). -/
structure GalPort where
  /-- CYC32 of the valid LINK frames received since the link came up, the latest first; the cycle in which the last of
  all came; the link is the closure of a ring (R340, R344) -/
  links : List Nat
  heard : Option Nat
  closure : Bool
  /-- T_TX of the LINK frames sent within the last 64 cycles: cycle and timebase -/
  txs : List (Nat × Nat)
  /-- T_TX of the last LINK frame received, and the timebase at its SFD -/
  echo : Option (Nat × Nat)
  /-- the latest link delay samples, in units of 2⁻²⁸ ns, at most 16 -/
  samples : List Int
  /-- the port carries trains: the tick its last train began to leave (R319), the tick the last one began to arrive, and
  the last train of which a section came invalid (R340) -/
  train : Option Nat
  got : Option Nat
  badTrain : Option Nat
  /-- the transmit queue of ordinary frames, 16 KiB, in arrival order (R318, R319) -/
  queue : List EthFrame
  /-- the frames sent on the port since the latest boundary, from DA to the end of the payload; true where the FCS
  is right -/
  sent : List (List Byte × Bool)
  /-- a LINK frame waits for a gap -/
  linkDue : Bool
  deriving DecidableEq, Repr

/-- A port that has seen nothing. -/
def GalPort.init : GalPort :=
  { links := [], heard := none, closure := false, txs := [], echo := none, samples := [], train := none, got := none
    badTrain := none, queue := [], sent := [], linkDue := false }

/-- A value that the head relays from one arm's return into the other arm's train (R346): the arm it goes to, the
train it came with and the one it goes into, the section, the slot, its bytes. -/
structure GalRelay where
  far : Bool
  origin : Nat
  train : Nat
  sec : Nat
  slot : Nat
  bytes : List Byte
  deriving DecidableEq, Repr

/-- Gallery beside its registers (R316 to R347). -/
structure Gal where
  /-- the fields taken when EN was set: GAL_CTL, GAL_ETYPE, GAL_MAC, GAL_PORT_n, FAM -/
  ctl : W32
  etype : Nat
  mac : List Byte
  port0 : W32
  port1 : W32
  /-- a member has taken the family of a HEAD section since EN was set -/
  famTaken : Bool
  ports : Tab GalPort
  /-- the IDMODE last seen, and whether the ID is derived afresh at the next boundary (R341) -/
  idmode : Option Bool
  derive : Bool
  /-- the member gives its ID up at the next boundary (R342) -/
  dup : Bool
  /-- P_US, N_L and LBLK of the latest HEAD section, in effect from the next boundary (R337) -/
  next : Option (Nat × (Nat × Nat))
  /-- cycle at which the outputs come up again after a change of P (R337) -/
  pMute : Option Nat
  trains : Tab GalTrain
  talks : Tab GalTalk
  /-- the granted light channels with the values the light pass published at the L boundary whose blocks the trains
  carry (R326) -/
  lpub : Tab (BitVec 16)
  /-- values of the control and light chain channels (R23) -/
  chainC : Tab W32
  chainL : Tab (BitVec 16)
  /-- control and light channels the active set grants (R22) -/
  grantC : List Nat
  grantL : List Nat
  /-- of each audio chain channel the lost cycles in a row, and 32 − j of its ramp (R35); the channels whose last block
  came relayed (R346) -/
  lostRun : Tab Nat
  fade : Tab Nat
  relayed : List Nat
  /-- messages that wait: chain COMMITs, GAL_TXMSG, GAL_RXMSG (R330, R331) -/
  commits : List (List Byte)
  txq : List (List Byte)
  rxq : List (List Byte)
  /-- the set being streamed: slot at the destination, DEST, first Cavern word, LEN, next word (R331) -/
  settx : Option (Nat × (Nat × (Nat × (Nat × Nat))))
  /-- a WRAP request waits for the boundary; the cycle of the restore boundary (R345, R347) -/
  wrapReq : Bool
  restore : Option Nat
  /-- the cycle of the last restore: far-arm trains launched before it are abandoned (R347) -/
  restored : Nat
  /-- cycle and tick of the first launch under WRAP, and the tick of the end of each arm's return of that train (R346) -/
  launch : Option (Nat × Nat)
  backNear : Option Nat
  backFar : Option Nat
  relays : List GalRelay
  /-- the CYCLE of the train whose sections arrive, by port -/
  curTrain : Tab Nat
  /-- the first train launched or received since EN was set -/
  first : Option Nat
  /-- index of the next descriptor of the receive and of the transmit ring (R320) -/
  rxIdx : Nat
  txIdx : Nat
  /-- an MDIO transaction runs, with its WR (R317) -/
  mdio : Option Bool
  /-- a GO of GAL_MDIO has started a transaction since the reset: GAL_MDC is driven (R528) -/
  mdc : Bool
  deriving DecidableEq, Repr

/-- Gallery after its block reset. -/
def Gal.init : Gal :=
  { ctl := 0, etype := 0x88B5, mac := List.replicate 6 0, port0 := 0, port1 := 0, famTaken := false, ports := []
    idmode := none, derive := false, dup := false, next := none, pMute := none, trains := [], talks := []
    lpub := [], chainC := [], chainL := [], grantC := [], grantL := [], lostRun := [], fade := [], relayed := []
    commits := [], txq := [], rxq := [], settx := none, wrapReq := false, restore := none, restored := 0, launch := none
    backNear := none, backFar := none, relays := [], curTrain := [], first := none, rxIdx := 0, txIdx := 0
    mdio := none, mdc := false }

/-- One CLE slot beside its registers (R393 to R415). -/
structure CleSlot where
  /-- the copy of program and coefficients that is active: 0 or 1 -/
  bank : Nat
  /-- state words s0 to s15, and outputs o0 to o3 as last published -/
  st : Tab W32
  outs : Tab W32
  /-- the configuration in effect: CLE_SLOT_CFG, CLE_SCHED, CLE_HYST and the thresholds THR_1 to THR_7 (R397) -/
  cfg : W32
  sched : W32
  hyst : W32
  thr : List W32
  /-- a write waits for the next boundary release -/
  dirty : Bool
  /-- the exchange that CLE_SWAP.CMT requests is due: FLW_ACT has changed (R400) -/
  cmtDue : Bool
  /-- released and not ended (R413); the run is the second of its cycle -/
  live : Bool
  second : Bool
  /-- working registers, accumulator (sign-extended to 64 bits), instruction index -/
  v : Tab W32
  acc : BitVec 64
  pc : Nat
  /-- control store as it stood at the release (R407) -/
  cs : Tab W32
  /-- pending publications, the latest last: ports, state words, Echo capture (R408) -/
  ports : List (Nat × W32)
  states : List (Nat × W32)
  cap : Option (W32 × W32)
  /-- the Echo signal of this run; none where the slot is not Echo's target (R417) -/
  inj : Option W32
  /-- this run is one that Echo captures (R419) -/
  echoCap : Bool
  /-- firmware writes of state words that wait for the run's end (R413) -/
  fw : List (Nat × W32)
  deriving DecidableEq, Repr

/-- A slot that never ran: configuration as CLE_SLOT_CFG resets. -/
def CleSlot.init : CleSlot :=
  { bank := 0, st := [], outs := [], cfg := 0x1D4C, sched := 0, hyst := 0, thr := List.replicate 7 0
    dirty := false, cmtDue := false, live := false, second := false, v := [], acc := 0, pc := 0, cs := [], ports := []
    states := [], cap := none, inj := none, echoCap := false, fw := [] }

/-- The CLE beside its registers. Word w of copy k of slot s lies at 448 × s + 224 × k + w: 64 instructions, 80
coefficient values, 80 shifts (R398). -/
structure Cle where
  mem : Cells 32
  slots : Tab CleSlot
  /-- released runs that wait for the datapath, first in order (R393) -/
  queue : List Nat
  cur : Option Nat
  /-- the base-rate run that is suspended (R394) -/
  susp : Option Nat
  deriving DecidableEq, Repr

/-- A CLE with cleared memories. -/
def Cle.init : Cle := { mem := [], slots := [], queue := [], cur := none, susp := none }

/-- What a slot keeps through a block reset: its state words and outputs, which lie in the CLE memory, and the copy that
is active (notes/assumptions/87.md). -/
def CleSlot.cleared (c : CleSlot) : CleSlot := { CleSlot.init with bank := c.bank, st := c.st, outs := c.outs }

/-- The CLE after its block reset: its memories keep, which R87 does not list (notes/assumptions/87.md). -/
def Cle.cleared (c : Cle) : Cle :=
  { Cle.init with
    mem := c.mem
    slots := (c.slots.map fun p => (p.1, p.2.cleared)).filter fun p => decide (p.2 ≠ CleSlot.init) }

/-- Echo beside its registers (R417 to R420): its buffer, the parameters taken at the trigger, the state of its
signal. -/
structure Echo where
  buf : Cells 32
  ctl : W32
  amp : W32
  dph0 : W32
  len : W32
  prbs : W32
  sine : W32
  sine2 : W32
  pre : W32
  f16 : Bool
  /-- runs of the target slot since the trigger -/
  n : Nat
  /-- the PRBS register and the bit it gave last -/
  lfsr : Nat
  bit : Bool
  /-- the sine's phase and step, the step's index and the runs in it -/
  phi : W32
  dph : W32
  step : Nat
  inStep : Nat
  /-- runs counted toward DEC -/
  dec : Nat
  last : W32
  deriving DecidableEq, Repr

/-- Echo with nothing captured. -/
def Echo.init : Echo :=
  { buf := [], ctl := 0, amp := 0, dph0 := 0, len := 0, prbs := 0, sine := 0, sine2 := 0, pre := 0, f16 := false
    n := 0, lfsr := 1, bit := false, phi := 0, dph := 0, step := 0, inStep := 0, dec := 0, last := 0 }

/-- The JTAG port (R535 to R540): the instruction in force, the boundary-scan cells, what the data register last
shifted out, DBGMEM's access. -/
structure Jtag where
  ir : Nat
  cells : BitVec 666
  out : List Byte
  /-- a DBGMEM access in progress: its register as shifted in -/
  busy : Option (BitVec 100)
  /-- DBGMEM as it captures: DATA, CODE, DONE -/
  memData : W64
  memCode : Nat
  memDone : Bool
  /-- what the instruction register captured at the last instruction (R535) -/
  irOut : Nat
  deriving DecidableEq, Repr

/-- The TAP in Test-Logic-Reset: IDCODE (R535). -/
def Jtag.init : Jtag :=
  { ir := 1, cells := 0, out := [], busy := none, memData := 0, memCode := 0, memDone := false, irOut := 1 }

/-- The reset controller right after power-on reset: in reset, nRESET not low (R83). -/
def Rst.init : Rst :=
  { phase := .inReset, pinLow := false, chunk := 0, hostImage := [], needProfile := false
    slotLen := 0, entry := 0, joined := false, lit := false, upTicks := 0
    xspi := Xspi.init }

/-- The Sump with an empty FIFO. -/
def Smp.init : Smp := { fifo := [], lost := none, chipWait := none, nerrAt := 0 }

/-- A Guide bank: every register zero, not in an exception. -/
def Bank.init : Bank :=
  { g := [], pc := 0, epc := 0, ecause := 0, eaddr := 0, exc := false, astat := 0, slot := 0, loadErr := none }

/-- The Guide as block reset leaves it: BB runs, nothing is in flight, no instance. -/
def Gde.init : Gde :=
  { banks := [], imem := [], dmem := [], vbase := 0, nepc := 0, nstat := 0, loads := [], posts := [], stores := []
    waits := false
    nmiSignal := false, waiting := false, dbgHalted := false, windowOpen := false
    readies := [], cancels := [], pend := [], active := [], decided := none }

/-- A timer that does not count. -/
def Timer.init : Timer := { period := 0, presc := 0, due := 0, level := false }

/-- A domain with nothing in progress. -/
def Dom.init : Dom := { sleeping := false, wakeReq := false, pendMode := none, mode := 0, queued := false }

/-- Water table before its first issue (R76). -/
def Wtb.init : Wtb :=
  { mode := 0, issued := false, code := 40, settling := false, settleAt := 0, win := 0, minSlack := 0, miss := 0
    mask := BitVec.allOnes 36, manual := false, forced := false, restart := false, avs := none, again := none
    vid := none }

/-- Cavern cleared (R66). -/
def Cav.init : Cav := { words := [], flips := [] }

/-- The host window with a cleared array; HBUSY is high from the start of a reset (R155). -/
def Hwn.init : Hwn := { arr := [], hbusy := true, busyOff := none, quad := false, sends := false, spiOpen := false, hold := none, sent := [] }

/-- A Siphon channel with no block. -/
def SphCh.init : SphCh :=
  { src := 0, dst := 0, xcnt := 0, ycnt := 0, sxinc := 0, dxinc := 0, syinc := 0, dyinc := 0, wide := false
    irq := false, last := false, next := 0, rnext := 0, wnext := 0, acked := 0, ready := [], flight := []
    waits := false, stopping := false }

/-- A fleet bank that holds zeros. -/
def FleetBank.blank : FleetBank :=
  { key := List.replicate 32 0, fleetId := 0, keyHash := List.replicate 32 0, pub := List.replicate 64 0
    sig := List.replicate 64 0 }

/-- A fleet slot that was never used. -/
def FleetSlot.blank : FleetSlot :=
  { active := false, bank := false, gen := 0, b0 := FleetBank.blank, b1 := FleetBank.blank }

/-- OTP of a device whose identity the model does not fix: zeros stand for it (notes/assumptions/2.md). -/
def Otp.init : Otp :=
  { uid := List.replicate 8 0, duk := List.replicate 32 0, bootHash := List.replicate 32 0
    licHash := List.replicate 32 0, dbgHash := List.replicate 32 0, almDefault := [], tcal := [] }

/-- The MRAM of a device with nothing installed. -/
def Mram.init : Mram :=
  { slots := [], rootBank := none, root0 := List.replicate 32 0, root1 := List.replicate 32 0
    fwFloor := 0, profFloor := 0, dbgFail := 0, dbgDeny := false }

/-- The security controller right after power-on reset. -/
def Sec.init : Sec :=
  { otp := Otp.init, mram := Mram.init, eraseMark := none, staged := FleetBank.blank, keyOps := [], ce := none
    rngStarting := false, nonce := none, response := none, unlocked := false, lastFail := none
    debDown := [], lateAlarm := [] }

/-- The cycle sequencer right after a chip reset: base family, the deadline table of the reset values (R45). -/
def Cyc.init : Cyc :=
  { idx := 0, midDone := false, next := 1, fam := 0, famNext := none, dl := [1500, 12500, 17500, 28750, 30000, 30000, 27500], stage := 0
    units := [], missed := [], grid := 0, start := 0, mid := 0, lightIn := [], timeMute := false }

/-- Why the machine stops: no command of this block stops it. A command whose event the state does not allow
leaves the state as it is (notes/assumptions/7.md); there is no fault to raise. Safe. -/
inductive Fault where
  /-- raised by no command -/
  | never
  deriving DecidableEq, Repr

/-- Why a command is refused. -/
inductive Refusal where
  /-- raised by an arm of exec whose command has no meaning yet; safe: nothing is claimed of it -/
  | notModelled (mnemonic : String)
  deriving DecidableEq, Repr

/-- The state of the device: the commands that wait, and beside the registers of the map each block's own
state. -/
structure State where
  /-- the commands that wait, first in first out -/
  pending : List Instr
  /-- registers by system address in the primary window; an unlisted one holds its reset value -/
  regs : Cells 64
  /-- the free values met so far: the model's own counter (notes/assumptions/3.md) -/
  free : Nat
  /-- the answer the last access received -/
  resp : Resp
  rst : Rst
  smp : Smp
  gde : Gde
  tim : Tab Timer
  cyc : Cyc
  /-- switched domains 0 to 135 -/
  pwr : Tab Dom
  /-- ticks of the latest eight switch-ons of domains, the newest first (R70) -/
  switched : List Nat
  wtb : Wtb
  cav : Cav
  hwn : Hwn
  sph : Tab SphCh
  /-- transactions in flight at the bus matrix, oldest first -/
  txns : List Txn
  mtx : Mtx
  chm : Tab Chamber
  cfl : Cfl
  flw : Flw
  sap : Tab Sap
  dmx : Tab Dmx
  gal : Gal
  dtm : Dtm
  cle : Cle
  echo : Echo
  pwm : Pwm
  ltn : Tab Ltn
  cart : Tab Cart
  /-- bytes each two-wire controller is sending -/
  tw : Tab (List Byte)
  adc : Tab Adc
  gte : Gte
  sec : Sec
  jtag : Jtag
  deriving DecidableEq, Repr

/-- The machine right after the power-on reset, before its boot sequence (R61, R83, R87): every register at its
reset value, every memory cleared, no command waiting. -/
def State.reset : State :=
  { pending := [], regs := [], free := 0, resp := ⟨0, 0⟩, rst := Rst.init, smp := Smp.init, gde := Gde.init, tim := []
    cyc := Cyc.init, pwr := [], switched := [], wtb := Wtb.init, cav := Cav.init, hwn := Hwn.init, sph := [], txns := []
    mtx := { issues := 0, sphTurn := 15, gwTurn := 15 }, chm := []
    cfl := Cfl.init, flw := Flw.init, sap := [], dmx := [], gal := Gal.init, dtm := Dtm.init, cle := Cle.init
    echo := Echo.init, pwm := Pwm.init, ltn := [], cart := [], tw := [], adc := [], gte := Gte.init, sec := Sec.init
    jtag := Jtag.init }

end Sys2Proof.Machine
end

