-- ==== Sys2Proof/Machine/Ops.lean ====
section
/-! DEFINITION. The named operations over tables, registers, memories and free values: every meaning reads
and writes the state through these. -/

namespace Sys2Proof

/-- The width of a field. -/
def Fld.width (f : Fld) : Nat := f.hi + 1 - f.lo

end Sys2Proof

namespace Sys2Proof.Machine

open Sys2Proof

/-- What a meaning answers. -/
abbrev Out := Host.Outcome State Fault Refusal

/-! ### Sparse tables -/

/-- The entry of index k, or the default d. -/
def tget {α : Type} (t : Tab α) (d : α) (k : Nat) : α :=
  match t with
  | [] => d
  | (i, v) :: r => if i = k then v else tget r d k

/-- The table without the entry of index k. -/
def tdel {α : Type} (t : Tab α) (k : Nat) : Tab α :=
  match t with
  | [] => []
  | (i, v) :: r => if i = k then tdel r k else (i, v) :: tdel r k

/-- The table with the entry (k, v) in its place among rising indices; no entry of index k stands in t. -/
def tins {α : Type} (t : Tab α) (k : Nat) (v : α) : Tab α :=
  match t with
  | [] => [(k, v)]
  | (i, w) :: r => if k < i then (k, v) :: (i, w) :: r else (i, w) :: tins r k v

/-- The table with v at index k; an entry equal to the default d is not listed. -/
def tset {α : Type} [DecidableEq α] (t : Tab α) (d : α) (k : Nat) (v : α) : Tab α :=
  if v = d then tdel t k else tins (tdel t k) k v

/-- The canonical form of a table whose index k reads as d k when unlisted: indices strictly rising and no entry equal
to what the index reads as without it. -/
def Tab.wf {α : Type} [DecidableEq α] (d : Nat → α) (t : Tab α) : Bool :=
  decide (t.Pairwise fun p q => p.1 < q.1) && t.all fun p => p.2 != d p.1

/-- The table without the entries of indices lo to hi. -/
def tclear {α : Type} (t : Tab α) (lo hi : Nat) : Tab α :=
  t.filter fun p => !(decide (lo ≤ p.1) && decide (p.1 ≤ hi))

/-! ### Fields -/

/-- The value of field f of the word v. -/
def fget (f : Fld) (v : W64) : Nat := (v.extractLsb' f.lo f.width).toNat

/-- Ones at the bits of field f. -/
def fmask (f : Fld) : W64 := (BitVec.allOnes f.width).setWidth 64 <<< f.lo

/-- The word v with field f holding x modulo its width. -/
def fput (f : Fld) (v : W64) (x : Nat) : W64 :=
  (v &&& ~~~ fmask f) ||| ((BitVec.ofNat f.width x).setWidth 64 <<< f.lo)

/-- Bit n of the word v. -/
def bit (v : W64) (n : Nat) : Bool := v.getLsbD n

/-! ### The register map -/

/-- Whether an offset from a register's first instance names an instance of it, by the counts and strides
of its indices from the outermost. -/
def inDims (dims : List (Nat × Nat)) (off : Nat) : Bool :=
  match dims with
  | [] => off == 0
  | (n, st) :: r => decide (off / st < n) && inDims r (off % st)

/-- The first of the registers ds that has an instance at address a. -/
def findReg (ds : List RegDesc) (a : Nat) : Option RegDesc :=
  match ds with
  | [] => none
  | d :: r => if d.base ≤ a && inDims d.dims (a - d.base) then some d else findReg r a

/-- The base of the primary window of the peripheral registers (R180, R182). -/
def periphBase : Nat := 0x40000000

/-- The register that lies at address a of the primary window (R182). -/
def regAt (a : Nat) : Option RegDesc :=
  if a < periphBase then none else findReg (regsOfBlock ((a - periphBase) / 0x10000)) a

/-- What a register reads as when nothing has written it: the reset value its chapter gives, and zero where
the chapter leaves the value to the board, the boot or production (notes/assumptions/2.md). The window of
the references other than GAL and WCLK is the one value that differs within a register (DTM_REF_CFG_s). -/
def resetValue (a : Nat) : W64 :=
  match regAt a with
  | none => 0
  | some d =>
    if a = rDTM_REF_CFG 1 ∨ a = rDTM_REF_CFG 4 then 0x3E806400 else BitVec.ofNat 64 d.reset

namespace State

/-- The value the register at address a holds. -/
def reg (s : State) (a : Nat) : W64 := tget s.regs (resetValue a) a

/-- The state with v in the register at address a. -/
def setReg (s : State) (a : Nat) (v : W64) : State :=
  { s with regs := tset s.regs (resetValue a) a v }

/-- Field f of the register at address a. -/
def rf (s : State) (a : Nat) (f : Fld) : Nat := fget f (s.reg a)

/-- A one-bit field of the register at address a. -/
def rb (s : State) (a : Nat) (f : Fld) : Bool := s.rf a f == 1

/-- The state with x in field f of the register at address a. -/
def setRf (s : State) (a : Nat) (f : Fld) (x : Nat) : State := s.setReg a (fput f (s.reg a) x)

/-- The state with a one-bit field of the register at address a set or clear. -/
def setRb (s : State) (a : Nat) (f : Fld) (b : Bool) : State := s.setRf a f (if b then 1 else 0)

/-- The state with bit n of the register at address a set or clear. -/
def setBit (s : State) (a n : Nat) (b : Bool) : State := s.setRb a ⟨n, n, .ro⟩ b

/-- Bit n of the register at address a. -/
def rbit (s : State) (a n : Nat) : Bool := bit (s.reg a) n

/-- One more in a counter field that saturates at its greatest value. -/
def bumpSat (s : State) (a : Nat) (f : Fld) : State :=
  if s.rf a f + 1 < 2 ^ f.width then s.setRf a f (s.rf a f + 1) else s

/-- One more in a 40-bit counter CNT whose wrap sets OVF in bit 40 (R51, R52). -/
def bumpWrap (s : State) (a : Nat) : State :=
  let c := s.rf a ⟨39, 0, .rw⟩ + 1
  if c < 2 ^ 40 then s.setRf a ⟨39, 0, .rw⟩ c else (s.setRf a ⟨39, 0, .rw⟩ 0).setBit a 40 true

/-- The registers of addresses lo to hi at their reset values. -/
def resetRegs (s : State) (lo hi : Nat) : State := { s with regs := tclear s.regs lo hi }

/-! ### Free values -/

/-- The state after one more free value was met. -/
def tick1 (s : State) : State := { s with free := s.free + 1 }

/-- The free value of w bits that stands at this point of the run (notes/assumptions/3.md). -/
def freeVal (s : State) (w : Nat) : BitVec w := Config.freeBits w s.free

/-- The order the arbiter of R39 takes at this point of the run (notes/assumptions/4.md). -/
def arbFirst (s : State) : Bool := Config.arbiterFirst s.free

/-- The block of index i of RST_BLK is held in block reset (RST_BLK_STAT). -/
def held (s : State) (i : Nat) : Bool := s.rbit rRST_BLK_STAT i

/-- The device runs firmware: it is neither in reset nor in its boot sequence. -/
def running (s : State) : Bool := s.rst.phase == .running

/-- TIME_VALID (R13). -/
def timeValid (s : State) : Bool := s.rb rDTM_STAT DTM_STAT.TIME_VALID

/-- Domain n is powered as R67 counts it: STATE reads powered and no sleep transition runs. -/
def domOn (s : State) (n : Nat) : Bool :=
  s.rf (rPWR_DOM_STAT n) PWR_DOM_STAT.STATE == 0 && !(tget s.pwr Dom.init n).sleeping

/-- Domain n is in OFF or RETAIN by the mode in effect: not powered, and not asleep under AUTO (R64, R74). -/
def domOff (s : State) (n : Nat) : Bool := decide (2 ≤ (tget s.pwr Dom.init n).mode)

/-- Elapsed chain time in whole nanoseconds: 10⁹ × S + NS (R348, R495). -/
def nowNs (s : State) : Nat := s.dtm.tb / 2 ^ 28

/-- An answer to the requester of an access. -/
def answer (s : State) (data : W64) (code : Nat) : State := { s with resp := ⟨data, code⟩ }

end State

/-! ### Signed values -/

/-- The integer nearest x that w bits in two's complement can hold. -/
def clampS (w : Nat) (x : Int) : Int :=
  if x > 2 ^ (w - 1) - 1 then 2 ^ (w - 1) - 1 else if x < - 2 ^ (w - 1) then - 2 ^ (w - 1) else x

/-- x / 2^n rounded half-up: ⌊x / 2^n + 1/2⌋ (R193). -/
def rndHalfUp (x : Int) (n : Nat) : Int :=
  if n = 0 then x else (x + 2 ^ (n - 1)) / 2 ^ n

/-- A register field read as a two's-complement number. -/
def sfget (f : Fld) (v : W64) : Int := (v.extractLsb' f.lo f.width).toInt

/-- The low w bits of an integer as a natural number. -/
def lowBits (w : Nat) (x : Int) : Nat := (BitVec.ofInt w x).toNat

/-- Applies f for each of the indices of a list, from the first. -/
def forEach {α : Type} (l : List α) (f : α → State → State) (s : State) : State :=
  match l with
  | [] => s
  | a :: r => forEach r f (f a s)

/-- The indices lo, lo+1, …, n of them. -/
def idxs (lo n : Nat) : List Nat := List.range' lo n

/-- The bytes of a word, least significant first, n of them. -/
def bytesOf (n : Nat) (v : W64) : List Byte :=
  match n with
  | 0 => []
  | n + 1 => v.setWidth 8 :: bytesOf n (v >>> 8)

/-- The word of which l are the bytes, least significant first. -/
def ofBytes (l : List Byte) : W64 :=
  match l with
  | [] => 0
  | b :: r => (b.setWidth 64) ||| (ofBytes r <<< 8)

/-- n bytes of a byte memory from address a. -/
def rdBytes (m : Cells 8) (a n : Nat) : List Byte :=
  match n with
  | 0 => []
  | n + 1 => tget m (Config.clearedWord 8) a :: rdBytes m (a + 1) n

/-- The byte memory with the bytes l from address a. -/
def wrBytes (m : Cells 8) (a : Nat) (l : List Byte) : Cells 8 :=
  match l with
  | [] => m
  | b :: r => wrBytes (tset m (Config.clearedWord 8) a b) (a + 1) r

end Sys2Proof.Machine
end

