-- ==== Sys2Proof/Machine/Reset.lean ====
section
/-! DEFINITION. What each reset clears (R83 to R87, R105): block reset of each block, and chip reset. -/

namespace Sys2Proof.Machine

open Sys2Proof

/-- The first system address of the registers of the block of index k (R182). -/
def blockBase (k : Nat) : Nat := periphBase + 0x10000 * k

/-- The block of RST_BLK that holds the master of an identifier; none for the log writer (R85, R165). -/
def identBlock (ident : Nat) : Option Nat :=
  if ident ≤ 7 then some 16 else if ident ≤ 23 then some 32 else if ident ≤ 31 then some 19
  else if ident < 48 then some (ident - 32) else if ident = 48 then some 18 else if ident = 49 then none
  else if ident ≤ 55 then some 17 else some 22

/-- The master of an identifier is held: it issues nothing, and discards what arrives (R178). -/
def identHeld (s : State) (ident : Nat) : Bool :=
  match identBlock ident with
  | some k => s.held k
  | none => false

/-- What waits to issue at the masters of block i is dropped (R178). -/
def dropWaiting (i : Nat) (s : State) : State :=
  { s with txns := s.txns.filter fun x => x.issued || identBlock x.ident != some i }

/-- A Siphon channel after its block reset: the responses in flight are discarded when they arrive (R178). -/
def SphCh.cleared (c : SphCh) : SphCh := { SphCh.init with flight := c.flight.map fun e => { e with dead := true } }

/-- The state with the registers and the state of block i of RST_BLK at their reset values; memories and
power domain modes keep (R86, R87). The comparator settings and the cartridge maps, which are the Gate's limits, keep
(R87, R474, R476), and so do the levels and the production codes, which no reset of the block changes (R452, R454). A
master discards the responses of its transactions in flight and drops what waits to issue; a debug access that waits
completes with code 7 (R178, R540). -/
def blockClear (i : Nat) (s : State) : State :=
  if i < 16 then
    let s := s.resetRegs (blockBase 24 + 0x100 * i) (blockBase 24 + 0x100 * i + 0xFF)
    { s with chm := tset s.chm Chamber.init i (tget s.chm Chamber.init i).cleared }
  else if i = 16 then
    let s := s.resetRegs (blockBase 14) (blockBase 14 + 0xFFFF)
    { s with gde := { Gde.init with
        imem := s.gde.imem, dmem := s.gde.dmem
        loads := s.gde.loads.map fun l => { l with bank := 10, reg := 0 }
        stores := s.gde.stores.map fun e => { e with live := false } }
             jtag := if s.jtag.busy.isSome then { s.jtag with busy := none, memCode := 7, memDone := true } else s.jtag }
  else if i = 17 then
    let s := s.resetRegs (blockBase 16) (blockBase 16 + 0xFFFF)
    { s with cfl := Cfl.init }
  else if i = 18 then
    let s := s.resetRegs (blockBase 17) (blockBase 17 + 0xFFFF)
    { s with flw := Flw.init }
  else if i = 19 then
    let s := s.resetRegs (blockBase 3) (blockBase 3 + 0xFFFF)
    { s with gal := Gal.init }
  else if i = 20 then
    let s := s.resetRegs (blockBase 19) (blockBase 19 + 0xFFFF)
    { s with cle := s.cle.cleared, echo := { Echo.init with buf := s.echo.buf } }
  else if i = 21 then
    let s := s.resetRegs (blockBase 20) (blockBase 20 + 0xFFFF)
    { s with pwm := Pwm.init }
  else if i = 22 then
    let s := forEach (idxs 0 4) (fun c t => t.setReg (rLTN_CART_MAP c) (s.reg (rLTN_CART_MAP c)))
      (s.resetRegs (blockBase 21) (blockBase 21 + 0xFFFF))
    { s with ltn := [], cart := [], tw := [] }
  else if i = 23 then
    let s := s.resetRegs (blockBase 22) (blockBase 22 + 0x20F)
    let s := s.resetRegs (blockBase 22 + 0x228) (blockBase 22 + 0x2FF)
    { (s.resetRegs (rADC_CMP_CNT 0) (rADC_CMP_CNT 11)) with adc := [] }
  else if i < 32 then
    let n := i - 24
    let s := s.resetRegs (blockBase 18 + 0x100 * n) (blockBase 18 + 0x100 * n + 0xFF)
    { s with sap := tset s.sap Sap.init n Sap.init }
  else if i = 32 then
    let s := s.resetRegs (blockBase 12) (blockBase 12 + 0xFFFF)
    forEach (idxs 0 16)
      (fun n t => { t with sph := tset t.sph SphCh.init n (tget t.sph SphCh.init n).cleared }) s
  else if i = 33 then
    let hm := s.rf rHWN_STAT HWN_STAT.HMODE
    let s := s.resetRegs (blockBase 11) (blockBase 11 + 0xFFFF)
    ({ s with hwn := { Hwn.init with arr := s.hwn.arr, hbusy := false } }).setRf rHWN_STAT HWN_STAT.HMODE hm
  else if i = 34 then
    let s := s.resetRegs (blockBase 23) (blockBase 23 + 0xFFFF)
    { s with dmx := [] }
  else if i = 35 then
    let s := s.resetRegs (blockBase 15) (blockBase 15 + 0xFFFF)
    { s with tim := [] }
  else s

/-- The monitored units of block i (R47, R86). -/
def unitsOfBlock (i : Nat) : List Nat :=
  if i < 16 then [i] else if i = 17 then [32, 34] else if i = 18 then [33] else if i = 20 then idxs 16 16
  else if i = 22 then [35] else []

/-- A run of unit u that is in progress is lost: its monitor will record a miss (R86). -/
def loseRun (u : Nat) (s : State) : State :=
  if tget s.cyc.units .idle u = .idle then s
  else { s with cyc := { s.cyc with units := tset s.cyc.units .idle u .blocked } }

/-- Block reset of block i: the block is held and its registers and state return to their reset values
(R86). A block already held is not reset again (R85, R490). -/
def blockReset (i : Nat) (s : State) : State :=
  if s.held i then s
  else (dropWaiting i (forEach (unitsOfBlock i) loseRun (blockClear i s))).setBit rRST_BLK_STAT i true

/-- The hold of block i ends; the Guide starts again at the ENTRY of the image that booted (R86, R87). -/
def blockResetEnd (i : Nat) (s : State) : State :=
  if s.held i then
    let s := s.setBit rRST_BLK_STAT i false
    if i = 16 then
      { s with gde := { s.gde with
          banks := tset s.gde.banks Bank.init 8 { tget s.gde.banks Bank.init 8 with pc := s.rst.entry } } }
    else s
  else s

/-- The registers of the always-on domain, which every reset but the power-on reset keeps, with the straps
sampled at power-on (R58, R87, R516, R532). -/
def alwaysOnRegs : List (Nat × Nat) :=
  [(rPWR_UPTIME, rPWR_UPTIME), (rPWR_STAT, rPWR_STAT), (rRST_CAUSE, rRST_CAUSE), (rRST_TRIAL, rRST_TRIAL),
   (rSEC_ALM 0, rSEC_ALM 6), (rSEC_TAMP_CFG 0, rSEC_TAMP_CFG 3), (rSEC_MESH, rSEC_MESH), (rSEC_VIOL, rSEC_VIOL)]

/-- The entries of the register store within the ranges rs. -/
def keepRegs (regs : Cells 64) (rs : List (Nat × Nat)) : Cells 64 :=
  regs.filter fun p => rs.any fun r => decide (r.1 ≤ p.1) && decide (p.1 ≤ r.2)

/-- The first word of the event-log region (R494). -/
def logBase : Nat := 1044480

/-- The state at the start of a chip reset of the given cause and source: everything at its reset value but
the always-on domain, the key store and OTP, the event-log region with its check bits, and what lies outside
the device (R83, R87, R105). -/
def chipReset (cause src : Nat) (s : State) : State :=
  let r := State.reset
  let t : State := { r with
    pending := s.pending, free := s.free, resp := s.resp
    regs := keepRegs s.regs alwaysOnRegs
    rst := { r.rst with pinLow := s.rst.pinLow, upTicks := s.rst.upTicks }
    cav := { words := s.cav.words.filter (fun p => decide (logBase ≤ p.1))
             flips := s.cav.flips.filter (fun p => decide (logBase ≤ p.1)) }
    sec := { r.sec with otp := s.sec.otp, mram := s.sec.mram, eraseMark := s.sec.eraseMark
                        debDown := s.sec.debDown, lastFail := s.sec.lastFail
                        lateAlarm := s.sec.lateAlarm } }
  (t.setRf rRST_CAUSE RST_CAUSE.CAUSE cause).setRf rRST_CAUSE RST_CAUSE.SRC src

end Sys2Proof.Machine
end

