-- ==== Sys2Proof/Machine/Roster.lean ====
section
/-! DEFINITION. What reaches the Guide's task roster: readies, cancels and events, gathered into
arbitration windows (R125, R127, R572). -/

namespace Sys2Proof.Machine

open Sys2Proof

/-- A ready reaches the roster: it belongs to the open window, or opens one; a disabled slot ignores it
(R125, R572). -/
def rosterReady (n : Nat) (s : State) : State :=
  if s.rb (rGDE_TASK_CFG n) GDE_TASK_CFG.EN then
    { s with gde := { s.gde with windowOpen := true, readies := s.gde.readies ++ [n] } }
  else s

/-- A cancel reaches the roster (R127, R572). -/
def rosterCancel (n : Nat) (s : State) : State :=
  { s with gde := { s.gde with windowOpen := true, cancels := s.gde.cancels ++ [n] } }

/-- An event of code src readies every enabled slot that selects it (R125). -/
def rosterEvent (src : Nat) (s : State) : State :=
  forEach (idxs 0 64)
    (fun n t => if t.rf (rGDE_TASK_CFG n) GDE_TASK_CFG.SRC = src then rosterReady n t else t) s

end Sys2Proof.Machine
end

