-- ==== Sys2Proof/Machine/Sump.lean ====
section
/-! DEFINITION. The Sump: a source raises, the class escalates, the reaction is taken and logged
(R486 to R502), and the log writer. -/

namespace Sys2Proof.Machine

open Sys2Proof

/-! ### The source table (R501) -/

def srcArmingOverrun : Nat := 36
def srcSapClock (n : Nat) : Nat := 37 + n
def srcCairnOverrun : Nat := 45
def srcSynUnlock (n : Nat) : Nat := 46 + n
def srcLanternUnderrun (n : Nat) : Nat := 49 + n
def srcCavernCe : Nat := 53
def srcCavernUe : Nat := 54
def srcChamberCe : Nat := 55
def srcChamberUe : Nat := 56
def srcAvsFailure : Nat := 57
def srcSetCheck : Nat := 58
def srcCartSideband (c : Nat) : Nat := 59 + c
def srcCartLifeWrite (c : Nat) : Nat := 63 + c
def srcCartLifeRecord (c : Nat) : Nat := 67 + c
def srcTimeLoss : Nat := 71
def srcPtsDrop : Nat := 72
def srcRefLoss (r : Nat) : Nat := 73 + r
def srcHoldover : Nat := 79
def srcGalLost : Nat := 80
def srcGalFcs : Nat := 81
def srcGlinkLoss (n : Nat) : Nat := 82 + n
def srcHeadConflict : Nat := 84
def srcTalkClash : Nat := 85
def srcFamErr : Nat := 86
def srcGalDup : Nat := 87
def srcCmpTrip (k : Nat) : Nat := 88 + k
def srcLockout : Nat := 100
def srcAxisFault (a : Nat) : Nat := 101 + a
def srcSpkLimit (k : Nat) : Nat := 105 + k
def srcFlicker : Nat := 109
def srcCartExpiry (c : Nat) : Nat := 110 + c
def srcThermal (k : Nat) : Nat := 114 + k
def srcKeyAccess : Nat := 120
def srcCartAuth (c : Nat) : Nat := 121 + c
def srcTamper (k : Nat) : Nat := 125 + k
def srcMesh : Nat := 129
def srcDebugUnlock : Nat := 130
def srcLockedWrite : Nat := 131
def srcDeadlineCfg : Nat := 132
def srcRefusedPower : Nat := 133
def srcUnpoweredRelease : Nat := 134
def srcWtbBound : Nat := 135
def srcBadKey : Nat := 136
def srcDoubleExc : Nat := 137
def srcNmiFault : Nat := 138
def srcChmAddress : Nat := 139
def srcChmIllegal : Nat := 140
def srcChmLoop : Nat := 141
def srcChmPmw : Nat := 142
def srcSphDesc : Nat := 143
def srcCflRoute : Nat := 144
def srcSetLayout : Nat := 145
def srcSapCfg : Nat := 146
def srcAddend : Nat := 147
def srcSynCfg : Nat := 148
def srcCleCfg : Nat := 149
def srcCleIllegal : Nat := 150
def srcLtnCfg : Nat := 151
def srcLtnFb : Nat := 152
def srcAdcChannel : Nat := 153
def srcBusDecode : Nat := 154
def srcBusPath : Nat := 155
def srcBusAccess : Nat := 156
def srcBusUnpowered : Nat := 157
def srcBusHeld : Nat := 158
def srcBusTimeout : Nat := 159

/-- The class of source n: 0 TIMING, 1 INTEGRITY, 2 LINK, 3 LIMIT, 4 THERMAL, 5 SECURITY, 6 PROGRAM, 7 BUS
(R486, R501). -/
def classOf (n : Nat) : Nat :=
  if n ≤ 52 then 0 else if n ≤ 70 then 1 else if n ≤ 87 then 2 else if n ≤ 113 then 3
  else if n ≤ 119 then 4 else if n ≤ 130 then 5 else if n ≤ 153 then 6 else 7

/-- The block of RST_BLK that BLOCK_RESET resets for source n, from the source table, the DETAIL word where
the table names the block of DETAIL, and the identifier ident of the transaction for a BUS source
(R501, R502, R165). -/
def blockOf (n : Nat) (detail : W32) (aux : Nat) : Option Nat :=
  if n ≤ 15 then some n
  else if n ≤ 31 then some 20
  else if n = 33 then some 18
  else if n ≤ 35 then some 17
  else if n = 36 then some 18
  else if n ≤ 44 then some (24 + (n - 37))
  else if n ≤ 48 then none
  else if n ≤ 52 then some 22
  else if n ≤ 54 then none
  else if n ≤ 56 then some (detail.toNat % 16)
  else if n = 57 then none
  else if n = 58 then some 18
  else if n ≤ 70 then some 22
  else if n ≤ 79 then none
  else if n ≤ 87 then some 19
  else if n ≤ 104 then some 21
  else if n ≤ 108 then some (24 + aux % 8)
  else if n = 109 then none
  else if n ≤ 113 then some 22
  else if n ≤ 120 then none
  else if n ≤ 124 then some 22
  else if n ≤ 133 then none
  else if n = 134 then some aux
  else if n ≤ 136 then none
  else if n ≤ 138 then some 16
  else if n ≤ 142 then some (detail.toNat % 16)
  else if n = 143 then some 32
  else if n = 144 then some 17
  else if n = 145 then some 18
  else if n = 146 then some (24 + detail.toNat % 8)
  else if n ≤ 148 then none
  else if n ≤ 150 then some 20
  else if n ≤ 152 then some 22
  else if n = 153 then some 23
  else if aux ≤ 7 then some 16
  else if aux ≤ 23 then some 32
  else if aux ≤ 31 then some 19
  else if aux ≤ 47 then some (aux - 32)
  else if aux = 48 then some 18
  else if aux = 49 then none
  else if aux ≤ 55 then some 17
  else some 22

/-! ### Raising -/

/-- A logged raise enters the FIFO, or starts or joins the LOST record when the FIFO is full (R497). -/
def logRaise (e : LogEntry) (s : State) : State :=
  let now := s.nowNs % 2 ^ 60
  match s.smp.lost with
  | some (first, _, count) =>
    let s := { s with smp := { s.smp with lost := some (first, now, min (count + 1) (2 ^ 21 - 1)) } }
    s.bumpWrap rSMP_LOST
  | none =>
    if s.smp.fifo.length < 32 then
      let s := { s with smp := { s.smp with fifo := s.smp.fifo ++ [e] } }
      s.setRf rSMP_LOG_STAT SMP_LOG_STAT.LEVEL s.smp.fifo.length
    else
      let s := { s with smp := { s.smp with lost := some (now, now, 1) } }
      ((s.setRb rSMP_LOG_STAT SMP_LOG_STAT.PEND true).setRb rSMP_LOG_STAT SMP_LOG_STAT.OVR true).bumpWrap rSMP_LOST

/-- The level that R488 gives a raise of source n against the class state as it stands. -/
def raiseLevel (n : Nat) (s : State) : Nat :=
  let c := classOf n
  let lv := s.rf (rSMP_SRC n) SMP_SRC.LEVEL
  if s.rb (rSMP_CLS c) SMP_CLS.PEND then
    min (max lv (s.rf (rSMP_CLS c) SMP_CLS.LEVEL + 1)) 3
  else lv

/-- The Sump signals the Guide's NMI (R122, R123): held one deep in BN, or by a halt of the debugger;
not taken by a Guide that is halted by a fault or held in block reset. One that is signalled before an earlier one is
entered merges with it (DESIGN CHOICE, notes/assumptions/91.md). -/
def signalNmi (s : State) : State :=
  if s.held 16 || s.rb rGDE_STAT GDE_STAT.HALT then s
  else if s.rb rGDE_STAT GDE_STAT.NMI_ACT then s.setRb rGDE_STAT GDE_STAT.NMI_PEND true
  else { s with gde := { s.gde with nmiSignal := true } }

/-- A Sump chip reset for source n is to begin (R490, R491). -/
def askChipReset (n : Nat) (s : State) : State := { s with smp := { s.smp with chipWait := some (n, s.dtm.ticks) } }

/-- The nERR hold of class c is set; nERR falls where it is the first (R492). -/
def holdNerr (c : Nat) (s : State) : State :=
  let s := if s.rf rSMP_NERR SMP_NERR.CLASS = 0 then { s with smp := { s.smp with nerrAt := s.dtm.ticks } } else s
  s.setBit rSMP_NERR c true

/-- The reaction of a level (R490). -/
def react (n lv : Nat) (detail : W32) (aux : Nat) (s : State) : State :=
  if lv = 0 then rosterEvent (0x10 + classOf n) s
  else if lv = 1 then
    signalNmi ((s.setRf rSMP_NMI SMP_NMI.CLASS (classOf n)).setRf rSMP_NMI SMP_NMI.SRC n)
  else if lv = 2 then
    match blockOf n detail aux with
    | some b => blockReset b s
    | none => askChipReset n s
  else askChipReset n s

/-- Source n raises, with the DETAIL word of R502 and, where the block depends on more, the identifier or
block aux (R487, R488, R490 to R493, R497). -/
def raiseAux (n : Nat) (detail : W32) (aux : Nat) (s : State) : State :=
  let c := classOf n
  let s := s.bumpSat (rSMP_CNT n) SMP_CNT.CNT
  if s.rb (rSMP_SRC n) SMP_SRC.EN then
    let lv := raiseLevel n s
    let wasPend := s.rb (rSMP_CLS c) SMP_CLS.PEND
    let s := s.bumpWrap rSMP_TOTAL
    let s := s.setRf (rSMP_CLS c) SMP_CLS.SRC n
    let logged := fun (t : State) =>
      if t.rb (rSMP_SRC n) SMP_SRC.LOG then
        logRaise (.fault t.timeValid c lv n (t.nowNs % 2 ^ 60) detail) t
      else t
    if s.smp.chipWait.isSome then
      logged (s.bumpSat (rSMP_CLS c) SMP_CLS.CNT)
    else
      let s := if wasPend then s.bumpSat (rSMP_CLS c) SMP_CLS.CNT else s.setRf (rSMP_CLS c) SMP_CLS.CNT 1
      let s := (s.setRf (rSMP_CLS c) SMP_CLS.LEVEL lv).setRb (rSMP_CLS c) SMP_CLS.PEND true
      let s := s.setBit rSMP_PEND c true
      let s := if s.rb (rSMP_SRC n) SMP_SRC.NERR then holdNerr c s else s
      react n lv detail aux (logged s)
  else s

/-- Source n raises with a DETAIL word. -/
def raiseD (n : Nat) (detail : W32) (s : State) : State := raiseAux n detail 0 s

/-- Source n raises; its DETAIL is zero. -/
def raise (n : Nat) (s : State) : State := raiseAux n 0 0 s

/-- The classes of the mask are acknowledged: no longer pending, their nERR holds clear; a class that is
not pending is left alone (R489). -/
def acknowledge (mask : W32) (s : State) : State :=
  forEach (idxs 0 8)
    (fun c t =>
      if mask.getLsbD c && t.rbit rSMP_PEND c then
        ((t.setBit rSMP_PEND c false).setBit rSMP_NERR c false).setRb (rSMP_CLS c) SMP_CLS.PEND false
      else t) s

/-- nERR is low: some class holds it, and the device is not in reset or boot (R104, R492). -/
def nErrLow (s : State) : Bool := s.rf rSMP_NERR SMP_NERR.CLASS != 0 && s.running

/-- The chip reset that waits may begin: every record is committed and, where NERR of its source is set, nERR has been low
for 10 µs; or 20 µs have passed since the raise (R491). -/
def sumpDue (s : State) : Bool :=
  match s.smp.chipWait with
  | none => false
  | some (n, t) =>
    (s.smp.fifo.isEmpty && s.smp.lost.isNone &&
      (!s.rb (rSMP_SRC n) SMP_SRC.NERR || (nErrLow s && decide (s.smp.nerrAt + 2500 ≤ s.dtm.ticks)))) ||
      decide (t + 5000 ≤ s.dtm.ticks)

/-! ### The event log -/

/-- The first word of record r (R494). -/
def recordBase (r : Nat) : Nat := logBase + 4 * r

/-- The four words of a record with its SEQ, VALID set (R495). -/
def recordWords (seq : Nat) : LogEntry → List W40
  | .fault tv c lv src t d =>
    [BitVec.ofNat 40 (2 ^ 39 + (if tv then 2 ^ 36 else 0) + c * 2 ^ 33 + lv * 2 ^ 31 + src * 2 ^ 23 + seq),
     BitVec.ofNat 40 t, BitVec.ofNat 40 (t / 2 ^ 40 % 2 ^ 20), d.setWidth 40]
  | .lost first last count =>
    [BitVec.ofNat 40 (2 ^ 39 + 1 * 2 ^ 37 + count * 2 ^ 16 + seq),
     BitVec.ofNat 40 first,
     BitVec.ofNat 40 (first / 2 ^ 40 % 2 ^ 20 + last % 2 ^ 20 * 2 ^ 20), BitVec.ofNat 40 (last / 2 ^ 20)]

/-- The words of a BOOT record (R495). -/
def bootRecordWords (seq cause src uptime : Nat) : List W40 :=
  [BitVec.ofNat 40 (2 ^ 39 + 2 * 2 ^ 37 + cause * 2 ^ 33 + src * 2 ^ 23 + seq),
   BitVec.ofNat 40 uptime, BitVec.ofNat 40 (uptime / 2 ^ 40 % 2 ^ 20), 0]

/-- A word stored in Cavern with fresh check bits. -/
def cavPut (w : Nat) (v : W40) (s : State) : State :=
  { s with cav := { words := tset s.cav.words (Config.clearedWord 40) w v, flips := tdel s.cav.flips w } }

/-- The words vs stored from word w on. -/
def cavPuts (w : Nat) (vs : List W40) (s : State) : State :=
  match vs with
  | [] => s
  | v :: r => cavPuts (w + 1) r (cavPut w v s)

/-- The write position and SEQ move to the next record (R496, R498). -/
def logAdvance (s : State) : State :=
  let s := s.setRf rSMP_LOG_STAT SMP_LOG_STAT.WR ((s.rf rSMP_LOG_STAT SMP_LOG_STAT.WR + 1) % 1024)
  s.setRf rSMP_LOG_SEQ SMP_LOG_SEQ.VALUE (s.rf rSMP_LOG_SEQ SMP_LOG_SEQ.VALUE + 1)

/-- One record is written at the next record index in its five writes, of which the first good are answered without an
error response; whether the one after them was performed is a free value (R175, R496, R498). -/
def commitRecord (e : LogEntry) (good : Nat) (s : State) : State :=
  let r := s.rf rSMP_LOG_STAT SMP_LOG_STAT.WR
  let ws := recordWords (s.rf rSMP_LOG_SEQ SMP_LOG_SEQ.VALUE) e
  let hd := ws.headD 0
  let ends := decide (5 ≤ good)
  let late := !ends && s.freeVal 1 == 1
  let good := if late then good + 1 else good
  let s := if ends then s else s.tick1
  let s :=
    if good = 0 then s
    else
      let s := cavPut (recordBase r) (hd &&& 0x7FFFFFFFFF#40) s
      let s := cavPuts (recordBase r + 1) (ws.tail.take (good - 1)) s
      if 5 ≤ good then cavPut (recordBase r) hd s else s
  let s :=
    if ends then s
    else (s.setRb rSMP_LOG_STAT SMP_LOG_STAT.LOG_ERR true).bumpSat rSMP_LOG_ERRCNT SMP_LOG_ERRCNT.VALUE
  logAdvance s

end Sys2Proof.Machine
end

