-- ==== Sys2Proof/Machine/Cairn.lean ====
section
/-! DEFINITION. Cairn: stamped events, the FIFO, overrun records (R364 to R370). -/

namespace Sys2Proof.Machine

open Sys2Proof

/-- The state with Cairn's state replaced. -/
def setCrn (c : Crn) (s : State) : State := { s with dtm := { s.dtm with crn := c } }

/-- NS and FRAC of a timebase value as DTM_TB_NS lays them out (R350). -/
def tbNs (t : Nat) : W64 := BitVec.ofNat 64 (t / 2 ^ 12 % (1000000000 * 2 ^ 16))

/-- S of a timebase value. -/
def tbSec (t : Nat) : W64 := BitVec.ofNat 64 (t / (1000000000 * 2 ^ 28))

/-- The entry registers show the oldest entry, and CRN_STAT the level (R366). -/
def showCairn (s : State) : State :=
  let c := s.dtm.crn
  let s := (s.setRf rCRN_STAT CRN_STAT.LEVEL c.fifo.length).setRb rCRN_STAT CRN_STAT.PEND c.overrun.isSome
  match c.fifo with
  | [] => s.resetRegs rCRN_ENT_HDR rCRN_ENT_LNS
  | e :: _ =>
    let h := fput CRN_ENT_HDR.VALID 0 1
    let h := fput CRN_ENT_HDR.KIND h (if e.overrun.isSome then 1 else 0)
    let h := fput CRN_ENT_HDR.LEVEL h (if e.level then 1 else 0)
    let h := fput CRN_ENT_HDR.TV h (if e.tv then 1 else 0)
    let h := fput CRN_ENT_HDR.SRC h e.src
    let h := fput CRN_ENT_HDR.SEQ h e.seq
    let h := fput CRN_ENT_HDR.COUNT h (match e.overrun with
      | some (_, n) => n
      | none => 0)
    let last := e.overrun.map fun p => p.1
    let s := ((s.setReg rCRN_ENT_HDR h).setReg rCRN_ENT_SEC (tbSec e.stamp)).setReg rCRN_ENT_NS (tbNs e.stamp)
    match last with
    | some l => (s.setReg rCRN_ENT_LSEC (tbSec l)).setReg rCRN_ENT_LNS (tbNs l)
    | none => (s.setReg rCRN_ENT_LSEC 0).setReg rCRN_ENT_LNS 0

/-- Source n signals at timebase value t: an enabled source is stamped; nothing is captured while domain 122 is
not powered (R364, R365, R369). -/
def cairnStamp (n : Nat) (level : Bool) (t : Nat) (s : State) : State :=
  if s.rbit rCRN_CTL n && s.domOn 122 then
    setCrn { s.dtm.crn with pend := s.dtm.crn.pend ++ [⟨t, n, level, s.timeValid⟩] } s
  else s

/-- An internal event signals at this tick (R365). -/
def cairnEvent (n : Nat) (level : Bool) (s : State) : State := cairnStamp n level s.dtm.tb s

/-- The event that Cairn commits next: the least timestamp, ties by source (R366). -/
def cairnFirst (l : List CrnEvent) : Option CrnEvent :=
  l.foldl (fun a e => match a with
    | none => some e
    | some b => if e.stamp < b.stamp ∨ (e.stamp = b.stamp ∧ e.src < b.src) then some e else some b) none

/-- An entry enters the FIFO with the next SEQ; the Cairn event is raised (R366). -/
def cairnPut (e : CrnEntry) (s : State) : State :=
  let c := s.dtm.crn
  rosterEvent 0x18 (setCrn { c with fifo := c.fifo ++ [{ e with seq := c.seq }], seq := (c.seq + 1) % 65536 } s)

/-- The overrun record commits as one entry where a slot is free (R367). -/
def cairnFlushOver (s : State) : State :=
  let c := s.dtm.crn
  match c.overrun with
  | some (first, tv, last, n) =>
    if c.fifo.length < 64 then
      cairnPut ⟨first, 0, false, tv, 0, some (last, n)⟩ (setCrn { c with overrun := none } s)
    else s
  | none => s

/-- One stamped event commits, or joins or starts an overrun record (R366, R367). -/
def cairnCommit (s : State) : State :=
  if !s.domOn 122 then s
  else
    match cairnFirst s.dtm.crn.pend with
    | none => s
    | some e =>
      let s := setCrn { s.dtm.crn with pend := s.dtm.crn.pend.erase e } s
      let c := s.dtm.crn
      showCairn <|
        match c.overrun with
        | some (first, tv, _, n) =>
          (setCrn { c with overrun := some (first, tv, e.stamp, min (n + 1) (2 ^ 32 - 1)) } s).bumpWrap rCRN_LOST
        | none =>
          if c.fifo.length < 64 then cairnPut ⟨e.stamp, e.src, e.level, e.tv, 0, none⟩ s
          else
            let s := (setCrn { c with overrun := some (e.stamp, e.tv, e.stamp, 1) } s).bumpWrap rCRN_LOST
            raise srcCairnOverrun (s.setRb rCRN_STAT CRN_STAT.OVERRUN true)

/-- POP (R368); the slot it frees lets an overrun record commit. -/
def cairnPop (s : State) : State :=
  if !s.domOn 122 then s
  else showCairn (cairnFlushOver (setCrn { s.dtm.crn with fifo := s.dtm.crn.fifo.tail } s))

/-- FLUSH: the FIFO, the events before it and any overrun record are discarded (R368). -/
def cairnFlush (s : State) : State :=
  if !s.domOn 122 then s
  else showCairn (setCrn { s.dtm.crn with fifo := [], overrun := none, pend := [] } s)

/-- An edge of pin k to a level that it has then held for a number of ticks of 4 ns, m eighths of a tick after the last
tick (R365): it is accepted where EDGE selects it and it held for GLITCH ticks. One closer than 64 ns, 128 eighths,
to the edge the pin accepted before is counted and not stamped. -/
def cairnPin (k m : Nat) (level : Bool) (held : Nat) (s : State) : State :=
  let edge := s.rf (rCRN_PIN k) CRN_PIN.EDGE
  if !(edge == 3 || (edge == 1 && level) || (edge == 2 && !level)) || !s.domOn 122 ||
      decide (held < s.rf (rCRN_PIN k) CRN_PIN.GLITCH) then s
  else
    let c := s.dtm.crn
    let at8 := 8 * s.dtm.ticks + m
    if c.lastEdge.any fun p => p.1 == k && decide (at8 < p.2 + 128) then s.bumpSat rCRN_FAST_CNT CRN_FAST_CNT.CNT
    else
      cairnStamp k level (s.dtm.tb + (s.reg rDTM_ADDEND).toNat * m / 8)
        (setCrn { c with lastEdge := tins (tdel c.lastEdge k) k at8 } s)

end Sys2Proof.Machine
end

