-- ==== Sys2Proof/Machine/Crypto.lean ====
section
/-! DEFINITION. The algorithms the spec names and does not restate: CRC-32 of IEEE 802.3, SHA-256,
HMAC-SHA-256, AES-256-GCM and ECDSA over P-256, from their public standards (notes/assumptions/6.md,
PRESUMED). -/

namespace Sys2Proof.Machine

open Sys2Proof

/-! ### CRC-32 of IEEE 802.3 -/

/-- One bit of the reflected CRC-32. -/
def crcBit (c : W32) : W32 := if c.getLsbD 0 then (c >>> 1) ^^^ 0xEDB88320#32 else c >>> 1

/-- One byte into the CRC-32 register. -/
def crcByte (c : W32) (b : Byte) : W32 :=
  crcBit (crcBit (crcBit (crcBit (crcBit (crcBit (crcBit (crcBit (c ^^^ b.setWidth 32))))))))

/-- The CRC-32 register after the bytes l. -/
def crcBytes (c : W32) (l : List Byte) : W32 :=
  match l with
  | [] => c
  | b :: r => crcBytes (crcByte c b) r

/-- The CRC-32 of IEEE 802.3 of the bytes l. -/
def crc32 (l : List Byte) : W32 := ~~~ crcBytes 0xFFFFFFFF#32 l

/-! ### SHA-256 -/

/-- The round constants of SHA-256. -/
def shaK : List W32 :=
  [0x428a2f98, 0x71374491, 0xb5c0fbcf, 0xe9b5dba5, 0x3956c25b, 0x59f111f1, 0x923f82a4, 0xab1c5ed5] ++
  [0xd807aa98, 0x12835b01, 0x243185be, 0x550c7dc3, 0x72be5d74, 0x80deb1fe, 0x9bdc06a7, 0xc19bf174] ++
  [0xe49b69c1, 0xefbe4786, 0x0fc19dc6, 0x240ca1cc, 0x2de92c6f, 0x4a7484aa, 0x5cb0a9dc, 0x76f988da] ++
  [0x983e5152, 0xa831c66d, 0xb00327c8, 0xbf597fc7, 0xc6e00bf3, 0xd5a79147, 0x06ca6351, 0x14292967] ++
  [0x27b70a85, 0x2e1b2138, 0x4d2c6dfc, 0x53380d13, 0x650a7354, 0x766a0abb, 0x81c2c92e, 0x92722c85] ++
  [0xa2bfe8a1, 0xa81a664b, 0xc24b8b70, 0xc76c51a3, 0xd192e819, 0xd6990624, 0xf40e3585, 0x106aa070] ++
  [0x19a4c116, 0x1e376c08, 0x2748774c, 0x34b0bcb5, 0x391c0cb3, 0x4ed8aa4a, 0x5b9cca4f, 0x682e6ff3] ++
  [0x748f82ee, 0x78a5636f, 0x84c87814, 0x8cc70208, 0x90befffa, 0xa4506ceb, 0xbef9a3f7, 0xc67178f2]

/-- The initial hash value of SHA-256. -/
def shaH : List W32 :=
  [0x6a09e667, 0xbb67ae85, 0x3c6ef372, 0xa54ff53a, 0x510e527f, 0x9b05688c, 0x1f83d9ab, 0x5be0cd19]

/-- A big-endian 32-bit word of four bytes. -/
def beWord (a b c d : Byte) : W32 := (a ++ b ++ c ++ d : BitVec 32)

/-- The big-endian words of a byte string whose length is a multiple of four. -/
def beWords (l : List Byte) : List W32 :=
  match l with
  | a :: b :: c :: d :: r => beWord a b c d :: beWords r
  | _ => []

/-- The four bytes of a word, most significant first. -/
def beBytes (w : W32) : List Byte :=
  [w.extractLsb' 24 8, w.extractLsb' 16 8, w.extractLsb' 8 8, w.extractLsb' 0 8]

/-- One word of the message schedule, from the 16 words before it, oldest first. -/
def shaNext (w : List W32) : W32 :=
  let a := w.getD 1 0
  let b := w.getD 14 0
  w.getD 0 0 + (a.rotateRight 7 ^^^ a.rotateRight 18 ^^^ (a >>> 3)) + w.getD 9 0 +
    (b.rotateRight 17 ^^^ b.rotateRight 19 ^^^ (b >>> 10))

/-- One round of SHA-256 on the eight working words. -/
def shaRound (v : List W32) (k w : W32) : List W32 :=
  match v with
  | [a, b, c, d, e, f, g, h] =>
    let t1 := h + (e.rotateRight 6 ^^^ e.rotateRight 11 ^^^ e.rotateRight 25) + ((e &&& f) ^^^ (~~~ e &&& g)) + k + w
    let t2 := (a.rotateRight 2 ^^^ a.rotateRight 13 ^^^ a.rotateRight 22) + ((a &&& b) ^^^ (a &&& c) ^^^ (b &&& c))
    [t1 + t2, a, b, c, d + t1, e, f, g]
  | _ => v

/-- The rounds over the constants ks with a window of 16 schedule words. -/
def shaRounds (ks w v : List W32) : List W32 :=
  match ks with
  | [] => v
  | k :: r => shaRounds r (w.tail ++ [shaNext w]) (shaRound v k (w.getD 0 0))

/-- The hash value after n blocks of 16 words. -/
def shaBlocks (n : Nat) (h ws : List W32) : List W32 :=
  match n with
  | 0 => h
  | n + 1 => shaBlocks n ((shaRounds shaK (ws.take 16) h).zipWith (· + ·) h) (ws.drop 16)

/-- The padding of a message of n bytes. -/
def shaPad (n : Nat) : List Byte :=
  0x80#8 :: List.replicate ((119 - n % 64) % 64) 0#8 ++
    (beBytes (BitVec.ofNat 32 (8 * n / 2 ^ 32)) ++ beBytes (BitVec.ofNat 32 (8 * n)))

/-- SHA-256 of a byte string, 32 bytes. -/
def sha256 (m : List Byte) : List Byte :=
  let p := m ++ shaPad m.length
  (shaBlocks (p.length / 64) shaH (beWords p)).flatMap beBytes

/-- HMAC-SHA-256 of a message under a key of at most 64 bytes. -/
def hmac (key m : List Byte) : List Byte :=
  let k := key ++ List.replicate (64 - key.length) 0#8
  sha256 (k.map (· ^^^ 0x5C#8) ++ sha256 (k.map (· ^^^ 0x36#8) ++ m))

/-! ### AES-256 and GCM -/

/-- Multiplication by x in the field of AES. -/
def xtime (a : Byte) : Byte := (a <<< 1) ^^^ (if a.getLsbD 7 then 0x1B#8 else 0#8)

/-- Multiplication in the field of AES, over the low n bits of b. -/
def gmulN (n : Nat) (a b : Byte) : Byte :=
  match n with
  | 0 => 0
  | n + 1 => (if b.getLsbD 0 then a else 0) ^^^ gmulN n (xtime a) (b >>> 1)

/-- Multiplication in the field of AES. -/
def gmul (a b : Byte) : Byte := gmulN 8 a b

/-- The inverse in the field of AES: the 254th power. -/
def ginv (a : Byte) : Byte :=
  let a2 := gmul a a
  let a4 := gmul a2 a2
  let a8 := gmul a4 a4
  let a16 := gmul a8 a8
  let a32 := gmul a16 a16
  let a64 := gmul a32 a32
  gmul (gmul (gmul (gmul (gmul (gmul (gmul a64 a64) a64) a32) a16) a8) a4) a2

/-- The substitution box of AES. -/
def sbox (a : Byte) : Byte :=
  let b := ginv a
  b ^^^ b.rotateLeft 1 ^^^ b.rotateLeft 2 ^^^ b.rotateLeft 3 ^^^ b.rotateLeft 4 ^^^ 0x63#8

/-- The words of the AES-256 key schedule after the first eight, n of them; w holds the last eight. -/
def aesExpand (n i : Nat) (rc : Byte) (w : List W32) : List W32 :=
  match n with
  | 0 => []
  | n + 1 =>
    let t := w.getD 7 0
    let sub := fun (x : W32) => beWord (sbox (x.extractLsb' 24 8)) (sbox (x.extractLsb' 16 8))
      (sbox (x.extractLsb' 8 8)) (sbox (x.extractLsb' 0 8))
    let u := if i % 8 = 0 then sub (t.rotateLeft 8) ^^^ (rc.setWidth 32 <<< 24)
      else if i % 8 = 4 then sub t else t
    let x := w.getD 0 0 ^^^ u
    x :: aesExpand n (i + 1) (if i % 8 = 0 then xtime rc else rc) (w.tail ++ [x])

/-- The 60 words of the AES-256 key schedule. -/
def aesKeys (key : List Byte) : List W32 :=
  let w := beWords key
  w ++ aesExpand 52 8 1 w

/-- The state of AES in column order with a round key added. -/
def addKey (st : List Byte) (ks : List W32) : List Byte := st.zipWith (· ^^^ ·) ((ks.take 4).flatMap beBytes)

/-- ShiftRows on a state in column order. -/
def shiftRows (st : List Byte) : List Byte :=
  (List.range 16).map fun i => st.getD ((i + 4 * (i % 4)) % 16) 0

/-- MixColumns on a state in column order. -/
def mixColumns (st : List Byte) : List Byte :=
  (List.range 16).map fun i =>
    let c := i / 4 * 4
    let g := fun k => st.getD (c + (i + k) % 4) 0
    xtime (g 0) ^^^ (xtime (g 1) ^^^ g 1) ^^^ g 2 ^^^ g 3

/-- The middle rounds of AES, n of them, then the last. -/
def aesRounds (n : Nat) (st : List Byte) (ks : List W32) : List Byte :=
  match n with
  | 0 => addKey (shiftRows (st.map sbox)) ks
  | n + 1 => aesRounds n (addKey (mixColumns (shiftRows (st.map sbox))) ks) (ks.drop 4)

/-- AES-256 of one block. -/
def aesBlock (key blk : List Byte) : List Byte :=
  let ks := aesKeys key
  aesRounds 13 (addKey blk ks) (ks.drop 4)

/-- The number a byte string spells, most significant byte first. -/
def beNat (l : List Byte) : Nat := l.foldl (fun n b => n * 256 + b.toNat) 0

/-- n bytes of a number, most significant first. -/
def natBe (n x : Nat) : List Byte :=
  match n with
  | 0 => []
  | n + 1 => natBe n (x / 256) ++ [BitVec.ofNat 8 x]

/-- Multiplication in the field of GCM over the n bits of x still to come, from the most significant. -/
def gcmMulN (n : Nat) (x v z : BitVec 128) : BitVec 128 :=
  match n with
  | 0 => z
  | n + 1 =>
    gcmMulN n (x <<< 1) ((v >>> 1) ^^^ (if v.getLsbD 0 then 0xE1000000000000000000000000000000#128 else 0))
      (if x.getLsbD 127 then z ^^^ v else z)

/-- A block as a number. -/
def blk128 (l : List Byte) : BitVec 128 := BitVec.ofNat 128 (beNat (l ++ List.replicate (16 - l.length) 0#8))

/-- GHASH over n blocks. -/
def ghash (n : Nat) (h y : BitVec 128) (l : List Byte) : BitVec 128 :=
  match n with
  | 0 => y
  | n + 1 => ghash n h (gcmMulN 128 (y ^^^ blk128 (l.take 16)) h 0) (l.drop 16)

/-- Zeros that fill the last block of n bytes. -/
def pad16 (n : Nat) : List Byte := List.replicate ((16 - n % 16) % 16) 0#8

/-- Counter mode over n blocks from counter c. -/
def gcmCtr (n : Nat) (key iv : List Byte) (c : Nat) (l : List Byte) : List Byte :=
  match n with
  | 0 => []
  | n + 1 => (l.take 16).zipWith (· ^^^ ·) (aesBlock key (iv ++ natBe 4 c)) ++ gcmCtr n key iv (c + 1) (l.drop 16)

/-- The tag of AES-256-GCM over the additional data and the ciphertext. -/
def gcmTag (key iv aad ct : List Byte) : List Byte :=
  let h := blk128 (aesBlock key (List.replicate 16 0#8))
  let m := aad ++ pad16 aad.length ++ ct ++ pad16 ct.length ++ natBe 8 (8 * aad.length) ++ natBe 8 (8 * ct.length)
  (natBe 16 (ghash (m.length / 16) h 0 m).toNat).zipWith (· ^^^ ·) (aesBlock key (iv ++ natBe 4 1))

/-- The counter-mode pass of AES-256-GCM, which encrypts and decrypts. -/
def gcmCrypt (key iv d : List Byte) : List Byte := gcmCtr ((d.length + 15) / 16) key iv 2 d

/-! ### ECDSA over P-256 -/

/-- The field of P-256. -/
def ecP : Nat := 0xffffffff00000001000000000000000000000000ffffffffffffffffffffffff
/-- The order of the base point. -/
def ecN : Nat := 0xffffffff00000000ffffffffffffffffbce6faada7179e84f3b9cac2fc632551
/-- The constant of the curve. -/
def ecB : Nat := 0x5ac635d8aa3a93e7b3ebbd55769886bc651d06b0cc53b0f63bce3c3e27d2604b
/-- The base point. -/
def ecG : Nat × Nat :=
  (0x6b17d1f2e12c4247f8bce6e563a440f277037d812deb33a0f4a13945d898c296,
   0x4fe342e2fe1a7f9b8ee7eb4a7c0f9e162bce33576b315ececbb6406837bf51f5)

/-- x^e modulo m over the n low bits of e. -/
def powMod (n x e m acc : Nat) : Nat :=
  match n with
  | 0 => acc
  | n + 1 => powMod n (x * x % m) (e / 2) m (if e % 2 = 1 then acc * x % m else acc)

/-- The inverse modulo a prime. -/
def invMod (x m : Nat) : Nat := powMod 256 (x % m) (m - 2) m 1

/-- The sum of two points of the curve; none is the point at infinity. -/
def ecAdd (a b : Option (Nat × Nat)) : Option (Nat × Nat) :=
  match a, b with
  | none, q => q
  | p, none => p
  | some (x1, y1), some (x2, y2) =>
    if x1 = x2 ∧ (y1 + y2) % ecP = 0 then none
    else
      let l := if x1 = x2 then (3 * x1 * x1 + (ecP - 3)) * invMod (2 * y1) ecP % ecP
        else (y2 + ecP - y1) * invMod (x2 + ecP - x1) ecP % ecP
      let x3 := (l * l + 2 * ecP - x1 - x2) % ecP
      some (x3, (l * (x1 + ecP - x3) + ecP - y1) % ecP)

/-- The n low bits of k times the point a, added to acc. -/
def ecMul (n k : Nat) (a acc : Option (Nat × Nat)) : Option (Nat × Nat) :=
  match n with
  | 0 => acc
  | n + 1 => ecMul n (k / 2) (ecAdd a a) (if k % 2 = 1 then ecAdd acc a else acc)

/-- The point lies on the curve. -/
def onCurve (x y : Nat) : Bool :=
  decide (x < ecP) && decide (y < ecP) && (y * y % ecP == (x * x % ecP * x + (ecP - 3) * x + ecB) % ecP)

/-- ECDSA P-256: the signature r then s over a digest verifies under the public key X then Y. -/
def ecdsaVerify (pub sig digest : List Byte) : Bool :=
  let x := beNat (pub.take 32)
  let y := beNat ((pub.drop 32).take 32)
  let r := beNat (sig.take 32)
  let t := beNat ((sig.drop 32).take 32)
  if !(onCurve x y && decide (0 < r) && decide (r < ecN) && decide (0 < t) && decide (t < ecN)) then false
  else
    let w := invMod t ecN
    let z := beNat digest
    match ecAdd (ecMul 256 (z * w % ecN) (some ecG) none) (ecMul 256 (r * w % ecN) (some (x, y)) none) with
    | none => false
    | some (px, _) => px % ecN == r

end Sys2Proof.Machine
end

