-- ==== Sys2Proof/Machine/Alarm.lean ====
section
/-! DEFINITION. Violations and alarm actions: erase, debug lock, the fleet-licence verdict (R508, R515 to
R519). -/

namespace Sys2Proof.Machine

open Sys2Proof

/-- Fleet slot n. -/
def fleetSlot (s : State) (n : Nat) : FleetSlot := tget s.sec.mram.slots FleetSlot.blank n

/-- The bank of a slot that is in use (R511). -/
def FleetSlot.cur (f : FleetSlot) : FleetBank := if f.bank then f.b1 else f.b0

/-- The state with the MRAM changed. -/
def setMram (f : Mram → Mram) (s : State) : State :=
  { s with sec := { s.sec with mram := f s.sec.mram } }

/-- The licence of a bank holds for this device (R508). -/
def licenceHolds (s : State) (b : FleetBank) : Bool :=
  sha256 b.pub == s.sec.otp.licHash && sha256 b.key == b.keyHash &&
    ecdsaVerify b.pub b.sig (sha256 (s.sec.otp.uid ++ beBytes b.fleetId ++ b.keyHash))

/-- Fleet slot n is licensed (R508). -/
def licensed (s : State) (n : Nat) : Bool := (fleetSlot s n).active && licenceHolds s (fleetSlot s n).cur

/-- The verdict is formed: valid when a slot is licensed, and SEC_STAT shows the lowest (R508). -/
def formVerdict (s : State) : State :=
  match (idxs 0 4).find? (licensed s) with
  | some n => (s.setRb rSEC_STAT SEC_STAT.LIC_VALID true).setRf rSEC_STAT SEC_STAT.LIC_SLOT n
  | none => (s.setRb rSEC_STAT SEC_STAT.LIC_VALID false).setRf rSEC_STAT SEC_STAT.LIC_SLOT 0

/-- SEC_DBG shows the debug state and DBG_FAIL (R520, R521). -/
def showDebug (s : State) : State :=
  let st := if s.sec.mram.dbgDeny then 2 else if s.sec.unlocked then 1 else 0
  (s.setRf rSEC_DBG SEC_DBG.STATE st).setRf rSEC_DBG SEC_DBG.FAIL s.sec.mram.dbgFail

/-- Debug is relocked: a halt of the Guide ends, a test instruction acts as BYPASS (R517, R538, R539). -/
def relock (s : State) : State :=
  showDebug { s with
    sec := { s.sec with unlocked := false }
    gde := { s.gde with dbgHalted := false }
    jtag := { s.jtag with busy := none } }

/-- An operation on a stored key ends with ABORT and its buffer zeroed; the engine's key register clears
(R518). -/
def abortStored (s : State) : State :=
  match s.sec.ce with
  | some op =>
    if op.stored then
      let s := { s with sec := { s.sec with ce := none } }
      let s := s.resetRegs (rSEC_CE_BUF 0) (rSEC_CE_BUF 1023)
      (s.setRb rSEC_CE_STAT SEC_CE_STAT.BUSY false).setRf rSEC_CE_STAT SEC_CE_STAT.RESULT 4
    else s
  | none => s

/-- The key-store write is an install. -/
def KeyOp.installs : KeyOp → Bool
  | .install .. | .root .. => true
  | _ => false

/-- An install in progress is abandoned by an erase; other key-store writes stay in progress (R518). -/
def abandonInstall (s : State) : State :=
  if s.sec.keyOps.any KeyOp.installs then
    let s := { s with sec := { s.sec with keyOps := s.sec.keyOps.filter fun o => !o.installs } }
    ((s.setRb rSEC_ROT_STAT SEC_ROT_STAT.BUSY false).setRb rSEC_ROT_STAT SEC_ROT_STAT.ROT_ABORT true).setRf
      rSEC_ROT_STAT SEC_ROT_STAT.RESULT 4
  else s

/-- The maintenance state: the Gate treats every limit as zero until the next chip reset (R103, R477). -/
def enterMaint (s : State) : State :=
  let s := (s.setRb rRST_BOOT_STAT RST_BOOT_STAT.MAINT true).setRb rGTE_STAT GTE_STAT.MAINT true
  { s with gte := { s.gte with maint := true } }

/-- An erase starts: orders 1 and 2 of R518; one in progress takes the wider scope (R519). -/
def startErase (all : Bool) (s : State) : State :=
  let scope := match s.sec.eraseMark with
    | some a => a || all
    | none => all
  let s := abandonInstall (abortStored s)
  let s := enterMaint (s.setRb rSEC_STAT SEC_STAT.MAINT_ERASE true)
  let s := { s with sec := { s.sec with eraseMark := some scope } }
  ((s.setRb rSEC_STAT SEC_STAT.ERASING true).setRb rSEC_STAT SEC_STAT.KEYWR true)

/-- MRAM with the targets of an erase zeroed: every fleet slot EMPTY with its GEN kept, and ROOT where the scope is
ERASE_ALL (R517, R518). -/
def wipeKeys (all : Bool) (m : Mram) : Mram :=
  let ss := (idxs 0 4).foldl (fun t n => tset t FleetSlot.blank n
    { FleetSlot.blank with gen := (tget t FleetSlot.blank n).gen, bank := (tget t FleetSlot.blank n).bank }) m.slots
  if all then { m with slots := ss, rootBank := none, root0 := List.replicate 32 0, root1 := List.replicate 32 0 }
  else { m with slots := ss }

/-- The targets of an erase zeroed, GEN kept; the marker cleared; the verdict formed again (orders 3 and 4
of R518). -/
def finishErase (s : State) : State :=
  match s.sec.eraseMark with
  | none => s
  | some all =>
    let s := setMram (wipeKeys all) s
    let s := { s with sec := { s.sec with eraseMark := none, staged := FleetBank.blank } }
    formVerdict ((s.setRb rSEC_STAT SEC_STAT.ERASING false).setRb rSEC_STAT SEC_STAT.KEYWR
      (!s.sec.keyOps.isEmpty))

/-- The alarm action of violation source k (R517). -/
def alarmAction (k : Nat) (s : State) : State :=
  let a := s.rf (rSEC_ALM k) SEC_ALM.ACTION
  if a = 0 then s
  else
    let s := relock s
    if a = 1 then startErase false s
    else if a = 2 then startErase true s
    else showDebug (setMram (fun m => { m with dbgDeny := true }) s)

/-- The Sump source of violation source k (R515). -/
def alarmSource (k : Nat) : Nat := if k ≤ 3 then 125 + k else if k = 4 then 129 else if k = 5 then 130 else 120

/-- Violation source k violates: its SEC_VIOL bit is set, its action taken and its Sump source raised. Before the Guide's
release the Sump source waits for the release, and in reset the action waits for order 2 of the boot sequence; after
that order, which does not come again before the release, it is taken at once (R515 to R517, R519). -/
def violate (k : Nat) (s : State) : State :=
  let s := s.setBit rSEC_VIOL k true
  match s.rst.phase with
  | .running => alarmAction k (raise (alarmSource k) s)
  | .hostWait => alarmAction k { s with sec := { s.sec with lateAlarm := s.sec.lateAlarm ++ [(k, true)] } }
  | .inReset => { s with sec := { s.sec with lateAlarm := s.sec.lateAlarm ++ [(k, false)] } }

/-- Order 2 of the boot sequence: the actions of the violations latched in reset (R516). -/
def lateActions (s : State) : State :=
  let l := s.sec.lateAlarm
  let s := forEach (l.filter fun a => !a.2) (fun (a : Nat × Bool) t => alarmAction a.1 t) s
  { s with sec := { s.sec with lateAlarm := l.map fun a => (a.1, true) } }

/-- The Guide's release: the Sump sources of the violations latched before it (R516). -/
def lateRaises (s : State) : State :=
  let l := s.sec.lateAlarm
  forEach l (fun (a : Nat × Bool) t => raise (alarmSource a.1) t) { s with sec := { s.sec with lateAlarm := [] } }

end Sys2Proof.Machine
end

