-- ==== Sys2Proof/Machine/Cavern.lean ====
section
/-! DEFINITION. Cavern: words, check bits, accesses through the three windows, the patrol scrubber
(R138 to R149), and the meanings of the Cavern commands. -/

namespace Sys2Proof.Machine

open Sys2Proof

/-- The answer to one access: the read data and the error code of R174, 0 for none. -/
abbrev Answer := W64 × Nat

/-- The power domain of word w: bank w / 65,536 and the half of the word in its bank (R63, R138). -/
def cavDomain (w : Nat) : Nat := 80 + 2 * (w / 65536) + (if w % 65536 < 32768 then 0 else 1)

/-- The number of ones among the low n bits. -/
def onesBelow {w : Nat} (v : BitVec w) (n : Nat) : Nat :=
  match n with
  | 0 => 0
  | n + 1 => onesBelow v n + (if v.getLsbD n then 1 else 0)

/-- A correctable error in word w is corrected and reported (R144). -/
def cavCe (w : Nat) (s : State) : State :=
  let s := s.bumpWrap rMEM_CE_CNT
  let s := (s.setRb rMEM_STAT MEM_STAT.CE true).setRf rMEM_CE_ADDR MEM_CE_ADDR.WORD w
  raiseD srcCavernCe (BitVec.ofNat 32 w) s

/-- An uncorrectable error in word w is reported (R145). -/
def cavUe (w : Nat) (s : State) : State :=
  let s := s.bumpWrap rMEM_UE_CNT
  let s := (s.setRb rMEM_STAT MEM_STAT.UE true).setRf rMEM_UE_ADDR MEM_UE_ADDR.WORD w
  raiseD srcCavernUe (BitVec.ofNat 32 w) s

/-- Word w is read and checked: the data, or none for an uncorrectable word, and the state after the
correction and the reports. Three or more flipped bits class by a free value (R144, R145). -/
def cavFetch (w : Nat) (s : State) : Option W40 × State :=
  let v := tget s.cav.words (Config.clearedWord 40) w
  let fl := tget s.cav.flips 0 w
  let n := onesBelow fl 48
  if n = 0 then (some v, s)
  else if n = 1 then (some v, cavCe w (cavPut w v s))
  else if n = 2 then (none, cavUe w s)
  else
    let pick := s.freeVal 42
    let s := s.tick1
    if pick.getLsbD 40 then (none, cavUe w s)
    else if pick.getLsbD 41 then
      let u := pick.setWidth 40
      (some u, cavCe w (cavPut w u s))
    else (some (v ^^^ fl.setWidth 40), s)

/-- What the bits of a word become before an access finds them: the bits of the mask have flipped. -/
def cavFlip (w : Nat) (mask : BitVec 48) (s : State) : State :=
  { s with cav := { s.cav with flips := tset s.cav.flips 0 w (tget s.cav.flips 0 w ^^^ mask) } }

/-- The mask of a written value onto the word of a slot, and the bits of the word it covers (R139, R149). -/
def cavLane (off bytes : Nat) (d : W64) : W40 × W40 :=
  if bytes = 8 then (d.setWidth 40, BitVec.allOnes 40)
  else if off = 0 then (d.setWidth 40 &&& 0xFFFFFFFF#40, 0xFFFFFFFF#40)
  else ((d.setWidth 40 &&& 0xFF#40) <<< 32, 0xFF00000000#40)

/-- The alias operation of a window: 0 primary, 1 bit-set, 2 bit-clear (R149). -/
def aliasOp (win : Nat) (old d lane : W40) : W40 :=
  if win = 0 then (old &&& ~~~ lane) ||| d else if win = 1 then old ||| d else old &&& ~~~ d

/-- One access to Cavern at byte offset off through window win: width, protection and power are checked,
the lowest code is answered (R139, R145, R148 to R150, R67, R174). -/
def cavAccess (win off bytes : Nat) (write : Bool) (d : W64) (s : State) : Answer × State :=
  let w := off / 8
  if !((bytes = 8 ∧ off % 8 = 0) ∨ (bytes = 4 ∧ off % 4 = 0)) then ((0, 3), s)
  else if win ≠ 0 ∧ !write then ((0, 5), s)
  else if write ∧ logBase ≤ w then ((0, 5), s)
  else if !s.domOn (cavDomain w) then ((0, 6), s)
  else if !write then
    match cavFetch w s with
    | (none, s) => ((0, 8), s)
    | (some v, s) =>
      let x := v.signExtend 64
      ((if bytes = 8 then x else if off % 8 = 0 then x &&& 0xFFFFFFFF#64 else x >>> 32, 0), s)
  else if win = 0 ∧ bytes = 8 then ((0, 0), cavPut w (d.setWidth 40) s)
  else
    match cavFetch w s with
    | (none, s) => ((0, 8), s)
    | (some v, s) => ((0, 0), cavPut w (aliasOp win v (cavLane (off % 8) bytes d).1 (cavLane (off % 8) bytes d).2) s)

/-- Word w as an engine reads it: the data, or none where the access draws an error response. -/
def engineRead (w : Nat) (s : State) : Option W40 × State :=
  if s.domOn (cavDomain w) then cavFetch w s else (none, s)

/-- An engine's 64-bit write of word w; not performed in a half that is not powered or in the event log. -/
def engineWrite (w : Nat) (v : W40) (s : State) : State :=
  if s.domOn (cavDomain w) && decide (w < logBase) then cavPut w v s else s

/-- The next word from p on, within n more, whose half is powered (R147). -/
def scrubNext (s : State) (p n : Nat) : Nat :=
  match n with
  | 0 => p
  | n + 1 => if s.domOn (cavDomain p) then p
             else scrubNext s ((p / 32768 + 1) % 32 * 32768) n

/-- The patrol scrubber reads the next powered word, passing over halves that are not (R147). -/
def scrubStep (s : State) : State :=
  if s.rb rMEM_CTL MEM_CTL.SCRUB_EN then
    let p := scrubNext s (s.rf rMEM_SCRUB_POS MEM_SCRUB_POS.WORD) 32
    if s.domOn (cavDomain p) then
      let s := (cavFetch p s).2
      s.setRf rMEM_SCRUB_POS MEM_SCRUB_POS.WORD ((p + 1) % 1048576)
    else s
  else s

end Sys2Proof.Machine
end

