-- ==== Sys2Proof/Machine/Matrix.lean ====
section
/-! DEFINITION. The bus matrix: masters, quotas, paths, tracking entries and error responses (R165 to
R180). -/

namespace Sys2Proof.Machine

open Sys2Proof

/-- The quota of master m (R165). -/
def quota (m : Nat) : Nat := if m = 0 then 8 else if m ≤ 3 then 16 else 4

/-- The master of an identifier (R165). -/
def masterOf (ident : Nat) : Nat :=
  if ident ≤ 7 then 0 else if ident ≤ 23 then 1 else if ident ≤ 31 then 2 else if ident ≤ 49 then 3
  else if ident ≤ 55 then 4 else 5

/-- The regions of the system address map, in the order of R180. -/
inductive Region where
  | imem | dmem | hostArray | cleMem | keyStore | chmMem | cavern (win : Nat) | periph (win : Nat)
  deriving DecidableEq, Repr

/-- The region that contains address a, with the offset in it; none outside every region (R180, R181). -/
def regionOf (a : Nat) : Option (Region × Nat) :=
  if a < 0x40000 then some (.imem, a)
  else if a < 0x100000 then none
  else if a < 0x120000 then some (.dmem, a - 0x100000)
  else if a < 0x200000 then none
  else if a < 0x204000 then some (.hostArray, a - 0x200000)
  else if a < 0x300000 then none
  else if a < 0x310000 then some (.cleMem, a - 0x300000)
  else if a < 0x400000 then none
  else if a < 0x410000 then some (.keyStore, a - 0x400000)
  else if a < 0x1000000 then none
  else if a < 0x1800000 then
    (if (a - 0x1000000) % 0x80000 < 0x50000 then some (.chmMem, a - 0x1000000) else none)
  else if a < 0x10000000 then none
  else if a < 0x10800000 then some (.cavern 0, a - 0x10000000)
  else if a < 0x11000000 then none
  else if a < 0x11800000 then some (.cavern 1, a - 0x11000000)
  else if a < 0x12000000 then none
  else if a < 0x12800000 then some (.cavern 2, a - 0x12000000)
  else if a < 0x40000000 then none
  else if a < 0x40190000 then some (.periph 0, a - 0x40000000)
  else if a < 0x50000000 then none
  else if a < 0x50190000 then some (.periph 1, a - 0x50000000)
  else if a < 0x60000000 then none
  else if a < 0x60190000 then some (.periph 2, a - 0x60000000)
  else none

/-- The target that holds address a: a row of the system address map, the three Cavern windows together, each peripheral
block with its alias windows (R171). -/
def targetOf (a : Nat) : Region × Nat :=
  match regionOf a with
  | none => (.imem, 1)
  | some (.cavern _, _) => (.cavern 0, 0)
  | some (.periph _, off) => (.periph 0, off / 0x10000)
  | some (r, _) => (r, 0)

/-- Master m has a path to the region, for a read or for a write (R167). The Guide reaches its own memories
over local ports. -/
def hasPath (m : Nat) (r : Region) (write : Bool) : Bool :=
  match r with
  | .imem | .dmem => m = 0 || m = 1
  | .hostArray | .cleMem | .chmMem => m = 0 || m = 1
  | .keyStore => m = 0
  | .cavern 0 => if m = 5 then !write else true
  | .cavern _ => m = 0 || m = 3
  | .periph 0 => m = 0 || m = 1
  | .periph _ => m = 0

/-- The Sump source of an error code (R174); none for the code Cavern reports itself. -/
def errorSource (code : Nat) : Option Nat :=
  match code with
  | 1 => some srcBusDecode
  | 2 => some srcBusPath
  | 3 | 4 | 5 | 9 => some srcBusAccess
  | 6 => some srcBusUnpowered
  | 7 => some srcBusHeld
  | 0xA => some srcKeyAccess
  | 0xB => some srcBusTimeout
  | _ => none

/-- An error response: counted, logged where VALID is clear, and reported to the Sump, but for the log
writer's (R174, R176, R498). The alarm action of code 0xA is always taken. -/
def errorResponse (ident addr : Nat) (write : Bool) (code : Nat) (s : State) : State :=
  let s := s.bumpWrap rBMX_ERR_CNT
  let s :=
    if s.rb rBMX_ERR_INFO BMX_ERR_INFO.VALID then s.setRb rBMX_ERR_INFO BMX_ERR_INFO.OVR true
    else
      let s := s.setRf rBMX_ERR_ADDR BMX_ERR_ADDR.ADDR addr
      let s := (s.setRb rBMX_ERR_INFO BMX_ERR_INFO.VALID true).setRb rBMX_ERR_INFO BMX_ERR_INFO.WR write
      let s := (s.setRf rBMX_ERR_INFO BMX_ERR_INFO.CODE code).setRf rBMX_ERR_INFO BMX_ERR_INFO.ID ident
      s.setRf rBMX_ERR_INFO BMX_ERR_INFO.MASTER (masterOf ident)
  if ident = 49 then s
  else if code = 0xA then violate 6 s
  else
    match errorSource code with
    | some n => raiseAux n (BitVec.ofNat 32 addr) ident s
    | none => s

/-- The entries master m holds (BMX_OUT_m). -/
def outOf (s : State) (m : Nat) : Nat := s.rf (rBMX_OUT m) BMX_OUT.OUT

/-- The transactions of identifier ident at the matrix that hold an entry, apart from those of the Guide, Siphon and the
Chambers that their own state lists. -/
def txnsOut (s : State) (ident : Nat) : Nat :=
  (s.txns.filter fun x => x.issued && !x.early && x.ident == ident).length

/-- Chamber n beside its registers. -/
def tileOf (s : State) (n : Nat) : Chamber := tget s.chm Chamber.init n

/-- The Cavern accesses of CHMn in flight (R201). -/
def chmOut (s : State) (n : Nat) : Nat := (tileOf s n).acc.length + txnsOut s (32 + n)

/-- The Cavern accesses of all Chambers in flight (R201). -/
def gatewayBusy (s : State) : Nat := ((idxs 0 16).map (chmOut s)).sum

/-- CHMn waits for an entry of the gateway, with its next bundle or with a transaction that its own limit allows
(R201). -/
def chmContends (s : State) (n : Nat) : Bool :=
  let c := tileOf s n
  (c.wants && tget s.cyc.units .idle n == .running && !c.stopped && !s.held n) ||
    (decide (chmOut s n < 4) && s.txns.any fun x => !x.issued && x.ident == 32 + n)

/-- The Chambers are served in rotation: none that waits comes before CHMn from the one served last (R201). -/
def chmTurn (s : State) (n : Nat) : Bool :=
  (idxs 0 16).all fun j =>
    j == n || !chmContends s j || decide ((n + 15 - s.mtx.gwTurn) % 16 < (j + 15 - s.mtx.gwTurn) % 16)

/-- k entries of the gateway are free for CHMn: at most 4 of its own and 13 of all Chambers, in rotation (R201). -/
def gatewayFree (s : State) (n k : Nat) : Bool :=
  decide (chmOut s n + k ≤ 4) && decide (gatewayBusy s + k ≤ 13) && chmTurn s n

/-- An entry is free for a transaction of an identifier: of its master's quota, and at the gateway of the entries kept for
Flowstone, for the log writer and for the Chambers (R165, R169, R201). -/
def identFree (s : State) (ident : Nat) : Bool :=
  let m := masterOf ident
  decide (outOf s m < quota m) &&
    (if ident = 48 then decide (txnsOut s 48 < 2) else if ident = 49 then decide (txnsOut s 49 < 1)
     else if m = 3 then gatewayFree s (ident - 32) 1 else true)

/-- The transactions in flight whose response has not arrived: place in the order of issue, identifier, address. -/
def flights (s : State) : List (Nat × Nat × Nat) :=
  (s.txns.filter fun x => x.issued && !x.early).map (fun x => (x.seq, x.ident, x.addr)) ++
  s.gde.loads.map (fun l => (l.seq, 0, l.addr)) ++ s.gde.stores.map (fun e => (e.seq, 0, e.addr)) ++
  ((idxs 0 16).flatMap fun n =>
    (((tget s.sph SphCh.init n).flight.filter fun e => !e.early).map fun e => (e.seq, 8 + n, e.addr)) ++
      (tileOf s n).acc.map fun a => (a.seq, 32 + n, 0x10000000))

/-- The response of a transaction may return: none issued before it carries its identifier to its target (R172). -/
def inOrder (s : State) (seq ident addr : Nat) : Bool :=
  (flights s).all fun f => decide (seq ≤ f.1) || f.2.1 != ident || targetOf f.2.2 != targetOf addr

/-- The code of a transaction its target has granted and that gets no response in time: the lowest of the causes; none
for one refused before a grant, which cannot time out (R174, R175). -/
def timeoutCode (c : Nat) : Option Nat := if c = 0 then some 0xB else if c = 1 ∨ c = 2 ∨ c = 0xA then none else some c

/-- A transaction is issued: the next place in the order of issue is taken. -/
def issueSeq (s : State) : State := { s with mtx := { s.mtx with issues := s.mtx.issues + 1 } }

/-- Master m takes a tracking entry; PEAK follows (R169). -/
def takeEntry (m : Nat) (s : State) : State :=
  let s := s.setRf (rBMX_OUT m) BMX_OUT.OUT (outOf s m + 1)
  if s.rf (rBMX_OUT m) BMX_OUT.PEAK < outOf s m then s.setRf (rBMX_OUT m) BMX_OUT.PEAK (outOf s m) else s

/-- Master m's entry is freed (R169). -/
def freeEntry (m : Nat) (s : State) : State := s.setRf (rBMX_OUT m) BMX_OUT.OUT (outOf s m - 1)

/-- A transaction of master m that waited for a free entry (R169). -/
def countStall (m : Nat) (s : State) : State := s.bumpSat (rBMX_QSTALL m) BMX_QSTALL.CNT

/-- The transactions in flight that may hold the entry an identifier waits for: those of Flowstone and of the log writer
their own, else those of its master (R169, R201). -/
def samePool (a b : Nat) : Bool := if a = 48 ∨ a = 49 then a == b else masterOf a == masterOf b

/-- The oldest transaction that holds the entry an engine waits for has its response arrive, which frees the entry; the
command of the response delivers it later (R169). Siphon's descriptors wait for its elements too. -/
def arriveEarly (ident : Nat) (s : State) : State :=
  match s.txns.findIdx? fun x => x.issued && !x.early && samePool ident x.ident with
  | some i => freeEntry (masterOf ident) { s with txns := s.txns.modify i fun x => { x with early := true } }
  | none =>
    if masterOf ident ≠ 1 then s
    else
      match (idxs 0 16).find? fun n => (tget s.sph SphCh.init n).flight.any fun e => !e.early with
      | none => s
      | some n =>
        let c := tget s.sph SphCh.init n
        let k := (c.flight.takeWhile fun e => e.early).length
        freeEntry 1 { s with
          sph := tset s.sph SphCh.init n { c with flight := c.flight.modify k fun e => { e with early := true } } }

/-- A transaction an engine completes within one step: it holds an entry, which PEAK shows; one that finds none free
has waited, until the response of an earlier one freed it (R166, R169). -/
def touchEntry (ident : Nat) (s : State) : State :=
  let m := masterOf ident
  freeEntry m (takeEntry m (if identFree s ident then s else arriveEarly ident (countStall m s)))

/-- n transactions of one identifier, one after another: the entry that one frees the next takes. -/
def touchEntries (ident n : Nat) (s : State) : State :=
  match n with
  | 0 => s
  | n + 1 => touchEntries ident n (touchEntry ident s)

/-- An engine's read of the slot at system address a: its data, or the code of the error response (R167, R174). -/
def engineFetch (ident a : Nat) (s : State) : (Nat ⊕ W40) × State :=
  match regionOf a with
  | none => (.inl 1, s)
  | some (r, off) =>
    if !hasPath (masterOf ident) r false then (.inl (if r = .keyStore then 0xA else 2), s)
    else
      match r with
      | .cavern 0 =>
        if off % 8 ≠ 0 then (.inl 3, s)
        else if !s.domOn (cavDomain (off / 8)) then (.inl 6, s)
        else
          match cavFetch (off / 8) s with
          | (some v, s) => (.inr v, s)
          | (none, s) => (.inl 8, s)
      | _ => (.inl 5, s)

/-- An engine's read of the slot at system address a under an identifier: the data, or none where it drew an error
response, which is reported (R166, R174, R177). -/
def matrixReadAt (ident a : Nat) (s : State) : Option W40 × State :=
  match engineFetch ident a (touchEntry ident s) with
  | (.inl c, s) => (none, errorResponse ident a false c s)
  | (.inr v, s) => (some v, s)

/-- An engine's 64-bit write of the slot at system address a under an identifier, and whether it was performed. -/
def matrixWriteAt (ident a : Nat) (v : W40) (s : State) : Bool × State :=
  let s := touchEntry ident s
  let r : Answer × State := match regionOf a with
    | none => ((0, 1), s)
    | some (r, off) =>
      if !hasPath (masterOf ident) r true then ((0, if r = .keyStore then 0xA else 2), s)
      else
        match r with
        | .cavern win => cavAccess win off 8 true (v.setWidth 64) s
        | _ => ((0, 5), s)
  if r.1.2 = 0 then (true, r.2) else (false, errorResponse ident a true r.1.2 r.2)

/-- An engine's read of Cavern word w under an identifier (R138). -/
def matrixRead (ident w : Nat) (s : State) : Option W40 × State := matrixReadAt ident (0x10000000 + 8 * w) s

/-- An engine's 64-bit write of Cavern word w under an identifier, and whether it was performed. -/
def matrixWrite (ident w : Nat) (v : W40) (s : State) : Bool × State := matrixWriteAt ident (0x10000000 + 8 * w) v s

/-! ### The scan of the log at boot (R500) -/

/-- The headers of the records rs as the scan reads them, each checked as every read of Cavern is; none for one that draws
an error response (R144, R145, R174). -/
def scanHeaders (rs : List Nat) (s : State) : List (Nat × W40) × State :=
  match rs with
  | [] => ([], s)
  | r :: rs =>
    let w := recordBase r
    if tget s.cav.flips 0 w = 0 then
      let q := scanHeaders rs s
      ((r, tget s.cav.words (Config.clearedWord 40) w) :: q.1, q.2)
    else
      match cavFetch w s with
      | (some v, s) =>
        let q := scanHeaders rs s
        ((r, v) :: q.1, q.2)
      | (none, s) => scanHeaders rs (errorResponse 49 (0x10000000 + 8 * w) false 8 s)

/-- The latest valid record and its SEQ: no valid record holds a SEQ from SEQ(r) + 1 to SEQ(r) + 32,767 modulo 2^16
(R500). -/
def latestRecord (hs : List (Nat × W40)) : Option (Nat × Nat) :=
  let valid := (hs.filter fun h => h.2.getLsbD 39).map fun h => (h.1, h.2.toNat % 2 ^ 16)
  valid.find? fun r =>
    valid.all fun q =>
      let d := (q.2 + 2 ^ 16 - r.2) % 2 ^ 16
      !(decide (1 ≤ d) && decide (d ≤ 32767))

/-- The boot scan after a chip reset: a BOOT record after the latest valid one, or at record 0 with SEQ 0
(R500). -/
def bootScan (s : State) : State :=
  let h := scanHeaders (idxs 0 1024) (touchEntry 49 s)
  let s := h.2
  let (r, seq) := match latestRecord h.1 with
    | some (r, q) => ((r + 1) % 1024, (q + 1) % 2 ^ 16)
    | none => (0, 0)
  let s := cavPuts (recordBase r)
    (bootRecordWords seq (s.rf rRST_CAUSE RST_CAUSE.CAUSE) (s.rf rRST_CAUSE RST_CAUSE.SRC) (s.reg rPWR_UPTIME).toNat)
    (touchEntries 49 5 s)
  let s := s.setRf rSMP_LOG_STAT SMP_LOG_STAT.WR ((r + 1) % 1024)
  s.setRf rSMP_LOG_SEQ SMP_LOG_SEQ.VALUE (seq + 1)

end Sys2Proof.Machine
end

