-- ==== Sys2Proof/Machine/Siphon.lean ====
section
/-! DEFINITION. Siphon's triggers and block starts (R159 to R164), and the events that reach both the
roster and Siphon. -/

namespace Sys2Proof.Machine

open Sys2Proof

/-- The state of channel n. -/
def sphOf (s : State) (n : Nat) : SphCh := tget s.sph SphCh.init n

/-- The state with channel n's state replaced. -/
def setSph (n : Nat) (c : SphCh) (s : State) : State := { s with sph := tset s.sph SphCh.init n c }

/-- SPH_LEFT_n shows the rows and the elements of the row not yet written (R163). -/
def sphLeft (n : Nat) (s : State) : State :=
  let c := sphOf s n
  let row := c.acked / c.xcnt
  (s.setRf (rSPH_LEFT n) SPH_LEFT.YLEFT (c.ycnt - row)).setRf (rSPH_LEFT n) SPH_LEFT.XLEFT
    (if row < c.ycnt then c.xcnt - c.acked % c.xcnt else 0)

/-- Channel n stops with an error code; on the stops of R163 the done event is raised, on that of R164 none. The
responses of its transactions in flight are discarded. -/
def sphStop (n err : Nat) (event : Bool) (s : State) : State :=
  let s := s.setRb (rSPH_CTL n) SPH_CTL.EN false
  let s := ((s.setRb (rSPH_STAT n) SPH_STAT.PEND false).setRb (rSPH_STAT n) SPH_STAT.BUSY false).setRf
    (rSPH_STAT n) SPH_STAT.ERR err
  let c := sphOf s n
  let s := setSph n { c with
    ready := [], flight := c.flight.map (fun e => { e with dead := true }), waits := false, stopping := false } s
  if event then rosterEvent 0x1C s else s

/-- Reads the words of a descriptor under an identifier from word w on; where a read draws an error response its ERR
code, else the words (R159, R163). -/
def sphFetch (ident w n : Nat) (s : State) : (Nat ⊕ List W40) × State :=
  match n with
  | 0 => (.inr [], s)
  | n + 1 =>
    match matrixRead ident w s with
      | (none, t) => (.inl (if w < 1048576 && s.domOn (cavDomain w) then 3 else 1), t)
      | (some v, s) =>
        match sphFetch ident (w + 1) n s with
        | (.inl e, s) => (.inl e, s)
        | (.inr r, s) => (.inr (v :: r), s)

/-- Bits lo to lo + n − 1 of a word. -/
def bits40 (v : W40) (lo n : Nat) : Nat := v.toNat / 2 ^ lo % 2 ^ n

/-- Bits lo to lo + n − 1 of a word in two's complement. -/
def sbits40 (v : W40) (lo n : Nat) : Int := (BitVec.ofNat n (v.toNat / 2 ^ lo)).toInt

/-- The block a valid descriptor describes, or none for one R160 calls invalid. -/
def sphDecode (ws : List W40) : Option SphCh :=
  match ws with
  | [w0, w1, w2, w3, w4, w5, w6, w7] =>
    let sz : Nat := if bits40 w6 0 2 = 1 then 8 else 4
    let c : SphCh :=
      { src := bits40 w0 0 32, dst := bits40 w1 0 32, xcnt := bits40 w2 0 16
        ycnt := max 1 (bits40 w2 16 16), sxinc := sbits40 w3 0 16, dxinc := sbits40 w3 16 16
        syinc := sbits40 w4 0 32, dyinc := sbits40 w5 0 32, wide := bits40 w6 0 2 == 1
        irq := w6.getLsbD 2, last := w6.getLsbD 3, next := bits40 w7 0 32
        rnext := 0, wnext := 0, acked := 0, ready := [], flight := [], waits := false, stopping := false }
    if ws.all (fun w => bits40 w 32 8 == 0) && bits40 w6 4 28 == 0 && decide (bits40 w6 0 2 ≤ 1) &&
        c.xcnt != 0 && c.src % sz == 0 && c.dst % sz == 0 && c.sxinc % sz == 0 && c.dxinc % sz == 0 &&
        c.syinc % sz == 0 && c.dyinc % sz == 0 && (c.last || c.next % 64 == 0)
    then some c else none
  | _ => none

/-- Channel n starts the block of the descriptor at SPH_CUR_n: it reads and checks the whole descriptor
before it moves an element (R160, R161). -/
def sphStart (n : Nat) (s : State) : State :=
  let a := s.rf (rSPH_CUR n) SPH_CUR.ADDR * 64
  if a < 0x10000000 ∨ 0x10800000 ≤ a then raise srcSphDesc (sphStop n 4 true s)
  else
    match sphFetch (8 + n) ((a - 0x10000000) / 8) 8 s with
    | (.inl e, s) => sphStop n e true s
    | (.inr ws, s) =>
      match sphDecode ws with
      | none => raise srcSphDesc (sphStop n 4 true s)
      | some c =>
        let c := { c with flight := (sphOf s n).flight }
        sphLeft n ((setSph n c s).setRb (rSPH_STAT n) SPH_STAT.BUSY true)

/-- A trigger reaches channel n: it starts a block, is latched one deep, is dropped and counted, or is
ignored (R161). -/
def sphTrigger (n : Nat) (s : State) : State :=
  if !s.rb (rSPH_CTL n) SPH_CTL.EN then s
  else if s.rb (rSPH_STAT n) SPH_STAT.BUSY then
    if s.rb (rSPH_STAT n) SPH_STAT.PEND then s.bumpSat (rSPH_TDROP n) SPH_TDROP.CNT
    else s.setRb (rSPH_STAT n) SPH_STAT.PEND true
  else sphStart n s

/-- The trigger source that code t of SPH_CTL_n.TRIG selects; other values act as software only. -/
def sphSource (t : Nat) : Nat :=
  if t ≤ 3 ∨ (8 ≤ t ∧ t ≤ 0x11) then t else 0

/-- An event of trigger code t reaches every channel that selects it. -/
def sphEvent (t : Nat) (s : State) : State :=
  forEach (idxs 0 16)
    (fun n u => if t ≠ 0 ∧ sphSource (u.rf (rSPH_CTL n) SPH_CTL.TRIG) = t then sphTrigger n u else u) s

/-- The cycle boundary, the mid-cycle instant and the L-domain boundary as events (codes 1 to 3 of R125 and
of TRIG). -/
def cycleEvent (code : Nat) (s : State) : State := sphEvent code (rosterEvent code s)

/-- The event of timer n for the roster, Siphon and Cairn (R137, R159, R364). -/
def timerRosterEvent (n : Nat) (s : State) : State := sphEvent (8 + n) (rosterEvent (8 + n) (cairnEvent (24 + n) false s))

/-- The host-window doorbell event (R156). -/
def doorbellEvent (s : State) : State := sphEvent 0x10 (rosterEvent 0x19 s)

/-- The event "Flowstone commit carried out" (R285, R364). -/
def commitEvent (s : State) : State := sphEvent 0x11 (rosterEvent 0x1B (cairnEvent 18 false s))

/-- Setting EN arms channel n from SPH_DESC_n (R161). -/
def sphEnable (n : Nat) (s : State) : State :=
  if s.held 32 || s.rb (rSPH_CTL n) SPH_CTL.EN then s
  else
    let s := s.setRf (rSPH_CUR n) SPH_CUR.ADDR (s.rf (rSPH_DESC n) SPH_DESC.ADDR)
    (s.setRf (rSPH_STAT n) SPH_STAT.ERR 0).setRb (rSPH_CTL n) SPH_CTL.EN true

/-- No element of channel n is in progress: none is in flight or read and not yet written (R164). -/
def sphIdle (c : SphCh) : Bool := c.ready.isEmpty && c.flight.all fun e => e.dead

/-- Clearing EN: while a block runs the channel stops after the element in progress has been written
(R164). -/
def sphDisable (n : Nat) (s : State) : State :=
  let s := s.setRb (rSPH_CTL n) SPH_CTL.EN false
  if !s.rb (rSPH_STAT n) SPH_STAT.BUSY then s
  else if sphIdle (sphOf s n) then sphStop n 5 false s
  else setSph n { sphOf s n with stopping := true } s

end Sys2Proof.Machine
end

