-- ==== Sys2Proof/Machine/ChamberOps.lean ====
section
/-! DEFINITION. The Chamber datapath: operands, rounding and saturation, pointers, bundles checked and
executed (R183 to R239). -/

namespace Sys2Proof.Machine

open Sys2Proof

/-! ### Operands -/

/-- Field lo to lo + n − 1 of a bundle or a slot. -/
def bf {w : Nat} (b : BitVec w) (lo n : Nat) : Nat := b.toNat / 2 ^ lo % 2 ^ n

/-- The register a specifier names: 0 to 31 d, 32 to 95 the physical q registers under rotation base rb
(R212, R237). -/
def regName (c : Chamber) (spec : Nat) : Nat :=
  if spec < 32 then spec else 32 + (spec - 32 + 64 - c.rb % 64) % 64

/-- The value of the register a specifier names. -/
def rdReg (c : Chamber) (spec : Nat) : W40 :=
  let r := regName c spec
  if r < 32 then tget c.d 0 r else tget c.q 0 (r - 32)

/-- Accumulator i. -/
def rdAcc (c : Chamber) (i : Nat) : W88 := tget c.a 0 i

/-- Lane i of a word that holds packed F16 values (R186). -/
def laneF (v : W40) (i : Nat) : Int := (v.extractLsb' (16 * i) 16).toInt

/-- Two F16 lanes packed, bits [39:32] as copies of bit 31 (R186). -/
def packF (l0 l1 : BitVec 16) : W40 := (l1 ++ l0).signExtend 40

/-- Lane i of an accumulator in F16 use (R187). -/
def laneA (v : W88) (i : Nat) : Int := (v.extractLsb' (44 * i) 44).toInt

/-- Two accumulator lanes. -/
def packA (l0 l1 : BitVec 44) : W88 := (l1 ++ l0 : BitVec 88)

/-! ### Rounding and saturation (R193, R194) -/

/-- x / 2^k rounded: half-up with h, toward minus infinity without. -/
def rnd (h : Bool) (x : Int) (k : Nat) : Int :=
  if k = 0 then x else if h then (x + 2 ^ (k - 1)) / 2 ^ k else x / 2 ^ k

/-- x in w bits: as it is where it fits; otherwise saturated under sat, or its low bits. The flag bits:
1 SAT, 2 WRAP (R194). -/
def fit (w : Nat) (sat : Bool) (x : Int) : BitVec w × Nat :=
  if - 2 ^ (w - 1) ≤ x ∧ x ≤ 2 ^ (w - 1) - 1 then (BitVec.ofInt w x, 0)
  else if sat then (BitVec.ofInt w (clampS w x), 1) else (BitVec.ofInt w x, 2)

/-- x in w bits of an accumulator or lane: overflow wraps and sets AOV (4), or saturates and sets SAT (1)
under sat (R192). -/
def fitAcc (w : Nat) (sat : Bool) (x : Int) : BitVec w × Nat :=
  if - 2 ^ (w - 1) ≤ x ∧ x ≤ 2 ^ (w - 1) - 1 then (BitVec.ofInt w x, 0)
  else if sat then (BitVec.ofInt w (clampS w x), 1) else (BitVec.ofInt w x, 4)

/-- The rounding mode of an instruction: its suffix, or the default of the current channel group
(R193, R217). -/
def modeH (c : Chamber) (rm : Nat) : Bool :=
  if rm = 1 then false else if rm = 2 then true else c.rnd.getLsbD c.cg

/-- A result over one word, or over each lane with F: f gives the exact result for its operands and the
width it must fit (R218). -/
def perLane (fl sat : Bool) (a b : W40) (f : Int → Int → Int) : W40 × Nat :=
  if fl then
    let r0 := fit 16 sat (f (laneF a 0) (laneF b 0))
    let r1 := fit 16 sat (f (laneF a 1) (laneF b 1))
    (packF r0.1 r1.1, r0.2 ||| r1.2)
  else fit 40 sat (f a.toInt b.toInt)

/-- An accumulator × 2^k extracted, over the word or over each lane (R194, R219). -/
def extractAcc (h fl sat : Bool) (a : W88) (k : Nat) : W40 × Nat :=
  if fl then
    let r0 := fit 16 sat (rnd h (laneA a 0 * 2 ^ k) 15)
    let r1 := fit 16 sat (rnd h (laneA a 1 * 2 ^ k) 15)
    (packF r0.1 r1.1, r0.2 ||| r1.2)
  else fit 40 sat (rnd h (a.toInt * 2 ^ k) 32)

/-- An accumulator result over the 88 bits, or over each lane with F (R187, R192). -/
def accLanes (fl sat : Bool) (x x0 x1 : Int) : W88 × Nat :=
  if fl then
    let r0 := fitAcc 44 sat x0
    let r1 := fitAcc 44 sat x1
    (packA r0.1 r1.1, r0.2 ||| r1.2)
  else fitAcc 88 sat x

/-- Condition COND on flags (R228). -/
def condHolds (c : Chamber) (cond : Nat) : Bool :=
  match cond with
  | 0 => true
  | 1 => c.z
  | 2 => !c.z
  | 3 => c.n
  | 4 => !c.n
  | 5 => !c.z && !c.n
  | 6 => c.z || c.n
  | _ => c.o

/-! ### Pointers (R198, R214 to R216) -/

/-- Pointer k modified by an amount: its index moves within its circular buffer, or modulo 2^20; its space
stays (R198). -/
def ptrMod (c : Chamber) (k : Nat) (v : BitVec 24) (amt : Int) : BitVec 24 :=
  let ix : Int := (v.toNat % 2 ^ 20 : Nat)
  let len : Nat := (tget c.l 0 k).toNat
  let base : Int := ((tget c.b 0 k).toNat : Nat)
  let ni : Int := if k < 8 ∧ len ≠ 0 then base + (ix - base + amt) % (len : Int) else ix + amt
  BitVec.ofNat 24 (v.toNat / 2 ^ 20 * 2 ^ 20 + (ni % 2 ^ 20).toNat)

/-- The value of modifier i. -/
def rdMod (c : Chamber) (i : Nat) : Int := (tget c.m 0 i).toInt

/-! ### What a bundle does, from the state at its start (R208) -/

/-- A memory access of a bundle: the pointer value, the destinations or the value, and whether only spaces
0x0 and 0x1 are reached (R216). -/
inductive MemOp where
  | load (ptr : BitVec 24) (dest : Nat) (near : Bool)
  | store (ptr : BitVec 24) (v : W40) (near : Bool)
  deriving DecidableEq, Repr

/-- What the sequencer does after the bundle. -/
inductive SeqOp where
  | next
  | br (taken : Bool) (tgt : Nat)
  | rep (count last : Nat)
  | stop
  | rot (k : Nat)
  deriving DecidableEq, Repr

/-- The effect of one slot: words written by register name (0 to 95 data registers, 100 + i accumulators,
200 + i control registers), memory accesses, the flags, the sticky flags, the sequencer's operation, and
whether the oldest event record is taken. -/
structure SlotEff where
  wr : List (Nat × W88)
  mem : List MemOp
  /-- the flags it sets (R227) -/
  fz : Option Bool
  fn : Option Bool
  fo : Option Bool
  sticky : Nat
  seq : SeqOp
  takeEv : Bool
  /-- the registers the slot reads, by name -/
  reads : List Nat
  deriving DecidableEq, Repr

/-- A slot that does nothing. -/
def SlotEff.none : SlotEff :=
  { wr := [], mem := [], fz := Option.none, fn := Option.none, fo := Option.none, sticky := 0, seq := .next, takeEv := false, reads := [] }

/-- A result written to a data register with ZNO flags (k = 2), ZN flags (k = 1) or no flags (R227). -/
def putD (c : Chamber) (spec : Nat) (r : W40 × Nat) (k : Nat) (reads : List Nat) : SlotEff :=
  { SlotEff.none with
    wr := [(regName c spec, r.1.setWidth 88)]
    fz := if k = 0 then Option.none else some (r.1 == 0)
    fn := if k = 0 then Option.none else some (r.1.getLsbD 39)
    fo := if k = 0 then Option.none else some (k == 2 && r.2 != 0)
    sticky := r.2, reads := reads.map (regName c) }

/-- A result written to an accumulator. -/
def putA (i : Nat) (r : W88 × Nat) (reads : List Nat) : SlotEff :=
  { SlotEff.none with wr := [(100 + i, r.1)], sticky := r.2, reads := reads }

/-- The words of the group of n registers from specifier spec on. -/
def group (c : Chamber) (spec n : Nat) : List W40 := (idxs spec n).map (rdReg c)

/-- The pairs of operands of M0 to M3 under a sharing pattern (R188). -/
def quadPairs (pat : Nat) (x y : List W40) : List (W40 × W40) :=
  let gx := fun i => x.getD i 0
  let gy := fun i => y.getD i 0
  if pat = 0 then (idxs 0 4).map fun k => (gx 0, gy k)
  else if pat = 1 then (idxs 0 4).map fun k => (gx k, gy 0)
  else [(gx 0, gy 0), (gx 0, gy 1), (gx 1, gy 0), (gx 1, gy 1)]

/-- One accumulator under operation AOP with the exact product or sum (R190, R192). -/
def macOne (c : Chamber) (i aop : Nat) (fl sat : Bool) (p p0 p1 : Int) : Nat × (W88 × Nat) :=
  let a := rdAcc c i
  let op := fun (acc prod : Int) =>
    if aop = 0 then prod else if aop = 1 then - prod else if aop = 2 then acc + prod else acc - prod
  (i, accLanes fl sat (op a.toInt p) (op (laneA a 0) p0) (op (laneA a 1) p1))

/-- The MAC quad: four products by pattern, delivered by Lane or Sum (R188 to R192). -/
def macQuad (c : Chamber) (pat acc aop : Nat) (sum fl sat : Bool) (x y : List W40) : List (Nat × (W88 × Nat)) :=
  let ps := quadPairs pat x y
  let full := ps.map fun p => p.1.toInt * p.2.toInt
  let lo := ps.map fun p => laneF p.1 0 * laneF p.2 0
  let hi := ps.map fun p => laneF p.1 1 * laneF p.2 1
  if sum then [macOne c acc aop fl sat full.sum lo.sum hi.sum]
  else (idxs 0 4).map fun k => macOne c (acc + k) aop fl sat (full.getD k 0) (lo.getD k 0) (hi.getD k 0)

/-- The effect of the MAC quad on the accumulators. -/
def macEff (rs : List (Nat × (W88 × Nat))) (reads : List Nat) : SlotEff :=
  { SlotEff.none with
    wr := rs.map fun r => (100 + r.1, r.2.1)
    sticky := rs.foldl (fun k r => k ||| r.2.2) 0, reads := reads }

/-- Four accumulators extracted into four registers; only O among the flags changes (R219). -/
def ext4Eff (c : Chamber) (dr an k : Nat) (h fl sat : Bool) : SlotEff :=
  let rs := (idxs 0 4).map fun i => (i, extractAcc h fl sat (rdAcc c (an + i)) k)
  let st := rs.foldl (fun k r => k ||| r.2.2) 0
  { SlotEff.none with
    wr := rs.map fun r => (regName c (dr + r.1), r.2.1.setWidth 88)
    fo := some (st != 0), sticky := st
    reads := (idxs 0 4).map fun i => 100 + an + i }

/-- The name of a control register as a destination, and whether the number is listed (R213). -/
def ctlListed (n : Nat) : Bool := decide (n ≤ 0x29)

/-- The value mfc reads from control register n (R213). -/
def rdCtl (c : Chamber) (n : Nat) : W40 :=
  if n < 0x10 then (tget c.p 0 n).setWidth 40
  else if n < 0x18 then (tget c.m 0 (n - 0x10)).signExtend 40
  else if n < 0x20 then (tget c.b 0 (n - 0x18)).setWidth 40
  else if n < 0x28 then (tget c.l 0 (n - 0x20)).setWidth 40
  else if n = 0x28 then BitVec.ofNat 40 c.cg
  else BitVec.ofNat 40 c.rb

/-- The count of bits from bit 38 downward equal to bit 39 (R218). -/
def redundantSigns (v : W40) (n : Nat) : Nat :=
  match n with
  | 0 => 0
  | n + 1 => if v.getLsbD n == v.getLsbD 39 then 1 + redundantSigns v n else 0

/-- A memory access through pointer k: the word or two words, and the pointer's post-update (R214, R215). -/
def memEff (c : Chamber) (k : Nat) (first : BitVec 24) (upd : Option (BitVec 24)) (two load near : Bool)
    (dr : Nat) (vals : List W40) (reads : List Nat) : SlotEff :=
  let second := ptrMod c k first 1
  let ops := if load then
      MemOp.load first (regName c dr) near :: (if two then [MemOp.load second (regName c (dr + 1)) near] else [])
    else
      MemOp.store first (vals.getD 0 0) near :: (if two then [MemOp.store second (vals.getD 1 0) near] else [])
  { SlotEff.none with
    mem := ops, reads := reads
    wr := match upd with
      | some v => [(200 + k, v.setWidth 88)]
      | Option.none => [] }

/-- The effect of a short slot, given that it is legal (R217 to R222). -/
def shortEff (c : Chamber) (s : BitVec 31) : SlotEff :=
  let op := bf s 25 6
  let dd := bf s 18 7
  let da := bf s 11 7
  let db := bf s 4 7
  let fl := s.getLsbD 3
  let sat := s.getLsbD 2
  let h := modeH c (bf s 0 2)
  let a := rdReg c da
  let b := rdReg c db
  let k := bf s 5 6
  let exact := fun (x : W40) => ((x, 0) : W40 × Nat)
  match op with
  | 0x01 => putD c dd (perLane fl sat a b (· + ·)) 2 [da, db]
  | 0x02 => putD c dd (perLane fl sat a b (· - ·)) 2 [da, db]
  | 0x03 => putD c dd (perLane fl false a b min) 1 [da, db]
  | 0x04 => putD c dd (perLane fl false a b max) 1 [da, db]
  | 0x05 => putD c dd (perLane fl sat a a fun x _ => if x < 0 then - x else x) 2 [da]
  | 0x06 => putD c dd (perLane fl sat a a fun x _ => - x) 2 [da]
  | 0x07 => putD c dd (perLane fl sat a b fun x y => rnd h (x * y) (if fl then 15 else 32)) 2 [da, db]
  | 0x08 => putD c dd (exact (a &&& b)) 1 [da, db]
  | 0x09 => putD c dd (exact (a ||| b)) 1 [da, db]
  | 0x0A => putD c dd (exact (a ^^^ b)) 1 [da, db]
  | 0x0B => { SlotEff.none with fz := some (a == b), fn := some (decide (a.toInt < b.toInt)), fo := some false
                                reads := [regName c da, regName c db] }
  | 0x0C => { SlotEff.none with fz := some (a == 0), fn := some (decide (a.toInt < 0)), fo := some false
                                reads := [regName c da] }
  | 0x0D => putD c dd (exact (if condHolds c (bf s 0 3) then a else b)) 0 [da, db]
  | 0x10 => putD c dd (perLane fl sat a a fun x _ => x * 2 ^ k) 2 [da]
  | 0x11 => putD c dd (perLane fl false a a fun x _ => rnd h x k) 1 [da]
  | 0x12 => putD c dd (exact (a >>> k)) 1 [da]
  | 0x13 =>
    let lim : Int := if fl then 16 else 40
    let amt : Int := max (- lim) (min lim (b.extractLsb' 0 7).toInt)
    putD c dd (perLane fl sat a a fun x _ =>
      if 0 ≤ amt then x * 2 ^ amt.toNat else rnd h x (- amt).toNat) 2 [da, db]
  | 0x18 => putD c dd (exact a) 0 [da]
  | 0x19 => putD c dd (exact ((s.extractLsb' 0 18).signExtend 40)) 0 []
  | 0x1A => putD c dd (exact (BitVec.ofNat 40 (redundantSigns a 39))) 0 [da]
  | 0x1B =>
    let r0 := fit 16 sat (rnd h a.toInt 17)
    let r1 := fit 16 sat (rnd h b.toInt 17)
    putD c dd (packF r0.1 r1.1, r0.2 ||| r1.2) 2 [da, db]
  | 0x1C => putD c dd (exact (BitVec.ofInt 40 (laneF a (k % 2) * 2 ^ 17))) 0 [da]
  | 0x20 =>
    let pk := bf s 14 4
    let v := tget c.p 0 pk
    let am := bf s 9 2
    let first := if am = 2 then ptrMod c pk v (rdMod c (bf s 11 3)) else v
    let upd := if am = 1 then some (ptrMod c pk v (rdMod c (bf s 11 3)))
      else if am = 3 then some (ptrMod c pk v 1) else none
    memEff c pk first upd (s.getLsbD 8) true false dd [] []
  | 0x21 =>
    let pk := bf s 14 4
    let v := tget c.p 0 pk
    let am := bf s 9 2
    let first := if am = 2 then ptrMod c pk v (rdMod c (bf s 11 3)) else v
    let upd := if am = 1 then some (ptrMod c pk v (rdMod c (bf s 11 3)))
      else if am = 3 then some (ptrMod c pk v 1) else none
    memEff c pk first upd (s.getLsbD 8) false false dd [rdReg c dd, rdReg c (dd + 1)]
      (regName c dd :: if s.getLsbD 8 then [regName c (dd + 1)] else [])
  | 0x28 =>
    let r := extractAcc h fl sat (rdAcc c (bf s 22 3)) (bf s 8 4)
    { putD c (bf s 12 7) r 2 [] with reads := [100 + bf s 22 3] }
  | 0x29 => ext4Eff c (bf s 12 7) (bf s 22 3) (bf s 8 4) h fl sat
  | 0x2A => putA (bf s 22 3) (0, 0) []
  | 0x2B => putA (bf s 22 3) (rdAcc c (bf s 19 3), 0) []
  | 0x2C =>
    let u := rdAcc c (bf s 22 3)
    let v := rdAcc c (bf s 19 3)
    putA (bf s 22 3) (accLanes fl sat (u.toInt + v.toInt) (laneA u 0 + laneA v 0) (laneA u 1 + laneA v 1)) []
  | 0x2D =>
    let u := rdAcc c (bf s 22 3)
    let v := rdAcc c (bf s 19 3)
    putA (bf s 22 3) (accLanes fl sat (u.toInt - v.toInt) (laneA u 0 - laneA v 0) (laneA u 1 - laneA v 1)) []
  | 0x2E =>
    let v := rdReg c (bf s 12 7)
    putA (bf s 22 3) (accLanes fl false (v.toInt * 2 ^ 32) (laneF v 0 * 2 ^ 15) (laneF v 1 * 2 ^ 15))
      [regName c (bf s 12 7)]
  | 0x2F =>
    let u := rdAcc c (bf s 22 3)
    let n := bf s 8 4
    putA (bf s 22 3) (accLanes fl false (rnd h u.toInt n) (rnd h (laneA u 0) n) (rnd h (laneA u 1) n)) []
  | 0x30 =>
    let u := rdAcc c (bf s 22 3)
    let part := bf s 8 4
    putD c (bf s 12 7) (exact (if part = 0 then u.setWidth 40 else if part = 1 then (u >>> 40).setWidth 40
      else (u.extractLsb' 80 8).signExtend 40)) 0 []
  | 0x31 =>
    let u := rdAcc c (bf s 22 3)
    let v := rdReg c (bf s 12 7)
    let part := bf s 8 4
    let hi := u.extractLsb' 80 8
    let mid := u.extractLsb' 40 40
    let lo := u.extractLsb' 0 40
    putA (bf s 22 3) ((if part = 0 then (hi ++ mid ++ v : BitVec 88) else if part = 1 then (hi ++ v ++ lo : BitVec 88)
      else (v.setWidth 8 ++ mid ++ lo : BitVec 88)), 0) [regName c (bf s 12 7)]
  | 0x34 =>
    let pat := bf s 23 2
    let nx := if pat = 0 then 1 else if pat = 1 then 4 else 2
    let ny := if pat = 0 then 4 else if pat = 1 then 1 else 2
    macEff (macQuad c pat (bf s 6 3) (bf s 3 2) (s.getLsbD 5) (s.getLsbD 2) (s.getLsbD 1)
        (group c (bf s 16 7) nx) (group c (bf s 9 7) ny))
      (((idxs (bf s 16 7) nx) ++ (idxs (bf s 9 7) ny)).map (regName c))
  | 0x38 => { SlotEff.none with wr := [(200 + bf s 12 6, (rdReg c dd).setWidth 88)], reads := [regName c dd] }
  | 0x39 => putD c dd (exact (rdCtl c (bf s 12 6))) 0 []
  | 0x3A => { SlotEff.none with wr := [(200 + 0x28, BitVec.ofNat 88 (bf s 0 3))] }
  | 0x3B =>
    match c.evq with
    | [] => { SlotEff.none with wr := [(regName c dd, 0)], fz := some true }
    | e :: _ => { SlotEff.none with wr := [(regName c dd, e.setWidth 88)], fz := some false, takeEv := true }
  | 0x3C => { SlotEff.none with seq := .br (condHolds c (bf s 22 3)) (bf s 0 13) }
  | 0x3D => { SlotEff.none with seq := .rep (bf s 13 12 + 1) (bf s 0 13) }
  | 0x3E => { SlotEff.none with seq := .rep (bf (rdReg c dd) 0 16) (bf s 0 13), reads := [regName c dd] }
  | 0x3F => if bf s 22 3 = 0 then { SlotEff.none with seq := .stop }
            else { SlotEff.none with seq := .rot (bf s 16 6) }
  | _ => SlotEff.none

/-! ### Legality (R229) -/

/-- A cause where a case holds. -/
def causeIf (b : Bool) (n : Nat) : List Nat := if b then [n] else []

/-- A data register specifier is one of the 96. -/
def specBad (n : Nat) : Bool := decide (0x60 ≤ n)

/-- The cause of CTL: F, RM and S allowed or not; RM 0b11 illegal (R217). -/
def ctlCause (s : BitVec 31) (f rm sat : Bool) : List Nat :=
  causeIf ((s.getLsbD 3 && !f) || (s.getLsbD 2 && !sat) || (bf s 0 2 != 0 && !rm) || bf s 0 2 == 3) 2

/-- The causes for which a short slot is illegal by itself (R217 to R222, R229). -/
def shortCauses (s : BitVec 31) : List Nat :=
  let op := bf s 25 6
  let dd := bf s 18 7
  let da := bf s 11 7
  let db := bf s 4 7
  let fl := s.getLsbD 3
  let tri := causeIf (specBad dd || specBad da || specBad db) 3
  let duo := causeIf (specBad dd || specBad da) 3 ++ causeIf (db != 0) 2
  let ims := causeIf (specBad dd || specBad da) 3 ++ causeIf (s.getLsbD 4) 2
  let shft := causeIf (decide ((if fl then 15 else 39) < bf s 5 6)) 2
  let acc := fun (useAS useDR useK : Bool) =>
    causeIf (bf s 4 4 != 0 || (!useAS && bf s 19 3 != 0) || (!useDR && bf s 12 7 != 0) || (!useK && bf s 8 4 != 0)) 2 ++
    causeIf (useDR && specBad (bf s 12 7)) 3
  match op with
  | 0x00 => causeIf (s != 0) 2
  | 0x01 => tri ++ ctlCause s true false true
  | 0x02 => tri ++ ctlCause s true false true
  | 0x03 => tri ++ ctlCause s true false false
  | 0x04 => tri ++ ctlCause s true false false
  | 0x05 => duo ++ ctlCause s true false true
  | 0x06 => duo ++ ctlCause s true false true
  | 0x07 => tri ++ ctlCause s true true true
  | 0x08 => tri ++ ctlCause s false false false
  | 0x09 => tri ++ ctlCause s false false false
  | 0x0A => tri ++ ctlCause s false false false
  | 0x0B => causeIf (specBad da || specBad db) 3 ++ causeIf (dd != 0) 2 ++ ctlCause s false false false
  | 0x0C => causeIf (specBad da) 3 ++ causeIf (dd != 0 || db != 0) 2 ++ ctlCause s false false false
  | 0x0D => tri ++ causeIf fl 2
  | 0x10 => ims ++ shft ++ ctlCause s true false true
  | 0x11 => ims ++ shft ++ ctlCause s true true false
  | 0x12 => ims ++ shft ++ ctlCause s false false false
  | 0x13 => tri ++ ctlCause s true true true
  | 0x18 => duo ++ ctlCause s false false false
  | 0x19 => causeIf (specBad dd) 3
  | 0x1A => duo ++ ctlCause s false false false
  | 0x1B => tri ++ ctlCause s false true true
  | 0x1C => ims ++ causeIf (decide (1 < bf s 5 6)) 2 ++ ctlCause s false false false
  | 0x20 => causeIf (specBad dd || (s.getLsbD 8 && dd % 2 == 1)) 3 ++
            causeIf (bf s 0 8 != 0 || (bf s 9 2 == 3 && bf s 11 3 != 0)) 2
  | 0x21 => causeIf (specBad dd || (s.getLsbD 8 && dd % 2 == 1)) 3 ++
            causeIf (bf s 0 8 != 0 || (bf s 9 2 == 3 && bf s 11 3 != 0)) 2
  | 0x28 => acc false true true ++ ctlCause s true true true
  | 0x29 => acc false true true ++ ctlCause s true true true ++
            causeIf (bf s 12 7 % 4 != 0 || (bf s 22 3 != 0 && bf s 22 3 != 4)) 3
  | 0x2A => acc false false false ++ ctlCause s false false false
  | 0x2B => acc true false false ++ ctlCause s false false false
  | 0x2C => acc true false false ++ ctlCause s true false true
  | 0x2D => acc true false false ++ ctlCause s true false true
  | 0x2E => acc false true false ++ ctlCause s true false false
  | 0x2F => acc false false true ++ ctlCause s true true false
  | 0x30 => acc false true true ++ causeIf (decide (3 ≤ bf s 8 4)) 2 ++ ctlCause s false false false
  | 0x31 => acc false true true ++ causeIf (decide (3 ≤ bf s 8 4)) 2 ++ ctlCause s false false false
  | 0x34 =>
    let pat := bf s 23 2
    let xr := bf s 16 7
    let yr := bf s 9 7
    causeIf (pat == 3 || s.getLsbD 0) 2 ++
    causeIf (specBad xr || specBad yr || (pat == 0 && yr % 4 != 0) || (pat == 1 && xr % 4 != 0) ||
      (pat == 2 && (xr % 2 == 1 || yr % 2 == 1)) || (!s.getLsbD 5 && bf s 6 3 % 4 != 0)) 3
  | 0x38 => causeIf (specBad dd) 3 ++ causeIf (bf s 0 12 != 0 || decide (0x28 < bf s 12 6)) 2
  | 0x39 => causeIf (specBad dd) 3 ++ causeIf (bf s 0 12 != 0 || decide (0x29 < bf s 12 6)) 2
  | 0x3A => causeIf (bf s 3 22 != 0) 2
  | 0x3B => causeIf (specBad dd) 3 ++ causeIf (bf s 0 18 != 0) 2
  | 0x3C => causeIf (bf s 13 9 != 0) 2
  | 0x3D => []
  | 0x3E => causeIf (specBad dd) 3 ++ causeIf (bf s 13 5 != 0) 2
  | 0x3F =>
    if bf s 22 3 = 0 then causeIf (bf s 0 22 != 0) 2
    else if bf s 22 3 = 1 then causeIf (bf s 0 16 != 0 || bf s 16 6 == 0) 2
    else [1]
  | _ => [1]

/-- A slot uses the MAC quad. -/
def usesQuad (s : BitVec 31) : Bool := bf s 25 6 == 0x34 || bf s 25 6 == 0x07

/-- A slot holds a sequencer instruction. -/
def isSeq (s : BitVec 31) : Bool := decide (0x3C ≤ bf s 25 6)

/-- Whether a list of numbers names one twice. -/
def hasDup (l : List Nat) : Bool :=
  match l with
  | [] => false
  | a :: r => r.contains a || hasDup r

/-- The registers an effect writes, by name: the destinations of loads count with the others. -/
def SlotEff.dests (e : SlotEff) : List Nat :=
  e.wr.map (·.1) ++ e.mem.filterMap fun m =>
    match m with
    | .load _ d _ => some d
    | .store _ _ _ => Option.none

/-- The two effects of a bundle together, slot B or P2 after slot A or P1 (R208, R210, R227). -/
def SlotEff.both (e f : SlotEff) : SlotEff :=
  { wr := e.wr ++ f.wr, mem := e.mem ++ f.mem, fz := f.fz.or e.fz, fn := f.fn.or e.fn, fo := f.fo.or e.fo, sticky := e.sticky ||| f.sticky
    seq := if f.seq = .next then e.seq else f.seq, takeEv := e.takeEv || f.takeEv, reads := e.reads ++ f.reads }

/-- A parallel operation of a long MAC (R216, R226). -/
def parEff (c : Chamber) (p : BitVec 16) : SlotEff :=
  let kind := bf p 14 2
  let dr := bf p 7 7
  if kind = 0 then SlotEff.none
  else if kind = 3 then
    ext4Eff c dr (if p.getLsbD 6 then 4 else 0) 0 (modeH c (bf p 4 2)) (p.getLsbD 2) (p.getLsbD 3)
  else
    let k := bf p 4 3
    let v := tget c.p 0 k
    let upd := if p.getLsbD 1 then some (ptrMod c k v (rdMod c (bf p 2 2))) else none
    let vals := [rdReg c dr, rdReg c (dr + 1)]
    let reads := if kind = 2 then regName c dr :: (if p.getLsbD 0 then [regName c (dr + 1)] else []) else []
    memEff c k v upd (p.getLsbD 0) (kind == 1) true dr vals reads

/-- The causes for which a parallel operation is illegal. -/
def parCauses (p : BitVec 16) : List Nat :=
  let kind := bf p 14 2
  let dr := bf p 7 7
  if kind = 0 then causeIf (p != 0) 2
  else if kind = 3 then causeIf (specBad dr || dr % 4 != 0) 3 ++ causeIf (bf p 0 2 != 0 || bf p 4 2 == 3) 2
  else causeIf (specBad dr || (p.getLsbD 0 && dr % 2 == 1)) 3

/-- The causes of an operand field of a long MAC for a group of n (R225). -/
def srcCauses (f : BitVec 8) (n : Nat) : List Nat :=
  if f.getLsbD 7 then causeIf (n == 4) 3 ++ causeIf (f.getLsbD 0) 2
  else causeIf (specBad (bf f 0 7) || (n == 4 && bf f 0 7 % 4 != 0) || (n == 2 && bf f 0 7 % 2 == 1)) 3

/-- The fields of a long MAC. -/
def longXsrc (b : W64) : BitVec 8 := b.extractLsb' 40 8
/-- YSRC of a long MAC. -/
def longYsrc (b : W64) : BitVec 8 := b.extractLsb' 32 8
/-- P1 of a long MAC. -/
def longP1 (b : W64) : BitVec 16 := b.extractLsb' 16 16
/-- P2 of a long MAC. -/
def longP2 (b : W64) : BitVec 16 := b.extractLsb' 0 16
/-- The size of the X group under a pattern. -/
def groupX (pat : Nat) : Nat := if pat = 0 then 1 else if pat = 1 then 4 else 2
/-- The size of the Y group under a pattern. -/
def groupY (pat : Nat) : Nat := if pat = 0 then 4 else if pat = 1 then 1 else 2

/-- The bits of the width of control register n. -/
def ctlWidth (n : Nat) : Nat := if n < 0x10 then 24 else if n < 0x28 then 20 else 3

/-- The causes for which a long bundle is illegal by itself (R224 to R226, R229). -/
def longCauses (b : W64) : List Nat :=
  match bf b 58 4 with
  | 1 =>
    let pat := bf b 56 2
    causeIf (pat == 3) 2 ++ causeIf (!b.getLsbD 53 && bf b 48 3 % 4 != 0) 3 ++
    srcCauses (longXsrc b) (groupX pat) ++ srcCauses (longYsrc b) (groupY pat) ++
    parCauses (longP1 b) ++ parCauses (longP2 b)
  | 2 => causeIf (specBad (bf b 51 7)) 3 ++ causeIf (bf b 40 11 != 0) 2
  | 3 => causeIf (bf b 24 28 != 0 || decide (0x28 < bf b 52 6) || decide (2 ^ ctlWidth (bf b 52 6) ≤ bf b 0 24)) 2
  | _ => [1]

/-- The pointer post-update of a memory operand of a long MAC (R216, R225). -/
def srcUpd (c : Chamber) (f : BitVec 8) : List (Nat × W88) :=
  if f.getLsbD 7 && f.getLsbD 1 then
    let k := bf f 4 3
    [(200 + k, (ptrMod c k (tget c.p 0 k) (rdMod c (bf f 2 2))).setWidth 88)]
  else []

/-- The pointers a memory operand of a group of n reads through. -/
def srcPtrs (c : Chamber) (f : BitVec 8) (n : Nat) : List (BitVec 24) :=
  if f.getLsbD 7 then
    let k := bf f 4 3
    let v := tget c.p 0 k
    if n = 2 then [v, ptrMod c k v 1] else [v]
  else []

/-! ### Memories of the Chamber (R196, R197, R204) -/

/-- Reports of SECDED in Chamber memories (R204). -/
def chmCe (n : Nat) (bundle : Nat) (s : State) : State :=
  raiseD srcChamberCe (BitVec.ofNat 32 (n + bundle * 2 ^ 16)) (s.bumpSat (rCHM_ECC n) CHM_ECC.CE)

/-- An uncorrectable word of a Chamber memory (R204). -/
def chmUe (n : Nat) (bundle : Nat) (s : State) : State :=
  raiseD srcChamberUe (BitVec.ofNat 32 (n + bundle * 2 ^ 16)) (s.bumpSat (rCHM_ECC n) CHM_ECC.UE)

/-- The Chamber of tile n. -/
def chmOf (s : State) (n : Nat) : Chamber := tget s.chm Chamber.init n

/-- The state with tile n's Chamber replaced. -/
def setChm (n : Nat) (c : Chamber) (s : State) : State := { s with chm := tset s.chm Chamber.init n c }

/-- The word i of X (space 0) or Y (space 1) with its flips gone. -/
def Chamber.put (c : Chamber) (sp i : Nat) (v : W40) : Chamber :=
  if sp = 0 then { c with x := tset c.x (Config.clearedWord 40) i v, xf := tdel c.xf i }
  else { c with y := tset c.y (Config.clearedWord 40) i v, yf := tdel c.yf i }

/-- Word i of X or Y of tile n is read and checked: none where it is uncorrectable (R204). -/
def xyFetch (n sp i bundle : Nat) (s : State) : Option W40 × State :=
  let c := chmOf s n
  let v := if sp = 0 then tget c.x (Config.clearedWord 40) i else tget c.y (Config.clearedWord 40) i
  let fl := if sp = 0 then tget c.xf 0 i else tget c.yf 0 i
  let k := onesBelow fl 48
  if k = 0 then (some v, s)
  else if k = 1 then (some v, chmCe n bundle (setChm n (c.put sp i v) s))
  else if k = 2 then (none, chmUe n bundle s)
  else
    let pick := s.freeVal 42
    let s := s.tick1
    if pick.getLsbD 40 then (none, chmUe n bundle s)
    else if pick.getLsbD 41 then
      (some (pick.setWidth 40), chmCe n bundle (setChm n (c.put sp i (pick.setWidth 40)) s))
    else (some (v ^^^ fl.setWidth 40), s)

/-- The DETAIL word of a Chamber source (R502). -/
def chmDetail (n bundle : Nat) : W32 := BitVec.ofNat 32 (n + bundle * 2 ^ 16)

/-- A suppressed access through pointer value v: AFLT, the pointer value, the PROGRAM source (R197). -/
def addressFault (n bundle : Nat) (v : BitVec 24) (s : State) : State :=
  let s := (s.setRb (rCHM_FLAGS n) CHM_FLAGS.AFLT true).setRf (rCHM_GERR_ADDR n) CHM_GERR_ADDR.PTR v.toNat
  raiseD srcChmAddress (chmDetail n bundle) s

/-- A store through a pointer of space 0x3 is suppressed (R239). -/
def programStore (n bundle : Nat) (v : BitVec 24) (s : State) : State :=
  let s := (s.setRb (rCHM_LOOP_STAT n) CHM_LOOP_STAT.PMW true).setRf (rCHM_GERR_ADDR n) CHM_GERR_ADDR.PTR v.toNat
  raiseD srcChmPmw (chmDetail n bundle) s

/-- The space and the index of a pointer value. -/
def ptrSpace (v : BitVec 24) : Nat := v.toNat / 2 ^ 20
/-- The word index of a pointer value. -/
def ptrIndex (v : BitVec 24) : Nat := v.toNat % 2 ^ 20

/-- A pointer value reaches X or Y. -/
def ptrNear (v : BitVec 24) : Bool := decide (ptrSpace v ≤ 1) && decide (ptrIndex v < 16384)

/-- A load from X or Y: zero where it is suppressed or the word is uncorrectable (R197, R204, R216). -/
def nearLoad (n bundle : Nat) (v : BitVec 24) (s : State) : W40 × State :=
  if ptrNear v then
    let r := xyFetch n (ptrSpace v) (ptrIndex v) bundle s
    (r.1.getD 0, r.2)
  else (0, addressFault n bundle v s)

end Sys2Proof.Machine
end

