-- ==== Sys2Proof/Machine/ChamberRun.lean ====
section
/-! DEFINITION. A Chamber run: release, the bundle, loop stack, Cavern accesses, program swap, event queue
(R183, R201 to R210, R229 to R247), and the Chamber memory windows. -/

namespace Sys2Proof.Machine

open Sys2Proof

/-- A Chamber starts a run: entry point of the active bank, channel group 0, rounding defaults latched, loop
stack empty (R183, R232). -/
def chmRelease (n : Nat) (s : State) : State :=
  setChm n { chmOf s n with
    pc := s.rf (rCHM_ENTRY n) CHM_ENTRY.BUNDLE, cg := 0
    rnd := BitVec.ofNat 8 (s.rf (rCHM_RND_DEF n) CHM_RND_DEF.RND), stack := [], ended := false
    stopped := false, delayed := false, wants := false } s

/-- CHMn executes bundles: its unit runs in powered domains, the run has neither ended nor stopped. -/
def chmRuns (s : State) (n : Nat) : Bool :=
  s.running && tget s.cyc.units .idle n == .running && !(chmOf s n).ended && !(chmOf s n).stopped && !s.held n &&
    (idxs (5 * n) 5).all s.domOn

/-- The run stops as at a miss (R230, R236). -/
def chmStop (n : Nat) (s : State) : State := setChm n { chmOf s n with stopped := true } s

/-- An illegal bundle: no effect, the run stops, cause and index recorded, the PROGRAM source (R230). -/
def chmIllegal (n cause : Nat) (s : State) : State :=
  let pc := (chmOf s n).pc
  let s := (s.setRb (rCHM_EXC n) CHM_EXC.ILL true).setRf (rCHM_EXC n) CHM_EXC.CAUSE cause
  let s := s.setRf (rCHM_EXC n) CHM_EXC.BUNDLE pc
  raiseD srcChmIllegal (chmDetail n pc) (chmStop n s)

/-- A loop fault (R236). -/
def chmLoopFault (n cause : Nat) (s : State) : State :=
  let pc := (chmOf s n).pc
  let s := (s.setRb (rCHM_LOOP_STAT n) CHM_LOOP_STAT.LFLT true).setRf (rCHM_LOOP_STAT n) CHM_LOOP_STAT.LCAUSE cause
  let s := s.setRf (rCHM_LOOP_STAT n) CHM_LOOP_STAT.LBUNDLE pc
  raiseD srcChmLoop (chmDetail n pc) (chmStop n s)

/-- The loop fault cause of the sequencer's operation at bundle pc, 0 for none; the lowest counts (R236). -/
def loopCause (c : Chamber) (sop : SeqOp) : Nat :=
  let atEnd := c.stack.any fun l => l.last == c.pc
  match sop with
  | .rep count last =>
    if count ≠ 0 ∧ c.stack.length ≥ 4 then 1
    else if last ≤ c.pc then 2
    else if (match c.stack with
      | t :: _ => decide (t.last < last)
      | [] => false) then 3
    else if atEnd then 4 else 0
  | .br _ _ => if atEnd then 4 else 0
  | _ => 0

/-- The return at the END of the top entry (R233): the next bundle and the stack. -/
def loopReturn (pc : Nat) (st : List Loop) : Nat × List Loop :=
  match st with
  | [] => (pc + 1, [])
  | t :: r =>
    if t.last = pc then
      if 1 < t.left then (t.start, { t with left := t.left - 1 } :: r) else loopReturn pc r
    else (pc + 1, t :: r)

/-- The entries a branch to tgt leaves are popped (R234). -/
def loopPop (tgt : Nat) (st : List Loop) : List Loop :=
  match st with
  | [] => []
  | t :: r => if t.start ≤ tgt ∧ tgt ≤ t.last then t :: r else loopPop tgt r

/-- The next bundle and the stack after the sequencer's operation (R222, R232 to R234). -/
def seqNext (c : Chamber) (sop : SeqOp) : Nat × List Loop :=
  match sop with
  | .br true tgt => (tgt, loopPop tgt c.stack)
  | .rep 0 last => (last + 1, c.stack)
  | .rep count last => (c.pc + 1, { start := c.pc + 1, last := last, left := count } :: c.stack)
  | .stop => (c.pc, c.stack)
  | _ => loopReturn c.pc c.stack

/-- The causes 0x1 to 0x5 of a bundle with its effect, which its bits and the rotating base give (R229). -/
def formCauses (c : Chamber) (b : W64) (e : SlotEff) : List Nat :=
  let form := bf b 62 2
  let sa := b.extractLsb' 31 31
  let sb := b.extractLsb' 0 31
  (if 2 ≤ form then [1]
   else if form = 0 then longCauses b
   else shortCauses sa ++ shortCauses sb ++ causeIf ((usesQuad sa && usesQuad sb) || isSeq sa) 4) ++
  causeIf (hasDup e.dests) 5

/-- The sequencer would fetch past bundle 8191: cause 0x6 (R229). -/
def fetchesPast (c : Chamber) (e : SlotEff) : Bool := e.seq != .stop && decide (8191 < (seqNext c e.seq).1)

/-- One accessed register of a bundle waits for a Cavern load (R209). -/
def waitsLoad (c : Chamber) (e : SlotEff) : Bool :=
  c.acc.any fun a => match a.dest with
    | some d => e.reads.contains d || e.dests.contains d
    | none => false

/-- The Cavern accesses of an effect. -/
def farCount (e : SlotEff) : Nat :=
  (e.mem.filter fun m => match m with
    | .load p _ near => !near && ptrSpace p == 2
    | .store p _ near => !near && ptrSpace p == 2).length

/-- CHMn issues a Cavern access: it takes an entry of the gateway and its turn (R169, R201). -/
def gatewayIssue (n : Nat) (s : State) : State :=
  let s := issueSeq (takeEntry 3 s)
  { s with mtx := { s.mtx with gwTurn := n } }

/-- One destination written, by its name (R208). -/
def putName (c : Chamber) (w : Nat × W88) : Chamber :=
  let k := w.1
  let v := w.2
  if k < 32 then { c with d := tset c.d 0 k (v.setWidth 40) }
  else if k < 96 then { c with q := tset c.q 0 (k - 32) (v.setWidth 40) }
  else if k < 200 then { c with a := tset c.a 0 (k - 100) v }
  else if k < 216 then { c with p := tset c.p 0 (k - 200) (v.setWidth 24) }
  else if k < 224 then { c with m := tset c.m 0 (k - 216) (v.setWidth 20) }
  else if k < 232 then { c with b := tset c.b 0 (k - 224) (v.setWidth 20) }
  else if k < 240 then { c with l := tset c.l 0 (k - 232) (v.setWidth 20) }
  else { c with cg := v.toNat % 8 }

/-- The loads of a bundle, from the memories before it (R210): X and Y words are written with the other
destinations; a Cavern load goes into flight (R201, R209). -/
def doLoads (n bundle : Nat) (ms : List MemOp) (s : State) : State :=
  match ms with
  | [] => s
  | .store .. :: r => doLoads n bundle r s
  | .load p dest near :: r =>
    if !near && ptrSpace p == 2 then
      let q := s.mtx.issues
      let a := cavAccess 0 (8 * ptrIndex p) 8 false 0 (gatewayIssue n s)
      let c := chmOf a.2 n
      doLoads n bundle r (setChm n { c with acc := c.acc ++
        [{ dest := some dest, ptr := p, data := a.1.1.setWidth 40, code := a.1.2, seq := q, dead := false }] } a.2)
    else
      let v := nearLoad n bundle p s
      doLoads n bundle r (setChm n (putName (chmOf v.2 n) (dest, v.1.setWidth 88)) v.2)

/-- The stores of a bundle, slot B after slot A and P2 after P1 (R210, R197, R201, R239). A parallel store through a
pointer of space 0x3 is both a store to program memory (R239) and an address fault (R216; notes/assumptions/90.md). -/
def doStores (n bundle : Nat) (ms : List MemOp) (s : State) : State :=
  match ms with
  | [] => s
  | .load .. :: r => doStores n bundle r s
  | .store p v near :: r =>
    if ptrSpace p = 3 then
      let s := programStore n bundle p s
      doStores n bundle r (if near then addressFault n bundle p s else s)
    else if !near && ptrSpace p == 2 then
      let q := s.mtx.issues
      let a := cavAccess 0 (8 * ptrIndex p) 8 true (v.setWidth 64) (gatewayIssue n s)
      let c := chmOf a.2 n
      doStores n bundle r (setChm n { c with acc := c.acc ++
        [{ dest := none, ptr := p, data := 0, code := a.1.2, seq := q, dead := false }] } a.2)
    else if ptrNear p then
      doStores n bundle r (setChm n ((chmOf s n).put (ptrSpace p) (ptrIndex p) v) s)
    else doStores n bundle r (addressFault n bundle p s)

/-- The operands of a long MAC read through memory pointers (R225): the words, and the state. -/
def fetchOps (n bundle : Nat) (ps : List (BitVec 24)) (s : State) : List W40 × State :=
  match ps with
  | [] => ([], s)
  | p :: r =>
    let v := nearLoad n bundle p s
    let t := fetchOps n bundle r v.2
    (v.1 :: t.1, t.2)

/-- The effect of a long bundle but for the MAC quad's memory operands (R224 to R226). -/
def longEff (c : Chamber) (b : W64) (xm ym : List W40) : SlotEff :=
  match bf b 58 4 with
  | 1 =>
    let pat := bf b 56 2
    let xs := longXsrc b
    let ys := longYsrc b
    let x := if xs.getLsbD 7 then xm else group c (bf xs 0 7) (groupX pat)
    let y := if ys.getLsbD 7 then ym else group c (bf ys 0 7) (groupY pat)
    let rx := if xs.getLsbD 7 then [] else (idxs (bf xs 0 7) (groupX pat)).map (regName c)
    let ry := if ys.getLsbD 7 then [] else (idxs (bf ys 0 7) (groupY pat)).map (regName c)
    let m := macEff (macQuad c pat (bf b 48 3) (bf b 51 2) (b.getLsbD 53) (b.getLsbD 55) (b.getLsbD 54) x y) (rx ++ ry)
    let m := { m with wr := m.wr ++ srcUpd c xs ++ srcUpd c ys }
    m.both ((parEff c (longP1 b)).both (parEff c (longP2 b)))
  | 2 => putD c (bf b 51 7) ((b.setWidth 40, 0)) 0 []
  | 3 => { SlotEff.none with wr := [(200 + bf b 52 6, BitVec.ofNat 88 (bf b 0 24))] }
  | _ => SlotEff.none

/-- The effect of a bundle from the state at its start, the memory operands of a long MAC given. -/
def bundleEff (c : Chamber) (b : W64) (xm ym : List W40) : SlotEff :=
  if bf b 62 2 = 1 then (shortEff c (b.extractLsb' 31 31)).both (shortEff c (b.extractLsb' 0 31))
  else if bf b 62 2 = 0 then longEff c b xm ym
  else SlotEff.none

/-- Words of X or Y that a bundle touches: memory and sub-bank (R199). -/
def subBanks (e : SlotEff) (ps : List (BitVec 24)) : List Nat :=
  let key := fun (p : BitVec 24) => 2 * ptrSpace p + ptrIndex p % 2
  ((ps.filter ptrNear).map key) ++ (e.mem.filterMap fun m => match m with
    | .load p _ _ => if ptrNear p then some (key p) else none
    | .store p _ _ => if ptrNear p then some (key p) else none)

/-- The sticky flags of an effect are set (R192, R194). -/
def setSticky (n k : Nat) (s : State) : State :=
  let s := if k % 2 = 1 then s.setRb (rCHM_FLAGS n) CHM_FLAGS.SAT true else s
  let s := if k / 2 % 2 = 1 then s.setRb (rCHM_FLAGS n) CHM_FLAGS.WRAP true else s
  if k / 4 % 2 = 1 then s.setRb (rCHM_FLAGS n) CHM_FLAGS.AOV true else s

/-- A legal bundle executes: loads and other destinations, then stores, flags, sequencer (R208 to R210). -/
def chmExecute (n : Nat) (b : W64) (s : State) : State :=
  let c := chmOf s n
  let long := bf b 62 2 == 0 && bf b 58 4 == 1
  let px := if long then srcPtrs c (longXsrc b) (groupX (bf b 56 2)) else []
  let py := if long then srcPtrs c (longYsrc b) (groupY (bf b 56 2)) else []
  let fx := fetchOps n c.pc px s
  let fy := fetchOps n c.pc py fx.2
  let s := fy.2
  let e := bundleEff c b fx.1 fy.1
  let banks := subBanks e (px ++ py)
  let s := if hasDup banks || banks.any c.met.contains then s.bumpSat (rCHM_STALL n) CHM_STALL.XYC else s
  let s := doLoads n c.pc e.mem s
  let c1 := e.wr.foldl putName (chmOf s n)
  let c1 := { c1 with z := e.fz.getD c1.z, n := e.fn.getD c1.n, o := e.fo.getD c1.o }
  let c1 := if e.takeEv then { c1 with evq := c1.evq.tail } else c1
  let nx := seqNext c e.seq
  let c1 := { c1 with pc := nx.1, stack := nx.2, delayed := false, wants := false
                      met := if banks.any c1.met.contains then [] else c1.met
                      ended := e.seq == .stop
                      rb := match e.seq with
                        | .rot k => (c1.rb + k) % 64
                        | _ => c1.rb }
  setSticky n e.sticky (doStores n c.pc e.mem (setChm n c1 s))

/-- The check bits of the bundle fetched from the active bank (R204): false where the run stops. -/
def fetchCheck (n : Nat) (s : State) : Bool × State :=
  let c := chmOf s n
  let at_ := 8192 * c.act + c.pc
  let fl := tget c.pf 0 at_
  let k := onesBelow fl 72
  if k = 0 then (true, s)
  else if k = 1 then (true, chmCe n c.pc (setChm n { c with pf := tdel c.pf at_ } s))
  else if k = 2 then (false, chmUe n c.pc (chmStop n s))
  else
    let pick := s.freeVal 2
    let s := s.tick1
    if pick.getLsbD 0 then (false, chmUe n c.pc (chmStop n s))
    else if pick.getLsbD 1 then (true, chmCe n c.pc (setChm n { chmOf s n with pf := tdel c.pf at_ } s))
    else (true, s)

/-- Bits that have flipped in a Chamber memory before the bundle: memory 0 X, 1 Y, 2 and 3 the banks. -/
def chmFlip (n : Nat) (f : Option ChmFlip) (s : State) : State :=
  match f with
  | none => s
  | some f =>
    let c := chmOf s n
    if f.space = 0 then setChm n { c with xf := tset c.xf 0 f.word (tget c.xf 0 f.word ^^^ f.mask.setWidth 48) } s
    else if f.space = 1 then setChm n { c with yf := tset c.yf 0 f.word (tget c.yf 0 f.word ^^^ f.mask.setWidth 48) } s
    else
      let i := 8192 * (f.space - 2) + f.word
      setChm n { c with pf := tset c.pf 0 i (tget c.pf 0 i ^^^ f.mask) } s

/-- CHMn issues the bundle b (R208 to R239): it is checked, waits for what it must, and executes. -/
def chmBundle (n : Nat) (b : W64) (s : State) : State :=
  if !chmRuns s n then s
  else
    match fetchCheck n s with
    | (false, s) => s
    | (true, s) =>
      let c := chmOf s n
      let e := bundleEff c b [] []
      match formCauses c b e with
      | k :: r => chmIllegal n (r.foldl min k) s
      | [] =>
        if waitsLoad c e then
          if c.delayed then s else setChm n { c with delayed := true } (s.bumpSat (rCHM_STALL n) CHM_STALL.GWC)
        else
          let lc := loopCause c e.seq
          let k := farCount e
          if fetchesPast c e then chmIllegal n 6 s
          else if lc ≠ 0 then chmLoopFault n lc s
          else if k ≠ 0 ∧ !gatewayFree s n k then
            let s := if c.delayed then s else s.bumpSat (rCHM_STALL n) CHM_STALL.GWC
            setChm n { c with delayed := true, wants := decide (chmOut s n + k ≤ 4) } s
          else chmExecute n b s

/-- The response of the oldest Cavern access of CHMn arrives: a load writes its destination, or zero with
GERR; a store's error sets GERR (R203, R209). The error is reported as R174 states; an access of a Chamber that has been
reset since leaves nothing (R178). -/
def chmAnswer (n : Nat) (s : State) : State :=
  let c := chmOf s n
  match c.acc with
  | [] => s
  | a :: r =>
    if !inOrder s a.seq (32 + n) 0x10000000 then s
    else
      let s := freeEntry 3 s
      let c := { c with acc := r }
      let c := match a.dest with
        | some d => putName c (d, if a.code = 0 then a.data.setWidth 88 else 0)
        | none => c
      let s := setChm n c s
      if a.code = 0 then s
      else
        errorResponse (32 + n) (0x10000000 + 8 * ptrIndex a.ptr) a.dest.isNone a.code
          ((s.setRb (rCHM_FLAGS n) CHM_FLAGS.GERR true).setRf (rCHM_GERR_ADDR n) CHM_GERR_ADDR.PTR a.ptr.toNat)

/-- The oldest Cavern access of CHMn times out (R174, R175, R203). -/
def chmTimeout (n : Nat) (s : State) : State :=
  let c := chmOf s n
  match c.acc with
  | [] => s
  | a :: r =>
    match timeoutCode a.code with
    | some k => if a.dead then chmAnswer n s else chmAnswer n (setChm n { c with acc := { a with code := k } :: r } s)
    | none => s

/-- A store the Chamber has issued is not acknowledged yet (R202). -/
def storesOut (c : Chamber) : Bool := c.acc.any fun a => a.dest.isNone && !a.dead

/-- The run of CHMn is complete for R48: its final bundle has retired and its stores are acknowledged
(R202). -/
def chmDone (s : State) (n : Nat) : Bool :=
  (chmOf s n).ended && !storesOut (chmOf s n)

/-- The swap of CHMn's banks (order 3 of R240, R241, R206). -/
def chmSwap (n : Nat) (s : State) : State :=
  let c := chmOf s n
  let s := setChm n { c with act := 1 - c.act, gen := (c.gen + 1) % 65536, stack := [], rb := 0, a := []
                             swapPend := false } s
  s.setRf (rCHM_LDR_CNT n) CHM_LDR_CNT.CNT 0

/-- A timer event signalled to CHMn writes one whole record with the current GEN, or counts a drop
(R223, R244). -/
def chmEvent (tim n : Nat) (s : State) : State :=
  let c := chmOf s n
  if c.evq.length < 8 then
    setChm n { c with evq := c.evq ++ [BitVec.ofNat 40 (2 ^ 39 + c.gen * 2 ^ 16 + tim % 8)] } s
  else s.bumpSat (rCHM_EVQ n) CHM_EVQ.DROP

/-- FLUSH empties the event queue of CHMn (R247). -/
def chmFlush (n : Nat) (s : State) : State := setChm n { chmOf s n with evq := [] } s

/-! ### The Chamber memory windows (R181, R200, R205) -/

/-- The bytes of a bundle, least significant first. -/
def bundleBytes (b : W64) : List Byte := bytesOf 8 b

/-- An accepted loader write of bundle i into the shadow bank of CHMn (R205, R206). -/
def loaderWrite (n i : Nat) (b : W64) (s : State) : State :=
  let c := chmOf s n
  let k := 8192 * (1 - c.act) + i
  let s := setChm n { c with prog := tset c.prog (Config.clearedWord 64) k b, pf := tdel c.pf k } s
  let reg := ~~~ ((s.reg (rCHM_LDR_CRC n)).setWidth 32 : W32)
  let s := s.setReg (rCHM_LDR_CRC n) ((~~~ crcBytes reg (bundleBytes b)).setWidth 64)
  s.bumpSat (rCHM_LDR_CNT n) CHM_LDR_CNT.CNT

/-- The read of bundle i of the shadow bank through the loader window (R204, R205). -/
def loaderRead (n i : Nat) (s : State) : Answer × State :=
  let c := chmOf s n
  let k := 8192 * (1 - c.act) + i
  let v := tget c.prog (Config.clearedWord 64) k
  let fl := tget c.pf 0 k
  let f := onesBelow fl 72
  if f = 0 then ((v, 0), s)
  else if f = 1 then ((v, 0), chmCe n i (setChm n { c with pf := tdel c.pf k } s))
  else if f = 2 then ((0, 8), chmUe n i s)
  else
    let pick := s.freeVal 66
    let s := s.tick1
    if pick.getLsbD 64 then ((0, 8), chmUe n i s)
    else if pick.getLsbD 65 then ((pick.setWidth 64, 0), chmCe n i s)
    else ((v ^^^ fl.setWidth 64, 0), s)

/-- A matrix access at sub-bank k of CHMn is served ahead of the Chamber: whether it falls on the cycle of the Chamber's
next access there, which it then delays, the model's steps do not tell, and it is a free value (R200;
notes/assumptions/78.md). -/
def meetBank (n k : Nat) (s : State) : State :=
  if chmRuns s n then
    let c := chmOf s n
    let hit := s.freeVal 1 == 1
    setChm n (if hit && !c.met.contains k then { c with met := k :: c.met } else c) s.tick1
  else s

/-- An access to the Chamber memory windows at offset off (R181, R139, R200, R204, R205). -/
def chmAccess (off bytes : Nat) (write : Bool) (d : W64) (s : State) : Answer × State :=
  let n := off / 0x80000
  let o := off % 0x80000
  if 0x40000 ≤ o then
    if !(bytes = 8 ∧ o % 8 = 0) then ((0, 3), s)
    else if !s.domOn (5 * n + 4) then ((0, 6), s)
    else if s.held n then ((0, 7), s)
    else if write then ((0, 0), loaderWrite n ((o - 0x40000) / 8) d s)
    else loaderRead n ((o - 0x40000) / 8) s
  else
    let sp := o / 0x20000
    let i := o % 0x20000 / 8
    if !((bytes = 8 ∧ o % 8 = 0) ∨ (bytes = 4 ∧ o % 4 = 0)) then ((0, 3), s)
    else if !s.domOn (5 * n + 2 + sp) then ((0, 6), s)
    else if s.held n then ((0, 7), s)
    else
    let s := meetBank n (2 * sp + i % 2) s
    if write ∧ bytes = 8 then ((0, 0), setChm n ((chmOf s n).put sp i (d.setWidth 40)) s)
    else
      match xyFetch n sp i 0 s with
      | (none, s) => ((0, 8), s)
      | (some v, s) =>
        if write then
          ((0, 0), setChm n ((chmOf s n).put sp i (aliasOp 0 v (cavLane (o % 8) 4 d).1 (cavLane (o % 8) 4 d).2)) s)
        else
          let x := v.signExtend 64
          ((if bytes = 8 then x else if o % 8 = 0 then x &&& 0xFFFFFFFF#64 else x >>> 32, 0), s)

end Sys2Proof.Machine
end

