-- ==== Sys2Proof/Machine/Gate.lean ====
section
/-! DEFINITION. The Gate (R473 to R485): the limit record, trips and releases, axes, LED bounds, loudspeaker
channels, flicker. -/

namespace Sys2Proof.Machine

open Sys2Proof

/-! ### Exact fractions -/

/-- The fraction in lowest terms. -/
def Frac.norm (a : Frac) : Frac :=
  let g := Nat.gcd a.num.natAbs a.den
  if g = 0 then ⟨0, 1⟩ else ⟨a.num / g, a.den / g⟩

def Frac.add (a b : Frac) : Frac := Frac.norm ⟨a.num * b.den + b.num * a.den, a.den * b.den⟩
def Frac.sub (a b : Frac) : Frac := Frac.norm ⟨a.num * b.den - b.num * a.den, a.den * b.den⟩
def Frac.mul (a b : Frac) : Frac := Frac.norm ⟨a.num * b.num, a.den * b.den⟩
def Frac.le (a b : Frac) : Bool := decide (a.num * b.den ≤ b.num * a.den)
def Frac.floor (a : Frac) : Int := a.num / a.den
def Frac.ofNat (n : Nat) : Frac := ⟨n, 1⟩
/-- The fraction n/d; 0 for a denominator of 0. -/
def Frac.quot (n d : Nat) : Frac := if d = 0 then ⟨0, 1⟩ else Frac.norm ⟨n, d⟩

/-! ### The limit record (R475, R477) -/

/-- Word w of the limit record in effect. -/
def recWord (s : State) (w : Nat) : W32 := (s.reg (rGTE_REC w)).setWidth 32

/-- Bits lo to lo + n − 1 of word w of the limit record. -/
def recBits (s : State) (w lo n : Nat) : Nat := (recWord s w).toNat / 2 ^ lo % 2 ^ n

/-- A bit of the limit record. -/
def recBit (s : State) (w n : Nat) : Bool := (recWord s w).getLsbD n

/-- A guard's EN: none acts as set in the maintenance state (R477). -/
def guardOn (s : State) (w : Nat) : Bool := recBit s w 31 && !s.gte.maint

/-- Comparator k guards group g: it is enabled and its GUARD names g. -/
def cmpGuards (s : State) (k g : Nat) : Bool :=
  s.rb (rADC_CMP k) ADC_CMP.EN && recBits s (8 + k) 20 4 == g

/-- The microseconds of PWR_UPTIME. -/
def uptime (s : State) : Nat := (s.reg rPWR_UPTIME).toNat

/-! ### Trips and releases (R478 to R480) -/

/-- Group g as the Gate sees it. -/
def gateGrp (s : State) (g : Nat) : GateGrp := tget s.gte.grp GateGrp.init g

/-- The state with group g's Gate state replaced. -/
def setGateGrp (g : Nat) (x : GateGrp) (s : State) : State :=
  { s with gte := { s.gte with grp := tset s.gte.grp GateGrp.init g x } }

/-- Group g is tripped. -/
def tripped (s : State) (g : Nat) : Bool := s.rbit rGTE_TRIP g

/-- Group g is locked out. -/
def lockedOut (s : State) (g : Nat) : Bool := s.rbit rGTE_TRIP (16 + g)

/-- Group g trips, for manual release where an axis fault trips it (R478, R481); a group that trips LOCK_N times within 1 s is locked out (R480); a comparator that trips while the
group is tripped counts (notes/assumptions/108.md). A LOCK_N of 0, as an
all-zero record holds, locks nothing out. -/
def tripGroup (g : Nat) (manual : Bool) (s : State) : State :=
  let now := uptime s
  let ts := ((gateGrp s g).trips.filter fun t => decide (now < t + 1000000)) ++ [now]
  let s := setGateGrp g { trips := ts, release := false, manual := (gateGrp s g).manual || manual } s
  let s := (s.setBit rGTE_TRIP g true).setBit rGTE_TRIPL g true
  let n := recBits s 108 16 8
  if n ≠ 0 ∧ n ≤ ts.length ∧ !lockedOut s g then raise srcLockout (s.setBit rGTE_TRIP (16 + g) true) else s

/-- A cause for which axis a tripped still holds at the last boundary (R481). -/
def axisHolds (s : State) (a : Nat) : Bool :=
  let x := tget s.gte.axis GateAxis.init a
  guardOn s (32 + 4 * a) &&
    ((recBit s (32 + 4 * a) 30 && (match x.code with
        | some c => decide (c < recBits s (33 + 4 * a) 0 12) || decide (recBits s (33 + 4 * a) 16 12 < c)
        | none => false)) ||
     (recBit s (32 + 4 * a) 29 && decide (recBits s (34 + 4 * a) 16 8 ≤ x.fast)) ||
     decide (recBits s (34 + 4 * a) 24 8 ≤ x.stale))

/-- Group g is releasable: no comparator that guards it is tripped, REL_MIN µs have passed (R479). -/
def releasable (s : State) (g : Nat) : Bool :=
  (idxs 0 12).all (fun k => !(cmpGuards s k g && s.rbit rADC_CMP_STAT k)) &&
    decide ((gateGrp s g).trips.getLastD 0 + recBits s 108 0 16 ≤ uptime s)

/-- Group g releases by itself: every comparator that guards it does, and no axis fault tripped it (R479,
R481). -/
def autoRelease (s : State) (g : Nat) : Bool :=
  !(gateGrp s g).manual &&
    (idxs 0 12).all (fun k => !cmpGuards s k g || !(recBit s (8 + k) 19))

/-- A write of GTE_REL: each group named is released at its next reload, or the write is ignored for it with
REL_REF (R479 to R481). -/
def relWrite (mask : W32) (s : State) : State :=
  forEach ((idxs 0 16).filter fun g => mask.getLsbD g)
    (fun g t =>
      if !tripped t g || !releasable t g || (decide (g < 4) && axisHolds t g) || lockedOut t g then
        t.setRb rGTE_TRIPL GTE_TRIPL.REL_REF true
      else setGateGrp g { gateGrp t g with release := true } t) s

/-- The reload of group g releases it where it may (R479). -/
def releaseAtReload (g : Nat) (s : State) : State :=
  if tripped s g && !lockedOut s g && releasable s g && (autoRelease s g || (gateGrp s g).release) then
    setGateGrp g { gateGrp s g with release := false, manual := false } (s.setBit rGTE_TRIP g false)
  else s

/-- An input of uv microvolts is beyond the threshold of comparator k: above it, or below it with POL set (R455). -/
def cmpBeyond (s : State) (k uv : Nat) : Bool :=
  let thr := s.rf (rADC_CMP k) ADC_CMP.THR * 1600000
  if s.rb (rADC_CMP k) ADC_CMP.POL then decide (uv * 1024 < thr) else decide (thr < uv * 1024)

/-- The hysteresis of comparator k in microvolts. -/
def cmpHys (s : State) (k : Nat) : Nat :=
  match s.rf (rADC_CMP k) ADC_CMP.HYS with
  | 0 => 0
  | 1 => 10000
  | 2 => 20000
  | _ => 40000

/-- An input of uv microvolts has returned past the threshold by the hysteresis (R455). -/
def cmpBack (s : State) (k uv : Nat) : Bool :=
  let thr := s.rf (rADC_CMP k) ADC_CMP.THR * 1600000
  if s.rb (rADC_CMP k) ADC_CMP.POL then decide (thr + cmpHys s k * 1024 ≤ uv * 1024)
  else decide ((uv + cmpHys s k) * 1024 ≤ thr)

/-- Comparator k enters the tripped state where its input, of uv microvolts, is beyond its threshold (R455, R456,
R478). -/
def cmpTrip (k uv : Nat) (s : State) : State :=
  if s.rb (rADC_CMP k) ADC_CMP.EN && !s.rbit rADC_CMP_STAT k && cmpBeyond s k uv then
    let s := (s.setBit rADC_CMP_STAT k true).bumpSat (rADC_CMP_CNT k) ADC_CMP_CNT.CNT
    let s := s.setBit rGTE_TRIPL (16 + k) true
    raise (srcCmpTrip k) (tripGroup (recBits s (8 + k) 20 4) false s)
  else s

/-- Comparator k leaves the tripped state where its input, of uv microvolts, has returned far enough (R455). -/
def cmpRelease (k uv : Nat) (s : State) : State := if cmpBack s k uv then s.setBit rADC_CMP_STAT k false else s

/-! ### Motor axes (R481) -/

/-- The result register that a converter port names: 0x200 to 0x207 injected, 0x210 to 0x22F regular (R406). -/
def resultPort (p : Nat) : Option Nat :=
  if 0x200 ≤ p ∧ p < 0x208 then some (rADC_IRES ((p - 0x200) / 4) ((p - 0x200) % 4))
  else if 0x210 ≤ p ∧ p < 0x230 then some (rADC_RRES ((p - 0x210) / 16) ((p - 0x210) % 16))
  else none

/-- The Gate reads the position of axis a at a boundary and trips the axis where it must; a case that holds while the axis
is tripped ends a release that waits for its reload (notes/assumptions/108.md). -/
def axisBoundary (a : Nat) (s : State) : State :=
  if !guardOn s (32 + 4 * a) then s
  else
    match resultPort (recBits s (32 + 4 * a) 0 10) with
    | none => s
    | some r =>
      let code := s.rf r ADC_RRES.CODE
      let tag := s.rf r ADC_RRES.TAG
      let x := tget s.gte.axis GateAxis.init a
      let jump := match x.code with
        | some c => decide (recBits s (34 + 4 * a) 0 12 < (if c ≤ code then code - c else c - code))
        | none => false
      let y : GateAxis :=
        { code := some code, tag := some tag
          fast := if jump then min (x.fast + 1) 255 else 0
          stale := if x.tag = some tag then min (x.stale + 1) 255 else 0 }
      let s := { s with gte := { s.gte with axis := tset s.gte.axis GateAxis.init a y } }
      let s := s.setRf (rGTE_AXIS a) GTE_AXIS.POS code
      let trv := recBit s (32 + 4 * a) 30 &&
        (decide (code < recBits s (33 + 4 * a) 0 12) || decide (recBits s (33 + 4 * a) 16 12 < code))
      let spd := recBit s (32 + 4 * a) 29 && decide (recBits s (34 + 4 * a) 16 8 ≤ y.fast)
      let stl := decide (recBits s (34 + 4 * a) 24 8 ≤ y.stale)
      let s := if trv then s.setRb (rGTE_AXIS a) GTE_AXIS.TRV true else s
      let s := if spd then s.setRb (rGTE_AXIS a) GTE_AXIS.SPD true else s
      let s := if stl then s.setRb (rGTE_AXIS a) GTE_AXIS.STALE true else s
      if !(trv || spd || stl) then s
      else if tripped s a then setGateGrp a { gateGrp s a with release := false, manual := true } s
      else raise (srcAxisFault a) (tripGroup a true s)

/-! ### LED outputs (R482) -/

/-- Cartridge output maps hold LED j safe: one that names it has CART_OK clear (R460). -/
def cartDarkLed (s : State) (j : Nat) : Bool :=
  (idxs 0 4).any fun c => s.rbit (rLTN_CART_MAP c) j && !s.rb (rLTN_CART_STAT c) LTN_CART_STAT.CART_OK

/-- Cartridge output maps hold Lantern port n dark (R460). -/
def cartDarkLtn (s : State) (n : Nat) : Bool :=
  (idxs 0 4).any fun c => s.rbit (rLTN_CART_MAP c) (13 + n) && !s.rb (rLTN_CART_STAT c) LTN_CART_STAT.CART_OK

/-- The outputs stay as after reset: the node has accepted no commit since its reset or since its family changed, or it
is a member with ID 0 (R18, R37, R41). -/
def chainDark (s : State) : Bool :=
  !s.rst.lit ||
    (s.rb rGAL_CTL GAL_CTL.EN && s.rf rGAL_NODE GAL_NODE.ROLE != 0 && s.rf rGAL_NODE GAL_NODE.ID == 0)

/-- The power of LED i at the high time and period in use, in units of 10 mW. -/
def ledPower (s : State) (i : Nat) : Frac :=
  if guardOn s (48 + 2 * i) then
    Frac.quot (recBits s (49 + 2 * i) 0 16 * s.rf (rPWM_CUR (24 + i)) PWM_CUR.HT)
      (32 * s.rf (rPWM_CUR (24 + i)) PWM_CUR.PERIOD)
  else ⟨0, 1⟩

/-- The sum of the LED power over a list of LEDs. -/
def ledSum (s : State) (l : List Nat) : Frac := l.foldl (fun a i => a.add (ledPower s i)) ⟨0, 1⟩

/-- GTE_LED_PWR shows the LED power in use. -/
def showLedPower (s : State) : State :=
  s.setRf rGTE_LED_PWR GTE_LED_PWR.PWR (ledSum s (idxs 0 12)).floor.toNat

/-- Quantity q (LED m: m, Lantern port n: 12 + n) is in LIMIT. -/
def inLimit (s : State) (q : Nat) : Bool := s.rbit rGTE_LIM (16 + q)

/-- The bound of R482 on the high time h of LED j with a period of p ticks: the high time, and whether the power
share gave it. -/
def gateBound (j h p : Nat) (s : State) : Nat × Bool :=
  let dmax := recBits s (48 + 2 * j) 0 16 * p * 32 / 32768
  let pw := recBits s (49 + 2 * j) 0 16
  let share := (Frac.ofNat (recBits s 72 0 16)).sub (ledSum s ((idxs 0 12).filter fun i => i != j))
  let byPower := if pw = 0 then h else (share.mul (Frac.quot (32 * p) pw)).floor.toNat
  let flick := if inLimit s j then ((tget s.gte.quant Quant.init j).ceil.mul (Frac.ofNat (32 * p))).floor.toNat else h
  let safe := tripped s (4 + j) || lockedOut s (4 + j) || !guardOn s (48 + 2 * j) || cartDarkLed s j || chainDark s
  let b := min (min h dmax) flick
  if safe then (0, false) else (min b byPower, decide (byPower < b))

/-- The Gate holds the outputs of group g at the safe level. -/
def groupSafe (s : State) (g : Nat) : Bool :=
  tripped s g || lockedOut s g || chainDark s ||
    (if g < 4 then !guardOn s (32 + 4 * g) else !guardOn s (48 + 2 * (g - 4)) || cartDarkLed s (g - 4))

/-! ### Loudspeaker channels (R483) -/

/-- A sample of SAP output slot k through the Gate's loudspeaker channel c. -/
def spkChannel (c : Nat) (x : W40) (s : State) : W40 × State :=
  let q := tget s.gte.spk GateSpk.init c
  let one : Int := 2 ^ 32
  let xs := if x.toInt > one then one else if x.toInt < - one then - one else x.toInt
  let g := s.rf (rGTE_SPK c) GTE_SPK.GAIN
  let g := if g < q.gt then min q.gt (g + 32) else max q.gt (g - 32)
  let s := s.setRf (rGTE_SPK c) GTE_SPK.GAIN g
  let s := { s with gte := { s.gte with
      spk := tset s.gte.spk GateSpk.init c { q with sum := q.sum + (xs * xs).toNat, n := q.n + 1 } } }
  let y := rndHalfUp (x.toInt * g) 15
  let peak : Int := recBits s (81 + 4 * c) 0 24 * 2 ^ 9
  if y > peak then (BitVec.ofInt 40 peak, s.bumpSat (rGTE_SPK c) GTE_SPK.PKCNT)
  else if y < - peak then (BitVec.ofInt 40 (- peak), s.bumpSat (rGTE_SPK c) GTE_SPK.PKCNT)
  else (BitVec.ofInt 40 y, s)

/-- A sample of SAP output slot k after the Gate: zero where a disabled guard names the slot, bounded where an
enabled one does, else as it is (R473, R477, R483). -/
def spkSample (k : Nat) (x : W40) (s : State) : W40 × State :=
  match (idxs 0 4).filter (fun c => recBits s (80 + 4 * c) 0 7 == k) with
  | [] => (x, s)
  | cs =>
    if cs.any fun c => !guardOn s (80 + 4 * c) then (0, s)
    else spkChannel (cs.headD 0) x s

/-- The thermal model of channel c at a boundary (R483). -/
def spkBoundary (c : Nat) (s : State) : State :=
  if !guardOn s (80 + 4 * c) then s
  else
    let q := tget s.gte.spk GateSpk.init c
    let n := max 1 q.n
    let tau := recBits s (83 + 4 * c) 0 5
    let th := ((q.th : Int) + ((q.sum : Int) - q.th * n * 2 ^ 32) / (n * 2 ^ 32 * 2 ^ tau)).toNat
    let mx := (recWord s (82 + 4 * c)).toNat
    let gt := if th ≤ mx then 32768 else mx * 32768 / th
    let s := { s with gte := { s.gte with spk := tset s.gte.spk GateSpk.init c ⟨th, 0, 0, gt⟩ } }
    let s := s.setBit rGTE_LIM (12 + c) (decide (gt < 32768))
    if gt < 32768 ∧ q.gt = 32768 then raiseAux (srcSpkLimit c) 0 (recBits s (80 + 4 * c) 0 7 / 16) s else s

/-! ### Flicker (R484, R485) -/

/-- The step of R484 on one quantity: the new reference, direction, and whether a flash counts. -/
def flashStep (depth : Frac) (q : Quant) (f : Frac) : Frac × Int × Bool :=
  let up := decide (0 ≤ q.dir)
  let dn := decide (q.dir ≤ 0)
  let r := if up && q.r.le f then f else q.r
  let r := if dn && f.le r then f else r
  if up && f.le (r.sub depth) then (f, -1, decide (0 < q.dir))
  else if dn && (r.add depth).le f then (f, 1, decide (q.dir < 0))
  else (r, q.dir, false)

/-- Light quantity k, of value o, at an L boundary (R484, R485). -/
def flickerStep (k : Nat) (o : Frac) (s : State) : State :=
  let q := tget s.gte.quant Quant.init k
  let now := uptime s
  let fsh := recBits s 100 8 4
  let f := q.f.add ((o.sub q.f).mul (Frac.quot 1 (2 ^ fsh)))
  let st := flashStep (Frac.quot (recBits s 100 0 8) 256) q f
  let fl := (q.flashes.filter fun t => decide (now < t + 1000000)) ++ (if st.2.2 then [now] else [])
  let was := inLimit s k
  let lim := if fl.isEmpty then false else was || decide (recBits s 100 12 4 ≤ fl.length)
  let c := q.o.add (Frac.quot 1 (recBits s 100 16 16))
  let c := if (Frac.ofNat 1).le c then ⟨1, 1⟩ else c
  let s := { s with gte := { s.gte with
      quant := tset s.gte.quant Quant.init k { f := f, r := st.1, dir := st.2.1, o := o, flashes := fl, ceil := c } } }
  let s := s.setBit rGTE_LIM (16 + k) lim
  if lim && !was then raise srcFlicker (s.bumpSat rGTE_FLK_CNT GTE_FLK_CNT.CNT) else s

/-- The mean of the colour values of a frame as a fraction of full scale. -/
def frameMean (vs : List (BitVec 16)) : Frac :=
  if vs.isEmpty then ⟨0, 1⟩ else Frac.quot (vs.map BitVec.toNat).sum (65535 * vs.length)

/-- The colour values of a frame's words (R432). -/
def frameColours (ws : List (BitVec 16)) : List (BitVec 16) := (ws.drop 4).take (ws.length - 6)

/-- Every light quantity at an L boundary (R484). -/
def gateLBoundary (s : State) : State :=
  let s := forEach ((idxs 0 12).filter fun m => guardOn s (48 + 2 * m) && recBit s (48 + 2 * m) 30)
    (fun m t => flickerStep m (Frac.quot (t.rf (rPWM_CUR (24 + m)) PWM_CUR.HT)
      (32 * t.rf (rPWM_CUR (24 + m)) PWM_CUR.PERIOD)) t) s
  forEach ((idxs 0 4).filter fun n => recBit s (96 + n) 31)
    (fun n t => flickerStep (12 + n) (frameMean (frameColours (tget t.ltn Ltn.init n).sent)) t) s

/-- What the Gate does at a cycle boundary (R481, R483). -/
def gateBoundary (s : State) : State :=
  forEach (idxs 0 4) spkBoundary (forEach (idxs 0 4) axisBoundary s)

/-- A colour value of Lantern port n through the Gate: zero for a dark cartridge and in the maintenance state, bounded
in LIMIT (R103, R460, R485). -/
def gateColour (n : Nat) (v : BitVec 16) (s : State) : BitVec 16 :=
  if cartDarkLtn s n || chainDark s || s.gte.maint then 0
  else if inLimit s (12 + n) then
    BitVec.ofNat 16 (min v.toNat (((tget s.gte.quant Quant.init (12 + n)).ceil.mul (Frac.ofNat 65535)).floor.toNat))
  else v

end Sys2Proof.Machine
end

