-- ==== Sys2Proof/Machine/Adc.lean ====
section
/-! DEFINITION. The converters and the fast comparators (R438 to R456). -/

namespace Sys2Proof.Machine

open Sys2Proof

/-- Converter i. -/
def adcOf (s : State) (i : Nat) : Adc := tget s.adc Adc.init i

/-- The state with converter i's state replaced. -/
def setAdc (i : Nat) (a : Adc) (s : State) : State := { s with adc := tset s.adc Adc.init i a }

/-- Converter i acts on triggers: enabled, ready, its domain on (R451). -/
def adcLive (s : State) (i : Nat) : Bool :=
  s.rb (rADC_CTL i) ADC_CTL.EN && s.rb (rADC_STAT i) ADC_STAT.READY && s.domOn (125 + i) && !s.held 23

/-- Injected sequence running. -/
def injBusy (s : State) (i : Nat) : Bool := s.rb (rADC_STAT i) ADC_STAT.IBUSY

/-- Regular sequence running or suspended. -/
def regBusy (s : State) (i : Nat) : Bool := s.rb (rADC_STAT i) ADC_STAT.RBUSY

/-- The slots of the regular sequence as its registers give them now (R443). -/
def regSlots (s : State) (i : Nat) : List (Nat × Nat) :=
  (idxs 0 (s.rf (rADC_CTL i) ADC_CTL.RLENM1 + 1)).map fun j =>
    (s.rf (rADC_RSQ i j) ADC_RSQ.CH, s.rf (rADC_RSQ i j) ADC_RSQ.ST)

/-- The slots of the injected sequence as its registers give them now (R443). -/
def injSlots (s : State) (i : Nat) : List (Nat × Nat) :=
  (idxs 0 (s.rf (rADC_CTL i) ADC_CTL.ILENM1 + 1)).map fun j =>
    (s.rf (rADC_ISQ i j) ADC_ISQ.CH, s.rf (rADC_ISQ i j) ADC_ISQ.ST)

/-- The first converter clock edge at least 20 ns after tick t: the edges fall on the multiples of 5 ticks (R440,
R441). -/
def adcEdge (t : Nat) : Nat := (t + 9) / 5 * 5

/-- The edge that ends the approximation of a conversion of sample time st (R440). -/
def convEnd (c : AdcConv) (st : Nat) : Nat := c.start + 5 * max 4 st + 75

/-- The code of a voltage of a channel, in microvolts, of which the supply taps take half (R438). -/
def adcCode (ch : Nat) (uv : Nat) : Nat :=
  min 4095 (uv * 4096 / (if 22 ≤ ch ∧ ch ≤ 24 then 3200000 else 1600000))

/-- The regular sequence starts, its sampling at tick t (R443, R449). -/
def startRegular (i t : Nat) (s : State) : State :=
  let a := adcOf s i
  let s := setAdc i { a with rslots := regSlots s i, rnext := 0, rtag := (a.rtag + 1) % 256, rerr := false
                             conv := some ⟨false, 0, false, t⟩ } s
  s.setRb (rADC_STAT i) ADC_STAT.RBUSY true

/-- The injected sequence starts, its sampling at tick t (R443, R449). -/
def startInjected (i t : Nat) (s : State) : State :=
  let a := adcOf s i
  let s := setAdc i { a with islots := injSlots s i, itag := (a.itag + 1) % 256, ierr := false
                             conv := some ⟨true, 0, false, t⟩ } s
  s.setRb (rADC_STAT i) ADC_STAT.IBUSY true

/-- An injected trigger reaches converter i (R445, R446). -/
def injTrigger (i : Nat) (s : State) : State :=
  if !adcLive s i then s
  else if injBusy s i then s.bumpSat (rADC_DROP i) ADC_DROP.IDROP
  else if regBusy s i then
    startInjected i (adcEdge s.dtm.ticks) ((s.setRb (rADC_STAT i) ADC_STAT.RSUSP true).bumpSat (rADC_ABORT i) ADC_ABORT.CNT)
  else startInjected i (adcEdge s.dtm.ticks) s

/-- A regular trigger reaches converter i (R445). -/
def regTrigger (i : Nat) (s : State) : State :=
  if !adcLive s i then s
  else if s.rb (rADC_STAT i) ADC_STAT.RPEND then s.bumpSat (rADC_DROP i) ADC_DROP.RDROP
  else if regBusy s i || injBusy s i then s.setRb (rADC_STAT i) ADC_STAT.RPEND true
  else startRegular i (adcEdge s.dtm.ticks) s

/-- The trigger source a code selects; other codes act as software only (R444). -/
def adcSource (t : Nat) : Nat :=
  if t ≤ 3 ∨ (8 ≤ t ∧ t < 0x30) then t else 0

/-- An event of trigger code t reaches both converters, the injected sequence first (R444, R445). -/
def adcEvent (t : Nat) (s : State) : State :=
  forEach [0, 1]
    (fun i u =>
      let u := if t ≠ 0 ∧ adcSource (u.rf (rADC_CTL i) ADC_CTL.ITRIG) = t then injTrigger i u else u
      if t ≠ 0 ∧ adcSource (u.rf (rADC_CTL i) ADC_CTL.RTRIG) = t then regTrigger i u else u) s

/-- The conversion that waits begins sampling, at its edge (R441). -/
def adcSample (i : Nat) (s : State) : State :=
  let a := adcOf s i
  match a.conv with
  | some c => if adcLive s i && decide (c.start ≤ s.dtm.ticks) then setAdc i { a with conv := some { c with sampling := true } } s else s
  | none => s

/-- The thermal check of a conversion of sensor k (R453). -/
def thermCheck (k code : Nat) (s : State) : State :=
  let d : Int := (code : Int) - s.rf (rADC_TCAL k) ADC_TCAL.CODE
  let hot : Int := s.rf rADC_THERM ADC_THERM.HOT
  let hys : Int := s.rf rADC_THERM ADC_THERM.HYS
  if s.rbit rADC_TSTAT k then (if d < hot - hys then s.setBit rADC_TSTAT k false else s)
  else if hot ≤ d then raise (srcThermal k) ((s.setBit rADC_TSTAT k true).setBit rADC_TSTAT (8 + k) true)
  else s

/-- What a converter does when a sequence has ended, at the edge t that ends its last approximation (R447). -/
def adcNext (i t : Nat) (s : State) : State :=
  if s.rb (rADC_STAT i) ADC_STAT.RSUSP then
    let a := adcOf s i
    setAdc i { a with conv := some ⟨false, a.rnext, true, t⟩ } (s.setRb (rADC_STAT i) ADC_STAT.RSUSP false)
  else if s.rb (rADC_STAT i) ADC_STAT.RPEND then
    let s := startRegular i t (s.setRb (rADC_STAT i) ADC_STAT.RPEND false)
    setAdc i { adcOf s i with conv := some ⟨false, 0, true, t⟩ } s
  else setAdc i { adcOf s i with conv := none } s

/-- The conversion of converter i ends, at the edge that ends its approximation or later, with the code of the voltage uv
of its input in microvolts (R438 to R440, R447, R449, R453). -/
def adcEnd (i : Nat) (uv : W32) (s : State) : State :=
  let a := adcOf s i
  match a.conv with
  | none => s
  | some c =>
    let slots := if c.inj then a.islots else a.rslots
    let t := convEnd c (slots.getD c.slot (0, 0)).2
    if !c.sampling || !adcLive s i || decide (s.dtm.ticks < t) then s
    else
      let ch := (slots.getD c.slot (0, 0)).1
      let bad := decide (25 ≤ ch)
      let code := if bad then 0 else adcCode ch uv.toNat
      let r := if c.inj then rADC_IRES i c.slot else rADC_RRES i c.slot
      let s := (s.setRf r ADC_RRES.CODE code).setRf r ADC_RRES.TAG (if c.inj then a.itag else a.rtag)
      let first := bad && !(if c.inj then a.ierr else a.rerr)
      let a := if c.inj then { a with ierr := a.ierr || bad }
               else { a with rerr := a.rerr || bad, rnext := c.slot + 1 }
      let s := setAdc i a s
      let s := if bad then s.setRb (rADC_STAT i) ADC_STAT.CH_ERR true else s
      let s := if first then raise srcAdcChannel s else s
      let s := if 16 ≤ ch ∧ ch ≤ 21 then thermCheck (ch - 16) code s else s
      if c.slot + 1 < slots.length then
        setAdc i { adcOf s i with conv := some { c with slot := c.slot + 1, sampling := true, start := t } } s
      else
        adcNext i t (if c.inj then s.setRb (rADC_STAT i) ADC_STAT.IBUSY false
                   else s.setRb (rADC_STAT i) ADC_STAT.RBUSY false)

/-- A write of EN: set, the converter starts to ready; cleared, any sequence is abandoned (R451). -/
def adcEnableWrite (i : Nat) (on : Bool) (s : State) : State :=
  let was := s.rb (rADC_CTL i) ADC_CTL.EN
  let s := s.setRb (rADC_CTL i) ADC_CTL.EN on
  if on && !was then setAdc i Adc.init s
  else if !on && was then
    let s := (s.setRb (rADC_STAT i) ADC_STAT.READY false).setRb (rADC_STAT i) ADC_STAT.RPEND false
    let s := (s.setRb (rADC_STAT i) ADC_STAT.RSUSP false).setRb (rADC_STAT i) ADC_STAT.IBUSY false
    setAdc i { adcOf s i with conv := none } (s.setRb (rADC_STAT i) ADC_STAT.RBUSY false)
  else s

/-- The converter has become ready (R451). -/
def adcReady (i : Nat) (s : State) : State :=
  if s.rb (rADC_CTL i) ADC_CTL.EN && !s.held 23 then s.setRb (rADC_STAT i) ADC_STAT.READY true else s

end Sys2Proof.Machine
end

