-- ==== Sys2Proof/Machine/HostWindow.lean ====
section
/-! DEFINITION. The host window: its array from both ports, collisions, doorbells, the SPI slave and the
parallel bus (R152 to R158). -/

namespace Sys2Proof.Machine

open Sys2Proof

/-- Word h of the array. -/
def hwnWord (s : State) (h : Nat) : W32 := tget s.hwn.arr (Config.clearedWord 32) (h % 4096)

/-- The array with v at word h. -/
def hwnPut (h : Nat) (v : W32) (s : State) : State :=
  { s with hwn := { s.hwn with arr := tset s.hwn.arr (Config.clearedWord 32) (h % 4096) v } }

/-- Words 2 and 3 are doorbells while DB_EN is set (R156). -/
def isDoorbell (s : State) (h : Nat) : Bool := s.rb rHWN_CTL HWN_CTL.DB_EN && (h % 4096 == 2 || h % 4096 == 3)

/-- nHINT is low while DB_EN is set and HWN_DB_OUT is not zero (R156). -/
def nHintLow (s : State) : Bool := s.rb rHWN_CTL HWN_CTL.DB_EN && s.rf rHWN_DB_OUT HWN_DB_OUT.DB != 0

/-- A collision on word h is counted, and signalled to the later port (R154). On the parallel bus HBUSY then stays high
for at least 30 ns, 8 ticks (R155). -/
def collide (h : Nat) (bLater : Bool) (s : State) : State :=
  let s := (s.bumpSat rHWN_COLL_CNT HWN_COLL_CNT.CNT).setRf rHWN_COLL_ADDR HWN_COLL_ADDR.WORD (h % 4096)
  if bLater then
    let s := s.setRb rHWN_STAT HWN_STAT.COLL_B true
    { s with hwn := { s.hwn with
        hbusy := true
        busyOff := if s.rf rHWN_STAT HWN_STAT.HMODE = 1 then some (s.dtm.ticks + 8) else none } }
  else s.setRb rHWN_STAT HWN_STAT.COLL_A true

/-- The data d of a read of n bytes at system address a, the part of it from array word h replaced by x. -/
def undefPart (a n h : Nat) (x : W32) (d : W64) : W64 :=
  let w := 0x80000 + h % 4096
  if a / 4 = w then (d &&& ~~~ 0xFFFFFFFF#64) ||| x.setWidth 64
  else if n = 8 ∧ a / 4 + 1 = w then (d &&& 0xFFFFFFFF#64) ||| (x.setWidth 64 <<< 32)
  else d

/-- A read of port A in flight that collides with a write of port B on word h returns undefined data (R154). -/
def undefReads (h : Nat) (s : State) : State :=
  let x : W32 := s.freeVal 32
  let s := s.tick1
  let s := { s with
    txns := s.txns.map fun t => if t.issued && !t.write && t.code == 0 then { t with data := undefPart t.addr t.bytes h x t.data } else t
    gde := { s.gde with
      loads := s.gde.loads.map fun l => if l.code = 0 then { l with data := undefPart l.addr l.bytes h x l.data } else l } }
  forEach (idxs 0 16)
    (fun n t =>
      let c := sphOf t n
      if c.flight.isEmpty then t
      else
        setSph n { c with flight := c.flight.map fun e =>
          if !e.write && e.code == 0 then { e with data := undefPart e.addr (if c.wide then 8 else 4) h x e.data } else e } t) s

/-- An array cycle of port B reads word h; a colliding write of port A takes effect and leaves the read
undefined (R154, R156). -/
def portBRead (h : Nat) (coll : Option HwnAccess) (s : State) : W32 × State :=
  if isDoorbell s h then
    ((if h % 4096 = 2 then s.reg rHWN_DB_IN else s.reg rHWN_DB_OUT).setWidth 32, s)
  else if !s.domOn 133 then (s.freeVal 32, s.tick1)
  else
    match coll with
    | some ⟨true, v⟩ =>
      let bLater := !s.arbFirst
      let x := s.freeVal 32
      (x, collide h bLater (hwnPut h v s.tick1))
    | _ => (hwnWord s h, s)

/-- An array cycle of port B writes word h, its value given from the stored one; with a colliding write of port A both
take effect in the arbiter's order, and a colliding read of port A returns undefined data (R154, R156). -/
def portBStore (h : Nat) (f : W32 → W32) (coll : Option HwnAccess) (s : State) : State :=
  if isDoorbell s h then
    let v := f 0
    if h % 4096 = 2 then
      let s := s.setRf rHWN_DB_IN HWN_DB_IN.DB (s.rf rHWN_DB_IN HWN_DB_IN.DB ||| v.toNat)
      if v ≠ 0 then doorbellEvent s else s
    else s.setReg rHWN_DB_OUT (s.reg rHWN_DB_OUT &&& ~~~ (v.setWidth 64))
  else if !s.domOn 133 then s
  else
    match coll with
    | none => hwnPut h (f (hwnWord s h)) s
    | some ⟨true, av⟩ =>
      let bLater := !s.arbFirst
      let s := s.tick1
      collide h bLater (hwnPut h (if bLater then f av else av) s)
    | some ⟨false, _⟩ =>
      let bLater := !s.arbFirst
      let s := s.tick1
      collide h bLater (undefReads h (hwnPut h (f (hwnWord s h)) s))

/-- An array cycle of port B writes the whole word h. -/
def portBWrite (h : Nat) (v : W32) (coll : Option HwnAccess) (s : State) : State := portBStore h (fun _ => v) coll s

/-- An array cycle of port A on word h (R152, R154, R156): the data read, and the state. -/
def portAWord (h : Nat) (write : Bool) (v : W32) (coll : Option HwnAccess) (s : State) : W32 × State :=
  if isDoorbell s h then (0, s)
  else
    match coll with
    | none => if write then (0, hwnPut h v s) else (hwnWord s h, s)
    | some ⟨bWrites, bv⟩ =>
      let bLater := !s.arbFirst
      if write then
        let s := s.tick1
        let s := if bWrites then (if bLater then hwnPut h bv s else hwnPut h v s) else hwnPut h v s
        (0, collide h bLater s)
      else if bWrites then
        let x := s.freeVal 32
        (x, collide h bLater (hwnPut h bv s.tick1))
      else (hwnWord s h, s)

/-- The collision of the i-th word of a transfer, where one was given for that word. -/
def collAt (coll : List (Nat × HwnAccess)) (i : Nat) : Option HwnAccess := (coll.find? fun c => c.1 == i).map fun c => c.2

/-- An access at port A at byte offset off of the array, a 64-bit one as two word accesses, each checked for collision
(R152). -/
def hwnAccess (off bytes : Nat) (write : Bool) (d : W64) (coll : List (Nat × HwnAccess)) (s : State) : Answer × State :=
  let h := off / 4
  if !((bytes = 4 ∧ off % 4 = 0) ∨ (bytes = 8 ∧ off % 8 = 0)) then ((0, 3), s)
  else if !s.domOn 133 then ((0, 6), s)
  else if s.held 33 then ((0, 7), s)
  else if bytes = 4 then
    let r := portAWord h write (d.setWidth 32) (collAt coll 0) s
    ((r.1.setWidth 64, 0), r.2)
  else
    let r := portAWord h write (d.setWidth 32) (collAt coll 0) s
    let q := portAWord (h + 1) write ((d >>> 32).setWidth 32) (collAt coll 1) r.2
    ((r.1.setWidth 64 ||| (q.1.setWidth 64 <<< 32), 0), q.2)

/-- n words read from the array by port B from word h on, wrapping from 4095 to 0 (R157). -/
def spiFetch (h i n : Nat) (coll : List (Nat × HwnAccess)) (s : State) : List W32 × State :=
  match n with
  | 0 => ([], s)
  | n + 1 =>
    let r := portBRead h (collAt coll i) s
    let q := spiFetch ((h + 1) % 4096) (i + 1) n coll r.2
    (r.1 :: q.1, q.2)

/-- The words vs written to the array by port B from word h on (R157). -/
def spiStore (h i : Nat) (vs : List W32) (coll : List (Nat × HwnAccess)) (s : State) : State :=
  match vs with
  | [] => s
  | v :: r => spiStore ((h + 1) % 4096) (i + 1) r coll (portBWrite h v (collAt coll i) s)

/-- The commands of the SPI slave (R157). -/
inductive SpiCmd where
  | read | qread | write | qwrite | rdsr
  deriving DecidableEq, Repr

/-- The command of a command byte; none for an unlisted one (R157). -/
def spiCode (c : Byte) : Option SpiCmd :=
  if c = 0x0B then some .read else if c = 0x6B then some .qread else if c = 0x02 then some .write
  else if c = 0x32 then some .qwrite else if c = 0x05 then some .rdsr else none

/-- The data of a command runs on HIO0 to HIO3 (R157). -/
def SpiCmd.quad (c : SpiCmd) : Bool := c == .qread || c == .qwrite

/-- The SPI slave takes a command: port B is the SPI slave and no transaction is open. -/
def spiReady (s : State) : Bool :=
  !(s.rst.phase == .inReset) && !s.held 33 && s.rf rHWN_STAT HWN_STAT.HMODE == 0 && !s.hwn.spiOpen

/-- The transaction the slave ignores (R157). -/
def spiBad (s : State) : State :=
  let s := s.setRb rHWN_STAT HWN_STAT.BADCMD true
  { s with hwn := { s.hwn with spiOpen := true, sends := false } }

/-- READ and QREAD: n words from the 16-bit address; the array cycle of the word after the last runs in the
last byte of the last, so one word more is fetched than is sent (R157). -/
def spiRead (c : SpiCmd) (addr : BitVec 16) (n : Nat) (coll : List (Nat × HwnAccess)) (s : State) : State :=
  if !spiReady s then s
  else if addr.toNat ≥ 4096 then spiBad s
  else
    let r := spiFetch addr.toNat 0 (n + 1) coll s
    { r.2 with hwn := { r.2.hwn with spiOpen := true, quad := c.quad, sends := true, sent := r.1.take n } }

/-- WRITE and QWRITE: the whole words received; a partial last word is discarded (R157). -/
def spiWrite (c : SpiCmd) (addr : BitVec 16) (vs : List W32) (coll : List (Nat × HwnAccess)) (s : State) : State :=
  if !spiReady s then s
  else if addr.toNat ≥ 4096 then spiBad s
  else
    let s := spiStore addr.toNat 0 vs coll s
    { s with hwn := { s.hwn with spiOpen := true, quad := c.quad, sends := false, sent := [] } }

/-- The status byte of RDSR (R157). -/
def spiStatus (s : State) : W32 :=
  BitVec.ofNat 32 ((if s.hwn.hbusy then 1 else 0) + (if s.rf rHWN_DB_OUT HWN_DB_OUT.DB ≠ 0 then 2 else 0) +
    (if s.rb rHWN_CTL HWN_CTL.DB_EN then 4 else 0))

/-- Port B is the parallel bus. -/
def parReady (s : State) : Bool :=
  !(s.rst.phase == .inReset) && !s.held 33 && s.rf rHWN_STAT HWN_STAT.HMODE == 1

/-- A host read of the half HA0 of word HA12 to HA1 (R158). -/
def parRead (ha : BitVec 13) (coll : Option HwnAccess) (s : State) : State :=
  if !parReady s then s
  else
    let w := ha.toNat / 2
    if ha.getLsbD 0 then
      match s.hwn.hold with
      | some ⟨hw, true, half⟩ =>
        if hw = w then { s with hwn := { s.hwn with hold := none, sent := [half.setWidth 32] } }
        else
          let r := portBRead w coll s
          { r.2 with hwn := { r.2.hwn with hold := none, sent := [r.1 >>> 16] } }
      | _ =>
        let r := portBRead w coll s
        { r.2 with hwn := { r.2.hwn with hold := none, sent := [r.1 >>> 16] } }
    else
      let r := portBRead w coll s
      { r.2 with hwn := { r.2.hwn with hold := some ⟨w, true, (r.1 >>> 16).setWidth 16⟩
                                       sent := [r.1 &&& 0xFFFF#32] } }

/-- A host write of the half HA0 of word HA12 to HA1 (R158): half 1 directly after half 0 of the same word writes the
whole word; half 1 alone keeps the other half of the word, and rings a doorbell with bits [31:16] only (R156). -/
def parWrite (ha : BitVec 13) (v : BitVec 16) (coll : Option HwnAccess) (s : State) : State :=
  if !parReady s then s
  else
    let w := ha.toNat / 2
    if ha.getLsbD 0 then
      let low : Option (BitVec 16) := match s.hwn.hold with
        | some ⟨hw, false, half⟩ => if hw = w then some half else none
        | _ => none
      let s := match low with
        | some half => portBWrite w (v ++ half) coll s
        | none => portBStore w (fun old => v ++ old.setWidth 16) coll s
      { s with hwn := { s.hwn with hold := none, sent := [] } }
    else { s with hwn := { s.hwn with hold := some ⟨w, false, v⟩, sent := [] } }

end Sys2Proof.Machine
end

