-- ==== Sys2Proof/Machine/Cartridge.lean ====
section
/-! DEFINITION. Lantern cartridges and the two-wire controllers (R457 to R472). -/

namespace Sys2Proof.Machine

open Sys2Proof

/-- Cartridge c. -/
def cartOf (s : State) (c : Nat) : Cart := tget s.cart Cart.init c

/-- The state with cartridge c's state replaced. -/
def setCart (c : Nat) (x : Cart) (s : State) : State := { s with cart := tset s.cart Cart.init c x }

/-- The state of cartridge c: 0 OFF, 1 MISSING, 2 PROBING, 3 VALID, 4 UNKNOWN, 5 FAULT (R459). -/
def cartState (s : State) (c : Nat) : Nat := s.rf (rLTN_CART_STAT c) LTN_CART_STAT.STATE

/-- CART_OK as R460 gives it. -/
def showCartOk (c : Nat) (s : State) : State :=
  s.setRb (rLTN_CART_STAT c) LTN_CART_STAT.CART_OK
    (cartState s c == 3 && (!s.rb (rLTN_CART_STAT c) LTN_CART_STAT.EXPIRED || !s.rb (rLTN_CART_MAP c) LTN_CART_MAP.EXP_DARK))

/-- Cartridge c takes a state; EXPIRED stays only while it stays VALID (R460, R467). -/
def setCartState (c st : Nat) (s : State) : State :=
  let s := s.setRf (rLTN_CART_STAT c) LTN_CART_STAT.STATE st
  let s := if st = 3 then s else s.setRb (rLTN_CART_STAT c) LTN_CART_STAT.EXPIRED false
  showCartOk c s

/-- The engine of cartridge c works: EN is set, domain 135 is on, the block is not held. -/
def cartLive (s : State) (c : Nat) : Bool :=
  s.rb (rLTN_CART_CFG c) LTN_CART_CFG.EN && s.domOn 135 && !s.held 22

/-- A VALID cartridge's ACC is discarded and LOST set (R464, R471). -/
def cartDiscard (c : Nat) (s : State) : State :=
  if cartState s c = 3 then
    (s.setReg (rLTN_CART_ACC c) 0).setRb (rLTN_CART_STAT c) LTN_CART_STAT.LOST true
  else s

/-- The cartridge becomes UNKNOWN with a cause (R463). -/
def cartUnknown (c cause : Nat) (s : State) : State :=
  let s := s.setRf (rLTN_CART_STAT c) LTN_CART_STAT.CAUSE cause
  let s := (setCartState c 4 s).bumpSat (rLTN_CART_CNT c) LTN_CART_CNT.AUTH_FAIL
  raise (srcCartAuth c) s

/-- The cartridge becomes FAULT (R463). -/
def cartFault (c : Nat) (s : State) : State :=
  let s := s.setRf (rLTN_CART_STAT c) LTN_CART_STAT.CAUSE 3
  raise (srcCartSideband c) (setCartState c 5 s)

/-- RATED hours in units of 2⁻¹² equivalent seconds (R467). -/
def ratedUnits (rated : Nat) : Nat := rated * 14745600

/-- n bytes of an ID block from offset o, big-endian (R461). -/
def idNat (id : List Byte) (o n : Nat) : Nat := beNat ((id.drop o).take n)

/-- Expiry is checked: EXPIRED sets once while the cartridge stays VALID (R467). -/
def checkExpiry (c : Nat) (s : State) : State :=
  let eh := (s.reg (rLTN_CART_EH c)).toNat
  if ratedUnits (idNat (cartOf s c).id 0x10 4) ≤ eh ∧ !s.rb (rLTN_CART_STAT c) LTN_CART_STAT.EXPIRED then
    raise (srcCartExpiry c) (showCartOk c (s.setRb (rLTN_CART_STAT c) LTN_CART_STAT.EXPIRED true))
  else s

/-- The registers that show the ID block last read. -/
def showId (c : Nat) (id : List Byte) (s : State) : State :=
  let s := setCart c { cartOf s c with id := id } s
  let s := s.setRf (rLTN_CART_SER_HI c) LTN_CART_SER_HI.SERIAL (idNat id 8 4)
  let s := s.setRf (rLTN_CART_SER_LO c) LTN_CART_SER_LO.SERIAL (idNat id 12 4)
  let s := s.setRf (rLTN_CART_INFO c) LTN_CART_INFO.RATED (idNat id 0x10 4)
  let s := s.setRf (rLTN_CART_TYPE c) LTN_CART_TYPE.FMT (idNat id 4 1)
  let s := s.setRf (rLTN_CART_TYPE c) LTN_CART_TYPE.TYPE (idNat id 6 2)
  forEach (idxs 0 128)
    (fun m t => (t.setRf (rLTN_CART_W c m) LTN_CART_W.W_LO (idNat id (0x20 + 4 * m) 2)).setRf
      (rLTN_CART_W c m) LTN_CART_W.W_HI (idNat id (0x20 + 4 * m + 2) 2)) s

/-- The cartridge root value (R462); zeros where none is installed. -/
def rootKey (s : State) : List Byte :=
  match s.sec.mram.rootBank with
  | some true => s.sec.mram.root1
  | some false => s.sec.mram.root0
  | none => List.replicate 32 0

/-- Steps 2 to 4 of the probe: a fresh nonce, the element's response with its own key, and the response the
security controller expects (R462, R463). -/
def challenge (id key : List Byte) (s : State) : Bool × State :=
  let n := natBe 16 (s.freeVal 128).toNat
  let kc := hmac (rootKey s) ((id.drop 8).take 8 ++ (id.drop 6).take 2)
  (hmac key (n ++ id) == hmac kc (n ++ id), s.tick1)

/-- A life slot is valid when its CRC matches (R468). -/
def lifeOk (b : List Byte) : Bool :=
  decide (b.length = 16) && beNat (b.drop 12) == (crc32 (b.take 12)).toNat

/-- The record in use is chosen (R469). -/
def chooseLife (c : Nat) (a b : List Byte) (s : State) : State :=
  let va := lifeOk a
  let vb := lifeOk b
  let useA := va && (!vb || decide (beNat (b.take 4) ≤ beNat (a.take 4)))
  let r := if useA then a else b
  if va || vb then
    let s := setCart c { cartOf s c with inA := useA } s
    let s := s.setRb (rLTN_CART_STAT c) LTN_CART_STAT.LIFE_BAD false
    (s.setReg (rLTN_CART_SEQ c) (BitVec.ofNat 64 (beNat (r.take 4)))).setReg (rLTN_CART_EH c)
      (BitVec.ofNat 64 (beNat ((r.drop 4).take 6)))
  else
    let s := setCart c { cartOf s c with inA := true } s
    let s := s.setRb (rLTN_CART_STAT c) LTN_CART_STAT.LIFE_BAD true
    let s := (s.setReg (rLTN_CART_SEQ c) 0).setReg (rLTN_CART_EH c)
      (BitVec.ofNat 64 (ratedUnits (idNat (cartOf s c).id 0x10 4) % 2 ^ 48))
    raise (srcCartLifeRecord c) s

/-- n retries are counted. -/
def cartRetries (c n : Nat) (s : State) : State :=
  s.setRf (rLTN_CART_CNT c) LTN_CART_CNT.RETRY (min 255 (s.rf (rLTN_CART_CNT c) LTN_CART_CNT.RETRY + n))

/-- The random source answers a probe: domain 134 is on and no entropy test has failed (R463, R514). -/
def probeRng (s : State) : Bool := s.domOn 134 && !s.rb rSEC_STAT SEC_STAT.RNG_FAIL

/-- The probe of cartridge c with the element e on its connector (R463): 3 failed attempts make it FAULT. -/
def cartProbe (c : Nat) (e : CartElement) (s : State) : State :=
  if cartState s c ≠ 2 ∨ !cartLive s c then s
  else
    let s := cartRetries c (min e.fails 2) s
    if 3 ≤ e.fails then cartFault c s
    else
      let s := showId c e.id s
      if idNat e.id 0 4 ≠ 0x4B435431 ∨ idNat e.id 4 1 ≠ 1 ∨ idNat e.id 0x10 4 = 0 then cartUnknown c 1 s
      else if !probeRng s then cartUnknown c 4 s
      else
        let r := challenge e.id e.key s
        if !r.1 then cartUnknown c 2 r.2
        else
          let s := chooseLife c e.lifeA e.lifeB r.2
          let s := setCart c { cartOf s c with samples := 0, second := uptime s / 1000000, authAt := uptime s } s
          let s := s.setReg (rLTN_CART_ACC c) 0
          checkExpiry c (setCartState c 3 s)

/-- A re-authentication of cartridge c is due: REAUTH minutes of PWR_UPTIME have passed since the last check (R464). -/
def reauthDue (s : State) (c : Nat) : Bool :=
  let m := s.rf (rLTN_CART_CFG c) LTN_CART_CFG.REAUTH
  decide (m ≠ 0) && decide ((cartOf s c).authAt + 60000000 * m ≤ uptime s)

/-- The periodic re-authentication of a VALID cartridge, where it is due; accounting goes on (R464). An element whose
sideband fails becomes FAULT (notes/assumptions/109.md). -/
def cartReauth (c : Nat) (e : CartElement) (s : State) : State :=
  if cartState s c ≠ 3 ∨ !cartLive s c ∨ !reauthDue s c then s
  else
    let s := cartRetries c (min e.fails 2) s
    if 3 ≤ e.fails then cartFault c (cartDiscard c s)
    else if !probeRng s then cartUnknown c 4 (cartDiscard c s)
    else
      let r := challenge (cartOf s c).id e.key s
      if r.1 then setCart c { cartOf r.2 c with authAt := uptime r.2 } r.2 else cartUnknown c 2 (cartDiscard c r.2)

/-- A life record (R468). -/
def lifeRecord (seq eh : Nat) : List Byte :=
  let b := natBe 4 seq ++ natBe 6 eh ++ [0, 0]
  b ++ beBytes (crc32 b)

/-- The interval of cartridge c is committed: fails write attempts fail, of the 4 that R470 allows (R466,
R470). -/
def cartCommit (c fails : Nat) (s : State) : State :=
  let x := cartOf s c
  let eh := ((s.reg (rLTN_CART_EH c)).toNat + (s.reg (rLTN_CART_ACC c)).toNat) % 2 ^ 48
  let seq := ((s.reg (rLTN_CART_SEQ c)).toNat + 1) % 2 ^ 32
  let s := cartRetries c (min fails 3) s
  let s := setCart c { x with samples := 0, wrote := some (!x.inA, lifeRecord seq eh) } s
  if 4 ≤ fails then
    raise (srcCartLifeWrite c) (s.setRb (rLTN_CART_STAT c) LTN_CART_STAT.WFAIL true)
  else
    let s := setCart c { cartOf s c with inA := !x.inA } s
    let s := (s.setReg (rLTN_CART_SEQ c) (BitVec.ofNat 64 seq)).setReg (rLTN_CART_EH c) (BitVec.ofNat 64 eh)
    checkExpiry c (s.setReg (rLTN_CART_ACC c) 0)

/-- The temperature bin of R465. -/
def tempBin (tj : Option (BitVec 16)) : Nat :=
  match tj with
  | none => 15
  | some v => (min 15 (max 0 ((v.toInt - 40) / 12))).toNat

/-- One sample of a VALID cartridge, once in each whole second of PWR_UPTIME; the 60th commits the interval (R465,
R466). -/
def cartSample (c : Nat) (tj : Option (BitVec 16)) (fails : Nat) (s : State) : State :=
  if cartState s c ≠ 3 ∨ !cartLive s c ∨ uptime s / 1000000 ≤ (cartOf s c).second then s
  else
    let s := match tj with
      | none => s.bumpSat (rLTN_CART_CNT c) LTN_CART_CNT.TJ_ERR
      | some v => s.setRf (rLTN_CART_LIVE c) LTN_CART_LIVE.TJ v.toNat
    let code := (resultPort (s.rf (rLTN_CART_CFG c) LTN_CART_CFG.ISRC)).map fun r => s.rf r ADC_RRES.CODE
    let s := match code with
      | some v => s.setRf (rLTN_CART_LIVE c) LTN_CART_LIVE.ICODE v
      | none => s
    let i := match code with
      | some v => v / 256
      | none => 15
    let w := idNat (cartOf s c).id (0x20 + 32 * i + 2 * tempBin tj) 2
    let s := s.setReg (rLTN_CART_ACC c) (BitVec.ofNat 64 (((s.reg (rLTN_CART_ACC c)).toNat + w) % 2 ^ 32))
    let x := cartOf s c
    let s := setCart c { x with samples := x.samples + 1, second := uptime s / 1000000 } s
    if 60 ≤ x.samples + 1 then cartCommit c fails s else s

/-- REPROBE: a VALID cartridge's ACC is committed first; ignored while OFF or MISSING (R459, R471). -/
def cartReprobe (c fails : Nat) (s : State) : State :=
  if cartState s c ≤ 1 ∨ !cartLive s c then s
  else
    let s := if cartState s c = 3 then cartCommit c fails s else s
    setCartState c 2 s

/-- A write of EN (R459, R471). -/
def cartEnable (c : Nat) (on : Bool) (fails : Nat) (s : State) : State :=
  let was := s.rb (rLTN_CART_CFG c) LTN_CART_CFG.EN
  if on && !was then
    let s := s.setRb (rLTN_CART_CFG c) LTN_CART_CFG.EN true
    if !s.domOn 135 then s else setCartState c (if (cartOf s c).absent then 1 else 2) s
  else if !on && was then
    let s := if cartState s c = 3 && cartLive s c then cartCommit c fails s else s
    setCartState c 0 (s.setRb (rLTN_CART_CFG c) LTN_CART_CFG.EN false)
  else s

/-- CARTc_nPRS has been high for 10 µs (R459, R471). -/
def cartLost (c : Nat) (s : State) : State :=
  let s := setCart c { cartOf s c with absent := true } s
  if cartState s c = 0 then s else setCartState c 1 (cartDiscard c s)

/-- CARTc_nPRS has held low for 50 ms (R459). -/
def cartSettled (c : Nat) (s : State) : State :=
  let s := setCart c { cartOf s c with absent := false } s
  if cartState s c = 1 && cartLive s c then setCartState c 2 s else s

/-- Domain 135 has left ON: every cartridge is OFF (R459, R471). -/
def cartsOff (s : State) : State :=
  forEach (idxs 0 4) (fun c t => if cartState t c = 0 then t else setCartState c 0 (cartDiscard c t)) s

/-- Domain 135 is on again: enabled cartridges leave OFF (R459). -/
def cartsOn (s : State) : State :=
  forEach (idxs 0 4)
    (fun c t =>
      if cartState t c = 0 && cartLive t c then setCartState c (if (cartOf t c).absent then 1 else 2) t else t) s

/-! ### Two-wire controllers (R457, R458) -/

/-- A length field: 0 to 16, values above acting as 16. -/
def twLen (n : Nat) : Nat := min n 16

/-- The bytes of controller k's data registers. -/
def twBytes (s : State) (k : Nat) : List Byte :=
  (idxs 0 4).flatMap fun w => bytesOf 4 (s.reg (rLTN_TW_DATA k w))

/-- The rate of controller k in kHz: its cartridge's SPEED, TW4's own (R457). -/
def twKilohertz (s : State) (k : Nat) : Nat :=
  if (if k < 4 then s.rb (rLTN_CART_CFG k) LTN_CART_CFG.SPEED else s.rb (rLTN_TW_CMD k) LTN_TW_CMD.SPEED) then 400 else 100

/-- The bytes that controller k sends after each START of a transaction: the address with the write bit and the bytes
written; then, or alone where there are none, the address with the read bit, for RLEN bytes (R457). -/
def twSends (s : State) (k : Nat) : List (List Byte) :=
  let a := 2 * s.rf (rLTN_TW_CMD k) LTN_TW_CMD.ADDR
  let w := tget s.tw [] k
  let r := twLen (s.rf (rLTN_TW_CMD k) LTN_TW_CMD.RLEN)
  (if w = [] ∧ r ≠ 0 then [] else [BitVec.ofNat 8 a :: w]) ++ (if r = 0 then [] else [[BitVec.ofNat 8 (a + 1)]])

/-- The clocks a controller sends where it finds SDA held low before a START: until SDA is high, at most 9; sda gives its
level after each clock (R457). -/
def twClears (sda : List Bool) : Nat := min 9 ((sda.takeWhile fun b => !b).length + 1)

/-- GO of controller k: ignored while BUSY, refused for the authentication element (R458). -/
def twGo (k : Nat) (s : State) : State :=
  if s.rb (rLTN_TW_STAT k) LTN_TW_STAT.BUSY then s
  else if k < 4 ∧ s.rf (rLTN_TW_CMD k) LTN_TW_CMD.ADDR = 0x5A then
    s.setRb (rLTN_TW_STAT k) LTN_TW_STAT.DENY true
  else
    let s := { s with tw := tset s.tw [] k ((twBytes s k).take (twLen (s.rf (rLTN_TW_CMD k) LTN_TW_CMD.WLEN))) }
    s.setRb (rLTN_TW_STAT k) LTN_TW_STAT.BUSY true

/-- The transaction of controller k ends with its STOP (R457). -/
def twDone (k : Nat) (nack tmo : Bool) (nbytes : Nat) (read : List Byte) (s : State) : State :=
  if !s.rb (rLTN_TW_STAT k) LTN_TW_STAT.BUSY || !s.domOn 135 then s
  else
    let got := read.take (twLen (s.rf (rLTN_TW_CMD k) LTN_TW_CMD.RLEN))
    let all := got ++ (twBytes s k).drop got.length
    let s := forEach (idxs 0 4) (fun w t => t.setReg (rLTN_TW_DATA k w) (ofBytes ((all.drop (4 * w)).take 4))) s
    let s := (s.setRb (rLTN_TW_STAT k) LTN_TW_STAT.BUSY false).setRb (rLTN_TW_STAT k) LTN_TW_STAT.DONE true
    let s := if nack then s.setRb (rLTN_TW_STAT k) LTN_TW_STAT.NACK true else s
    let s := if tmo then s.setRb (rLTN_TW_STAT k) LTN_TW_STAT.TMO true else s
    s.setRf (rLTN_TW_STAT k) LTN_TW_STAT.NBYTES nbytes

end Sys2Proof.Machine
end

