-- ==== Sys2Proof/Machine/Confluence.lean ====
section
/-! DEFINITION. Confluence: selectors, planes, the alignment ring, the mix pass, automatic scaling, the rate
bridges and the stores (R248 to R273). -/

namespace Sys2Proof.Machine

open Sys2Proof

/-! ### The family and the offset -/

/-- Samples per pass of the family in effect (R248). -/
def spc (s : State) : Nat := if s.cyc.fam % 2 = 1 then 12 else 6

/-- Inputs that take part in the mix (R248). -/
def nInputs (s : State) : Nat := if s.cyc.fam % 2 = 1 then 128 else 256

/-- Buses that take part in the mix (R248). -/
def nBuses (s : State) : Nat := if s.cyc.fam % 2 = 1 then 32 else 64

/-- Gallery runs: EN is set, it is neither held nor without its switch fabric (R337). -/
def galOn (s : State) : Bool := s.running && s.rb rGAL_CTL GAL_CTL.EN && !s.held 19 && s.domOn 118

/-- The node acts as HEAD, or will from the next boundary: it is configured so and has met no conflict (R15, R17). -/
def headCfg (s : State) : Bool :=
  fget GAL_CTL.HEAD (s.gal.ctl.setWidth 64) == 1 &&
    (s.rf rGAL_NODE GAL_NODE.ROLE == 0 || s.rf rGAL_NODE GAL_NODE.ROLE == 3)

/-- The node is a member: Gallery is enabled and it does not act as HEAD. -/
def isMember (s : State) : Bool := s.rb rGAL_CTL GAL_CTL.EN && !headCfg s

/-- The value of P_US within its range (R26). -/
def clampP (n : Nat) : Nat := if n < 500 then 500 else if 10000 < n then 10000 else n

/-- P in µs: the chain's while Gallery is enabled, else the node's own (R26, R41). -/
def pMicros (s : State) : Nat :=
  if s.rb rGAL_CTL GAL_CTL.EN then clampP (s.rf rGAL_CYC_STAT GAL_CYC_STAT.P_US)
  else clampP (s.rf rGAL_CYC_CTL GAL_CYC_CTL.P_US)

/-- P_eff in cycles (R26). -/
def pCycles (s : State) : Nat :=
  if s.cyc.fam < 2 then (pMicros s + 124) / 125 else (pMicros s * 7350 + 999999) / 1000000

/-- The cycles taken by the output trim (R30). A write of TRIM is in effect at once; when it takes effect the spec does
not say (DESIGN CHOICE, notes/assumptions/97.md). -/
def uCycles (s : State) : Nat := (s.rf rGAL_CYC_CTL GAL_CYC_CTL.TRIM + spc s - 1) / spc s

/-- Cycles by which a CHAIN consumer processes a block later than a LOCAL one (R29, R257). -/
def holdCycles (s : State) : Nat := pCycles s - 2 - uCycles s

/-! ### Selectors (R249 to R251) -/

/-- The type of a selector. -/
def selType (v : Nat) : Nat := v % 65536 / 4096

/-- The index of a selector. -/
def selIdx (v : Nat) : Nat := v % 4096

/-- The domain of a selector type: 1 A, 2 C, 3 L, 0 for NONE and the types of no domain (R249). -/
def selDomain (v : Nat) : Nat :=
  let t := selType v
  if 1 ≤ t ∧ t ≤ 7 then 1 else if t = 8 ∨ t = 9 then 2 else if t = 0xA ∨ t = 0xB then 3 else 0

/-- The bridge kinds end in A (R249, R269). -/
def kindEndsA (k : Nat) : Bool := k == 2 || k == 3

/-- Whether a selector is valid as a source, for the family and the bridge kinds (R249). -/
def sourceOk (fam : Nat) (kinds : List Nat) (v : Nat) : Bool :=
  let i := selIdx v
  match selType v with
  | 0 => i == 0
  | 1 => decide (i < 128)
  | 3 => decide (i < (if fam % 2 = 1 then 256 else 512))
  | 5 => decide (i < 256)
  | 6 => decide (i < 64)
  | 7 => decide (i < 32) && kindEndsA (kinds.getD i 0)
  | 8 => decide (i < 256)
  | 9 => decide (i < 256)
  | 0xA => true
  | 0xB => true
  | _ => false

/-- Whether a selector is valid as a destination (R249). -/
def destOk (fam : Nat) (v : Nat) : Bool :=
  let i := selIdx v
  match selType v with
  | 0 => i == 0
  | 2 => decide (i < 128)
  | 3 => decide (i < (if fam % 2 = 1 then 256 else 512))
  | 4 => decide (i < 256)
  | 8 => decide (i < 256)
  | 9 => decide (i < 256)
  | 0xA => true
  | 0xB => true
  | _ => false

/-- What a source selector acts as in a position of domain dom: itself, or NONE (R250). -/
def actsAs (fam : Nat) (kinds : List Nat) (dom v : Nat) : Nat :=
  if sourceOk fam kinds v && (selType v == 0 || selDomain v == dom) then v else 0

/-- The domains a bridge kind joins; none for OFF (R269). -/
def kindDomains (k : Nat) : Option (Nat × Nat) :=
  match k with
  | 1 => some (1, 2)
  | 2 => some (2, 1)
  | 3 => some (2, 1)
  | 4 => some (2, 3)
  | 5 => some (2, 3)
  | 6 => some (3, 2)
  | 7 => some (2, 2)
  | 8 => some (3, 3)
  | _ => none

/-- A bridge as it acts: an invalid selector is NONE, and one whose domain does not match the kind makes the bridge
OFF (R250, R270). -/
def bridgeActs (fam : Nat) (kinds : List Nat) (b : BridgeRoute) : BridgeRoute :=
  let src := if sourceOk fam kinds b.src then b.src else 0
  let dst := if destOk fam b.dst then b.dst else 0
  match kindDomains b.kind with
  | none => ⟨0, 0, 0⟩
  | some (a, z) =>
    if (selType src == 0 || selDomain src == a) && (selType dst == 0 || selDomain dst == z) then ⟨b.kind, src, dst⟩
    else ⟨0, 0, 0⟩

/-- A bridge holds an invalid selector, or domains that do not match its kind (R250, R270). -/
def bridgeBad (fam : Nat) (kinds : List Nat) (b : BridgeRoute) : Bool :=
  !sourceOk fam kinds b.src || !destOk fam b.dst ||
    (kindDomains b.kind != none && bridgeActs fam kinds b != b)

/-- Crosspoint (i, b) as its index in the gain store. -/
def xpKey (i b : Nat) : Nat := 64 * i + b

/-- The gain crosspoint k has or moves to: the end value of a ramp, a step of a set that waits for the next pass, else
the gain in use (R256; notes/assumptions/98.md). -/
def gainTarget (s : State) (k : Nat) : W32 :=
  match s.flw.xr.find? (fun p => p.1 == k) with
  | some p => p.2.g1
  | none =>
    match s.cfl.xpFlw.find? (fun p => p.1 == k) with
    | some p => p.2
    | none => tget s.cfl.gains 0 k

/-- The crosspoints whose gain is not zero, or moves to a gain that is not zero. -/
def xpKeys (s : State) : List Nat :=
  let a := s.cfl.gains.map fun p => p.1
  let b := (s.cfl.xpFlw.map fun p => p.1).filter fun k => !a.contains k
  let c := (s.flw.xr.map fun p => p.1).filter fun k => !a.contains k && !b.contains k
  (a ++ b ++ c).filter fun k => gainTarget s k != 0

/-- The bridge kinds in effect. -/
def kindsOf (s : State) : List Nat := (idxs 0 32).map fun k => s.rf (rCFL_BRG_CFG k) CFL_BRG_CFG.KIND

/-- The routing the registers show. -/
def routingOf (s : State) : Routing :=
  { ins := (idxs 0 256).map fun i => s.rf (rCFL_IN i) CFL_IN.SRC
    cin := (idxs 0 256).map fun j => s.rf (rCFL_CIN j) CFL_CIN.SRC
    cnt := (idxs 0 16).map fun n => s.rf (rCFL_CHM_IN n) CFL_CHM_IN.CNT
    sap := (idxs 0 128).map fun j => s.rf (rCFL_SAPOUT j) CFL_SAPOUT.SRC
    talk := (idxs 0 512).map fun c => s.rf (rCFL_TALK c) CFL_TALK.SRC
    brg := (idxs 0 32).map fun k =>
      ⟨s.rf (rCFL_BRG_CFG k) CFL_BRG_CFG.KIND, s.rf (rCFL_BRG_SEL k) CFL_BRG_SEL.SRC,
       s.rf (rCFL_BRG_SEL k) CFL_BRG_SEL.DST⟩
    xp := xpKeys s }

/-! ### Planes (R256) -/

/-- The source that feeds a destination: its own selector or, where that is NONE, the lowest bridge that names
the destination (R270, R271; notes/assumptions/25.md). -/
def feeding (r : Routing) (own dst : Nat) : Nat :=
  if own ≠ 0 then own
  else
    match (idxs 0 32).find? (fun k => kindEndsA (r.brg.getD k ⟨0, 0, 0⟩).kind && (r.brg.getD k ⟨0, 0, 0⟩).dst == dst) with
    | some k => 0x7000 + k
    | none => 0

/-- The sources that feed input j of the Chambers, SAP output slot j and audio talk channel c. -/
def cinSrc (r : Routing) (j : Nat) : Nat := feeding r (r.cin.getD j 0) (0x4000 + j)
def sapSrc (r : Routing) (j : Nat) : Nat := feeding r (r.sap.getD j 0) (0x2000 + j)
def talkSrc (r : Routing) (c : Nat) : Nat := feeding r (r.talk.getD c 0) (0x3000 + c)

/-- The inputs of CHMn that its input area has (R253). -/
def cinsOf (r : Routing) (n : Nat) : List Nat := idxs (16 * n) (min 16 (r.cnt.getD n 0))

/-- The plane of a source under given planes (R256). -/
def srcPlane (p : Planes) (v : Nat) : Bool :=
  match selType v with
  | 3 => true
  | 8 => true
  | 0xA => true
  | 5 => p.chm.getD (selIdx v / 16) false
  | 6 => p.bus.getD (selIdx v) false
  | 7 => p.brg.getD (selIdx v) false
  | _ => false

/-- One round of the plane rules: what is CHAIN by its sources' planes. -/
def planeRound (r : Routing) (p : Planes) : Planes :=
  { chm := (idxs 0 16).map fun n => (cinsOf r n).any fun j => srcPlane p (cinSrc r j)
    bus := (idxs 0 64).map fun b => r.xp.any fun k => k % 64 == b && srcPlane p (r.ins.getD (k / 64) 0)
    brg := r.brg.map fun b => srcPlane p b.src }

/-- The plane rules applied until nothing changes, at most n times. -/
def planeFix (r : Routing) (n : Nat) (p : Planes) : Planes :=
  match n with
  | 0 => p
  | n + 1 => let q := planeRound r p; if q = p then p else planeFix r n q

/-- The planes of a routing: CHAIN is what the rules of R256 make CHAIN; 112 rounds reach every Chamber, bus
and bridge. -/
def planesOf (r : Routing) : Planes :=
  planeFix r 112 { chm := List.replicate 16 false, bus := List.replicate 64 false, brg := List.replicate 32 false }

/-- The destination is a talk route (R249, R270). -/
def talkDst (v : Nat) : Bool := selType v == 3 || selType v == 8 || selType v == 0xA

/-- The routing with every invalid selector NONE and every bridge of the wrong domains OFF, and without the
crosspoints of the inputs and buses the family does not have (R248, R250, R270). -/
def routingValid (fam : Nat) (r : Routing) : Routing :=
  let kinds := r.brg.map fun b => b.kind
  { r with ins := r.ins.map (actsAs fam kinds 1), cin := r.cin.map (actsAs fam kinds 1)
           sap := r.sap.map (actsAs fam kinds 1), talk := r.talk.map (actsAs fam kinds 1)
           brg := r.brg.map (bridgeActs fam kinds)
           xp := if fam % 2 = 1 then r.xp.filter fun k => decide (k / 64 < 128) && decide (k % 64 < 32) else r.xp }

/-- The routing as it acts: a CHAIN-plane source on a talk route is NONE too (R250). -/
def routingActs (fam : Nat) (r : Routing) : Routing :=
  let q := routingValid fam r
  let p := planesOf q
  { q with talk := q.talk.map fun v => if srcPlane p v then 0 else v
           brg := q.brg.map fun b => if talkDst b.dst && srcPlane p b.src then ⟨b.kind, 0, b.dst⟩ else b }

/-- A routing holds a selector or a bridge that does not act as it stands (R250). -/
def routingBad (fam : Nat) (r : Routing) : Bool :=
  let q := routingActs fam r
  let p := planesOf (routingValid fam r)
  let kinds := r.brg.map fun b => b.kind
  q.ins != r.ins || q.cin != r.cin || q.sap != r.sap || q.talk != r.talk ||
    r.brg.any fun b => bridgeBad fam kinds b || (talkDst b.dst && srcPlane p (bridgeActs fam kinds b).src)

/-! ### Sources (R251) -/

/-- A block of zeros. -/
def zeroBlock (s : State) : List W40 := List.replicate (spc s) 0

/-- A control value as S40, an exact shift (R269). -/
def cToS40 (v : W32) : W40 := v.signExtend 40 <<< 1

/-- The value of a control or light source (R23, R251). -/
def srcValue (s : State) (v : Nat) : W32 :=
  match selType v with
  | 8 => tget s.gal.chainC 0 (selIdx v)
  | 9 => (s.reg (rCFL_CS (selIdx v))).setWidth 32
  | 0xA => (tget s.gal.chainL 0 (selIdx v)).setWidth 32
  | 0xB => (s.reg (rCFL_LS (selIdx v))).setWidth 32 &&& 0xFFFF#32
  | _ => 0

/-- Whether the unit behind a source is one that is released and powered (R251). -/
def srcLive (s : State) (v : Nat) : Bool :=
  match selType v with
  | 1 => s.rf (rSAP_STAT (selIdx v / 16)) SAP_STAT.STATE != 0
  | 5 => (s.cyc.stage.toNat / 4 ^ (selIdx v / 16) % 4 != 0) &&
      (idxs (5 * (selIdx v / 16)) 5).all fun d => !s.domOff d
  | 6 => decide (selIdx v < nBuses s) && (idxs 112 4).all fun d => !s.domOff d
  | 3 => galOn s
  | 7 => true
  | _ => false

/-- The block an audio source shows (R251, R258). -/
def srcBlock (s : State) (v : Nat) : List W40 :=
  if srcLive s v then tget s.cfl.blk (zeroBlock s) v else zeroBlock s

/-! ### Ramps (R571) -/

/-- The gains j of n samples of a ramp from j, up to 32 or down to 0, and the j after them. -/
def rampList (up : Bool) (j n : Nat) : List Nat × Nat :=
  match n with
  | 0 => ([], j)
  | n + 1 =>
    let k := if up then min (j + 1) 32 else j - 1
    let r := rampList up k n
    (k :: r.1, r.2)

/-- A sample scaled by j/32, rounded half-up; unchanged at 32 (R571). -/
def scaleJ (j : Nat) (x : W40) : W40 :=
  if j = 32 then x else BitVec.ofInt 40 (rndHalfUp (x.toInt * j) 5)

/-- A block scaled sample by sample. -/
def scaleBlock (js : List Nat) (b : List W40) : List W40 := List.zipWith scaleJ js b

/-! ### The alignment ring (R257, R259, R260, R273) -/

/-- A ring word is written under identifier 50. -/
def ringWrite (w : Nat) (v : W40) (s : State) : Bool × State := matrixWrite 50 w v s

/-- A ring word is read under identifier 51. -/
def ringRead (w : Nat) (s : State) : Option W40 × State := matrixRead 51 w s

/-- The words of a block written from word w; false where one of them drew an error response. -/
def ringPut (w : Nat) (b : List W40) (s : State) : Bool × State :=
  match b with
  | [] => (true, s)
  | v :: r =>
    let x := ringWrite w v s
    let y := ringPut (w + 1) r x.2
    (x.1 && y.1, y.2)

/-- n words read from word w; none where one of them drew an error response. -/
def ringGet (w n : Nat) (s : State) : Option (List W40) × State :=
  match n with
  | 0 => (some [], s)
  | n + 1 =>
    let x := ringRead w s
    let y := ringGet (w + 1) n x.2
    (match x.1, y.1 with | some v, some l => some (v :: l) | _, _ => none, y.2)

/-- The places of the ring that hold no block, in units of a block from its base (notes/assumptions/24.md). -/
def ringFree (s : State) : List Nat :=
  ((List.range (s.cfl.ringLen / spc s)).map fun i => s.cfl.ringBase + spc s * i).filter fun w =>
    s.cfl.ring.all fun e => e.word != w

/-- The block b enters the ring for the destination register dest, to be taken in cycle due; which free place it takes
is a free value. -/
def ringEnter (dest due : Nat) (b : List W40) (s : State) : State :=
  if s.cfl.unserved.contains dest then s
  else
    match ringFree s with
    | [] => s
    | w0 :: l =>
      let w := (w0 :: l).getD ((s.freeVal 32).toNat % (l.length + 1)) w0
      let r := ringPut w b s.tick1
      let s := r.2
      if r.1 then { s with cfl := { s.cfl with ring := s.cfl.ring ++ [⟨dest, due, w⟩] } }
      else s.setRb rCFL_STAT CFL_STAT.RING_ERR true

/-- Block k of an output whose change to the LOCAL plane skips k: its last sample under the ramp to zero; nothing for
every other block (R286; notes/assumptions/99.md). -/
def gapBlock (s : State) (v k : Nat) : List W40 :=
  match s.cfl.gaps.find? (fun p => p.1 == v) with
  | none => zeroBlock s
  | some (_, g) =>
    if g.start ≤ k ∧ k < g.stop then
      (List.range (spc s)).map fun i => scaleJ (g.j - ((k - g.start) * spc s + i + 1)) g.tail
    else zeroBlock s

/-- Block k of source v leaves the ring for the destination register dest in this cycle; where there is none, what R286
leaves of a skipped block; zeros where a read drew an error response (R260, R273). -/
def ringTake (dest v k : Nat) (s : State) : List W40 × State :=
  match s.cfl.ring.find? (fun e => e.dest == dest && e.due == s.cyc.idx) with
  | none => (gapBlock s v k, s)
  | some e =>
    let r := ringGet e.word (spc s) s
    let s := r.2
    let s := { s with cfl := { s.cfl with ring := s.cfl.ring.filter fun f => f != e } }
    match r.1 with
    | some b => (b, s)
    | none => (zeroBlock s, s.setRb rCFL_STAT CFL_STAT.RING_ERR true)

/-! ### Routes in effect (R285, R286) -/

/-- The routing in effect and the one a swap in progress brings; a commit that lost TIME_VALID between its swap points
leaves both as they are until the next boundary (R284). Without a swap, both are what the registers show. -/
def routesOf (s : State) : Swap :=
  match s.flw.dropped, s.flw.commit with
  | some d, _ => d.swap
  | none, some { swap := some w, .. } => w
  | none, _ =>
    let r := routingActs s.cyc.fam (routingOf s)
    let p := planesOf r
    ⟨true, r, p, r, p⟩

/-- Source v is an output that the swap in progress takes from the CHAIN to the LOCAL plane: the capture cycles from the
commit instant on are skipped on it until the CHAIN swap point (R286). -/
def skips (w : Swap) (v : Nat) : Bool := srcPlane w.oldP v && !srcPlane w.newP v

/-- The LOCAL block of source v in this cycle. -/
def localBlock (w : Swap) (s : State) (v : Nat) : List W40 := if skips w v then zeroBlock s else srcBlock s v

/-- The block the consumer with destination register dest takes in this cycle. vOld and vNew are its sources before and
under the swap in progress; chOld and chNew whether it is in the CHAIN plane (R257, R285, R286): a LOCAL consumer takes
the new source, every other the old one; a LOCAL source reaches a CHAIN consumer through the ring. -/
def consume (dest : Nat) (w : Swap) (vOld : Nat) (chOld : Bool) (vNew : Nat) (chNew : Bool) (s : State) :
    List W40 × State :=
  if !chOld && !chNew then (localBlock w s vNew, s)
  else if chOld && !srcPlane w.oldP vOld && decide (0 < holdCycles s) && vOld != 0 then
    ringTake dest vOld (s.cyc.idx - 1 - holdCycles s) s
  else (srcBlock s vOld, s)

/-- Input i feeds a CHAIN bus under a routing. -/
def feedsChain (r : Routing) (p : Planes) (i : Nat) : Bool := r.xp.any fun k => k / 64 == i && p.bus.getD (k % 64) false

/-- The destination registers whose blocks need the ring under a routing, with the source of each, ascending by address
(R257, R259, R260). -/
def alignedDests (r : Routing) (p : Planes) : List (Nat × Nat) :=
  let need := fun (v : Nat) => v != 0 && !srcPlane p v
  (((idxs 0 256).filter fun i => need (r.ins.getD i 0) && feedsChain r p i).map fun i => (rCFL_IN i, r.ins.getD i 0)) ++
  (((idxs 0 128).filter fun j => need (sapSrc r j)).map fun j => (rCFL_SAPOUT j, sapSrc r j)) ++
  (((idxs 0 16).filter fun n => p.chm.getD n false).flatMap fun n =>
    ((cinsOf r n).filter fun j => need (cinSrc r j)).map fun j => (rCFL_CIN j, cinSrc r j))

/-- A SAP output slot's register: its block leaves the ring at the boundary at which it begins its emission, a cycle
after a CHAIN consumer of the same capture cycle (R259). -/
def isSapDest (a : Nat) : Bool := decide (rCFL_SAPOUT 0 ≤ a) && decide (a ≤ rCFL_SAPOUT 127)

/-- As a cycle ends, the LOCAL blocks it processed enter the ring for the destinations that the set of their capture
cycle aligns (R257, R259; notes/assumptions/100.md). -/
def ringFill (s : State) : State :=
  let h := holdCycles s
  let w := routesOf s
  if h = 0 then s
  else
    forEach (alignedDests w.new w.newP)
      (fun d t =>
        if skips w d.2 then t
        else ringEnter d.1 (if isSapDest d.1 then t.cyc.idx + 1 + h else t.cyc.idx + h) (srcBlock t d.2) t) s

/-! ### The mix pass (R261 to R268) -/

/-- The live writes and Flowstone's writes are taken at the start of a mix pass; Flowstone's wins (R268). -/
def takeGains (s : State) : State :=
  let lost := s.cfl.xpPend.any fun p => s.cfl.xpFlw.any (fun q => q.1 == p.1) || s.flw.xr.any (fun q => q.1 == p.1)
  let g := s.cfl.xpPend.foldl (fun g p =>
    if s.cfl.xpFlw.any (fun q => q.1 == p.1) || s.flw.xr.any (fun q => q.1 == p.1) then g
    else tset g 0 p.1 p.2) s.cfl.gains
  let g := s.cfl.xpFlw.foldl (fun g p => tset g 0 p.1 p.2) g
  let s := { s with cfl := { s.cfl with gains := g, xpPend := [], xpFlw := [] } }
  if lost then s.setRb rCFL_STAT CFL_STAT.XP_LOST true else s

/-- CFL_CHM_IN_n.PLANE and CFL_BUS_b.PLANE report the planes in effect (R256). -/
def showPlanes (p : Planes) (s : State) : State :=
  let s := forEach (idxs 0 16) (fun n t => t.setRb (rCFL_CHM_IN n) CFL_CHM_IN.PLANE (p.chm.getD n false)) s
  forEach (idxs 0 64) (fun b t => t.setRb (rCFL_BUS b) CFL_BUS.PLANE (p.bus.getD b false)) s

/-- How bus b takes its inputs: 0 as they stand, 1 aligned in the CHAIN plane, 2 as the old set routes them until
the CHAIN swap point (R257, R286). -/
def busClass (w : Swap) (b : Nat) : Nat :=
  if w.oldP.bus.getD b false then 1 else if w.newP.bus.getD b false then 2 else 0

/-- Input i of the pass is captured as each class of bus takes it: key 256 × class + i. -/
def mixInput (w : Swap) (i : Nat) (t : State) : State :=
  let vOld := w.old.ins.getD i 0
  let vNew := w.new.ins.getD i 0
  let a := consume (rCFL_IN i) w vOld (feedsChain w.old w.oldP i) vNew (feedsChain w.new w.newP i) t
  let t := a.2
  let put := fun (m : Tab (List W40)) (k : Nat) (v : Nat) (b : List W40) => tset m [] k (if v = 0 then [] else b)
  let m := put t.cfl.mixIn i vNew (localBlock w t vNew)
  let m := put m (256 + i) vOld (if feedsChain w.old w.oldP i then a.1 else [])
  let m := put m (512 + i) vOld (srcBlock t vOld)
  { t with cfl := { t.cfl with mixIn := m
                               mixMute := tset t.cfl.mixMute false i (t.rb (rCFL_IN i) CFL_IN.MUTE) } }

/-- The mix pass is released: gains and mutes are taken, and the inputs published before are captured (R44,
R257, R268). -/
def mixRelease (s : State) : State :=
  let s := takeGains s
  let w := routesOf s
  let s := showPlanes w.oldP s
  let s := { s with cfl := { s.cfl with mixIn := [], mixMute := [] } }
  forEach (idxs 0 (nInputs s)) (mixInput w) s

/-- The gain of crosspoint k at sample n of the pass (R287). -/
def gainAt (s : State) (k n : Nat) : Int :=
  match s.flw.xr.find? (fun p => p.1 == k) with
  | none => (tget s.cfl.gains 0 k).toInt
  | some (_, x) =>
    let i := min ((s.cyc.idx - x.start) * spc s + n + 1) x.m
    if x.m = 0 then x.g1.toInt else x.g0.toInt + (x.g1.toInt - x.g0.toInt) * i / x.m

/-- The scale after one more sample, and its value (R266). -/
def scaleStep (x : Scale) : Scale × Nat :=
  if x.pos < 256 then
    let i := x.pos + 1
    ({ x with pos := i }, ((x.a0 : Int) + ((x.a1 : Int) - x.a0) * i / 256).toNat)
  else (x, x.a1)

/-- The value a scale has reached. -/
def scaleNow (x : Scale) : Nat :=
  if x.pos < 256 then ((x.a0 : Int) + ((x.a1 : Int) - x.a0) * x.pos / 256).toNat else x.a1

/-- The greatest m of n bits, above those of acc, whose square is at most x. -/
def isqrtBits (x n acc : Nat) : Nat :=
  match n with
  | 0 => acc
  | n + 1 =>
    let c := acc + 2 ^ n
    isqrtBits x n (if c * c ≤ x then c else acc)

/-- The target scale of a law, rounded half-up to Q1.31 (R265). -/
def lawTarget (law n : Nat) : Nat :=
  if n = 0 then 2147483648
  else if law = 1 then (2 * 2147483648 + n) / (2 * n)
  else if law = 2 then (isqrtBits (2 ^ 64 / n) 33 0 + 1) / 2
  else 2147483648

/-- The crosspoints of bus b that carry a gain or a ramp. -/
def busKeys (s : State) (b : Nat) : List Nat :=
  let g := (s.cfl.gains.map fun p => p.1).filter fun k => k % 64 == b
  let x := (s.flw.xr.map fun p => p.1).filter fun k => k % 64 == b && !g.contains k
  g ++ x

/-- The samples of bus b before and after saturation: the sum of R261, scaled and rounded (R262). -/
def busSamples (s : State) (h : Bool) (cls : Nat) (keys : List Nat) (mutes : Nat → List Nat)
    (sc : Scale) (n left : Nat) : List (W40 × Nat) × Scale :=
  match left with
  | 0 => ([], sc)
  | left + 1 =>
    let st := scaleStep sc
    let sum : Int := (keys.map fun k =>
      let i := k / 64
      let x := (tget s.cfl.mixIn [] (256 * cls + i)).getD n 0
      gainAt s k n * (scaleJ ((mutes i).getD n 0) x).toInt).sum
    let v := fit 40 true (rnd h (sum * st.2) 59)
    let r := busSamples s h cls keys mutes st.1 (n + 1) left
    (v :: r.1, r.2)

/-- The gains j of the mute ramp of input i over this pass (R263). -/
def muteRamp (s : State) (i : Nat) : List Nat × Nat :=
  rampList (!(tget s.cfl.mixMute false i)) (tget s.cfl.muteJ 0 i) (spc s)

/-! ### The ramp on an output (R50, R286, R571) -/

/-- The capture cycle the unit works on is one that its change to the CHAIN plane repeats (R286). -/
def repeatsNow (key : Nat) (s : State) : Bool := decide (s.cyc.idx < tget s.cfl.gapEnd 0 key)

/-- The gains j of the samples of this cycle on the outputs of the unit of selector key, up or down from the current j,
and the state with the j after them (R571). -/
def outRamp (key : Nat) (up : Bool) (s : State) : List Nat × State :=
  let r := rampList up (32 - tget s.cfl.outJ 0 key) (spc s)
  (r.1, { s with cfl := { s.cfl with outJ := tset s.cfl.outJ 0 key (32 - r.2) } })

/-- The gains of an on-time run: up, or down to the zeros of repeated capture cycles (R50, R286). -/
def onTimeRamp (key : Nat) (s : State) : List Nat × State := outRamp key (!repeatsNow key s) s

/-- The gains of a missed cycle: the j it has or, where unit u misses again under MISS_MUTE, down (R50). -/
def missRamp (u key : Nat) (s : State) : List Nat × State :=
  if tget s.cyc.missed false u && s.rb rDTM_CYC_CTL DTM_CYC_CTL.MISS_MUTE then outRamp key false s
  else (List.replicate (spc s) (32 - tget s.cfl.outJ 0 key), s)

/-- Publishes a block under selector v with the gains js; its last sample before them is remembered (R50, R571). -/
def publish (js : List Nat) (v : Nat) (b : List W40) (s : State) : State :=
  { s with cfl := { s.cfl with blk := tset s.cfl.blk [] v (scaleBlock js b)
                               held := tset s.cfl.held 0 v (b.getLastD 0) } }

/-- The block of an output whose unit missed: the last sample held, with the gains js (R50). -/
def heldBlock (js : List Nat) (v : Nat) (s : State) : List W40 :=
  scaleBlock js (List.replicate (spc s) (tget s.cfl.held 0 v))

/-- The outputs sels of the unit u of selector key are held (R50). -/
def holdBlocks (u key : Nat) (sels : List Nat) (s : State) : State :=
  let r := missRamp u key s
  forEach sels (fun v t => { t with cfl := { t.cfl with blk := tset t.cfl.blk [] v (heldBlock r.1 v t) } }) r.2

/-- The inputs active on bus b in this pass, with the passes their conditions have held (R264). -/
def stepRuns (s : State) (keys : List Nat) : List (Nat × Nat) :=
  keys.map fun k =>
    let on := !(tget s.cfl.mixMute false (k / 64)) && (idxs 0 (spc s)).any (fun n => gainAt s k n != 0)
    (k, if on then min (tget s.cfl.runs 0 k + 1) 255 else 0)

/-- The debounce count, 0 acting as 1 (R264). -/
def debounce (s : State) : Nat := max 1 (s.rf rCFL_DEB CFL_DEB.CYCLES)

/-- One bus of the mix pass: N, the target and the scale, the block published, SAT (R261 to R266). -/
def mixBus (w : Swap) (b : Nat) (s : State) : State :=
  let keys := (busKeys s b).filter fun k => decide (k / 64 < nInputs s)
  let runs := stepRuns s keys
  let active := runs.filter fun p => decide (debounce s ≤ p.2)
  let n := active.length
  let sc := tget s.cfl.scale Scale.init b
  let tgt := lawTarget (s.rf (rCFL_BUS b) CFL_BUS.LAW) n
  let sc := if tgt = sc.a1 then sc else ⟨scaleNow sc, tgt, 0⟩
  let r := busSamples s (s.rb (rCFL_BUS b) CFL_BUS.RND) (busClass w b) keys
    (fun i => (muteRamp s i).1) sc 0 (spc s)
  let sats := (r.1.filter fun p => p.2 != 0).length
  let j := onTimeRamp (0x6000 + b) s
  let s := publish j.1 (0x6000 + b) (r.1.map fun p => p.1) j.2
  let old : Tab Nat := s.cfl.runs.filter fun (p : Nat × Nat) => p.1 % 64 != b || keys.contains p.1
  let s := { s with cfl := { s.cfl with
      runs := runs.foldl (fun (t : Tab Nat) (p : Nat × Nat) => tset t 0 p.1 p.2) old
      scale := tset s.cfl.scale Scale.init b r.2 } }
  let s := s.setRf (rCFL_BUS b) CFL_BUS.N n
  let s := s.setRf (rCFL_BUS b) CFL_BUS.SAT (min 255 (s.rf (rCFL_BUS b) CFL_BUS.SAT + sats))
  let s := s.setRf (rCFL_BUS_SCALE b) CFL_BUS_SCALE.SCALE (scaleNow r.2)
  forEach active (fun p t => t.setRb (rCFL_IN (p.1 / 64)) CFL_IN.ACTIVE true) s

/-- INUSE follows the pending commit and the ramps and morphs of each slot's commit (R274). -/
def showInUse (s : State) : State :=
  forEach (idxs 0 16)
    (fun k t =>
      let u := (match t.flw.commit with
        | some c => c.slot == k
        | none => false) || (match t.flw.dropped with
        | some d => d.slot == k
        | none => false) || t.flw.xr.any (fun p => p.2.slot == k) || t.flw.morphs.any (fun m => m.slot == k)
      if t.rb (rFLW_SLOT_STAT k) FLW_SLOT_STAT.INUSE = u then t
      else t.setRb (rFLW_SLOT_STAT k) FLW_SLOT_STAT.INUSE u) s

/-- Every ramping gain has the value of the last sample of this cycle; one that has reached its end value is at rest
(R274, R287). -/
def stepXr (s : State) : State :=
  if s.flw.xr.isEmpty then s
  else
    let n := spc s
    let g := s.flw.xr.foldl (fun g p => tset g 0 p.1 (BitVec.ofInt 32 (gainAt s p.1 (n - 1)))) s.cfl.gains
    let xr : Tab XpRamp := s.flw.xr.filter fun p => decide ((s.cyc.idx + 1 - p.2.start) * n < p.2.m)
    showInUse { s with cfl := { s.cfl with gains := g }, flw := { s.flw with xr := xr } }

/-- The mix pass completes on time: every bus of the family is published, and the mute ramps and gain ramps
move on (R262, R263, R264, R287). -/
def mixComplete (s : State) : State :=
  let s := forEach (idxs 0 256) (fun i t => t.setRb (rCFL_IN i) CFL_IN.ACTIVE false) s
  let w := routesOf s
  let s := forEach (idxs 0 (nBuses s)) (mixBus w) s
  let s := { s with cfl := { s.cfl with
      muteJ := (idxs 0 (nInputs s)).foldl (fun t i => tset t 0 i (muteRamp s i).2) s.cfl.muteJ } }
  stepXr s

/-- The mix pass misses: every bus is held, and the gain ramps move on (R50, R262, R287). -/
def mixMiss (s : State) : State :=
  stepXr (forEach (idxs 0 (nBuses s)) (fun b t => holdBlocks 32 (0x6000 + b) [0x6000 + b] t) s)

/-! ### The Chamber exchange (R253 to R255) -/

/-- The exchange writes one block as channel k of an area of cnt channels at base of CHMn's X memory (R253). -/
def exchangeWrite (n base cnt k i : Nat) (b : List W40) (c : Chamber) : Chamber :=
  match b with
  | [] => c
  | v :: r => exchangeWrite n base cnt k (i + 1) r (c.put 0 ((base + cnt * i + k) % 16384) v)

/-- As CHMn is released the exchange captures the block of each channel of its input area (R44, R254). -/
def exchangeTake (n : Nat) (s : State) : State :=
  let w := routesOf s
  let cnt := min 16 (s.rf (rCFL_CHM_IN n) CFL_CHM_IN.CNT)
  forEach (idxs 0 cnt)
    (fun k t =>
      let j := 16 * n + k
      let a := consume (rCFL_CIN j) w (cinSrc w.old j) (w.oldP.chm.getD n false) (cinSrc w.new j)
        (w.newP.chm.getD n false) t
      setChm n { chmOf a.2 n with taken := (chmOf a.2 n).taken ++ [a.1] } a.2)
    (setChm n { chmOf s n with taken := [] } s)

/-- The blocks bs as channels k onward of an area of cnt channels at base. -/
def exchangeFill (n base cnt k : Nat) (bs : List (List W40)) (c : Chamber) : Chamber :=
  match bs with
  | [] => c
  | b :: r => exchangeFill n base cnt (k + 1) r (exchangeWrite n base cnt k 0 b c)

/-- As CHMn starts the exchange writes its whole input area (R254); not into an X memory that is not powered. -/
def exchangePut (n : Nat) (s : State) : State :=
  let c := chmOf s n
  let base := s.rf (rCFL_CHM_IN n) CFL_CHM_IN.BASE
  let c := if s.domOn (5 * n + 2) then exchangeFill n base c.taken.length 0 c.taken c else c
  setChm n { c with taken := [] } s

/-- Channel k of an area of cnt channels at base of CHMn's X memory, n samples of it; the words are checked as
any read of the memory (R253, R204). -/
def exchangeRead (n base cnt k i left : Nat) (s : State) : List W40 × State :=
  match left with
  | 0 => ([], s)
  | left + 1 =>
    let f := xyFetch n 0 ((base + cnt * i + k) % 16384) (chmOf s n).pc s
    let r := exchangeRead n base cnt k (i + 1) left f.2
    (f.1.getD 0 :: r.1, r.2)

/-- CHMn completes on time: the exchange reads its output area and publishes it (R255). -/
def exchangeOut (n : Nat) (s : State) : State :=
  let base := s.rf (rCFL_CHM_OUT n) CFL_CHM_OUT.BASE
  let cnt := min 16 (s.rf (rCFL_CHM_OUT n) CFL_CHM_OUT.CNT)
  let r := onTimeRamp (0x5000 + 16 * n) s
  forEach (idxs 0 cnt)
    (fun k t =>
      let b := exchangeRead n base cnt k 0 (spc t) t
      publish r.1 (0x5000 + 16 * n + k) b.1 b.2) r.2

/-- CHMn misses: its outputs are held (R50, R255). -/
def exchangeMiss (n : Nat) (s : State) : State :=
  holdBlocks n (0x5000 + 16 * n) ((idxs 0 (min 16 (s.rf (rCFL_CHM_OUT n) CFL_CHM_OUT.CNT))).map fun k => 0x5000 + 16 * n + k) s

/-! ### The bridge pass (R269 to R271) -/

/-- Bridge k as it works in this cycle, and whether its source is in the CHAIN plane: under the new set once its
plane lets it swap, else under the old one (R285, R286). -/
def bridgeNow (w : Swap) (k : Nat) : BridgeRoute × Bool :=
  let o := w.old.brg.getD k ⟨0, 0, 0⟩
  let n := w.new.brg.getD k ⟨0, 0, 0⟩
  if !srcPlane w.oldP o.src && !srcPlane w.newP n.src then (n, false) else (o, srcPlane w.oldP o.src)

/-- The bridge pass is released: the most recent block or value of every bridge's source is captured. -/
def brgRelease (s : State) : State :=
  let w := routesOf s
  let m := (idxs 0 32).foldl
    (fun m k =>
      let b := (bridgeNow w k).1
      if b.kind = 0 then m
      else if b.kind = 1 then tset m [] k (srcBlock s b.src)
      else tset m [] k [(srcValue s b.src).setWidth 40]) []
  { s with cfl := { s.cfl with brgIn := m } }

/-- The L mapping of R269. -/
def lMap (v : W32) : W32 :=
  if v.toInt < 0 then 0 else BitVec.ofInt 32 (min 65535 (rndHalfUp v.toInt 15))

/-- The mean of control values, rounded half-up. -/
def meanC (l : List W32) : W32 :=
  let n : Int := l.length
  if l.isEmpty then 0 else BitVec.ofInt 32 ((2 * (l.map BitVec.toInt).sum + n) / (2 * n))

/-- N_L, the cycles of an L period, as in effect (R41, R337). -/
def nL (s : State) : Nat :=
  let n := if s.rb rGAL_CTL GAL_CTL.EN then s.rf rGAL_CYC_STAT GAL_CYC_STAT.N_L
           else s.rf rGAL_CYC_CTL GAL_CYC_CTL.N_L
  if n < 2 then 2 else if 80 < n then 80 else n

/-- The first cycle index at or after n at which an L-domain boundary falls. -/
def lBoundaryFrom (s : State) (n : Nat) : Nat := (n + nL s - 1) / nL s * nL s

/-- The boundary at which a bridge's value of capture cycle cap is due at destination dst: its presentation or, on a talk
route, the launch of the train that carries it (R27, R29, R259, R270). -/
def bridgeDue (s : State) (dst cap : Nat) : Nat :=
  match selType dst with
  | 9 => cap + pCycles s
  | 0xB => lBoundaryFrom s (cap + pCycles s)
  | _ => cap + 2

/-- A value of bridge k for destination dst, of capture cycle cap, waits until it is due. -/
def bridgePut (k dst cap : Nat) (v : W32) (s : State) : State :=
  if selType dst = 0 then s
  else { s with cfl := { s.cfl with outq := s.cfl.outq ++ [⟨k, dst, bridgeDue s dst cap, v⟩] } }

/-- Sample i of a linear interpolation from v0 to v1 over n samples, rounded half-up to S40 (R269). -/
def interpSample (v0 v1 : W32) (n i : Nat) : W40 :=
  let a := (cToS40 v0).toInt
  let d := (cToS40 v1).toInt - a
  BitVec.ofInt 40 ((2 * (a * n + d * (i + 1)) + n) / (2 * n))

/-- The sums of every n neighbours of a list. -/
def sumsOf (n : Nat) (l : List Int) : List Int := (List.range (l.length + 1 - n)).map fun i => ((l.drop i).take n).sum

/-- The third-order CIC decimator by n: the sum of three moving sums over the latest 3 n − 2 samples; its gain is n³
(R269). -/
def cicOf (n : Nat) (h : List W40) : Int := (sumsOf n (sumsOf n (sumsOf n (h.map BitVec.toInt)))).getLastD 0

/-- The compensating filter on what the decimator gave, the latest first, and the conversion to Q1.31: the taps are the
device's own, and beside them the weight of the latest makes the gain at DC 1 (R269; notes/assumptions/101.md). -/
def compensate (n : Nat) (l : List Int) : W32 :=
  let c := l.headD 0
  let f := c * 2 ^ 30 + ((List.range Config.firLen).map fun i => Config.firTap n i * (l.getD (i + 1) 0 - c)).sum
  let d : Int := 2 ^ 31 * (n : Int) ^ 3
  BitVec.ofInt 32 (clampS 32 ((2 * f + d) / (2 * d)))

/-- An audio block of bridge k, which becomes readable at the next boundary (R269). -/
def bridgeBlock (k : Nat) (l : List W40) (s : State) : State :=
  let j := onTimeRamp (0x7000 + k) s
  let s := j.2
  { s with cfl := { s.cfl with brgNext := tset s.cfl.brgNext [] (0x7000 + k) (scaleBlock j.1 l)
                               held := tset s.cfl.held 0 (0x7000 + k) (l.getLastD 0) } }

/-- One bridge of the pass: a lower bridge that names its destination takes it (R269, R271). -/
def bridgeOne (w : Swap) (k : Nat) (s : State) : State :=
  let b := (bridgeNow w k).1
  let taken := selType b.dst != 0 &&
    (idxs 0 k).any (fun j => (bridgeNow w j).1.kind != 0 && (bridgeNow w j).1.dst == b.dst)
  let st := tget s.cfl.brg Brg.init k
  let v : W32 := ((tget s.cfl.brgIn [] k).headD 0).setWidth 32
  let cap := if (bridgeNow w k).2 then s.cyc.idx + 1 + uCycles s - pCycles s else s.cyc.idx - 1
  let keep := fun (t : State) (x : Brg) => { t with cfl := { t.cfl with brg := tset t.cfl.brg Brg.init k x } }
  let put := fun (t : State) (c : Nat) (x : W32) => if taken then t else bridgePut k b.dst c x t
  let s := if b.kind ≠ 0 ∧ taken then s.setRb (rCFL_BRG_STAT k) CFL_BRG_STAT.COLL true else s
  let blkOut := fun (t : State) (l : List W40) => bridgeBlock k l t
  let lEnd := (cap + 1) % nL s == 0
  match b.kind with
  | 1 =>
    let h := st.hist ++ tget s.cfl.brgIn [] k
    let h := h.drop (h.length - (3 * spc s - 2))
    let c := (cicOf (spc s) h :: st.cic).take (Config.firLen + 1)
    keep (put s (cap + 4) (compensate (spc s) c)) { st with hist := h, cic := c }
  | 2 => keep (blkOut s (List.replicate (spc s) (cToS40 v))) { st with v1 := v }
  | 3 => keep (blkOut s ((List.range (spc s)).map (interpSample st.v1 v (spc s)))) { st with v1 := v }
  | 4 =>
    let acc := st.acc ++ [v]
    if lEnd then keep (put s (cap + 1) (lMap (meanC acc))) { st with acc := [] } else keep s { st with acc := acc }
  | 5 => if lEnd then put s (cap + 1) (lMap v) else s
  | 6 => put s (cap + 1) (v <<< 15)
  | 7 => put s cap v
  | 8 => put s cap v
  | _ => keep s Brg.init

/-- The bridge pass completes on time. -/
def brgComplete (s : State) : State := forEach (idxs 0 32) (bridgeOne (routesOf s)) s

/-- The bridge pass misses: the audio output of each bridge holds its last sample for the next cycle too, control and
light outputs keep their last value (R50, R270). -/
def brgMiss (s : State) : State :=
  let w := routesOf s
  forEach ((idxs 0 32).filter fun k => kindEndsA (bridgeNow w k).1.kind)
    (fun k t =>
      let j := missRamp 34 (0x7000 + k) t
      let t := j.2
      { t with cfl := { t.cfl with brgNext := tset t.cfl.brgNext [] (0x7000 + k) (heldBlock j.1 (0x7000 + k) t) } }) s

/-! ### The boundary -/

/-- The node holds its light outputs and setpoints: a member without valid time (R36). -/
def valuesHeld (s : State) : Bool := isMember s && !s.timeValid

/-- A bridge's value reaches its destination: a store word, or the channel it is talked on. -/
def presentOne (e : BrgOut) (s : State) : State :=
  let mark := fun (t : State) => { t with cfl := { t.cfl with bridged := e.dst :: t.cfl.bridged } }
  match selType e.dst with
  | 9 => if valuesHeld s then s else mark (s.setRf (rCFL_CS (selIdx e.dst)) CFL_CS.VALUE e.value.toNat)
  | 0xB => if valuesHeld s then s else mark (s.setRf (rCFL_LS (selIdx e.dst)) CFL_LS.VALUE (e.value.toNat % 65536))
  | _ => { s with cfl := { s.cfl with talk := tset s.cfl.talk 0 e.dst e.value } }

/-- Bridge values that are due at this boundary reach their store words and talk routes; a member without valid time
holds its setpoints and light values (R36, R259, R292). -/
def presentValues (s : State) : State :=
  let n := s.cyc.idx
  let due := s.cfl.outq.filter fun e => decide (e.due ≤ n)
  forEach due presentOne
    { s with cfl := { s.cfl with outq := s.cfl.outq.filter fun e => decide (n < e.due), bridged := [] } }

/-- The block that SAP output slot j begins to emit in this cycle: of a CHAIN source the latest block, of a LOCAL one
the block of the same capture cycle, from the ring (R257, R259). A slot whose source is NONE from some capture cycle on
still emits what entered the ring before it (R31). -/
def outputBlock (w : Swap) (j : Nat) (s : State) : List W40 × State :=
  let v := sapSrc w.old j
  let h := holdCycles s
  if srcPlane w.oldP v || h = 0 then (if v = 0 then [] else srcBlock s v, s)
  else ringTake (rCFL_SAPOUT j) v (s.cyc.idx - 2 - h) s

/-- The SAP output slots take the blocks that begin their emission in this cycle (R259). -/
def takeOutputs (s : State) : State :=
  let w := routesOf s
  let s := { s with cfl := { s.cfl with outPrev := s.cfl.outCur } }
  forEach (idxs 0 128)
    (fun j t =>
      let a := outputBlock w j t
      { a.2 with cfl := { a.2.cfl with outCur := tset a.2.cfl.outCur [] j (if a.1.all (· == 0) then [] else a.1) } }) s

/-- The blocks bridges made in the cycle before become readable, and a bridge that made none reads zero (R251, R269);
ring places no consumer took are free again. -/
def brgPublish (s : State) : State :=
  let s := { s with cfl := { s.cfl with blk := tclear s.cfl.blk 0x7000 0x7FFF } }
  let s := forEach s.cfl.brgNext (fun p t => { t with cfl := { t.cfl with blk := tset t.cfl.blk [] p.1 p.2 } }) s
  { s with cfl := { s.cfl with brgNext := [], ring := s.cfl.ring.filter fun e => decide (s.cyc.idx ≤ e.due) } }

/-! ### Writes by firmware -/

/-- A write of CFL_XP_DATA: the gain waits for the next mix pass (R268). -/
def xpWrite (v : W32) (s : State) : State :=
  let k := xpKey (s.rf rCFL_XP_ADDR CFL_XP_ADDR.INPUT) (s.rf rCFL_XP_ADDR CFL_XP_ADDR.BUS)
  { s with cfl := { s.cfl with xpPend := tins (tdel s.cfl.xpPend k) k v } }

/-- A read of CFL_XP_DATA: the gain used in the last pass (R268). -/
def xpRead (s : State) : W64 :=
  let k := xpKey (s.rf rCFL_XP_ADDR CFL_XP_ADDR.INPUT) (s.rf rCFL_XP_ADDR CFL_XP_ADDR.BUS)
  (tget s.cfl.gains 0 k).setWidth 64

/-- A write of CFL_IN_i.MUTE (R263). -/
def muteWrite (i : Nat) (m : Bool) (s : State) : State := s.setRb (rCFL_IN i) CFL_IN.MUTE m

end Sys2Proof.Machine
end

