-- ==== Sys2Proof/Machine/Flowstone.lean ====
section
/-! DEFINITION. Flowstone: the set and its check, slots, commits, arming, swap points, ramps and morphs, the
Flowstone pass (R274 to R292). -/

namespace Sys2Proof.Machine

open Sys2Proof

/-! ### The set (R275 to R278) -/

/-- Word i of a set. -/
def setWord (ws : List W40) (i : Nat) : W40 := ws.getD i 0

/-- Bits lo to lo + n − 1 of word i of a set. -/
def setBits (ws : List W40) (i lo n : Nat) : Nat := bits40 (setWord ws i) lo n

/-- LEN of a set. -/
def setLen (ws : List W40) : Nat := setBits ws 1 0 14

/-- The bits that word i of the fixed part may set (R275). -/
def setMask (i : Nat) : W40 :=
  if i = 0 then 0xFFFFFFFF else if i = 1 then 0x3FFF else if i = 2 then 0xFFFFFFFF else if i = 3 then 0xF
  else if i = 4 then 0xFFFF else if i = 5 then 0x1FFF else if i < 8 then 0 else if i < 280 then 0xFFFF
  else if i < 344 then 0xF01FF0013 else if i < 376 then 0x1F3FFF else if i < 408 then 0xFFFFFFFFF
  else if i < 792 then 0xFFFF else if i < 1304 then 0x8000FFFF else if i < 1440 then 0xFFFFFFFF
  else if i < 1456 then 0xFF1FFF else if i < 1463 then 0xFFFF else 0xFFFFFFFF

/-- NXP of bus b. -/
def setNxp (ws : List W40) (b : Nat) : Nat := setBits ws (280 + b) 16 9

/-- The crosspoint entries of buses b on, n of them, whose list starts at word w: (input, bus, gain). -/
def setXp (ws : List W40) (b n w : Nat) : List (Nat × (Nat × W32)) :=
  match n with
  | 0 => []
  | n + 1 =>
    let k := setNxp ws b
    (idxs w k).map (fun i => (setBits ws i 32 8, (b, (setWord ws i).setWidth 32))) ++ setXp ws (b + 1) n (w + k)

/-- The total of the crosspoint entries. -/
def setXpCount (ws : List W40) : Nat := ((idxs 0 64).map (setNxp ws)).sum

/-- A record of a set: header fields and the word of its first data word (R276). -/
structure Rec where
  kind : Nat
  mode : Nat
  cls : Nat
  chm : Nat
  count : Nat
  first : Nat
  data : Nat
  deriving DecidableEq, Repr

/-- The record whose header is at word w. -/
def setRec (ws : List W40) (w : Nat) : Rec :=
  { kind := setBits ws w 0 4, mode := setBits ws w 4 2, cls := setBits ws w 6 4, chm := setBits ws w 10 4
    count := setBits ws w 14 12 + 1, first := setBits ws w 26 14, data := w + 1 }

/-- The n records from word w on, and the word after the last. -/
def setRecs (ws : List W40) (n w : Nat) : List Rec × Nat :=
  match n with
  | 0 => ([], w)
  | n + 1 =>
    let r := setRec ws w
    let q := setRecs ws n (w + 1 + r.count)
    (r :: q.1, q.2)

/-- The records of a set, and the word after the last. -/
def recsOf (ws : List W40) : List Rec × Nat := setRecs ws (setBits ws 5 0 13) (1488 + setXpCount ws)

/-- The length in samples of ramp class c. -/
def setRamp (ws : List W40) (c : Nat) : Nat := setBits ws (8 + c) 0 16

/-- A list of inputs is strictly ascending. -/
def ascending : List Nat → Bool
  | a :: b :: r => decide (a < b) && ascending (b :: r)
  | _ => true

/-- The checks of a record: kind, mode, range, length of a MORPH class, bits that must be zero (R276, R278). -/
def recOk (ws : List W40) (r : Rec) : Bool :=
  let chamber := r.kind == 1 || r.kind == 2
  let store := r.kind == 3 || r.kind == 4
  let size := if r.kind ≤ 2 then 16384 else if r.kind = 3 then 256 else 4096
  let width := if r.kind ≤ 2 then 40 else if r.kind = 3 then 32 else 16
  (chamber || store) && (r.mode == 0 || (r.mode == 1 && store) || (r.mode == 2 && chamber)) &&
    decide (r.first + r.count ≤ size) && (chamber || r.chm == 0) &&
    (r.mode != 2 || (decide (64 ≤ setRamp ws r.cls) && decide (setRamp ws r.cls ≤ 4096))) &&
    (idxs r.data r.count).all fun i => decide ((setWord ws i).toNat < 2 ^ width)

/-- Check 0x2: zero bits, the crosspoint list, the records, the parts filling LEN (R278). -/
def setLayoutOk (nIn nBus : Nat) (ws : List W40) : Bool :=
  let recs := recsOf ws
  let xp := setXp ws 0 64 1488
  decide (bits40 (setWord ws 0) 32 8 = 0) &&
  (idxs 0 1488).all (fun i => setWord ws i &&& ~~~ setMask i == 0) &&
  decide (setXpCount ws ≤ 8192) &&
  (idxs 0 64).all (fun b => decide (setNxp ws b ≤ 256) && (decide (b < nBus) || setNxp ws b == 0) &&
    ascending ((xp.filter fun e => e.2.1 == b).map fun e => e.1)) &&
  xp.all (fun e => decide (e.1 < nIn)) &&
  recs.1.all (recOk ws) &&
  decide (((recs.1.filter fun r => r.mode != 0).map fun r => r.count).sum ≤ 4096) &&
  decide (recs.2 + 1 = setLen ws) && decide (bits40 (setWord ws (setLen ws - 1)) 32 8 = 0)

/-- The bytes over which the check word is formed: each word as 5 bytes, bits [7:0] first (R277). -/
def setBytes (ws : List W40) : List Byte := ws.flatMap fun w => bytesOf 5 (w.setWidth 64)

/-- The check word holds the CRC-32 of words 0 to LEN − 2 (R277). -/
def setCrcOk (ws : List W40) : Bool :=
  let n := setLen ws
  (setWord ws (n - 1)).setWidth 32 == crc32 (setBytes (ws.take (n - 1)))

/-- n words from Cavern word w, read as Flowstone (identifier 48); none where one could not be read. -/
def flwRead (w n : Nat) (s : State) : Option (List W40) × State :=
  match n with
  | 0 => (some [], s)
  | n + 1 =>
    let x := matrixRead 48 w s
    let y := flwRead (w + 1) n x.2
    (match x.1, y.1 with | some v, some l => some (v :: l) | _, _ => none, y.2)

/-- The FAIL code the check of slot k finds, 0 where the set passes (R278). -/
def setCheck (k : Nat) (s : State) : Nat × State :=
  let base := s.rf (rFLW_SLOT_BASE k) FLW_SLOT_BASE.WORD
  if logBase < base + 2 then (5, s)
  else
    let h := flwRead base 2 s
    match h.1 with
    | none => (4, h.2)
    | some hd =>
      let n := setLen hd
      if logBase < base + max n 2 then (5, h.2)
      else
        let r := flwRead base n h.2
        match r.1 with
        | none => (4, r.2)
        | some ws =>
          let f :=
            if (setWord ws 0).setWidth 32 ≠ 0x464C5354#32 ∨ n < 1489 ∨ 10240 < n ∨ setBits ws 3 0 2 ≠ s.cyc.fam then 1
            else if !setLayoutOk (nInputs s) (nBuses s) ws then 2
            else if !setCrcOk ws then 3 else 0
          (f, r.2)

/-! ### Slots (R274, R278 to R280) -/

/-- The state of slot k. -/
def slotState (s : State) (k : Nat) : Nat := s.rf (rFLW_SLOT_STAT k) FLW_SLOT_STAT.STATE

/-- Slot k takes a state and a FAIL code. -/
def setSlot (k st fail : Nat) (s : State) : State :=
  (s.setRf (rFLW_SLOT_STAT k) FLW_SLOT_STAT.STATE st).setRf (rFLW_SLOT_STAT k) FLW_SLOT_STAT.FAIL fail

/-- Slot k is in use. -/
def slotInUse (s : State) (k : Nat) : Bool := s.rb (rFLW_SLOT_STAT k) FLW_SLOT_STAT.INUSE

/-- A command was ignored. -/
def cmdErr (s : State) : State := s.setRb rFLW_STAT FLW_STAT.CMD_ERR true

/-- STAGE of slot k: its check is queued (R274, R278, R280). -/
def stage (k : Nat) (s : State) : State :=
  if slotInUse s k then cmdErr s
  else
    let s := setSlot k 1 0 s
    if s.flw.queue.contains k then s else { s with flw := { s.flw with queue := s.flw.queue ++ [k] } }

/-- Slot k becomes EMPTY; a check that waits or runs for it ends. -/
def emptySlot (k : Nat) (s : State) : State :=
  setSlot k 0 0 { s with flw := { s.flw with queue := s.flw.queue.filter fun j => j != k } }

/-- DISCARD of slot k (R274). -/
def discard (k : Nat) (s : State) : State := if slotInUse s k then cmdErr s else emptySlot k s

/-- A write of FLW_SLOT_BASE_k: ignored while the slot is in use, else the slot becomes EMPTY (R274). -/
def slotBaseWrite (k : Nat) (w : Nat) (s : State) : State :=
  if slotInUse s k then cmdErr s
  else emptySlot k (s.setRf (rFLW_SLOT_BASE k) FLW_SLOT_BASE.WORD w)

/-- A ramp or morph runs. -/
def rampsRun (s : State) : Bool := !s.flw.xr.isEmpty || !s.flw.morphs.isEmpty

/-- A write of FLW_MORPH_BASE: ignored while a commit is pending or a ramp or morph runs. -/
def morphBaseWrite (w : Nat) (s : State) : State :=
  if s.rb rFLW_STAT FLW_STAT.PENDING || rampsRun s then cmdErr s else s.setRf rFLW_MORPH_BASE FLW_MORPH_BASE.WORD w

/-- The check at the head of the queue ends: STAGED, or FAILED with its code and source (R278); arming is
served first (R280). -/
def checkDone (s : State) : State :=
  if s.rb rFLW_STAT FLW_STAT.ARMING then s
  else
    match s.flw.queue with
    | [] => s
    | k :: r =>
      let c := setCheck k { s with flw := { s.flw with queue := r } }
      if c.1 = 0 then setSlot k 2 0 c.2
      else
        let s := setSlot k 3 c.1 c.2
        if c.1 = 3 ∨ c.1 = 4 then raise srcSetCheck s else raise srcSetLayout s

/-! ### Commits (R281 to R284) -/

/-- The numerator and denominator of n cycles in units of 2⁻²⁸ ns of the timebase: n × T (R41, R352). -/
def cyclesTb (s : State) (n : Nat) : Nat × Nat :=
  if s.cyc.fam < 2 then (n * 125000 * 2 ^ 28, 1) else (n * 1000000000 * 2 ^ 28, 7350)

/-- The reason code of a commit of slot k at cycle c that arrives now, the lowest that applies (R33, R281). -/
def commitReason (k c : Nat) (s : State) : Nat :=
  let lim := cyclesTb s (c - 2)
  if c < 2 ∨ lim.1 < s.dtm.tb * lim.2 then 1
  else if !s.timeValid then 2
  else if slotState s k = 3 ∧ (s.rf (rFLW_SLOT_STAT k) FLW_SLOT_STAT.FAIL = 3 ∨
      s.rf (rFLW_SLOT_STAT k) FLW_SLOT_STAT.FAIL = 4) then 3
  else if slotState s k ≠ 2 then 4
  else if s.flw.commit.isSome then 5 else 0

/-- A commit of slot k at cycle c arrives: the decision is recorded; accepted, it is pending and waits for
arming (R281, R282). -/
def commitArrives (k c : Nat) (s : State) : State :=
  let r := commitReason k c s
  let v := fput FLW_LAST.VALID 0 1
  let s := s.setReg rFLW_LAST (fput FLW_LAST.REASON (fput FLW_LAST.SLOT (fput FLW_LAST.C v c) k) r)
  if r = 5 then s.bumpSat rFLW_BUSY_CNT FLW_BUSY_CNT.CNT
  else if r ≠ 0 then s
  else
    let s := { s with rst := { s.rst with joined := true, lit := true } }
    showInUse ({ s with flw := { s.flw with
      commit := some { slot := k, c := c, arm := .waiting, shadow := [], swap := none } } }.setRb
        rFLW_STAT FLW_STAT.PENDING true)

/-- The pending commit ends. -/
def commitEnd (s : State) : State :=
  showInUse (({ s with flw := { s.flw with commit := none, undo := none } }.setRb rFLW_STAT FLW_STAT.PENDING false).setRb
    rFLW_STAT FLW_STAT.ARMING false)

/-- TIME_VALID has cleared: a pending commit is not carried out. Between its swap points, what the LOCAL one changed is
put back at the next boundary (R284; notes/assumptions/43.md). -/
def commitDropTime (s : State) : State :=
  match s.flw.commit with
  | none => s
  | some c =>
    let s := match c.swap, s.flw.undo with
      | some w, some u => { s with flw := { s.flw with dropped := some ⟨w, c.slot, u⟩ } }
      | _, _ => s
    (commitEnd s).setRb rFLW_STAT FLW_STAT.TIME_DROP true

/-- Arming starts (R282). -/
def armStart (s : State) : State :=
  match s.flw.commit with
  | some c =>
    if c.arm = .waiting then
      { s with flw := { s.flw with commit := some { c with arm := .busy } } }.setRb rFLW_STAT FLW_STAT.ARMING true
    else s
  | none => s

/-- Arming ends: the set is read again, its CRC checked again, and the shadow copies loaded; a mismatch, an
uncorrectable word or a LEN out of range is remembered for the boundary of cycle C + 1 (R278, R282, R283). -/
def armDone (s : State) : State :=
  match s.flw.commit with
  | some c =>
    if c.arm = .busy then
      let base := s.rf (rFLW_SLOT_BASE c.slot) FLW_SLOT_BASE.WORD
      let h := flwRead base 2 s
      let n := match h.1 with
        | some hd => setLen hd
        | none => 2
      let r := flwRead base n h.2
      let s := r.2.setRb rFLW_STAT FLW_STAT.ARMING false
      match r.1 with
      | some ws =>
        if decide (1489 ≤ n) && decide (n ≤ 10240) && setCrcOk ws then { s with flw := { s.flw with commit := some { c with arm := .done, shadow := ws } } }
        else { s with flw := { s.flw with commit := some { c with arm := .mismatch } } }
      | none => { s with flw := { s.flw with commit := some { c with arm := .mismatch } } }
    else s
  | none => s

/-! ### Swap points (R285 to R289) -/

/-- The routing a set carries. -/
def setRouting (ws : List W40) : Routing :=
  { ins := (idxs 0 256).map fun i => setBits ws (24 + i) 0 16
    cin := (idxs 0 256).map fun j => setBits ws (536 + j) 0 16
    cnt := (idxs 0 16).map fun n => setBits ws (344 + 2 * n) 16 5
    sap := (idxs 0 128).map fun j => setBits ws (408 + j) 0 16
    talk := (idxs 0 512).map fun c => setBits ws (792 + c) 0 16
    brg := (idxs 0 32).map fun k => ⟨setBits ws (376 + k) 32 4, setBits ws (376 + k) 0 16, setBits ws (376 + k) 16 16⟩
    xp := ((setXp ws 0 64 1488).filter fun e => e.2.2 != 0).map fun e => xpKey e.1 e.2.1 }

/-- The gains of bus b begin to move to those of the set (R285, R287, R289). -/
def swapGains (ws : List W40) (slot b : Nat) (s : State) : State :=
  let m := setRamp ws (setBits ws (280 + b) 32 4)
  let new : Tab W32 := ((setXp ws 0 64 1488).filter fun e => e.2.1 == b).foldl
    (fun t e => tset t 0 (xpKey e.1 b) e.2.2) []
  let old := s.cfl.gains.filter fun p => p.1 % 64 == b
  let xr := s.flw.xr.filter fun p => p.1 % 64 != b
  let keys := (new.map fun p => p.1) ++ (old.map fun p => p.1).filter fun k => !(new.any fun p => p.1 == k)
  let moves := keys.filter fun k => tget old 0 k != tget new 0 k
  if m = 0 then
    { s with flw := { s.flw with xr := xr }
             cfl := { s.cfl with xpFlw := moves.foldl (fun t k => tins (tdel t k) k (tget new 0 k)) s.cfl.xpFlw } }
  else
    { s with flw := { s.flw with
        xr := moves.foldl (fun t k => tins t k ⟨tget old 0 k, tget new 0 k, m, s.cyc.idx, slot⟩) xr } }

/-- The bus word of bus b takes effect. -/
def swapBus (ws : List W40) (slot b : Nat) (s : State) : State :=
  let s := s.setRf (rCFL_BUS b) CFL_BUS.LAW (setBits ws (280 + b) 0 2)
  let s := s.setRf (rCFL_BUS b) CFL_BUS.RND (setBits ws (280 + b) 4 1)
  swapGains ws slot b s

/-- The value a store or Chamber word holds now; none where it cannot be read. -/
def morphNow (m : Morph) (s : State) : Option W40 × State :=
  if m.kind = 1 then (if s.domOn (5 * m.chm + 2) then xyFetch m.chm 0 m.addr 0 s else (none, s))
  else if m.kind = 2 then (if s.domOn (5 * m.chm + 3) then xyFetch m.chm 1 m.addr 0 s else (none, s))
  else if m.kind = 3 then (some ((s.reg (rCFL_CS m.addr)).setWidth 40), s)
  else (some ((s.reg (rCFL_LS m.addr)).setWidth 40), s)

/-- Word i of the morph area keeps the start value of a word (R288). -/
def morphStart (m : Morph) (s : State) : State :=
  let v := morphNow m s
  let x := match v.1 with
    | some x => (x, v.2)
    | none => (v.2.freeVal 40, v.2.tick1)
  (matrixWrite 48 (x.2.flw.morphBase + m.idx) x.1 x.2).2

/-- Two entries are for one word. -/
def Morph.same (a b : Morph) : Bool := a.kind == b.kind && a.chm == b.chm && a.addr == b.addr

/-- The words of a record as morph entries. -/
def recMorphs (ws : List W40) (slot : Nat) (r : Rec) : List Morph :=
  (idxs 0 r.count).map fun k =>
    { kind := r.kind, chm := r.chm, addr := r.first + k, v1 := setWord ws (r.data + k)
      m := if r.mode = 0 then 0 else setRamp ws r.cls, pos := 0, idx := 0, slot := slot }

/-- The words of all records, a later record's value replacing an earlier one's (R276). -/
def setMorphs (ws : List W40) (slot : Nat) (rs : List Rec) : List Morph :=
  match rs with
  | [] => []
  | r :: q =>
    let later := setMorphs ws slot q
    (recMorphs ws slot r).filter (fun m => !(later.any m.same)) ++ later

/-- Which word of the morph area keeps the start value of each running word: a free value among the words that keep
none, the list free; where all 4,096 are taken, any (R288; notes/assumptions/102.md). -/
def placeMorphs (free : List Nat) (ms : List Morph) (s : State) : List Morph × State :=
  match ms with
  | [] => ([], s)
  | m :: r =>
    if m.m = 0 then
      let x := placeMorphs free r s
      (m :: x.1, x.2)
    else
      let i := (s.freeVal 32).toNat
      let k := if free.isEmpty then i % 4096 else free.getD (i % free.length) 0
      let x := placeMorphs (free.filter fun w => w != k) r s.tick1
      ({ m with idx := k } :: x.1, x.2)

/-- A store or Chamber word is written by Flowstone; not into an unpowered Chamber memory. -/
def morphWrite (m : Morph) (v : W40) (s : State) : State :=
  if m.kind = 1 then (if s.domOn (5 * m.chm + 2) then setChm m.chm ((chmOf s m.chm).put 0 m.addr v) s else s)
  else if m.kind = 2 then (if s.domOn (5 * m.chm + 3) then setChm m.chm ((chmOf s m.chm).put 1 m.addr v) s else s)
  else if m.kind = 3 then s.setRf (rCFL_CS m.addr) CFL_CS.VALUE (v.toNat % 2 ^ 32)
  else s.setRf (rCFL_LS m.addr) CFL_LS.VALUE (v.toNat % 65536)

/-- The records that swap now (those sel names) begin: words of an earlier commit they do not name take their
end value at once (R288, R289). -/
def swapRecords (ws : List W40) (slot : Nat) (sel : Morph → Bool) (s : State) : State :=
  let named := (setMorphs ws slot (recsOf ws).1).filter sel
  let stay := s.flw.morphs.filter fun m => !sel m
  let cut := s.flw.morphs.filter fun m => sel m && !(named.any m.same)
  let s := forEach cut (fun m t => morphWrite m m.v1 t) s
  let s := if cut.isEmpty then s else s.setRb rFLW_STAT FLW_STAT.MORPH_CUT true
  let free := (List.range 4096).filter fun k => !(stay.any fun m => m.m != 0 && m.idx == k)
  let p := placeMorphs free named s
  let s := forEach (p.1.filter fun m => m.m != 0) morphStart p.2
  { s with flw := { s.flw with morphs := stay ++ p.1 } }

/-- Chamber n's elements take effect: areas, input selectors, start, program swap (R240, R285). -/
def swapChamber (ws : List W40) (n : Nat) (s : State) : State :=
  let s := s.setRf (rCFL_CHM_IN n) CFL_CHM_IN.BASE (setBits ws (344 + 2 * n) 0 14)
  let s := s.setRf (rCFL_CHM_IN n) CFL_CHM_IN.CNT (setBits ws (344 + 2 * n) 16 5)
  let s := s.setRf (rCFL_CHM_OUT n) CFL_CHM_OUT.BASE (setBits ws (345 + 2 * n) 0 14)
  let s := s.setRf (rCFL_CHM_OUT n) CFL_CHM_OUT.CNT (setBits ws (345 + 2 * n) 16 5)
  let s := forEach (idxs (16 * n) 16) (fun j t => t.setRf (rCFL_CIN j) CFL_CIN.SRC (setBits ws (536 + j) 0 16)) s
  let s := s.setRf (rCHM_ENTRY n) CHM_ENTRY.BUNDLE (setBits ws (1440 + n) 0 13)
  let s := s.setRf (rCHM_RND_DEF n) CHM_RND_DEF.RND (setBits ws (1440 + n) 16 8)
  if (setWord ws 4).getLsbD n then setChm n { chmOf s n with swapPend := true } s else s

/-- The records of Chamber n. -/
def chmRecords (n : Nat) (m : Morph) : Bool := decide (m.kind ≤ 2) && m.chm == n

/-- Bridge k's word takes effect. -/
def swapBridge (ws : List W40) (k : Nat) (s : State) : State :=
  let s := s.setRf (rCFL_BRG_CFG k) CFL_BRG_CFG.KIND (setBits ws (376 + k) 32 4)
  let s := s.setRf (rCFL_BRG_SEL k) CFL_BRG_SEL.SRC (setBits ws (376 + k) 0 16)
  s.setRf (rCFL_BRG_SEL k) CFL_BRG_SEL.DST (setBits ws (376 + k) 16 16)

/-- Whether an element is LOCAL under both sets, so that it takes effect at the LOCAL swap point; what each
kind of consumer's plane is (R256, R285, R286). -/
structure SwapNow where
  bus : Nat → Bool
  chm : Nat → Bool
  brg : Nat → Bool
  sap : Nat → Bool

/-- What takes effect at the LOCAL swap point (late = false) or at the CHAIN one (late = true). -/
def swapNow (w : Swap) (late : Bool) : SwapNow :=
  let pick := fun (o n : Bool) => if late then o || n else !o && !n
  let ps := fun (p : Planes) (r : Routing) (j : Nat) => srcPlane p (sapSrc r j)
  { bus := fun b => pick (w.oldP.bus.getD b false) (w.newP.bus.getD b false)
    chm := fun n => pick (w.oldP.chm.getD n false) (w.newP.chm.getD n false)
    brg := fun k => pick (w.oldP.brg.getD k false) (w.newP.brg.getD k false)
    sap := fun j => pick (ps w.oldP w.old j) (ps w.newP w.new j) }

/-- The elements k of a set and the input selectors ins take effect. -/
def swapElements (ws : List W40) (slot : Nat) (k : SwapNow) (ins : Nat → Bool) (s : State) : State :=
  let s := forEach ((idxs 0 256).filter ins) (fun i t => t.setRf (rCFL_IN i) CFL_IN.SRC (setBits ws (24 + i) 0 16)) s
  let s := forEach ((idxs 0 64).filter k.bus) (swapBus ws slot) s
  let s := forEach ((idxs 0 16).filter k.chm) (swapChamber ws) s
  let s := forEach ((idxs 0 32).filter k.brg) (swapBridge ws) s
  forEach ((idxs 0 128).filter k.sap)
    (fun j t => t.setRf (rCFL_SAPOUT j) CFL_SAPOUT.SRC (setBits ws (408 + j) 0 16)) s

/-- The input selectors that change at the LOCAL swap point: those of inputs that feed a bus which swaps there, or no
bus that does not. The selector of an input that feeds buses of both swap points shows its first (R285). -/
def localInput (w : Swap) (i : Nat) : Bool :=
  let k := swapNow w false
  let feeds := fun (late : Bool) => w.new.xp.any fun x => x / 64 == i && (k.bus (x % 64) != late)
  !feeds true || feeds false

/-- The elements of a set that take effect at one swap point, with the records of the Chambers among them (R285). -/
def swapAt (ws : List W40) (slot : Nat) (w : Swap) (late : Bool) (s : State) : State :=
  let k := swapNow w late
  let s := swapElements ws slot k (fun i => late || localInput w i) s
  forEach ((idxs 0 16).filter k.chm) (fun n t => swapRecords ws slot (chmRecords n) t) s

/-- A bus, Chamber, bridge or SAP slot changes its plane. -/
def planeChanges (w : Swap) : Bool :=
  w.oldP.bus != w.newP.bus || w.oldP.chm != w.newP.chm || w.oldP.brg != w.newP.brg ||
    (idxs 0 128).any fun j =>
      srcPlane w.oldP (sapSrc w.old j) != srcPlane w.newP (sapSrc w.new j)

/-- An element of the set is CHAIN, or changes its plane: the commit is pending until the CHAIN swap point. -/
def hasChain (w : Swap) : Bool :=
  planeChanges w || w.newP.bus.any id || w.newP.chm.any id || w.newP.brg.any id ||
    (idxs 0 128).any fun j => srcPlane w.newP (sapSrc w.new j)

/-- The channels that the grant bits from word w0 on name, of n channels. -/
def setGrants (ws : List W40) (w0 n : Nat) : List Nat :=
  (idxs 0 n).filter fun c => (setWord ws (w0 + c / 32)).getLsbD (c % 32)

/-- The talk routes and the control and light grants take effect (R285). -/
def swapTalk (ws : List W40) (s : State) : State :=
  let s := forEach (idxs 0 512)
    (fun c t => (t.setRf (rCFL_TALK c) CFL_TALK.SRC (setBits ws (792 + c) 0 16)).setRf
      (rCFL_TALK c) CFL_TALK.GRANT (setBits ws (792 + c) 31 1)) s
  { s with gal := { s.gal with grantC := setGrants ws 1304 256, grantL := setGrants ws 1312 4096 } }

/-- The selectors of a set are checked when it takes effect: a set with a bad one is reported once (R250); the
ring's need is checked, and the channels beyond it are named (R260). -/
def swapChecks (ws : List W40) (w : Swap) (s : State) : State :=
  let s := if routingBad s.cyc.fam (setRouting ws) then raise srcCflRoute (s.setRb rCFL_STAT CFL_STAT.SEL_ERR true) else s
  let s := { s with cfl := { s.cfl with ringBase := s.rf rCFL_RING_BASE CFL_RING_BASE.WORD
                                        ringLen := s.rf rCFL_RING_LEN CFL_RING_LEN.WORD } }
  let ds := alignedDests w.new w.newP
  let fits := if holdCycles s = 0 then ds.length else s.cfl.ringLen / spc s / holdCycles s
  let s := { s with cfl := { s.cfl with unserved := (ds.drop fits).map fun d => d.1 } }
  if fits < ds.length then raise srcCflRoute (s.setRb rCFL_STAT CFL_STAT.RING_SHORT true) else s

/-- A unit changes its plane at this boundary, to the CHAIN plane where chain; sels are its outputs, the first of them the
selector of the unit. In the CHAIN plane it repeats capture cycles for as many cycles as the planes lie apart, and gives
zeros for them; in the LOCAL plane it has skipped as many, and starts from zero (R286). -/
def planeMoves (chain : Bool) (sels : List Nat) (s : State) : State :=
  let h := holdCycles s
  let key := sels.headD 0
  if h = 0 then s
  else if chain then { s with cfl := { s.cfl with gapEnd := tset s.cfl.gapEnd 0 key (s.cyc.idx + h) } }
  else
    let j := 32 - tget s.cfl.outJ 0 key
    let g := sels.foldl
      (fun g v => tins (tdel g v) v ⟨s.cyc.idx - 1 - h, s.cyc.idx - 1, tget s.cfl.held 0 v, j⟩) s.cfl.gaps
    { s with cfl := { s.cfl with gaps := g, outJ := tset s.cfl.outJ 0 key 32
                                 gapEnd := tset s.cfl.gapEnd 0 key 0 } }

/-- The buses, Chambers and bridges whose plane differs between the sets (R286). -/
def planesMove (w : Swap) (s : State) : State :=
  let s := forEach ((idxs 0 64).filter fun b => w.oldP.bus.getD b false != w.newP.bus.getD b false)
    (fun b t => planeMoves (w.newP.bus.getD b false) [0x6000 + b] t) s
  let s := forEach ((idxs 0 16).filter fun n => w.oldP.chm.getD n false != w.newP.chm.getD n false)
    (fun n t => planeMoves (w.newP.chm.getD n false) (idxs (0x5000 + 16 * n) 16) t) s
  forEach ((idxs 0 32).filter fun k => w.oldP.brg.getD k false != w.newP.brg.getD k false)
    (fun k t => planeMoves (w.newP.brg.getD k false) [0x7000 + k] t) s

/-- CFL_CHM_IN_n.PLANE and CFL_BUS_b.PLANE show the planes in effect (R256). -/
def planesShown (s : State) : State := showPlanes (routesOf s).oldP s

/-- The CHAIN swap point: what is left of the set takes effect, and the commit ends (R285, R286). -/
def chainSwap (c : Commit) (w : Swap) (s : State) : State :=
  let s := swapAt c.shadow c.slot w true s
  let s := if w.had then planesMove w s else s
  commitEvent (planesShown (commitEnd s))

/-- The crosspoints of bus b whose gain is not zero, or moves to one that is not, ascending by input. -/
def busGains (s : State) (b : Nat) : List Nat :=
  (idxs 0 256).filter fun i => gainTarget s (xpKey i b) != 0

/-- The elements in effect as the words of a set: what the previous set is put back from (R284). The program swaps named
are those that the commit of the words ws, which swaps Chambers sel at its LOCAL swap point, asks for. -/
def setImage (ws : List W40) (sel : Nat → Bool) (s : State) : List W40 :=
  let n := fun (k : Nat) => BitVec.ofNat 40 k
  let field := fun (a : Nat) (f : Fld) => s.rf a f
  let grants := fun (l : List Nat) (w : Nat) => n (((l.filter fun c => c / 32 == w).map fun c => 2 ^ (c % 32)).sum)
  let word := fun (a : Nat) => n ((s.reg a).toNat % 2 ^ 32)
  let lists := (idxs 0 64).map (busGains s)
  [0, 0, 0, n (setBits ws 3 0 4), n ((((idxs 0 16).filter fun k => (setWord ws 4).getLsbD k && sel k).map fun k => 2 ^ k).sum),
    0, 0, 0] ++ List.replicate 16 0 ++
  ((idxs 0 256).map fun i => n (field (rCFL_IN i) CFL_IN.SRC)) ++
  ((idxs 0 64).map fun b => n (field (rCFL_BUS b) CFL_BUS.LAW + 16 * field (rCFL_BUS b) CFL_BUS.RND +
    65536 * (lists.getD b []).length)) ++
  ((idxs 0 16).flatMap fun k =>
    [n (field (rCFL_CHM_IN k) CFL_CHM_IN.BASE + 65536 * field (rCFL_CHM_IN k) CFL_CHM_IN.CNT),
     n (field (rCFL_CHM_OUT k) CFL_CHM_OUT.BASE + 65536 * field (rCFL_CHM_OUT k) CFL_CHM_OUT.CNT)]) ++
  ((idxs 0 32).map fun k => n (field (rCFL_BRG_SEL k) CFL_BRG_SEL.SRC + 65536 * field (rCFL_BRG_SEL k) CFL_BRG_SEL.DST +
    2 ^ 32 * field (rCFL_BRG_CFG k) CFL_BRG_CFG.KIND)) ++
  ((idxs 0 128).map fun j => n (field (rCFL_SAPOUT j) CFL_SAPOUT.SRC)) ++
  ((idxs 0 256).map fun j => n (field (rCFL_CIN j) CFL_CIN.SRC)) ++
  ((idxs 0 512).map fun c => n (field (rCFL_TALK c) CFL_TALK.SRC + 2 ^ 31 * field (rCFL_TALK c) CFL_TALK.GRANT)) ++
  (idxs 0 8).map (grants s.gal.grantC) ++ (idxs 0 128).map (grants s.gal.grantL) ++
  ((idxs 0 16).map fun k => n (field (rCHM_ENTRY k) CHM_ENTRY.BUNDLE + 65536 * field (rCHM_RND_DEF k) CHM_RND_DEF.RND)) ++
  (s.cyc.dl.map n) ++ [n s.cyc.stage.toNat] ++
  ((idxs 0 8).flatMap fun k => [word (rTIM_CTL k), word (rTIM_PERIOD k), word (rTIM_DEB k)]) ++
  ((idxs 0 64).flatMap fun b => (lists.getD b []).map fun i => n (2 ^ 32 * i + (gainTarget s (xpKey i b)).toNat))

/-- The value a word has, or moves to, as a step to it (R284). -/
def morphBack (s : State) (m : Morph) : Morph :=
  let now : W40 :=
    match s.flw.morphs.find? m.same with
    | some o => o.v1
    | none =>
      if m.kind = 1 then tget (chmOf s m.chm).x (Config.clearedWord 40) m.addr
      else if m.kind = 2 then tget (chmOf s m.chm).y (Config.clearedWord 40) m.addr
      else if m.kind = 3 then (s.reg (rCFL_CS m.addr)).setWidth 40 else (s.reg (rCFL_LS m.addr)).setWidth 40
  { m with v1 := now, m := 0, pos := 0 }

/-- The words of a set whose records take effect at the LOCAL swap point. -/
def localRecords (w : Swap) (m : Morph) : Bool := decide (3 ≤ m.kind) || (swapNow w false).chm m.chm

/-- What the LOCAL swap point of the set ws is about to change (R284). -/
def undoOf (ws : List W40) (slot : Nat) (w : Swap) (s : State) : Undo :=
  { image := setImage ws (swapNow w false).chm s
    words := ((setMorphs ws slot (recsOf ws).1).filter (localRecords w)).map (morphBack s)
    act := s.reg rFLW_ACT, actId := s.reg rFLW_ACT_ID }

/-- The LOCAL swap point of an armed commit (R285). The deadline and timer words are taken by the boundary
itself. -/
def localSwap (c : Commit) (s : State) : State :=
  let ws := c.shadow
  let r := routingActs s.cyc.fam (routingOf s)
  let q := routingActs s.cyc.fam (setRouting ws)
  let hadSet := s.rb rFLW_ACT FLW_ACT.VALID
  let w : Swap := ⟨hadSet, r, planesOf r, q, planesOf q⟩
  let undo := undoOf ws c.slot w s
  let s := { s with flw := { s.flw with morphBase := s.rf rFLW_MORPH_BASE FLW_MORPH_BASE.WORD } }
  let s := swapChecks ws w s
  let s := swapAt ws c.slot w false s
  let s := swapTalk ws s
  let s := swapRecords ws c.slot (fun m => decide (3 ≤ m.kind)) s
  let s := (s.setRf rFLW_ACT FLW_ACT.SLOT c.slot).setRb rFLW_ACT FLW_ACT.VALID true
  let s := s.setRf rFLW_ACT_ID FLW_ACT_ID.SET_ID (setBits ws 2 0 32)
  let s := if hadSet && planeChanges w then s.setRb rFLW_STAT FLW_STAT.PLANE_CHG true else s
  if hasChain w then
    planesShown { s with flw := { s.flw with commit := some { c with swap := some w }, undo := some undo } }
  else commitEvent (planesShown (commitEnd s))

/-- A program swap of CHMn that the dropped commit asked for: one that waits is called off, one made is made again, back
(R240, R284). -/
def swapBack (ws : List W40) (n : Nat) (s : State) : State :=
  if (setWord ws 4).getLsbD n then setChm n { chmOf s n with swapPend := !(chmOf s n).swapPend } s else s

/-- The previous set is put back after a commit that lost TIME_VALID between its swap points: every element that its
LOCAL swap point changed, with the words its records named (R284; notes/assumptions/43.md). Deadline and timer words
are put back by the boundary itself. -/
def commitRestore (s : State) : State :=
  match s.flw.dropped with
  | none => s
  | some d =>
    let ws := d.undo.image
    let k := swapNow d.swap false
    let s := { s with flw := { s.flw with dropped := none } }
    let s := swapElements (ws.set 4 0) d.slot k (fun _ => true) s
    let s := forEach ((idxs 0 16).filter k.chm) (swapBack ws) s
    let s := swapTalk ws s
    let s := { s with flw := { s.flw with
      morphs := (s.flw.morphs.filter fun m => !localRecords d.swap m) ++ d.undo.words } }
    planesShown (showInUse ((s.setReg rFLW_ACT d.undo.act).setReg rFLW_ACT_ID d.undo.actId))

/-- The commit at the boundary of cycle C + 1 that is not armed is abandoned (R283). -/
def commitAbandon (c : Commit) (s : State) : State :=
  let s := (commitEnd s).setRb rFLW_STAT FLW_STAT.ARM_FAIL true
  if c.arm = .mismatch then raise srcSetCheck s else raise srcArmingOverrun s

/-- What the pending commit does at the boundary of the cycle that begins: abandoned, or swapped (R283 to
R286). A swap point that lies before C + 1 falls at C + 1. -/
def commitBoundary (s : State) : State :=
  match s.flw.commit with
  | none => s
  | some c =>
    let s :=
      if c.swap.isNone && decide (c.c + 1 ≤ s.cyc.idx) then
        if c.arm = .done then localSwap c s else commitAbandon c s
      else s
    match s.flw.commit with
    | some { swap := some w, slot := k, c := n, arm := a, shadow := ws } =>
      if n + pCycles s ≤ s.cyc.idx + 1 + uCycles s then chainSwap ⟨k, n, a, ws, some w⟩ w s else s
    | _ => s

/-! ### The Flowstone pass (R288, R290 to R292) -/

/-- The stage of CHMn in effect: 0 OFF, 1 PRE, 2 POST, 3 FREE (R43). -/
def stageOf (s : State) (n : Nat) : Nat := s.cyc.stage.toNat / 4 ^ n % 4

/-- The order in which a pass writes a word: Chambers the last pass left unwritten, FREE, PRE and POST Chambers,
stores (R290, R291). -/
def morphRank (s : State) (m : Morph) : Nat :=
  if 3 ≤ m.kind then 1000
  else (if s.flw.late.contains m.chm then 0 else if stageOf s m.chm = 3 then 100
        else if stageOf s m.chm = 1 then 200 else 300) + m.chm

/-- The words of rank r or more, n ranks on, in order. -/
def morphsByRank (s : State) (ms : List Morph) (ranks : List Nat) : List Morph :=
  ranks.flatMap fun r => ms.filter fun m => morphRank s m == r

/-- The ranks in ascending order. -/
def allRanks : List Nat := idxs 0 16 ++ idxs 100 16 ++ idxs 200 16 ++ idxs 300 16 ++ [1000]

/-- The Flowstone pass is released: every running word moves on by the samples of one pass, and the words due are
ordered (R288, R290). Store words wait while the node holds its light outputs and setpoints (R36). -/
def flwRelease (s : State) : State :=
  let ms := s.flw.morphs.map fun m => { m with pos := min m.m (m.pos + spc s) }
  let due := if valuesHeld s then ms.filter fun m => decide (m.kind ≤ 2) else ms
  { s with flw := { s.flw with morphs := ms, due := morphsByRank s due allRanks } }

/-- A word as a number: Chamber and control words signed, light words unsigned (R288). -/
def morphInt (k : Nat) (v : W40) : Int :=
  if k ≤ 2 then v.toInt else if k = 3 then (v.setWidth 32 : W32).toInt else v.toNat

/-- A bridge wrote the store word m at this cycle's boundary, and its value stands (R292). -/
def bridgeHas (m : Morph) (s : State) : Bool :=
  decide (3 ≤ m.kind) && s.cfl.bridged.contains ((if m.kind = 3 then 0x9000 else 0xB000) + m.addr)

/-- One word of the pass is written (R288); a word at its end value leaves the running ones. A start value whose read
draws an error response is zero (R174). -/
def flwWord (m : Morph) (s : State) : State :=
  let s :=
    if bridgeHas m s then s
    else if m.m = 0 then morphWrite m m.v1 s
    else
      let r := matrixRead 48 (s.flw.morphBase + m.idx) s
      let a := morphInt m.kind (r.1.getD 0)
      morphWrite m (BitVec.ofInt 40 (a + (morphInt m.kind m.v1 - a) * m.pos / m.m)) r.2
  if m.m ≤ m.pos then { s with flw := { s.flw with morphs := s.flw.morphs.filter fun x => x != m } } else s

/-- The pass completes: every word due is written. -/
def flwComplete (s : State) : State :=
  let s := forEach s.flw.due flwWord s
  showInUse { s with flw := { s.flw with due := [], late := [] } }

/-- The pass misses after k of its words: the rest stay for the next pass, and their Chambers are not released
(R291). -/
def flwMiss (k : Nat) (s : State) : State :=
  let rest := s.flw.due.drop k
  let s := forEach (s.flw.due.take k) flwWord s
  let held := (idxs 0 16).filter fun n => rest.any fun m => decide (m.kind ≤ 2) && m.chm == n
  let s := if held.isEmpty then s else s.setRb rFLW_STAT FLW_STAT.CHM_HELD true
  showInUse { s with flw := { s.flw with due := [], late := held } }

/-- CHMn has words due in the pass that runs. -/
def chmDue (s : State) (n : Nat) : Bool := s.flw.due.any fun m => decide (m.kind ≤ 2) && m.chm == n

/-- The active set ends with its routing, gains, bridges and ramps, and the outputs return to their state after reset;
a commit that is pending ends with it (R41; notes/assumptions/26.md). -/
def endSet (s : State) : State :=
  let s := commitEnd (s.setReg rFLW_ACT 0)
  let s := forEach (idxs 0 64)
    (fun b t => ((t.setRf (rCFL_BUS b) CFL_BUS.N 0).setRf (rCFL_BUS b) CFL_BUS.LAW 0).setRf
      (rCFL_BUS_SCALE b) CFL_BUS_SCALE.SCALE 2147483648) s
  let s := s.resetRegs (rCFL_CHM_IN 0) (rCFL_CHM_OUT 15)
  let s := forEach (idxs 0 32) (fun k t => t.resetRegs (rCFL_BRG_CFG k) (rCFL_BRG_SEL k)) s
  let s := s.resetRegs (rCFL_SAPOUT 0) (rCFL_TALK 511)
  let s := forEach (idxs 0 256) (fun i t => (t.setRf (rCFL_IN i) CFL_IN.SRC 0).setRb (rCFL_IN i) CFL_IN.ACTIVE false) s
  showInUse { s with
    rst := { s.rst with lit := false }
    cfl := { Cfl.init with ringBase := s.cfl.ringBase, ringLen := s.cfl.ringLen }
    flw := { s.flw with xr := [], morphs := [], due := [], late := [] }
    gal := { s.gal with grantC := [], grantL := [] } }

end Sys2Proof.Machine
end

