-- ==== Sys2Proof/Machine/Sap.lean ====
section
/-! DEFINITION. Serial audio ports: configuration, frames, elastic buffers, start and stop, clock faults
(R293 to R310). -/

namespace Sys2Proof.Machine

open Sys2Proof

/-- Port n. -/
def sapOf (s : State) (n : Nat) : Sap := tget s.sap Sap.init n

/-- The state with port n's state replaced. -/
def setSap (n : Nat) (x : Sap) (s : State) : State := { s with sap := tset s.sap Sap.init n x }

/-- A port that has returned to IDLE: its clocks stop low, DO goes low or high-impedance (R308). -/
def sapParked (x : Sap) : Sap := { Sap.init with ctl := x.ctl, parked := true }

/-- The state of port n: 0 IDLE, 1 WAIT_CLK, 2 LEAD, 3 RUN, 4 TRAIL. -/
def sapState (s : State) (n : Nat) : Nat := s.rf (rSAP_STAT n) SAP_STAT.STATE

/-- Port n takes a state. -/
def setSapState (n st : Nat) (s : State) : State := s.setRf (rSAP_STAT n) SAP_STAT.STATE st

/-- A field of a configuration word as taken at the start. -/
def cfgOf (f : Fld) (w : W32) : Nat := fget f (w.setWidth 64)

/-- The mode of a port: 0 SYNC, 1 SLIP, 2 STEER (R299). -/
def sapMode (x : Sap) : Nat := cfgOf SAP_CTL.MODE x.ctl

/-- The port is a clock master. -/
def sapMaster (x : Sap) : Bool := cfgOf SAP_CTL.MASTER x.ctl == 1

/-- A SYNC master port is direct; every other is buffered (R299). -/
def sapDirect (x : Sap) : Bool := sapMode x == 0 && sapMaster x

/-- Slots of a frame (R295). -/
def sapSlots (fmt : W32) : Nat := if cfgOf SAP_FMT.FMT fmt = 2 then cfgOf SAP_FMT.SLOTS fmt + 1 else 2

/-- Bits of a slot. -/
def sapSlotW (fmt : W32) : Nat :=
  match cfgOf SAP_FMT.SLOTW fmt with
  | 0 => 32
  | 1 => 24
  | _ => 16

/-- Bits of a word. -/
def sapWlen (fmt : W32) : Nat :=
  match cfgOf SAP_FMT.WLEN fmt with
  | 0 => 24
  | 1 => 16
  | _ => 32

/-- BCK periods of a frame (R295). -/
def sapPeriods (fmt : W32) : Nat := sapSlots fmt * sapSlotW fmt

/-- BCK periods from the frame-beginning edge to the first slot: one in I²S, DLY in TDM (R295). -/
def sapDelay (fmt : W32) : Nat :=
  match cfgOf SAP_FMT.FMT fmt with
  | 0 => 1
  | 2 => cfgOf SAP_FMT.DLY fmt
  | _ => 0

/-- The level of FS in BCK period p of a frame, counted from the frame-beginning edge (R295). -/
def sapFsLevel (fmt : W32) (p : Nat) : Bool :=
  let first := decide (p < sapSlotW fmt)
  let v :=
    match cfgOf SAP_FMT.FMT fmt with
    | 0 => !first
    | 2 => if cfgOf SAP_FMT.FSW fmt = 1 then first else decide (p = 0)
    | _ => first
  v != (cfgOf SAP_FMT.FS_INV fmt == 1)

/-- The level of DO in BCK period p of a frame: the slots begin sapDelay periods in, so that the period before belongs to
the frame before (R295). -/
def sapDoLevel (x : Sap) (p : Nat) : Option Bool :=
  if p < sapDelay x.fmt then x.carry else x.bits.getD (p - sapDelay x.fmt) (some false)

/-- BCK, FS and DO over the frame being sent, half a BCK period each: every period starts at a falling BCK edge, at which
FS and DO change, or with BCK_INV at a rising one (R295). -/
def sapWave (x : Sap) : List (Bool × (Bool × Option Bool)) :=
  let inv := cfgOf SAP_FMT.BCK_INV x.fmt == 1
  (List.range (sapPeriods x.fmt)).flatMap fun p =>
    [(inv, (sapFsLevel x.fmt p, sapDoLevel x p)), (!inv, (sapFsLevel x.fmt p, sapDoLevel x p))]

/-- The bits of a slot on the line: the word in the first WLEN periods, its most significant bit first, then zeros;
none where DO is high-impedance (R296). -/
def slotLine (fmt : W32) (w : Option W32) : List (Option Bool) :=
  match w with
  | none => List.replicate (sapSlotW fmt) none
  | some v =>
    (List.range (sapWlen fmt)).map (fun i => some (v.getLsbD (sapWlen fmt - 1 - i))) ++
      List.replicate (sapSlotW fmt - sapWlen fmt) (some false)

/-- The word of slot k in the bits of a frame, the first period of the first slot first: its first WLEN periods, most
significant bit first; the others are ignored (R296). -/
def lineWord (fmt : W32) (di : List Bool) (k : Nat) : W32 :=
  BitVec.ofNat 32
    (((di.drop (k * sapSlotW fmt)).take (sapWlen fmt)).foldl (fun a b => 2 * a + (if b then 1 else 0)) 0)

/-- The clock source of port n runs: a synthesizer that is enabled and locked, a foreign clock, or for a slave the clock
at its balls (R298, R389). -/
def sapSourceOn (s : State) (n : Nat) : Bool :=
  let x := sapOf s n
  let k := cfgOf SAP_CLK.SRC x.clk
  !sapMaster x || decide (2 < k) || (s.rb (rSYN_CTL k) SYN_CTL.EN && s.rb (rSYN_STAT k) SYN_STAT.LOCK)

/-- The sample rate in Hz of the family in effect. -/
def sampleHz (s : State) : Nat :=
  match s.cyc.fam with
  | 0 => 48000
  | 1 => 96000
  | 2 => 44100
  | _ => 88200

/-- The configuration the registers hold is one R300 calls invalid. -/
def sapInvalid (s : State) (n : Nat) : Bool :=
  let ctl : W32 := (s.reg (rSAP_CTL n)).setWidth 32
  let fmt : W32 := (s.reg (rSAP_FMT n)).setWidth 32
  let src := s.rf (rSAP_CLK n) SAP_CLK.SRC
  let mode := cfgOf SAP_CTL.MODE ctl
  let master := cfgOf SAP_CTL.MASTER ctl == 1
  mode == 3 || cfgOf SAP_FMT.FMT fmt == 3 || cfgOf SAP_FMT.WLEN fmt == 3 || cfgOf SAP_FMT.SLOTW fmt == 3 ||
    (cfgOf SAP_FMT.FMT fmt == 2 && cfgOf SAP_FMT.SLOTS fmt == 0) || decide (4 < src) ||
    decide (sapSlotW fmt < sapWlen fmt) ||
    (master && decide (24576000 < sampleHz s * sapSlots fmt * sapSlotW fmt)) ||
    (master && mode == 0 && decide (2 < src)) || (master && mode == 2 && decide (src < 3))

/-- LEAD within its range (R307). -/
def sapLead (ctl : W32) : Nat := min 4096 (max 16 (cfgOf SAP_CTL.LEAD ctl))

/-- The port starts with the configuration the registers hold, or refuses it (R300, R307). -/
def sapStart (n : Nat) (s : State) : State :=
  if sapInvalid s n then
    raiseD srcSapCfg (BitVec.ofNat 32 n) ((setSapState n 0 s).setRb (rSAP_STAT n) SAP_STAT.CFG_ERR true)
  else
    let ctl : W32 := (s.reg (rSAP_CTL n)).setWidth 32
    let x : Sap := { Sap.init with
      ctl := ctl, fmt := (s.reg (rSAP_FMT n)).setWidth 32, clk := (s.reg (rSAP_CLK n)).setWidth 32
      slot := (s.reg (rSAP_SLOT n)).setWidth 32, left := sapLead ctl }
    setSapState n (if sapMaster x then 2 else 1) (setSap n x s)

/-- EN is set: a port in IDLE starts; in TRAIL the start follows the trail (R307, R308). -/
def sapEnable (n : Nat) (s : State) : State :=
  let s := s.setRb (rSAP_CTL n) SAP_CTL.EN true
  if sapState s n = 0 ∧ !s.held (24 + n) then sapStart n s else s

/-- The trail begins. -/
def sapTrail (n : Nat) (s : State) : State :=
  let x := sapOf s n
  setSapState n 4 (setSap n { x with left := sapLead x.ctl, stopping := false, outJ := 0 } s)

/-- EN is cleared (R308). -/
def sapDisable (n : Nat) (s : State) : State :=
  let s := s.setRb (rSAP_CTL n) SAP_CTL.EN false
  let x := sapOf s n
  match sapState s n with
  | 1 => setSapState n 0 (setSap n (sapParked (sapOf s n)) s)
  | 2 => sapTrail n s
  | 3 => setSap n { x with stopping := true } s
  | _ => s

/-- A write of EN. -/
def sapEnableWrite (n : Nat) (on : Bool) (s : State) : State :=
  if on then sapEnable n s else if s.rb (rSAP_CTL n) SAP_CTL.EN then sapDisable n s else s

/-- Frame edges arrive at a port that waits for its clock: the lead begins; the ramp of the inputs after a clock fault
goes on (R307, R309). -/
def sapClock (n : Nat) (s : State) : State :=
  if sapState s n = 1 ∧ !s.held (24 + n) then
    let x := sapOf s n
    setSapState n 2 (setSap n { x with
      left := sapLead x.ctl, leadDone := false, outJ := 0, inBuf := [], outBuf := []
      inOn := false, outOn := false, inLast := [], outLast := [] } s)
  else s

/-- The frames of the lead have been sent (R307). -/
def sapLeadEnd (n : Nat) (s : State) : State :=
  let x := sapOf s n
  if sapState s n = 2 ∧ x.left = 0 then setSap n { x with leadDone := true } s else s

/-- The frames of the trail have been sent: the port returns to IDLE, or starts again (R308). -/
def sapTrailEnd (n : Nat) (s : State) : State :=
  if sapState s n = 4 ∧ (sapOf s n).left = 0 then
    let s := setSapState n 0 (setSap n (sapParked (sapOf s n)) s)
    if s.rb (rSAP_CTL n) SAP_CTL.EN then sapStart n s else s
  else s

/-! ### Words (R296, R297) -/

/-- A received word of w bits as S40 (R297). -/
def wordToS40 (w : Nat) (v : W32) : W40 := BitVec.ofInt 40 ((BitVec.ofNat w v.toNat).toInt * 2 ^ (33 - w))

/-- An S40 value as a word of w bits, and whether it saturated (R297). -/
def s40ToWord (w : Nat) (h : Bool) (x : W40) : W32 × Bool :=
  let hi : Int := 2 ^ 32 - 2 ^ (33 - w)
  let lo : Int := - 2 ^ 32
  let y := if hi < x.toInt then hi else if x.toInt < lo then lo else x.toInt
  (BitVec.ofNat 32 (BitVec.ofInt w (rnd h y (33 - w))).toNat, decide (y ≠ x.toInt))

/-- A received frame: sixteen slots as S40; a slot not enabled, or not in the frame, reads zero (R296). -/
def frameIn (x : Sap) (ws : List W32) : List W40 :=
  (idxs 0 16).map fun k =>
    if k < sapSlots x.fmt ∧ x.slot.getLsbD k then wordToS40 (sapWlen x.fmt) (ws.getD k 0) else 0

/-- A frame scaled by the ramp gain j (R571). -/
def frameScale (j : Nat) (f : List W40) : List W40 := f.map (scaleJ j)

/-- A frame of zeros. -/
def frameZero : List W40 := List.replicate 16 0

/-! ### Outputs -/

/-- The frame of port n that the node hands over g samples into the cycle: each slot's sample of the block whose emission
is in progress (R259, R302, R304). -/
def outFrame (n g : Nat) (s : State) : List W40 :=
  let o := uCycles s * spc s - s.rf rGAL_CYC_CTL GAL_CYC_CTL.TRIM
  (idxs 0 16).map fun k =>
    let j := 16 * n + k
    if o ≤ g then (tget s.cfl.outCur [] j).getD (g - o) 0 else (tget s.cfl.outPrev [] j).getD (spc s + g - o) 0

/-- A frame of port n through the Gate, from slot k on (R294, R473). -/
def gateFrame (n k : Nat) (f : List W40) (s : State) : List W40 × State :=
  match f with
  | [] => ([], s)
  | x :: r =>
    let a := spkSample (16 * n + k) x s
    let b := gateFrame n (k + 1) r a.2
    (a.1 :: b.1, b.2)

/-- The node mutes its audio outputs: for want of valid time, for a change of P, or because it has not joined its
chain (R18, R36, R37, R337). -/
def outputsMute (s : State) : Bool := valuesHeld s || s.cyc.timeMute || s.gal.pMute.isSome || chainDark s

/-- What the port sends for a frame, after the Gate: the enabled slots' words, zero or high-impedance for the others; a
saturated sample sets SAT (R294, R296, R297). -/
def sendFrame (n : Nat) (f : List W40) (s : State) : State :=
  let g := gateFrame n 0 f s
  let f := g.1
  let s := g.2
  let x := sapOf s n
  let hiz := cfgOf SAP_CTL.HIZ x.ctl == 1
  let ws := (idxs 0 (sapSlots x.fmt)).map fun k =>
    if x.slot.getLsbD (16 + k) then
      let r := s40ToWord (sapWlen x.fmt) (cfgOf SAP_CTL.RND x.ctl == 1) (f.getD k 0)
      (some r.1, r.2)
    else (if hiz then none else some 0, false)
  let s := setSap n { x with
    tx := ws.map fun p => p.1, bits := ws.flatMap fun p => slotLine x.fmt p.1, carry := x.bits.getLastD (some false) } s
  if ws.any fun p => p.2 then s.setRb (rSAP_STAT n) SAP_STAT.SAT true else s

/-! ### Elastic buffers (R303) -/

/-- A read of an elastic buffer: the frame taken, the buffer left, and 1 for a drop, 2 for a repeat. -/
def elastic (b : List (List W40)) (last : List W40) : List W40 × List (List W40) × Nat :=
  if 30 ≤ b.length then (b.getD 1 frameZero, b.drop 2, 1)
  else if 3 ≤ b.length then (b.headD frameZero, b.tail, 0)
  else (last, b, 2)

/-- A write of an elastic buffer; a full one loses its oldest frame. -/
def elasticPut (b : List (List W40)) (f : List W40) : List (List W40) :=
  (if 32 ≤ b.length then b.tail else b) ++ [f]

/-- A slip of port n is counted, but not in the lead (R303, R305). -/
def slip (n : Nat) (kind : Nat) (input : Bool) (s : State) : State :=
  if kind = 0 ∨ sapState s n = 2 then s
  else
    let s := s.bumpWrap (rSAP_SLIP n)
    let s :=
      if input then
        (if kind = 1 then s.setRb (rSAP_STAT n) SAP_STAT.IN_DROP true else s.setRb (rSAP_STAT n) SAP_STAT.IN_REP true)
      else
        (if kind = 1 then s.setRb (rSAP_STAT n) SAP_STAT.OUT_DROP true else s.setRb (rSAP_STAT n) SAP_STAT.OUT_REP true)
    if sapMode (sapOf s n) = 0 then
      raise (srcSapClock n) (s.setRb (rSAP_STAT n) SAP_STAT.SYNC_LOST true)
    else s

/-- A sample of the inputs of port n enters the cycle's block under the ramp of its inputs: the frame f or, after a clock
fault, the frame held; j goes up in RUN, stays until the boundary after a fault, and goes down else (R307 to R309). -/
def capture (n : Nat) (f : List W40) (s : State) : State :=
  let x := sapOf s n
  let v := if x.fault = 0 then f else x.hold
  let j := if x.fault = 1 then x.inJ
           else if x.fault = 0 ∧ sapState s n = 3 ∧ !x.stopping then min 32 (x.inJ + 1) else x.inJ - 1
  setSap n { x with cap := x.cap ++ [frameScale j v], hold := v, inJ := j
                    fault := if x.fault = 2 ∧ j = 0 then 0 else x.fault } s

/-- An output frame leaves port n under the one ramp of its outputs; a frame of the lead that an output buffer still held is
empty and leaves j at zero. Once the ramp to zero of a stop has ended the trail begins (R307, R308, R571). -/
def emit (n : Nat) (f : List W40) (s : State) : State :=
  let x := sapOf s n
  match sapState s n with
  | 3 =>
    let j := if !x.stopping && !f.isEmpty && !outputsMute s then min 32 (x.outJ + 1) else x.outJ - 1
    let s := sendFrame n ((idxs 0 16).map fun k => scaleJ j (f.getD k 0)) (setSap n { x with outJ := j } s)
    if x.stopping && j == 0 then sapTrail n s else s
  | _ => sendFrame n frameZero (setSap n { x with left := x.left - 1 } s)

/-- The distance of the present tick from the nearest sample grid point, in units of 0.5 ns (R301). -/
def gridOffset (s : State) : Int :=
  let num := s.dtm.tb * sampleHz s
  let den := 1000000000 * 2 ^ 28
  let r := num % den
  let d : Int := if 2 * r < den then (r : Int) else (r : Int) - den
  d * 2 / (2 ^ 28 * sampleHz s)

/-- A frame begins at port n: the frame that has ended, di in the BCK periods of its slots, comes in, and the next is sent
(R295, R296, R301 to R303, R307, R308). A master whose clock source does not run begins none. -/
def sapFrame (n : Nat) (di : List Bool) (s : State) : State :=
  if !(2 ≤ sapState s n && !s.held (24 + n) && sapSourceOn s n) then s
  else
    let x := sapOf s n
    let words := (idxs 0 16).map (lineWord x.fmt di)
    let g := x.cap.length
    let s := setSap n { x with edge := s.dtm.ticks } s
    if sapDirect x then
      let s := s.setRf (rSAP_PHASE n) SAP_PHASE.PHASE (lowBits 32 (gridOffset s))
      let s := if g < spc s ∧ x.fault = 0 then capture n (frameIn x words) s else s
      emit n (outFrame n g s) s
    else
      let x := sapOf s n
      let s := setSap n { x with inBuf := elasticPut x.inBuf (frameIn x words) } s
      let x := sapOf s n
      if x.outOn || decide (16 ≤ x.outBuf.length) then
        let r := elastic x.outBuf x.outLast
        let s := s.setRf (rSAP_FILL n) SAP_FILL.OUT x.outBuf.length
        let s := setSap n { x with outOn := true, outBuf := r.2.1, outLast := r.1 } s
        emit n r.1 (slip n r.2.2 false s)
      else emit n [] s

/-- (Φ − 16)/Fs in units of 1/u ns, rounded down, the tick being 4 ns (R304). -/
def fillOffset (s : State) (u : Int) (fill edge : Nat) : Int :=
  let f : Int := sampleHz s
  (((fill : Int) - 16) * 1000000000 * u + ((s.dtm.ticks - edge : Nat) : Int) * 4 * u * f) / f

/-- The node writes the output buffer of port n, and reads its input buffer: the frame read, and the state (R303, R304).
Outside RUN it writes empty frames, which are sent as zero. -/
def sapBuffers (n : Nat) (s : State) : List W40 × State :=
  let x := sapOf s n
  let s := setSap n { x with
    outBuf := elasticPut x.outBuf (if sapState s n = 3 then outFrame n s.cyc.grid s else []) } s
  let x := sapOf s n
  if x.inOn || decide (16 ≤ x.inBuf.length) then
    let r := elastic x.inBuf x.inLast
    let s := s.setRf (rSAP_FILL n) SAP_FILL.IN x.inBuf.length
    let s := s.setRf (rSAP_PHASE n) SAP_PHASE.PHASE (lowBits 32 (fillOffset s 2 x.inBuf.length x.edge))
    let s := setSap n { x with
      inOn := true, inBuf := r.2.1, inLast := r.1, off := fillOffset s (2 ^ 16) x.inBuf.length x.edge } s
    (r.1, slip n r.2.2 true s)
  else (frameZero, s)

/-- A sample grid point at port n: a buffered port's buffers are served; a port that holds its inputs after a clock fault
captures the frame held (R303, R304, R309). -/
def sapGrid (n : Nat) (s : State) : State :=
  let x := sapOf s n
  if 2 ≤ sapState s n ∧ !s.held (24 + n) ∧ !sapDirect x then
    let r := sapBuffers n s
    capture n r.1 r.2
  else if x.fault ≠ 0 then capture n x.hold s
  else s

/-- A sample grid point: every port's buffers are served (R303). -/
def gridPoint (s : State) : State :=
  let s := forEach (idxs 0 8) sapGrid s
  { s with cyc := { s.cyc with grid := s.cyc.grid + 1 } }

/-- A clock fault of port n: the inputs hold their last sample, from the last frame that came on; the outputs stop, the
port waits for its clock (R309). -/
def sapFault (n : Nat) (f : Fld) (s : State) : State :=
  if sapState s n < 2 ∨ s.held (24 + n) then s
  else
    let x := sapOf s n
    let s := raise (srcSapClock n) (s.setRb (rSAP_STAT n) f true)
    let miss := min (spc s) s.cyc.grid - x.cap.length
    let s := setSap n { x with
      fault := if sapState s n = 3 then 1 else x.fault
      cap := if sapDirect x then x.cap ++ List.replicate miss (frameScale x.inJ x.hold) else x.cap
      outJ := 0, left := 0, leadDone := false, stopping := false, tx := [], bits := [] } s
    if s.rb (rSAP_CTL n) SAP_CTL.EN then setSapState n 1 s else setSapState n 0 (setSap n (sapParked (sapOf s n)) s)

/-- What port n does at a cycle boundary: the block of the cycle that has ended is published, frames that did not come
being the last one held; a port whose lead has ended runs, a hold after a clock fault becomes a ramp to zero (R302, R307,
R309). -/
def sapBoundary (n : Nat) (s : State) : State :=
  let x := sapOf s n
  let none := if 3 ≤ sapState s n ∨ x.fault ≠ 0 then frameScale x.inJ x.hold else frameZero
  let blk := fun (k : Nat) => (List.range (spc s)).map fun i => (x.cap.getD i none).getD k 0
  let s := if x.cap.isEmpty && sapState s n == 0 then s
    else forEach (idxs 0 16)
      (fun k t => { t with cfl := { t.cfl with
          blk := tset t.cfl.blk [] (0x1000 + 16 * n + k) (if (blk k).all (· == 0) then [] else blk k) } }) s
  let s := setSap n { x with cap := [], fault := if x.fault = 1 then 2 else x.fault } s
  if sapState s n = 2 ∧ x.leadDone ∧ (sapDirect x ∨ x.inOn ∨ 16 ≤ x.inBuf.length) then setSapState n 3 s else s

end Sys2Proof.Machine
end

