-- ==== Sys2Proof/Machine/Timebase.lean ====
section
/-! DEFINITION. Datum: the timebase, its ticks, sets and steps, TIME_VALID, references, the servo, holdover,
the synthesizers, PTP timestamps (R348 to R363, R371 to R392). -/

namespace Sys2Proof.Machine

open Sys2Proof

/-- The state with Datum's state changed. -/
def onDtm (f : Dtm → Dtm) (s : State) : State := { s with dtm := f s.dtm }

/-! ### Ticks (R348, R62) -/

/-- The advance of one tick in units of 2⁻²⁸ ns. -/
def addend (s : State) : Nat := (s.reg rDTM_ADDEND).toNat

/-- MODE of timer n: 0 OFF, 1 ONESHOT, 2 PERIODIC, 3 CAPTURE. -/
def timMode (s : State) (n : Nat) : Nat := s.rf (rTIM_CTL n) TIM_CTL.MODE

/-- Timer n works: it is not held, its domain is on (R133). -/
def timLive (s : State) (n : Nat) : Bool := timMode s n != 0 && s.domOn 135 && !s.held 35

/-- The period in force is taken from TIM_PERIOD (R135). -/
def takePeriod (n : Nat) (s : State) : State :=
  { s with tim := tset s.tim Timer.init n { tget s.tim Timer.init n with
    period := BitVec.ofNat 32 (s.rf (rTIM_PERIOD n) TIM_PERIOD.PERIOD) } }

/-- The tick of timer n that finds CNT at or above PERIOD in ONESHOT or PERIODIC: EXP, and the counter stops at PERIOD or
starts again from 0 with the period written last. The event is then due (R134, R135). -/
def timerTop (n : Nat) (s : State) : State :=
  let x := tget s.tim Timer.init n
  let s := ({ s with tim := tset s.tim Timer.init n { x with due := x.due + 1 } }).setRb (rTIM_STAT n) TIM_STAT.EXP true
  if timMode s n = 1 then (s.setRf (rTIM_CNT n) TIM_CNT.CNT x.period.toNat).setRf (rTIM_CTL n) TIM_CTL.MODE 0
  else takePeriod n (s.setRf (rTIM_CNT n) TIM_CNT.CNT 0)

/-- Timer n counts k ticks from CNT = c in PERIODIC with a period that holds until it is reloaded: whole periods of PERIOD + 1
ticks, each with its event, and the count that is left (R134). -/
def timerWhole (n c k : Nat) (s : State) : State :=
  let x := tget s.tim Timer.init n
  let p := x.period.toNat
  if c + k ≤ p ∨ k = 0 then s.setRf (rTIM_CNT n) TIM_CNT.CNT (c + k)
  else
    let s := timerTop n s
    let k := k - (p - c) - 1
    let x := tget s.tim Timer.init n
    let p := x.period.toNat
    let s := { s with tim := tset s.tim Timer.init n { x with due := x.due + k / (p + 1) } }
    s.setRf (rTIM_CNT n) TIM_CNT.CNT (k % (p + 1))

/-- Timer n counts k ticks of its source (R133, R134). In CAPTURE a wrap sets OVF. -/
def timerCount (n k : Nat) (s : State) : State :=
  if k = 0 ∨ !timLive s n then s
  else
    let c := s.rf (rTIM_CNT n) TIM_CNT.CNT
    let p := (tget s.tim Timer.init n).period.toNat
    match timMode s n with
    | 1 => if c + k ≤ p then s.setRf (rTIM_CNT n) TIM_CNT.CNT (c + k) else timerTop n s
    | 2 => timerWhole n c k s
    | _ =>
      let s := s.setRf (rTIM_CNT n) TIM_CNT.CNT ((c + k) % 2 ^ 32)
      if 2 ^ 32 ≤ c + k then s.setRb (rTIM_STAT n) TIM_STAT.OVF true else s

/-- The timers that count clocks and microseconds count those between the ticks t0 and t1 (R133). -/
def timersPass (t0 t1 : Nat) (s : State) : State :=
  forEach (idxs 0 8)
    (fun n u =>
      match u.rf (rTIM_CTL n) TIM_CTL.TICK with
      | 0 =>
        let p := u.rf (rTIM_CTL n) TIM_CTL.PRESC + 1
        let x := tget u.tim Timer.init n
        if timLive u n then
          timerCount n ((x.presc + (t1 - t0)) / p)
            { u with tim := tset u.tim Timer.init n { x with presc := (x.presc + (t1 - t0)) % p } }
        else u
      | 1 => timerCount n (t1 / 250 - t0 / 250) u
      | _ => u) s

/-- PWR_UPTIME counts whole microseconds of n ticks, in reset too (R12, R62). -/
def upTime (n : Nat) (s : State) : State :=
  let u := s.rst.upTicks + n
  { (s.setReg rPWR_UPTIME (s.reg rPWR_UPTIME + BitVec.ofNat 64 (u / 250))) with
    rst := { s.rst with upTicks := u % 250 } }

/-! ### The switch-on limit of the domains (R70) -/

/-- The power controller's state of domain n. -/
def domOf (s : State) (n : Nat) : Dom := tget s.pwr Dom.init n
def setDom (n : Nat) (x : Dom) (s : State) : State := { s with pwr := tset s.pwr Dom.init n x }

/-- A switch-on at tick t keeps the limit: fewer than 8 fell within the 100 ns, 25 ticks, before it. -/
def switchFree (t : Nat) (s : State) : Bool := decide ((s.switched.filter fun x => decide (t < x + 25)).length < 8)

/-- At tick t the domains whose switch-on waits are switched on in ascending order, as far as the limit allows. -/
def switchAt (t : Nat) (s : State) : State :=
  forEach ((s.pwr.filter fun p => p.2.queued).map fun p => p.1)
    (fun n u =>
      if switchFree t u then
        { (setDom n { domOf u n with queued := false } u) with switched := (t :: u.switched).take 8 }
      else u) s

/-- The switch-ons that wait are made up to tick t, each at the earliest tick that keeps the limit. -/
def switchPass (fuel t : Nat) (s : State) : State :=
  match fuel with
  | 0 => s
  | fuel + 1 =>
    match s.pwr.find? (fun p => p.2.queued), s.switched.getLast? with
    | some _, some x => if x + 25 ≤ t then switchPass fuel t (switchAt (x + 25) s) else s
    | _, _ => s

/-- HBUSY falls on the parallel bus at its tick (R155). -/
def busyPass (t : Nat) (s : State) : State :=
  match s.hwn.busyOff with
  | some k => if k ≤ t then { s with hwn := { s.hwn with hbusy := false, busyOff := none } } else s
  | none => s

/-- n ticks of the timebase counter clock pass, the timebase advancing by d in all; PWR_UPTIME and the timers count,
and domains that wait are switched on (R62, R70, R133, R348). -/
def passTicks (n d : Nat) (s : State) : State :=
  let t := s.dtm.ticks
  switchPass 136 (t + n) (busyPass (t + n) (timersPass t (t + n) (upTime n (onDtm (fun x => { x with ticks := t + n, tb := x.tb + d }) s))))

/-! ### TIME_VALID (R356) -/

/-- TIME_VALID takes a value. A change signals Cairn source 22; its loss is reported and drops a pending commit
(R284, R356). While it is clear the values of a member are held and its audio is muted, which lasts to the first
boundary after it is set again (R36). -/
def setTimeValid (v : Bool) (s : State) : State :=
  if s.timeValid = v then s
  else
    let s := cairnEvent 22 v (s.setRb rDTM_STAT DTM_STAT.TIME_VALID v)
    if v then { s with cyc := { s.cyc with timeMute := isMember s } }
    else raise srcTimeLoss (commitDropTime (s.setRb rDTM_STAT DTM_STAT.TV_LOST true))

/-! ### Sets and steps (R351) -/

/-- The next boundary moves to the first whole multiple of T at or after the timebase, and the mid-cycle instant to T/2
before it, which may have passed (R41, R42). -/
def moveCycle (s : State) : State :=
  let one := cyclesTb s 1
  let k := (s.dtm.tb * one.2 + one.1 - 1) / one.1
  { s with cyc := { s.cyc with
    next := k, midDone := decide (2 * k * one.1 < 2 * s.dtm.tb * one.2 + one.1) } }

/-- The timebase is at or beyond the next boundary (R42). -/
def boundaryReached (s : State) : Bool :=
  let k := cyclesTb s s.cyc.next
  decide (k.1 ≤ s.dtm.tb * k.2)

/-- The timebase is at or beyond the mid-cycle instant, which has not fallen yet (R42). -/
def midReached (s : State) : Bool :=
  let h := cyclesTb s (2 * s.cyc.next - 1)
  !s.cyc.midDone && decide (h.1 ≤ 2 * s.dtm.tb * h.2)

/-- The first grid point num/den of a pulse output at or after timebase value t, as a multiple of 2⁻²⁸ / den ns: the
grid has period pn/pd ns and offset ofs, in units of 0.5 ns (R386). -/
def gridFrom (pn pd : Nat) (ofs : Int) (t : Nat) : Nat :=
  let p : Int := pn * 2 ^ 28
  let o : Int := ofs * 2 ^ 27 * pd
  let x : Int := (t * pd : Nat)
  (((x - o + p - 1) / p) * p + o).toNat

/-- Period and offset of DTM_PPSO's grid, and of DTM_FRMO's (R386). -/
def ppsoGrid (s : State) : Nat × Nat × Int := (1000000000, 1, sfget DTM_PPSO_OFS.OFS (s.reg rDTM_PPSO_OFS))
def frmoGrid (s : State) : Nat × Nat × Int :=
  (max 1 (s.rf rDTM_FRMO_CTL DTM_FRMO_CTL.FDIV) * 1000000000, sampleHz s, sfget DTM_FRMO_OFS.OFS (s.reg rDTM_FRMO_OFS))

/-- The first grid point at or after timebase value t, rounded up to a timebase value. -/
def nextGrid (g : Nat × Nat × Int) (t : Nat) : Nat := (gridFrom g.1 g.2.1 g.2.2 t + g.2.1 - 1) / g.2.1

/-- The ball of a pulse output is driven: since the first rise after EN was set, until the grid point at which a
cleared EN takes effect, never in a high phase (R386). -/
def pulseDriven (on : Bool) (x : Pulse) (tb : Nat) : Bool := x.driven && (on || x.high || decide (tb < x.off))

/-- The registers of a pulse output are written: they take effect at the first grid point after the write, and not
before the end of a high phase (R386). was says whether EN was set, g is the grid that the new values give. -/
def pulseWritten (was : Bool) (g : Nat × Nat × Int) (tb : Nat) (x : Pulse) : Pulse :=
  let t := max (tb + 1) (if x.high then x.fall else 0)
  { x with driven := pulseDriven was x tb, since := t, off := nextGrid g t }

/-- After a set or step the next rise falls at the first grid point at or after the new timebase value; a high phase
keeps the time it still has (R387). -/
def pulseJumped (g : Nat × Nat × Int) (old tb : Nat) (x : Pulse) : Pulse :=
  { x with since := tb, fall := tb + (x.fall - old), off := nextGrid g tb }

/-- An edge of a pulse output that lies before the next tick: the end of a high phase, or the grid point of the next
rise, from which it stays high for w units of 2⁻²⁸ ns (R386). A grid point that passed without its edge is made up
for. -/
def pulseEdge (on : Bool) (g : Nat × Nat × Int) (w tb add : Nat) (x : Pulse) : Pulse :=
  if x.high then (if x.fall < tb + add then { x with high := false } else x)
  else
    let p := gridFrom g.1 g.2.1 g.2.2 x.since
    if on && decide (p < (tb + add) * g.2.1) then
      { high := true, since := max (tb + 1) (p / g.2.1 + 1), fall := p / g.2.1 + w, driven := true, off := x.off }
    else x

/-- What every set or step from timebase value old does once the timebase has its new value: STEPPED, TIME_VALID, the
lock count, Cairn source 21, the alignment of the synthesizers, the grids of the pulse outputs (R351, R387, R391). A
sample from before it is not compared with the next, and the windows of the frequency monitors start again (R375;
notes/assumptions/103.md). -/
def jumped (old : Nat) (s : State) : State :=
  let s := s.setRb rDTM_STAT DTM_STAT.STEPPED true
  let s := onDtm (fun x => { x with
    lockN := 0, unlockN := 0
    refs := x.refs.map fun p => (p.1, { p.2 with cut := true, w0 := none })
    ppso := pulseJumped (ppsoGrid s) old x.tb x.ppso
    frmo := pulseJumped (frmoGrid s) old x.tb x.frmo
    syn := (idxs 0 3).foldl (fun t n => tset t Syn.init n { tget t Syn.init n with near := 0, stopped := true }) x.syn }) s
  let s := forEach (idxs 0 3) (fun n t => t.setRb (rSYN_STAT n) SYN_STAT.ALIGNED false) s
  cairnEvent 21 false (setTimeValid false (moveCycle s))

/-- GO of DTM_SET_CTL captures the set (R351). -/
def setGo (s : State) : State :=
  let ns := s.reg rDTM_SET_NS
  let n := ns.toNat / 2 ^ 16 % 2 ^ 32
  let frac := ns.toNat % 2 ^ 16
  let n := min n 999999999
  let v := (((s.reg rDTM_SET_SEC).toNat % 2 ^ 48 * 1000000000 + n) * 2 ^ 16 + frac) * 2 ^ 12
  (onDtm (fun x => { x with setPend := some v }) s).setRb rDTM_STAT DTM_STAT.SET_PEND true

/-- A write of DTM_STEP waits with the steps before it (R351). -/
def stepWrite (v : W64) (s : State) : State :=
  onDtm (fun x => { x with stepPend := some (x.stepPend.getD 0 + v.toInt) }) s

/-- The tick that loads the captured set in place of its advance (R351). -/
def applySet (s : State) : State :=
  match s.dtm.setPend with
  | none => s
  | some v =>
    let s := passTicks 1 0 s
    jumped s.dtm.tb ((onDtm (fun x => { x with tb := v, setPend := none }) s).setRb rDTM_STAT DTM_STAT.SET_PEND false)

/-- The tick that adds the step on top of its advance; below zero the timebase is left at zero (R351). -/
def applyStep (s : State) : State :=
  match s.dtm.stepPend with
  | none => s
  | some d =>
    let s := passTicks 1 0 s
    let v : Int := s.dtm.tb + addend s + d * 2 ^ 12
    jumped s.dtm.tb (onDtm (fun x => { x with tb := v.toNat, stepPend := none }) s)

/-- One tick: a pending set or step is applied, the arbiter choosing between two; else the timebase advances. -/
def oneTick (s : State) : State :=
  if s.dtm.setPend.isSome && s.dtm.stepPend.isSome then
    if s.arbFirst then applySet s.tick1 else applyStep s.tick1
  else if s.dtm.setPend.isSome then applySet s
  else if s.dtm.stepPend.isSome then applyStep s
  else passTicks 1 (addend s) s

/-- The tick that applies a pending set or step passes, unless a boundary falls first. -/
def settleTick (s : State) : State :=
  if (s.dtm.setPend.isSome || s.dtm.stepPend.isSome) && !boundaryReached s then oneTick s else s

/-- Pending sets and steps are applied, up to a boundary that falls at one of their ticks (R42). -/
def settleTicks (s : State) : State := settleTick (settleTick s)

/-- Ticks until the timebase is at or beyond num/den units of 2⁻²⁸ ns: the first such tick (R42, R352). -/
def ticksTo (num den : Nat) (s : State) : Nat :=
  let a := max 1 (addend s)
  ((num + den - 1) / den - s.dtm.tb + a - 1) / a

/-- n ticks pass with no set or step. -/
def waitTicks (n : Nat) (s : State) : State := passTicks n (n * max 1 (addend s)) s

/-- Ticks pass until the timebase is at or beyond num/den units of 2⁻²⁸ ns. -/
def advanceTo (num den : Nat) (s : State) : State := waitTicks (ticksTo num den s) s

/-- The tick number at which the next boundary falls. -/
def boundaryTick (s : State) : Nat :=
  let k := cyclesTb s s.cyc.next
  s.dtm.ticks + ticksTo k.1 k.2 s

/-- The tick number at which the mid-cycle instant falls. -/
def midTick (s : State) : Nat :=
  let h := cyclesTb s (2 * s.cyc.next - 1)
  s.dtm.ticks + ticksTo h.1 (2 * h.2) s

/-- The cycle index of the timebase: floor(t / T), exact (R352). -/
def cycleIndex (s : State) : Nat :=
  let one := cyclesTb s 1
  s.dtm.tb * one.2 / one.1

/-- A snapshot of the timebase for master m, and NS with FRAC (R350). -/
def tbSnapshot (m : Nat) (s : State) : W64 × State :=
  (tbNs s.dtm.tb, onDtm (fun x => { x with snaps := tset x.snaps (0, 0) m (x.tb, cycleIndex s) }) s)

/-- A write of DTM_ADDEND by firmware or the servo: clamped to ±1000 ppm (R349). -/
def addendTake (v : Int) (s : State) : State :=
  let lo : Int := 0x3FEF9DB2
  let hi : Int := 0x4010624E
  if v < lo then raise srcAddend ((s.setReg rDTM_ADDEND (BitVec.ofInt 64 lo)).setRb rDTM_STAT DTM_STAT.ADD_CLAMP true)
  else if hi < v then
    raise srcAddend ((s.setReg rDTM_ADDEND (BitVec.ofInt 64 hi)).setRb rDTM_STAT DTM_STAT.ADD_CLAMP true)
  else s.setReg rDTM_ADDEND (BitVec.ofInt 64 v)

/-- The node is in SERVO mode. -/
def servoMode (s : State) : Bool := s.rb rDTM_CTL DTM_CTL.MODE

/-- A firmware write of DTM_ADDEND, ignored in SERVO mode (R349, R354). -/
def addendWrite (v : W32) (s : State) : State := if servoMode s then s else addendTake v.toNat s

/-- A write of DTM_TV (R356): CLR alone counts where both are 1; SET is ignored in SERVO mode. -/
def tvWrite (set clr : Bool) (s : State) : State :=
  if servoMode s then s
  else if clr then setTimeValid false s else if set then setTimeValid true s else s

/-! ### References (R372 to R383) -/

/-- Source n. -/
def refOf (s : State) (n : Nat) : Ref := tget s.dtm.refs Ref.init n

/-- The state with source n's monitors replaced. -/
def setRef (n : Nat) (r : Ref) (s : State) : State := onDtm (fun x => { x with refs := tset x.refs Ref.init n r }) s

/-- The control value Y and the integrator I. -/
def ctlY (s : State) : Int := (addend s : Int) - 0x40000000
def srvI (s : State) : Int := sfget DTM_SRV_INT.I (s.reg rDTM_SRV_INT)

/-- The integrator takes a value. -/
def setSrvI (v : Int) (s : State) : State := s.setRf rDTM_SRV_INT DTM_SRV_INT.I (lowBits 32 v)

/-- An offset sample θ of source n arrives (R354, R372): the HIT monitor compares it with the one before, a
sample of the selected source that opens a pull gives Π (R375, R382). -/
def refSample (n : Nat) (th : Int) (s : State) : State :=
  if !s.domOn 119 then s
  else
    let r := refOf s n
    let ptol : Int := s.rf (rDTM_REF_QUAL n) DTM_REF_QUAL.PTOL
    let far := match r.theta with
      | some o => !r.cut && decide (ptol * 65536 < (if o ≤ th then th - o else o - th))
      | none => false
    let s := setRef n { r with theta := some th, fresh := r.fresh + 1, age := 0, hit := r.hit || far, wn := r.wn + 1, cut := false } s
    if s.dtm.piNext && s.rf rDTM_REF_STAT DTM_REF_STAT.SEL == n then
      onDtm (fun x => { x with pi := th * 65536, piNext := false }) s
    else s

/-- A quotient rounded toward minus infinity. -/
def floorDiv (a : Int) (d : Nat) : Int := a / d

/-- The sample of a pulse source of period pn/pd ns and offset ofs (units of 0.5 ns) for an edge at local time t
(R373): the grid value nearest to t, minus t, rounded toward minus infinity to 2⁻¹⁶ ns. -/
def pulseTheta (pn pd : Nat) (ofs : Int) (t : Nat) : Int :=
  -- everything in units of 2⁻²⁸ / pd ns
  let p : Int := pn * 2 ^ 28
  let o : Int := ofs * 2 ^ 27 * pd
  let x : Int := (t : Int) * pd - o
  let k := (2 * x + p) / (2 * p)
  (k * p - x) / ((2 ^ 12 * pd : Nat) : Int)

/-- The local time of a pin edge m eighths of a tick after the last tick (R365, R373). -/
def edgeTime (m : Nat) (s : State) : Nat := s.dtm.tb + addend s * m / 8

/-- An edge code of DTM_REF_IN accepts an edge; the code 3 acts as rising. -/
def edgeTaken (code : Nat) (rising : Bool) : Bool := if code = 0 then false else if code = 2 then !rising else rising

/-- An edge on DTM_PPSI; one that the pin then holds for 8 ns, two ticks, is accepted (R373). -/
def ppsEdge (m : Nat) (rising : Bool) (held : Nat) (s : State) : State :=
  if edgeTaken (s.rf rDTM_REF_IN DTM_REF_IN.PEDGE) rising && decide (2 ≤ held) then
    refSample 4 (pulseTheta 1000000000 1 (sfget DTM_REF_INOFS_P.OFS (s.reg rDTM_REF_INOFS_P)) (edgeTime m s)) s
  else s

/-- An edge on DTM_WCLK; the first accepted one after a boundary is a sample (R372, R373). -/
def wclkEdge (m : Nat) (rising : Bool) (held : Nat) (s : State) : State :=
  if edgeTaken (s.rf rDTM_REF_IN DTM_REF_IN.WEDGE) rising && decide (2 ≤ held) && !s.dtm.wclk then
    let wdiv := max 1 (s.rf rDTM_REF_IN DTM_REF_IN.WDIV)
    let th := pulseTheta (wdiv * 1000000000) (sampleHz s) (sfget DTM_REF_INOFS_W.OFS (s.reg rDTM_REF_INOFS_W)) (edgeTime m s)
    refSample 2 th (onDtm (fun x => { x with wclk := true }) s)
  else s

/-- The sample interval of source n in nanoseconds, as a fraction (R372). -/
def sampleInterval (s : State) (n : Nat) : Frac :=
  if n = 1 then
    let l := (BitVec.ofNat 4 (s.rf rDTM_REF_IN DTM_REF_IN.PTP_LOG)).toInt
    let l := if l < -7 then -7 else if 4 < l then 4 else l
    if l < 0 then Frac.quot 1000000000 (2 ^ l.natAbs) else Frac.ofNat (1000000000 * 2 ^ l.natAbs)
  else if n = 4 then Frac.ofNat 1000000000
  else if s.cyc.fam < 2 then Frac.ofNat 125000 else Frac.quot 1000000000 7350

/-- The bandwidth of a code in mHz (R383). -/
def bwMilliHz (c : Nat) : Nat :=
  let c := min c 19
  (match c % 3 with
    | 0 => 1
    | 1 => 2
    | _ => 5) * 10 ^ (c / 3)

/-- The effective bandwidth code for a source: the highest at or below both BW and 1/(4 T_s) (R383). -/
def bwEff (s : State) (n : Nat) : Nat :=
  let bw := min 19 (s.rf rDTM_REF_CTL DTM_REF_CTL.BW)
  -- f ≤ 1/(4 T_s): f[mHz] × 4 × T_s[ns] ≤ 10¹²
  let ok := fun c => ((Frac.ofNat (4 * bwMilliHz c)).mul (sampleInterval s n)).le (Frac.ofNat 1000000000000)
  ((idxs 0 (bw + 1)).filter ok).getLastD 0

/-- 2π to forty decimal places, for the gains of R383. -/
def twoPi : Frac := ⟨62831853071795864769252867665590057683943, 10 ^ 40⟩

/-- A gain as M and E: the largest E from 0 to 63 for which M, rounded to nearest, fits in 16 bits (R354, R383). -/
def gainCode (g : Frac) (e : Nat) : Nat × Nat :=
  let m := ((g.mul (Frac.ofNat (2 ^ e))).add ⟨1, 2⟩).floor.toNat
  match e with
  | 0 => (min m 65535, 0)
  | e' + 1 => if m < 65536 then (m, e) else gainCode g e'

/-- The gains and BW_EFF for the selected source, at a selection change and a write of BW (R355, R383). -/
def setGains (s : State) : State :=
  let n := s.rf rDTM_REF_STAT DTM_REF_STAT.SEL
  if 6 ≤ n then s
  else
    let c := bwEff s n
    let s := s.setRf rDTM_REF_STAT DTM_REF_STAT.BW_EFF c
    let s := if c < min 19 (s.rf rDTM_REF_CTL DTM_REF_CTL.BW) then s.setRb rDTM_REF_STAT DTM_REF_STAT.BW_LIM true else s
    if s.rb rDTM_CTL DTM_CTL.AUTO_GAIN then
      let w := twoPi.mul (Frac.quot (bwMilliHz c) 1000)
      let ts := sampleInterval s n
      let kp := gainCode (w.mul (Frac.quot (2 * 16384) 1000000000)) 63
      let ki := gainCode (((w.mul w).mul ts).mul (Frac.quot 16384 (10 ^ 18))) 63
      let s := s.setReg rDTM_SRV_KP (BitVec.ofNat 64 (kp.2 * 65536 + kp.1))
      s.setReg rDTM_SRV_KI (BitVec.ofNat 64 (ki.2 * 65536 + ki.1))
    else s

/-- PRIO of source n. -/
def prio (s : State) (n : Nat) : Nat := s.rf (rDTM_REF_CFG n) DTM_REF_CFG.PRIO

/-- Source n is qualified. -/
def qualified (s : State) (n : Nat) : Bool := s.rb (rDTM_REF_MON n) DTM_REF_MON.QUAL

/-- Source a ranks above source b (R377). -/
def ranksAbove (s : State) (a b : Nat) : Bool :=
  prio s a != 0 && (prio s b == 0 || decide (prio s a < prio s b) || (prio s a == prio s b && decide (a < b)))

/-- The highest-ranked source of a list; none where the list holds no enabled one. -/
def highest (s : State) (l : List Nat) : Option Nat :=
  (l.filter fun n => prio s n != 0).foldl
    (fun a n => match a with
      | none => some n
      | some b => if ranksAbove s n b then some n else some b) none

/-- The LOS window of source n. -/
def losOf (s : State) (n : Nat) : Nat := max 1 (s.rf (rDTM_REF_CFG n) DTM_REF_CFG.LOS)

/-- The frequency monitor of source n at a boundary (R375): over a window of 8 samples or 8,192 cycles, whichever
is longer, the advance of the reference against the crystal's ticks; the offset in units of 0.01 ppm, and whether
it is beyond the tolerance. -/
def freqMonitor (n : Nat) (s : State) : Bool × State :=
  let r := refOf s n
  match r.theta with
  | none => (false, s)
  | some th =>
    let now : Int := (s.dtm.tb / 2 ^ 12 : Nat) + th
    match r.w0 with
    | none => (false, setRef n { r with w0 := some (s.dtm.ticks, now), wn := 0, wc := 0 } s)
    | some (t0, ref0) =>
      if r.wn < 8 ∨ r.wc + 1 < 8192 then (false, setRef n { r with wc := r.wc + 1 } s)
      else
        let dt := max 1 (s.dtm.ticks - t0)
        let cr : Int := (dt * 4 * 65536 : Nat)
        let f := ((now - ref0) - cr) * 100000000 / cr
        let bad := decide ((max 1 (s.rf (rDTM_REF_CFG n) DTM_REF_CFG.FTOL) : Int) * 100 < f.natAbs)
        let s := s.setRf (rDTM_REF_MON n) DTM_REF_MON.FOFS (lowBits 16 (clampS 16 f))
        (bad, setRef n { r with w0 := some (s.dtm.ticks, now), wn := 0, wc := 0 } s)

/-- The monitors of source n at a boundary, its flags and its qualification (R375, R376). -/
def monitor (lockFail : Bool) (n : Nat) (s : State) : State :=
  if prio s n = 0 then
    setRef n { refOf s n with good := 0, hit := false } (s.setRb (rDTM_REF_MON n) DTM_REF_MON.QUAL false)
  else
    let r := refOf s n
    let los := n != 5 && decide (losOf s n ≤ r.age)
    let hit := n != 5 && r.hit
    let f := if n = 5 then (false, s) else freqMonitor n s
    let lck := n != 5 && lockFail
    let s := f.2
    let s := if los then s.setRb (rDTM_REF_MON n) DTM_REF_MON.LOS true else s
    let s := if hit then (s.setRb (rDTM_REF_MON n) DTM_REF_MON.HIT true).bumpSat (rDTM_REF_MON n) DTM_REF_MON.HITS else s
    let s := if f.1 then s.setRb (rDTM_REF_MON n) DTM_REF_MON.FREQ true else s
    let s := if lck then s.setRb (rDTM_REF_MON n) DTM_REF_MON.LOCKF true else s
    if los || hit || f.1 || lck then
      let was := qualified s n
      let s := (setRef n { refOf s n with good := 0, hit := false } s).setRb (rDTM_REF_MON n) DTM_REF_MON.QUAL false
      if was then raise (srcRefLoss n) s else s
    else
      let g := (refOf s n).good + 1
      let q := decide (max 1 (s.rf (rDTM_REF_QUAL n) DTM_REF_QUAL.QUAL) ≤ g)
      let s := setRef n { refOf s n with good := min g 65535 } s
      if q then s.setRb (rDTM_REF_MON n) DTM_REF_MON.QUAL true else s

/-! ### Holdover (R384) -/

/-- The holdover window in seconds. -/
def hwin (s : State) : Nat := min 1000 (max 1 (s.rf rDTM_REF_CTL DTM_REF_CTL.HWIN))

/-- The holdover value H as entry now would take it (R384). -/
def holdValue (s : State) : Int :=
  let l := s.dtm.hist.take (hwin s)
  if l.isEmpty then srvI s
  else ((l.foldl Frac.add ⟨0, 1⟩).mul (Frac.quot 1 l.length)).floor

/-- DTM_HOLD and DTM_HOLD_N show H and the stored means. -/
def showHold (s : State) : State :=
  (s.setReg rDTM_HOLD_N (BitVec.ofNat 64 s.dtm.hist.length)).setReg rDTM_HOLD
    (BitVec.ofNat 64 (lowBits 32 (holdValue s)))

/-- The history is cleared (R384, R385). -/
def clearHistory (s : State) : State :=
  showHold (onDtm (fun x => { x with hist := [], secSum := 0, secN := 0, secOk := false }) s)

/-- The cycles of a second of timebase (R384). -/
def secondCycles (s : State) : Nat := if s.cyc.fam < 2 then 8000 else 7350

/-- A second of timebase ends, where its cycles have passed: the mean of I is stored where the conditions of R384 held
throughout it. -/
def holdSecond (s : State) : State :=
  let x := s.dtm
  if x.secN < secondCycles s then s
  else
  let s :=
    if x.secOk && s.domOn 119 then
      onDtm (fun x => { x with hist := (Frac.norm ⟨x.secSum, x.secN⟩ :: x.hist).take 1000 }) s
    else s
  showHold (onDtm (fun x => { x with secSum := 0, secN := 0, secOk := true }) s)

/-- Datum is in holdover. -/
def inHold (s : State) : Bool := s.rb rDTM_REF_STAT DTM_REF_STAT.HOLD

/-! ### The selector (R377 to R382) -/

/-- The selection changes: Cairn source 23, SWITCHES, the gains, the pull (R379, R382, R383). -/
def selectSource (n : Nat) (s : State) : State :=
  let s := (s.setRf rDTM_REF_STAT DTM_REF_STAT.SEL n).setRb rDTM_REF_STAT DTM_REF_STAT.HOLD false
  let s := cairnEvent 23 false (s.bumpSat rDTM_SWITCH_CNT DTM_SWITCH_CNT.SWITCHES)
  let s := onDtm (fun x => { x with pi := 0, piNext := s.timeValid && n != 5, holdN := 0 }) s
  let s := setGains s
  if n = 5 ∧ servoMode s then setSrvI (sfget DTM_REF_XOTRIM.TRIM (s.reg rDTM_REF_XOTRIM)) s else s

/-- Entry to holdover (R379, R384). -/
def enterHold (s : State) : State :=
  let s := s.setRb rDTM_REF_STAT DTM_REF_STAT.HOLD true
  let s := (s.bumpSat rDTM_SWITCH_CNT DTM_SWITCH_CNT.SWITCHES).bumpSat rDTM_SWITCH_CNT DTM_SWITCH_CNT.HOLDS
  let s := onDtm (fun x => { x with holdN := 0, pi := 0, piNext := false }) (cairnEvent 23 false s)
  let h := holdValue s
  let s := if servoMode s then addendTake (0x40000000 + h) (setSrvI h s) else s
  raise srcHoldover s

/-- The selector at a boundary (R377, R380, R381). -/
def selector (s : State) : State :=
  let sel := s.rf rDTM_REF_STAT DTM_REF_STAT.SEL
  let all := idxs 0 6
  if s.rb rDTM_REF_CTL DTM_REF_CTL.FORCE then
    let f := min 5 (s.rf rDTM_REF_CTL DTM_REF_CTL.FSRC)
    let dead := f != 5 && decide (losOf s f ≤ (refOf s f).age)
    let s := s.setRb rDTM_REF_STAT DTM_REF_STAT.FORCED true
    if dead then
      if !inHold s then setGains ((enterHold s).setRf rDTM_REF_STAT DTM_REF_STAT.SEL f)
      else if sel = f then s
      else
        setGains (cairnEvent 23 false
          ((s.setRf rDTM_REF_STAT DTM_REF_STAT.SEL f).bumpSat rDTM_SWITCH_CNT DTM_SWITCH_CNT.SWITCHES))
    else if sel = f ∧ !inHold s then s else selectSource f s
  else
    let s := s.setRb rDTM_REF_STAT DTM_REF_STAT.FORCED false
    if inHold s then
      let c := highest s (all.filter fun n => qualified s n &&
        (n != 5 || all.all fun m => m == 5 || !ranksAbove s m 5))
      match c with
      | some n => if 1 ≤ s.dtm.holdN then selectSource n s else s
      | none => s
    else if 6 ≤ sel ∨ !qualified s sel then enterHold s
    else if s.rb rDTM_REF_CTL DTM_REF_CTL.REVERT then
      match highest s (all.filter fun n => qualified s n && ranksAbove s n sel) with
      | some n => selectSource n s
      | none => s
    else s

/-- Π at a boundary: its magnitude falls by SLOPE × T (R382). -/
def pullBoundary (s : State) : State :=
  let slope := min 10000 (max 1 (s.rf rDTM_REF_SLOPE DTM_REF_SLOPE.SLOPE))
  let d : Int := if s.cyc.fam < 2 then slope * 2 ^ 32 / 8000 else slope * 2 ^ 32 / 7350
  let p := s.dtm.pi
  let p := if 0 ≤ p then max 0 (p - d) else min 0 (p + d)
  let s := onDtm (fun x => { x with pi := p }) s
  let s := s.setRb rDTM_REF_STAT DTM_REF_STAT.PULL (p != 0)
  s.setReg rDTM_PULL (BitVec.ofInt 64 (Int.tdiv p 65536))

/-- A product with a gain M × 2^−E, rounded toward minus infinity (R354). -/
def gainMul (kreg : W64) (th : Int) : Int :=
  let e := fget DTM_SRV_KP.E kreg
  th * (fget DTM_SRV_KP.M kreg : Int) / ((2 ^ e : Nat) : Int)

/-- A value of the servo within ±1000 ppm. -/
def servoClamp (v : Int) : Int := if v < -0x10624e then -0x10624e else if 0x10624e < v then 0x10624e else v

/-- A servo update counts toward TIME_VALID (R356); the state, and whether the UNLOCK condition is met. -/
def lockCount (th : Int) (s : State) : Bool × State :=
  let m := th.natAbs
  let lock := s.rf rDTM_SRV_THR DTM_SRV_THR.LOCK_THR * 65536
  let unlock := s.rf rDTM_SRV_THR DTM_SRV_THR.UNLOCK_THR * 65536
  let ln := if m ≤ lock then s.dtm.lockN + 1 else 0
  let un := if unlock < m then s.dtm.unlockN + 1 else 0
  let s := onDtm (fun x => { x with lockN := min ln 256, unlockN := min un 256 }) s
  let lost := decide (max 1 (s.rf rDTM_SRV_CNT DTM_SRV_CNT.UNLOCK_CNT) ≤ un)
  let s := if lost then setTimeValid false s
    else if max 1 (s.rf rDTM_SRV_CNT DTM_SRV_CNT.LOCK_CNT) ≤ ln then setTimeValid true s else s
  (lost, s)

/-- The servo at a boundary on the samples of the cycle that ends (R354): the UNLOCK condition, and the state. A
step it makes waits for the next tick. -/
def servo (s : State) : Bool × State :=
  let sel := s.rf rDTM_REF_STAT DTM_REF_STAT.SEL
  let r := refOf s sel
  if !servoMode s || inHold s || decide (6 ≤ sel) || r.fresh == 0 then (false, s)
  else
    let th := r.theta.getD 0 - s.dtm.pi / 65536
    let s := s.setRf rDTM_SRV_SKIP DTM_SRV_SKIP.CNT (min 65535 (s.rf rDTM_SRV_SKIP DTM_SRV_SKIP.CNT + (r.fresh - 1)))
    let s := s.setReg rDTM_SRV_OFS (BitVec.ofInt 64 th)
    if !s.timeValid ∧ (s.reg rDTM_SRV_STEP).toNat * 65536 < th.natAbs then
      (false, onDtm (fun x => { x with stepPend := some (x.stepPend.getD 0 + th), lockN := 0, unlockN := 0 }) s)
    else
      let i := servoClamp (srvI s + gainMul (s.reg rDTM_SRV_KI) th)
      let y := servoClamp (i + gainMul (s.reg rDTM_SRV_KP) th)
      let s := if sel = 5 then addendTake (0x40000000 + srvI s) s
               else addendTake (0x40000000 + y) (setSrvI i s)
      lockCount th s

/-- Datum at a cycle boundary: the samples of SAP and XO, the monitors, the servo, the selector, the pull, the
second in progress (R354, R372 to R385). While domain 119 is not powered nothing of it acts. -/
def datumBoundary (s : State) : State :=
  if !s.domOn 119 then
    (forEach (idxs 0 6) (fun n t => setRef n Ref.init t) (onDtm (fun x => { x with wclk := false, secOk := false }) s))
  else
    let p := s.rf rDTM_REF_IN DTM_REF_IN.SAPSEL
    let s := if sapMode (sapOf s p) = 2 ∧ sapState s p = 3 then
        refSample 3 (sapOf s p).off s
      else s
    let s := refSample 5 0 s
    let r := servo s
    let sel := s.rf rDTM_REF_STAT DTM_REF_STAT.SEL
    let s := r.2
    let s := forEach (idxs 0 6) (fun n t => monitor (r.1 && n == sel) n t) s
    let s := selector s
    let s := if inHold s then onDtm (fun x => { x with holdN := x.holdN + 1 }) s else s
    let s := if servoMode s && inHold s && decide (s.rf rDTM_SRV_CNT DTM_SRV_CNT.HOLD_TV < s.dtm.holdN) then
        setTimeValid false s
      else s
    let s := pullBoundary s
    let ok := servoMode s && s.timeValid && !inHold s && s.dtm.pi == 0
    let s := holdSecond s
    let s := onDtm (fun x => { x with
      secSum := x.secSum + srvI s, secN := x.secN + 1, secOk := x.secOk && ok, wclk := false }) s
    showHold (forEach (idxs 0 6)
      (fun n t => let r := refOf t n; setRef n { r with fresh := 0, age := min (r.age + 1) 65535 } t) s)

/-- A write of MODE, which changes it (R354, R356, R377, R384). -/
def modeWrite (servo : Bool) (s : State) : State :=
  if servoMode s = servo then s
  else
    let s := setSrvI (ctlY s) (s.setRb rDTM_CTL DTM_CTL.MODE servo)
    let s := setTimeValid false (clearHistory s)
    let s := (s.setRf rDTM_REF_STAT DTM_REF_STAT.SEL 7).setRb rDTM_REF_STAT DTM_REF_STAT.HOLD true
    onDtm (fun x => { x with pi := 0, piNext := false, holdN := 0, lockN := 0, unlockN := 0 }) s

/-! ### Pulse outputs (R386, R387) -/

/-- An edge of DTM_PPSO, where one is due; its rise signals Cairn source 20 (R364, R386). -/
def ppsoEdge (s : State) : State :=
  let us := min 999999 (max 1 (s.rf rDTM_PPSO_CTL DTM_PPSO_CTL.WIDTH))
  let x := pulseEdge (s.rb rDTM_PPSO_CTL DTM_PPSO_CTL.EN) (ppsoGrid s) (us * 1000 * 2 ^ 28) s.dtm.tb (addend s) s.dtm.ppso
  let rise := x.high && !s.dtm.ppso.high
  let s := onDtm (fun d => { d with ppso := x }) s
  if rise then cairnEvent 20 false s else s

/-- An edge of DTM_FRMO, where one is due; it stays high for half its period, rounded down to 0.5 ns (R386). -/
def frmoEdge (s : State) : State :=
  let g := frmoGrid s
  onDtm (fun d => { d with
    frmo := pulseEdge (s.rb rDTM_FRMO_CTL DTM_FRMO_CTL.EN) g (g.1 / g.2.1 * 2 ^ 27) s.dtm.tb (addend s) s.dtm.frmo }) s

/-- The registers of DTM_PPSO and DTM_FRMO take value v at address a (R386). -/
def ppsoWrite (a : Nat) (v : W64) (s : State) : State :=
  let t := s.setReg a v
  onDtm (fun d => { d with
    ppso := pulseWritten (s.rb rDTM_PPSO_CTL DTM_PPSO_CTL.EN) (ppsoGrid t) d.tb d.ppso }) t
def frmoWrite (a : Nat) (v : W64) (s : State) : State :=
  let t := s.setReg a v
  onDtm (fun d => { d with
    frmo := pulseWritten (s.rb rDTM_FRMO_CTL DTM_FRMO_CTL.EN) (frmoGrid t) d.tb d.frmo }) t

/-! ### Synthesizers (R388 to R391) -/

/-- The VCO frequency of SYNn in Hz for a configuration, at rate r = 1 (R388). -/
def vcoHz (nint pdiv frac : Nat) : Frac := (Frac.quot 25000000 (pdiv + 1)).mul (Frac.quot (nint * 2 ^ 24 + frac) (2 ^ 24))

/-- A configuration is one R388 refuses. -/
def synBad (nint pdiv frac odiv : Nat) : Bool :=
  let f := vcoHz nint pdiv frac
  decide (nint < 16) || decide (255 < nint) || decide (odiv < 8) || decide (1023 < odiv) ||
    !((Frac.ofNat 2400000000).le (f.mul (Frac.quot 999 1000))) ||
    !((f.mul (Frac.quot 1001 1000)).le (Frac.ofNat 3200000000))

/-- The divider value that SYNn's registers and ADDEND give now, in units of 2⁻²⁴, truncated (R388). -/
def dividerNow (s : State) (n : Nat) : Nat :=
  (s.rf (rSYN_CTL n) SYN_CTL.NINT * 2 ^ 24 + s.rf (rSYN_FRAC n) SYN_FRAC.FRAC) * addend s / 2 ^ 30

/-- SYNn takes that value: at each boundary, and when its configuration is written (R388). -/
def takeDivider (n : Nat) (s : State) : State :=
  onDtm (fun d => { d with syn := tset d.syn Syn.init n { tget d.syn Syn.init n with divider := dividerNow s n } }) s

/-- The SYNn clock in Hz (R388). -/
def synHz (s : State) (n : Nat) : Frac :=
  let pdiv := s.rf (rSYN_CTL n) SYN_CTL.PDIV
  let f := if s.rb (rSYN_CTL n) SYN_CTL.TRACK then vcoHz 0 pdiv (tget s.dtm.syn Syn.init n).divider
    else vcoHz (s.rf (rSYN_CTL n) SYN_CTL.NINT) pdiv (s.rf (rSYN_FRAC n) SYN_FRAC.FRAC)
  f.mul (Frac.quot 1 (max 1 (s.rf (rSYN_DIV n) SYN_DIV.ODIV)))

/-- A write of SYNn is refused (R388). -/
def synRefuse (n : Nat) (s : State) : State := raise srcSynCfg (s.setRb (rSYN_STAT n) SYN_STAT.CFG_ERR true)

/-- A write of SYN_CTL_n: checked; a change of EN, NINT or PDIV relocks; clearing ALIGN allows alignment again
after a set or step (R388, R389, R391). -/
def synCtlWrite (n : Nat) (v : W64) (s : State) : State :=
  if synBad (fget SYN_CTL.NINT v) (fget SYN_CTL.PDIV v) (s.rf (rSYN_FRAC n) SYN_FRAC.FRAC) (s.rf (rSYN_DIV n) SYN_DIV.ODIV)
  then synRefuse n s
  else
    let old := s.reg (rSYN_CTL n)
    let relock := [SYN_CTL.EN, SYN_CTL.NINT, SYN_CTL.PDIV].any fun f => fget f old != fget f v
    let s := s.setReg (rSYN_CTL n) v
    let s := if relock then (s.setRb (rSYN_STAT n) SYN_STAT.LOCK false).setRb (rSYN_STAT n) SYN_STAT.ALIGNED false else s
    let x := tget s.dtm.syn Syn.init n
    let on := fget SYN_CTL.ALIGN v == 1
    takeDivider n (onDtm (fun d => { d with
      syn := tset d.syn Syn.init n { x with near := if relock || !on then 0 else x.near, stopped := x.stopped && on && fget SYN_CTL.ALIGN old == 1 } }) s)

/-- A write of SYN_FRAC_n: the frequency moves without a relock (R388, R389). -/
def synFracWrite (n frac : Nat) (s : State) : State :=
  if synBad (s.rf (rSYN_CTL n) SYN_CTL.NINT) (s.rf (rSYN_CTL n) SYN_CTL.PDIV) frac (s.rf (rSYN_DIV n) SYN_DIV.ODIV)
  then synRefuse n s else takeDivider n (s.setRf (rSYN_FRAC n) SYN_FRAC.FRAC frac)

/-- A write of SYN_DIV_n (R388, R389). -/
def synDivWrite (n : Nat) (v : W64) (s : State) : State :=
  if synBad (s.rf (rSYN_CTL n) SYN_CTL.NINT) (s.rf (rSYN_CTL n) SYN_CTL.PDIV) (s.rf (rSYN_FRAC n) SYN_FRAC.FRAC)
      (fget SYN_DIV.ODIV v)
  then synRefuse n s else s.setReg (rSYN_DIV n) v

/-- SYNn reaches lock (R389). -/
def synLock (n : Nat) (s : State) : State :=
  if s.rb (rSYN_CTL n) SYN_CTL.EN then s.setRb (rSYN_STAT n) SYN_STAT.LOCK true else s

/-- SYNn loses lock (R389). -/
def synUnlock (n : Nat) (s : State) : State :=
  if s.rb (rSYN_STAT n) SYN_STAT.LOCK then
    let s := (s.setRb (rSYN_STAT n) SYN_STAT.LOCK false).setRb (rSYN_STAT n) SYN_STAT.ALIGNED false
    raise (srcSynUnlock n) (s.setRb (rSYN_STAT n) SYN_STAT.UNLOCK true)
  else s

/-- A write of STEP adds to PEND; ignored while ALIGN is set (R390). A sum that 16 bits do not hold is a free
value. -/
def synStep (n : Nat) (v : BitVec 16) (s : State) : State :=
  if s.rb (rSYN_CTL n) SYN_CTL.ALIGN then s
  else
    let p := sfget SYN_PHASE.PEND (s.reg (rSYN_PHASE n)) + v.toInt
    if clampS 16 p = p then s.setRf (rSYN_PHASE n) SYN_PHASE.PEND (lowBits 16 p)
    else s.tick1.setRf (rSYN_PHASE n) SYN_PHASE.PEND (s.freeVal 16).toNat

/-- SYNn at a boundary: phase steps that fit the cycle are applied; the alignment error, which the synthesizer's
own phase gives and no register fixes, is a free value (R390, R391). -/
def synBoundary (n : Nat) (s : State) : State :=
  let s := takeDivider n s
  let p := sfget SYN_PHASE.PEND (s.reg (rSYN_PHASE n))
  let room : Int := ((synHz s n).mul (Frac.quot 1 (secondCycles s))).floor
  let s := if s.rb (rSYN_STAT n) SYN_STAT.LOCK && p != 0 then
      s.setRf (rSYN_PHASE n) SYN_PHASE.PEND (lowBits 16 (if 0 ≤ p then max 0 (p - room) else min 0 (p + room)))
    else s
  let x := tget s.dtm.syn Syn.init n
  if s.rb (rSYN_CTL n) SYN_CTL.ALIGN && s.rb (rSYN_CTL n) SYN_CTL.TRACK && s.rb (rSYN_STAT n) SYN_STAT.LOCK &&
      !x.stopped then
    let e := (s.freeVal 16).toInt
    let near := if e.natAbs ≤ 4 then min 8 (x.near + 1) else 0
    let s := s.tick1.setRf (rSYN_STAT n) SYN_STAT.AERR (lowBits 16 e)
    let s := onDtm (fun d => { d with syn := tset d.syn Syn.init n { x with near := near } }) s
    if 10 < e.natAbs then s.setRb (rSYN_STAT n) SYN_STAT.ALIGNED false
    else if 8 ≤ near then s.setRb (rSYN_STAT n) SYN_STAT.ALIGNED true else s
  else s

/-! ### PTP timestamps (R361) -/

/-- The PTP registers show the oldest entry. -/
def showPts (s : State) : State :=
  let s := s.setRf rDTM_PTS_CTL DTM_PTS_CTL.LEVEL s.dtm.pts.length
  match s.dtm.pts with
  | [] => ((s.setReg rDTM_PTS_ID 0).setReg rDTM_PTS_SEC 0).setReg rDTM_PTS_NS 0
  | e :: _ =>
    let v := fput DTM_PTS_ID.SEQID (fput DTM_PTS_ID.DOMAIN (fput DTM_PTS_ID.MSG 0 e.msg) e.domain) e.seqId
    let v := fput DTM_PTS_ID.VALID (fput DTM_PTS_ID.PORT (fput DTM_PTS_ID.DIR v (if e.tx then 1 else 0)) e.port) 1
    ((s.setReg rDTM_PTS_ID v).setReg rDTM_PTS_SEC (tbSec e.stamp)).setReg rDTM_PTS_NS (tbNs e.stamp)

/-- A timestamp enters the FIFO, or is dropped (R361). -/
def ptsAdd (e : PtsEntry) (s : State) : State :=
  if s.dtm.pts.length < 16 then showPts (onDtm (fun x => { x with pts := x.pts ++ [e] }) s)
  else raise srcPtsDrop (s.bumpSat rDTM_PTS_CTL DTM_PTS_CTL.DROP)

/-- POP removes the oldest entry. -/
def ptsPop (s : State) : State := showPts (onDtm (fun x => { x with pts := x.pts.tail }) s)

end Sys2Proof.Machine
end

