-- ==== Sys2Proof/Machine/Monitor.lean ====
section
/-! DEFINITION. The 36 deadline monitors and the units they watch (R43 to R52): deadlines, slack, on-time
completions and misses. Monitors 0 to 15 are the Chambers, 16 to 31 the CLE slots, 32 the mix pass, 33 the
Flowstone pass, 34 the bridge pass, 35 the light pass. -/

namespace Sys2Proof.Machine

open Sys2Proof

/-- What unit u is doing. -/
def unitOf (s : State) (u : Nat) : UnitPhase := tget s.cyc.units .idle u

/-- The state with what unit u is doing replaced. -/
def setUnit (u : Nat) (p : UnitPhase) (s : State) : State :=
  { s with cyc := { s.cyc with units := tset s.cyc.units .idle u p } }

/-- The deadline tick of unit u from its release base (R45, R47). -/
def deadlineOf (s : State) (u : Nat) : Nat :=
  let d := fun i => s.cyc.dl.getD i 0
  if u < 16 then
    (match stageOf s u with
      | 1 => d 1
      | 2 => d 3
      | _ => d 4)
  else if u < 32 then (tget s.cle.slots CleSlot.init (u - 16)).cfg.toNat % 65536
  else if u = 32 then d 2
  else if u = 33 then d 0
  else if u = 34 then d 5
  else d 6

/-- The tick from which the deadline of unit u counts: the boundary, or the mid-cycle instant for the second run
of a double-rate slot (R47, R395). -/
def baseTick (s : State) (u : Nat) : Nat :=
  if 16 ≤ u ∧ u < 32 ∧ (tget s.cle.slots CleSlot.init (u - 16)).second then s.cyc.mid else s.cyc.start

/-- The ticks left before the deadline of unit u; none where it has passed. -/
def slackOf (s : State) (u : Nat) : Option Nat :=
  let e := s.dtm.ticks - baseTick s u
  if e ≤ deadlineOf s u then some (deadlineOf s u - e) else none

/-- A monitor's slack field as the signed number it holds. -/
def slackInt (v : Nat) : Int := (BitVec.ofNat 18 v).toInt

/-- Monitor u reports a slack: LAST_SLACK, and MIN_SLACK where it is less (R51). -/
def reportSlack (u v : Nat) (s : State) : State :=
  let s := s.setRf (rDTM_DL_SLACK u) DTM_DL_SLACK.LAST_SLACK v
  if slackInt v < slackInt (s.rf (rDTM_DL_MIN u) DTM_DL_MIN.MIN_SLACK) then
    s.setRf (rDTM_DL_MIN u) DTM_DL_MIN.MIN_SLACK v
  else s

/-- Water table in AUTO gathers a slack of an enabled monitor, or a miss (R79). -/
def wtbGather (u : Nat) (slack : Option Nat) (s : State) : State :=
  if s.wtb.mode ≠ 2 then s
  else
    match slack with
    | some v => if s.wtb.mask.getLsbD u then { s with wtb := { s.wtb with minSlack := min s.wtb.minSlack v } } else s
    | none => { s with wtb := { s.wtb with miss := s.wtb.miss ||| (1#36 <<< u) } }

/-- Monitor u records an on-time completion with its slack (R48, R51). -/
def monitorDone (u slack : Nat) (s : State) : State :=
  let s := wtbGather u (some slack) (reportSlack u slack s)
  { s with cyc := { s.cyc with missed := tset s.cyc.missed false u false } }

/-- Monitor u records a miss: its flag, its counter, the miss value, its TIMING source
with the cycle index (R51, R502). -/
def monitorMiss (u : Nat) (s : State) : State :=
  let s := if u < 32 then s.setBit rDTM_MISS_FLAG_LO u true else s.setBit rDTM_MISS_FLAG_HI (u - 32) true
  let s := raiseD u (BitVec.ofNat 32 s.cyc.idx) (reportSlack u 0x20000 (s.bumpWrap (rDTM_DL_MISS u)))
  let s := wtbGather u none s
  { s with cyc := { s.cyc with missed := tset s.cyc.missed false u true } }

/-- MIN_CLR of monitor u (R51). -/
def minClear (u : Nat) (s : State) : State := s.setRf (rDTM_DL_MIN u) DTM_DL_MIN.MIN_SLACK 0x1FFFF

end Sys2Proof.Machine
end

