-- ==== Sys2Proof/Machine/Trig.lean ====
section
/-! DEFINITION. Sine, cosine and arc tangent to well below the accuracy R405 asks for, in fixed point with 60
fraction bits; the results of the special functions are free values around them. -/

namespace Sys2Proof.Machine

open Sys2Proof

/-- A product of two numbers of 60 fraction bits. -/
def fxMul (a b : Int) : Int := a * b / 2 ^ 60

/-- π and 1/π to 60 fraction bits, rounded toward zero. -/
def fxPi : Int := 3622009729038561421
def fxInvPi : Int := 366986312910250153

/-- One level of the Taylor series of sine (odd = 1) or cosine (odd = 0): 1 − y²/(m(m + 1)) × the rest, from
m = 2k + odd − 1 on, n levels. -/
def fxSeries (odd k n : Nat) (y2 : Int) : Int :=
  match n with
  | 0 => 2 ^ 60
  | n + 1 => 2 ^ 60 - fxMul y2 (fxSeries odd (k + 1) n y2) / (((2 * k + odd) * (2 * k + odd - 1) : Nat) : Int)

/-- The sine of y, from 0 to π/2. -/
def fxSin (y : Int) : Int := fxMul y (fxSeries 1 1 14 (fxMul y y))

/-- The cosine of y, from 0 to π/2. -/
def fxCos (y : Int) : Int := fxSeries 0 1 14 (fxMul y y)

/-- The cosine and the sine of πt, t given with 60 fraction bits and taken modulo 2. -/
def fxCosSin (t : Int) : Int × Int :=
  let u := t % 2 ^ 61
  let q := u / 2 ^ 59
  let y := fxMul fxPi (u % 2 ^ 59)
  let c := fxCos y
  let s := fxSin y
  if q = 0 then (c, s) else if q = 1 then (-s, c) else if q = 2 then (-c, -s) else (s, -c)

/-- The series of arc tangent: z²-levels from the divisor m on, n of them. -/
def fxAtanSeries (m n : Nat) (z2 : Int) : Int :=
  match n with
  | 0 => 2 ^ 60 / (m : Int)
  | n + 1 => 2 ^ 60 / (m : Int) - fxMul z2 (fxAtanSeries (m + 2) n z2)

/-- The arc tangent of z, between −0.415 and 0.415. -/
def fxAtanSmall (z : Int) : Int := fxMul z (fxAtanSeries 1 26 (fxMul z z))

/-- The arc tangent of r, from 0 to 1. -/
def fxAtan (r : Int) : Int :=
  if r ≤ 477555723559750800 then fxAtanSmall r
  else fxPi / 4 + fxAtanSmall ((r - 2 ^ 60) * 2 ^ 60 / (r + 2 ^ 60))

/-- atan2(y, x)/π with 60 fraction bits; 0 when both are 0. -/
def fxAtan2 (y x : Int) : Int :=
  let ax := if x < 0 then -x else x
  let ay := if y < 0 then -y else y
  if ax = 0 ∧ ay = 0 then 0
  else
    let a := if ay ≤ ax then fxAtan (ay * 2 ^ 60 / ax) else fxPi / 2 - fxAtan (ax * 2 ^ 60 / ay)
    let a := if x < 0 then fxPi - a else a
    let v := fxMul a fxInvPi
    if y < 0 then -v else v

/-- A result of n fraction bits that R405 bounds: the value nearest v, and what a free value of dist steps either
way makes of it. -/
def fxNear (n : Nat) (dist : Nat) (pick : BitVec 16) (v : Int) : Int :=
  rndHalfUp v (60 - n) + (pick.toNat % (2 * dist + 1) : Nat) - dist

end Sys2Proof.Machine
end

