-- ==== Sys2Proof/Machine/Echo.lean ====
section
/-! DEFINITION. Values of the CLE's slots, and Echo: its signal, its capture, its ends (R401, R402, R417 to
R420). -/

namespace Sys2Proof.Machine

open Sys2Proof

/-! ### Slots and values (R401, R402) -/

/-- CLE slot n. -/
def cleOf (s : State) (n : Nat) : CleSlot := tget s.cle.slots CleSlot.init n

/-- The state with slot n replaced. -/
def setCle (n : Nat) (x : CleSlot) (s : State) : State :=
  { s with cle := { s.cle with slots := tset s.cle.slots CleSlot.init n x } }

/-- The configuration in effect of a slot: enabled, double-rate, format F16, rounding half-up by default. -/
def CleSlot.on (x : CleSlot) : Bool := cfgOf CLE_SLOT_CFG.EN x.cfg == 1
def CleSlot.double (x : CleSlot) : Bool := cfgOf CLE_SLOT_CFG.RATE x.cfg == 1
def CleSlot.f16 (x : CleSlot) : Bool := cfgOf CLE_SLOT_CFG.FMT x.cfg == 1
def CleSlot.rndUp (x : CleSlot) : Bool := cfgOf CLE_SLOT_CFG.RND x.cfg == 1

/-- Fraction bits and width of a value, and of the accumulator. -/
def valFrac (f16 : Bool) : Nat := if f16 then 15 else 31
def valWidth (f16 : Bool) : Nat := if f16 then 16 else 32
def accFrac (f16 : Bool) : Nat := if f16 then 30 else 48
def accWidth (f16 : Bool) : Nat := if f16 then 40 else 64

/-- The number a value word holds, in its least significant bits. -/
def valInt (f16 : Bool) (w : W32) : Int := if f16 then w.toInt / 65536 else w.toInt

/-- The value word of a number that fits the format. -/
def valWord (f16 : Bool) (x : Int) : W32 := BitVec.ofInt 32 (if f16 then x * 65536 else x)

/-- SAT of slot n is set where a result did not fit (R402). -/
def cleSat (n : Nat) (overrun : Bool) (s : State) : State :=
  if overrun then s.setRb (rCLE_SLOT_STAT n) CLE_SLOT_STAT.SAT true else s

/-! ### Echo -/

/-- The state with Echo's state changed. -/
def onEcho (f : Echo → Echo) (s : State) : State := { s with echo := f s.echo }

/-- Echo runs. -/
def echoBusy (s : State) : Bool := s.rb rECHO_STAT ECHO_STAT.BUSY

/-- The slot Echo targets. -/
def echoSlot (s : State) : Nat := cfgOf ECHO_CTL.SLOT s.echo.ctl

/-- The order and the tap of a PRBS code (R417). -/
def prbsOrder (ord : Nat) : Nat × Nat :=
  match ord with
  | 1 => (9, 5)
  | 2 => (10, 7)
  | 3 => (11, 9)
  | 4 => (15, 14)
  | _ => (7, 6)

/-- A trigger (R418): the parameters are taken, or the trigger is ignored and counted. -/
def echoTrigger (s : State) : State :=
  if echoBusy s then s.bumpSat rECHO_CNT ECHO_CNT.TRIG_IGN
  else
    let w := fun a => (s.reg a).setWidth 32
    let ord := prbsOrder (cfgOf ECHO_PRBS.ORD (w rECHO_PRBS))
    let seed := cfgOf ECHO_PRBS.SEED (w rECHO_PRBS) % 2 ^ ord.1
    let slot := cfgOf ECHO_CTL.SLOT (w rECHO_CTL)
    let e : Echo :=
      { buf := s.echo.buf, ctl := w rECHO_CTL, amp := w rECHO_AMP, dph0 := w rECHO_DPH0, len := w rECHO_LEN
        prbs := w rECHO_PRBS, sine := w rECHO_SINE, sine2 := w rECHO_SINE2, pre := w rECHO_PRE
        f16 := (cleOf s slot).f16, n := 0, lfsr := if seed = 0 then 1 else seed, bit := false
        phi := 0, dph := w rECHO_DPH0, step := 0, inStep := 0, dec := 0, last := 0 }
    let s := onEcho (fun _ => e) s
    (s.setRb rECHO_STAT ECHO_STAT.BUSY true).setRf rECHO_STAT ECHO_STAT.IDX 0

/-- Echo ends (R420). -/
def echoEnd (s : State) : State :=
  if echoBusy s then
    let n := echoSlot s
    let s := setCle n { cleOf s n with echoCap := false } s
    (((s.setRb rECHO_STAT ECHO_STAT.BUSY false).setRb rECHO_STAT ECHO_STAT.DONE true).setReg rECHO_X 0)
  else s

/-- The number AMP stands for, and its negation saturated. -/
def echoAmp (e : Echo) : Int := valInt e.f16 e.amp
def echoNeg (e : Echo) : Int := clampS (valWidth e.f16) (- echoAmp e)

/-- The signal of the next run of the target: x, and Echo as it stands after the run's release (R417). The
accuracy of the sine is the one R405 gives sincos (notes/assumptions/28.md). -/
def echoSignal (pick : BitVec 16) (e : Echo) : Int × Echo :=
  match cfgOf ECHO_CTL.SIG e.ctl with
  | 0 => (0, e)
  | 1 =>
    let hold := max 1 (cfgOf ECHO_PRBS.HOLD e.prbs)
    let ord := prbsOrder (cfgOf ECHO_PRBS.ORD e.prbs)
    let b := (e.lfsr / 2 ^ (ord.1 - 1) + e.lfsr / 2 ^ (ord.2 - 1)) % 2
    let e := if e.n % hold = 0 then { e with lfsr := (2 * e.lfsr + b) % 2 ^ ord.1, bit := b == 1 } else e
    (if e.bit then echoAmp e else echoNeg e, e)
  | 2 =>
    let sn := (fxCosSin (e.phi.toNat * 2 ^ 29)).2
    let v := fxMul sn (echoAmp e * 2 ^ (60 - valFrac e.f16))
    let x := clampS (valWidth e.f16) (fxNear (valFrac e.f16) (if e.f16 then 2 else 513) pick v)
    let dwell := max 1 (cfgOf ECHO_SINE.DWELL e.sine)
    if e.inStep + 1 < dwell then (x, { e with phi := e.phi + e.dph, inStep := e.inStep + 1 })
    else
      let g := cfgOf ECHO_SINE.G e.sine
      (x, { e with phi := 0, inStep := 0, step := e.step + 1
                   dph := BitVec.ofNat 32 (e.dph.toNat * (65536 + g) / 65536) })
  | _ => (if e.n < cfgOf ECHO_PRE.PRE e.pre then 0 else echoAmp e, e)

/-- The run whose release this is is one that Echo captures: every DEC-th, not within SETTLE (R419). -/
def echoCaptures (e : Echo) : Bool :=
  e.n % max 1 (cfgOf ECHO_LEN.DEC e.len) == 0 &&
    !(cfgOf ECHO_CTL.SIG e.ctl == 2 && decide (e.inStep < cfgOf ECHO_SINE2.SETTLE e.sine2))

/-- Slot n is released: where it is Echo's target, its run has its signal (R417 to R419). -/
def echoRelease (n : Nat) (s : State) : State :=
  if echoBusy s && echoSlot s == n then
    let cap := echoCaptures s.echo
    let r := echoSignal (s.freeVal 16) s.echo
    let w := valWord s.echo.f16 r.1
    let s := onEcho (fun _ => { r.2 with n := r.2.n + 1 }) s.tick1
    (setCle n { cleOf s n with inj := some w, echoCap := cap } s).setReg rECHO_X (w.setWidth 64)
  else setCle n { cleOf s n with inj := none, echoCap := false } s

/-- A half of an entry: (value << CSH) saturated, rounded half-up at bit 16 (R419). -/
def echoHalf (csh : Nat) (v : W32) : Nat :=
  lowBits 16 (clampS 16 (rndHalfUp (clampS 32 (v.toInt * 2 ^ csh)) 16))

/-- The entry of two values: vA in bits [15:0], vB in bits [31:16]. -/
def echoEntry (csh : Nat) (c : W32 × W32) : W32 := BitVec.ofNat 32 (echoHalf csh c.2 * 65536 + echoHalf csh c.1)

/-- One more entry; at LEN entries Echo ends (R419, R420). -/
def echoWrite (v : W32) (s : State) : State :=
  let i := s.rf rECHO_STAT ECHO_STAT.IDX
  let len := cfgOf ECHO_LEN.LEN s.echo.len
  let len := if len = 0 ∨ 8192 < len then 8192 else len
  let s := onEcho (fun e => { e with buf := tset e.buf (Config.clearedWord 32) i v, last := v }) s
  let s := s.setRf rECHO_STAT ECHO_STAT.IDX (i + 1)
  if len ≤ i + 1 then echoEnd s else s

/-- A run of slot n is over, published (true) or missed: the entry of a captured run, and the end of the last
step of a stepped sine (R419, R420). A captured run that executed no cap has a free value for its entry. -/
def echoRunOver (n : Nat) (published : Bool) (s : State) : State :=
  let x := cleOf s n
  let s :=
    if x.echoCap && echoBusy s then
      if published then
        match x.cap with
        | some c => echoWrite (echoEntry (cfgOf ECHO_CTL.CSH s.echo.ctl) c) s
        | none => echoWrite (s.freeVal 32) s.tick1
      else echoWrite s.echo.last (s.bumpSat rECHO_CNT ECHO_CNT.MISSN)
    else s
  let s := setCle n { cleOf s n with echoCap := false } s
  if echoBusy s && x.inj.isSome && cfgOf ECHO_CTL.SIG s.echo.ctl == 2 &&
      decide (max 1 (cfgOf ECHO_SINE2.NSTEP s.echo.sine2) ≤ s.echo.step) then echoEnd s
  else s

/-- A write of ECHO_CTL: its fields are stored, ABORT ends Echo, GO triggers it (R418, R420). -/
def echoCtlWrite (go abort : Bool) (s : State) : State :=
  let s := if abort then echoEnd s else s
  if go then echoTrigger s else s

end Sys2Proof.Machine
end

