-- ==== Sys2Proof/Machine/Domains.lean ====
section
/-! DEFINITION. Switched domains as the units use them: modes, wakes, the sleep transition, the domains of each unit and
their sleep after it (R63, R64, R69 to R71, R74). -/

namespace Sys2Proof.Machine

open Sys2Proof

/-- AUTO acts on domain n (R64). -/
def autoDomain (n : Nat) : Bool :=
  (decide (n < 80) && n % 5 != 1) || (decide (112 ≤ n) && decide (n ≤ 115)) || n == 123 || n == 124

/-- Domain n is a memory domain (R64). -/
def memDomain (n : Nat) : Bool :=
  (decide (n < 80) && decide (2 ≤ n % 5)) || (decide (80 ≤ n) && decide (n ≤ 115)) ||
    [118, 119, 122, 124, 132, 133, 134].contains n

/-- The mode in effect of domain n: AUTO acts as ON where it does not act (R64). -/
def domMode (s : State) (n : Nat) : Nat :=
  let m := (domOf s n).mode
  if m = 1 ∧ !autoDomain n then 0 else m

/-- PWR_DOM_STAT_n.STATE. -/
def domState (s : State) (n : Nat) : Nat := s.rf (rPWR_DOM_STAT n) PWR_DOM_STAT.STATE
def setDomState (n st : Nat) (s : State) : State := s.setRf (rPWR_DOM_STAT n) PWR_DOM_STAT.STATE st

/-- Domain n begins to wake, switched on as the limit allows: STATE reads waking meanwhile (R70;
notes/assumptions/81.md). During the sleep transition it wakes at its end (R74). -/
def domWake (n : Nat) (s : State) : State :=
  let d := domOf s n
  if d.sleeping then setDom n { d with wakeReq := true } s
  else if 2 ≤ domState s n then switchAt s.dtm.ticks (setDomState n 1 (setDom n { d with queued := true } s))
  else s

/-- Domain n enters state st, 2 or 3, through the sleep transition (R74). -/
def domSleep (n st : Nat) (s : State) : State :=
  setDom n { domOf s n with sleeping := true, wakeReq := false } (setDomState n st s)

/-! ### The domains of a unit (R69, R71) -/

/-- The domains of unit u. -/
def unitDomains (u : Nat) : List Nat :=
  if u < 16 then idxs (5 * u) 5 else if u < 32 then [123, 124] else if u = 32 then idxs 112 4 else []

/-- The block of RST_BLK that holds unit u (R86). -/
def unitBlock (u : Nat) : Nat :=
  if u < 16 then u else if u < 32 then 20 else if u = 33 then 18 else if u = 35 then 22 else 17

/-- Some CLE slot that is enabled runs at double rate. -/
def cleDoubles (s : State) : Bool := (idxs 0 16).any fun n => (cleOf s n).on && (cleOf s n).double

/-- The tick of the next release point of domain n: the boundary or, for the CLE's domains with a slot at double rate,
the mid-cycle instant (R70). -/
def releasePoint (s : State) (n : Nat) : Nat :=
  if (n = 123 ∨ n = 124) ∧ !s.cyc.midDone ∧ cleDoubles s then midTick s else boundaryTick s

/-- A release point of domain n releases a unit of it: a Chamber in a stage, the mix pass, an enabled CLE slot (R44,
R69, R70). -/
def domReleases (s : State) (n : Nat) : Bool :=
  if n < 80 then stageOf s (n / 5) != 0
  else if n < 116 then true
  else (idxs 0 16).any fun k => (cleOf s k).on

/-- Domain n sleeps under AUTO and the wake lead of a release point that releases its unit has come (R70). -/
def leadDue (s : State) (n : Nat) : Bool :=
  domMode s n == 1 && decide (2 ≤ domState s n) && domReleases s n &&
    decide (releasePoint s n ≤ s.dtm.ticks + s.rf rPWR_WAKE_LEAD PWR_WAKE_LEAD.TICKS)

/-- The AUTO domains of the release point whose lead has come, up to domain n, begin to wake in ascending order
(R70). -/
def leadWakes (n : Nat) (s : State) : State := forEach ((idxs 0 (n + 1)).filter (leadDue s)) domWake s

/-- The wake lead of a release point switches domain n on, after the lower domains of the same release (R70). -/
def leadWake (n : Nat) (s : State) : State := if n < 136 ∧ leadDue s n then leadWakes n s else s

/-- Unit u has completed or missed: its domains in AUTO sleep, unless held or due to wake within MIN_OFF
(R68, R71). The CLE's domains serve every slot. -/
def autoSleep (u : Nat) (s : State) : State :=
  let busy := decide (16 ≤ u) && decide (u < 32) && (idxs 16 16).any fun v =>
    match unitOf s v with
    | .running | .waking => true
    | _ => false
  if busy then s
  else
    forEach (unitDomains u)
      (fun n t =>
        let wake := releasePoint t n - t.dtm.ticks - t.rf rPWR_WAKE_LEAD PWR_WAKE_LEAD.TICKS
        if domMode t n = 1 ∧ !t.rb (rPWR_DOM_CTL n) PWR_DOM_CTL.HOLD ∧ t.domOn n ∧
            t.rf rPWR_MIN_OFF PWR_MIN_OFF.TICKS ≤ wake then
          domSleep n (if memDomain n then 2 else 3) t
        else t) s

end Sys2Proof.Machine
end

