-- ==== Sys2Proof/Machine/Pwm.lean ====
section
/-! DEFINITION. PWM groups: pairs, reloads, edges, events (R421 to R429). -/

namespace Sys2Proof.Machine

open Sys2Proof

/-- The outputs of group g, the first of which gives an axis its period (R421). -/
def pwmOutputs (g : Nat) : List Nat := if g < 4 then idxs (6 * g) 6 else [20 + g]

/-- The group of output n (R421). -/
def pwmGroup (n : Nat) : Nat := if n < 24 then n / 6 else n - 20

/-- The power domain of group g (R421). -/
def pwmDomain (g : Nat) : Nat := if g < 2 then 127 else 128

/-- Output n is a low side of an axis. -/
def pwmLowSide (n : Nat) : Bool := decide (n < 24) && n % 2 == 1

/-- PERIOD of output n, values below 16 acting as 16 (R423). -/
def pwmPeriod (s : State) (n : Nat) : Nat := max 16 (s.rf (rPWM_DP n) PWM_DP.PERIOD)

/-- The high time of a duty over a period of p ticks, before the Gate (R423). -/
def highTime (duty : W32) (p minpw : Nat) : Nat :=
  let h := (if duty.toInt < 0 then 0 else duty.toNat) * p * 32 / 2 ^ 31
  let h := if h < minpw then 0 else h
  if p * 32 < h + minpw then p * 32 else h

/-- Output n takes its pair with the period p (R423, R482). -/
def reloadOutput (g p n : Nat) (s : State) : State :=
  let h := highTime (BitVec.ofNat 32 (s.rf (rPWM_DP n) PWM_DP.DUTY)) p (s.rf (rPWM_CTL g) PWM_CTL.MINPW)
  let b := if g < 4 then (h, false) else gateBound (g - 4) h p s
  let v := fput PWM_CUR.PERIOD (fput PWM_CUR.HT 0 b.1) p
  let s := s.setReg (rPWM_CUR n) (fput PWM_CUR.GCLAMP v (if b.1 < h then 1 else 0))
  if g < 4 then s else s.setBit rGTE_LIM (g - 4) b.2

/-- The group beside its registers. -/
def pwmOf (s : State) (g : Nat) : PwmGrp := tget s.pwm PwmGrp.init g

/-- The ticks of the period in use. -/
def pwmTicks (s : State) (g : Nat) : Nat := max 16 (s.rf (rPWM_CUR ((pwmOutputs g).headD 0)) PWM_CUR.PERIOD)

/-- The tick of the SYNC restart of this cycle: P_S after the boundary (R422). -/
def pwmRestart (s : State) (g : Nat) : Nat :=
  s.cyc.start + s.rf (rPWM_PHASE g) PWM_PHASE.PHASE % (if s.cyc.fam < 2 then 31250 else 34013)

/-- Whether a reload of group g is due, and if so whether a SYNC restart has cut the period short: with SYNC set at the
restart of each cycle, and in either case at the end of the period. The first reload of a group without SYNC falls at any
tick from EN on (R422, R428). -/
def pwmDue (s : State) (g : Nat) : Option Bool :=
  let x := pwmOf s g
  let now := s.dtm.ticks
  let sync := s.rb (rPWM_CTL g) PWM_CTL.SYNC
  let r := pwmRestart s g
  match x.reload with
  | none => if sync && (decide (r < x.since) || decide (now < r)) then none else some false
  | some t =>
    if sync && decide (t < r) && decide (r ≤ now) then some (decide (r < t + pwmTicks s g))
    else if t + pwmTicks s g ≤ now then some false
    else none

/-- Group g runs its timebase: EN is set, its domain is on, and the PWM block is not held in reset. -/
def pwmRuns (s : State) (g : Nat) : Bool := s.rb (rPWM_CTL g) PWM_CTL.EN && s.domOn (pwmDomain g) && !s.held 21

/-- A reload of group g, where one is due (R422, R423, R426, R428, R429, R479). -/
def pwmReload (g : Nat) (s : State) : State :=
  if !pwmRuns s g then s
  else
    match pwmDue s g with
    | none => s
    | some cut =>
      let s := releaseAtReload g s
      let s := s.setRb (rPWM_STAT g) PWM_STAT.RUN true
      let s := if cut then s.setRb (rPWM_STAT g) PWM_STAT.RESYNC_CUT true else s
      let s := { s with
        pwm := tset s.pwm PwmGrp.init g { pwmOf s g with reload := some s.dtm.ticks, centred := false } }
      let p := pwmPeriod s ((pwmOutputs g).headD 0)
      let s := if s.rb (rPWM_CTL g) PWM_CTL.HOLD then s
               else showLedPower (forEach ((pwmOutputs g).filter fun n => !pwmLowSide n) (reloadOutput g p) s)
      adcEvent (0x10 + g) s

/-- The ticks from a reload of group g to its CENTRE event: TRG_OFS after the midpoint, at most PERIOD/2 − 1 (R429). -/
def pwmMidpoint (s : State) (g : Nat) : Nat :=
  let half := pwmTicks s g / 2
  half + min (s.rf (rPWM_TRG g) PWM_TRG.TRG_OFS) (half - 1)

/-- The CENTRE event of group g, where it is due: once in a period, and not after a restart has cut it (R429). -/
def pwmCentre (g : Nat) (s : State) : State :=
  let x := pwmOf s g
  match x.reload with
  | none => s
  | some t =>
    if pwmRuns s g && s.rb (rPWM_STAT g) PWM_STAT.RUN && !x.centred && decide (t + pwmMidpoint s g ≤ s.dtm.ticks) then
      adcEvent (0x20 + g) { s with pwm := tset s.pwm PwmGrp.init g { x with centred := true } }
    else s

/-- What is due of group g at this tick when no command waits (notes/assumptions/1.md). -/
def pwmTick (g : Nat) (s : State) : State := pwmReload g (pwmCentre g s)

/-- A write of the pair of output n: it waits for the reload, and counts as late shortly after one (R425,
R426). -/
def pwmWrite (n : Nat) (v : W64) (s : State) : State :=
  let g := pwmGroup n
  let s := s.setReg (rPWM_DP n) v
  let late := match (pwmOf s g).reload with
    | some t => decide (s.dtm.ticks - t ≤ s.rf (rPWM_TRG g) PWM_TRG.LATE_WIN) && s.rb (rPWM_STAT g) PWM_STAT.RUN
    | none => false
  if late && !s.rb (rPWM_CTL g) PWM_CTL.HOLD then
    (s.setRb (rPWM_STAT g) PWM_STAT.DUTY_LATE true).bumpSat (rPWM_STAT g) PWM_STAT.LATE_CNT
  else s

/-- A write of DUTY that keeps PERIOD: a CLE publication or the light pass (R408, R425, R427). -/
def pwmDuty (n : Nat) (duty : W32) (s : State) : State :=
  pwmWrite n (fput PWM_DP.DUTY (s.reg (rPWM_DP n)) duty.toNat) s

/-- A write of EN: set, the group starts at its next reload; cleared, every output of it goes low (R428). -/
def pwmEnableWrite (g : Nat) (on : Bool) (s : State) : State :=
  let was := s.rb (rPWM_CTL g) PWM_CTL.EN
  let s := s.setRb (rPWM_CTL g) PWM_CTL.EN on
  if was && !on then
    let s := s.setRb (rPWM_STAT g) PWM_STAT.RUN false
    let s := { s with pwm := tset s.pwm PwmGrp.init g PwmGrp.init }
    showLedPower (forEach (pwmOutputs g) (fun n t => t.setReg (rPWM_CUR n) 0) s)
  else if !was && on then
    { s with pwm := tset s.pwm PwmGrp.init g { PwmGrp.init with since := s.dtm.ticks } }
  else s

/-- A write of HOLD (R426). -/
def pwmHoldWrite (g : Nat) (on : Bool) (s : State) : State := s.setRb (rPWM_CTL g) PWM_CTL.HOLD on

/-- The rise of an output in a period of p ticks with high time h, from the period's start in units of 125 ps
(R424). -/
def pwmRise (s : State) (g p h : Nat) : Nat :=
  if s.rb (rPWM_CTL g) PWM_CTL.MODE then p * 32 / 2 - h / 2 else 0

/-- The interval in which a low side is high between a fall of its high side and the next rise: it keeps dt from both,
and is not produced where it would be shorter than MINPW (R424). -/
def lowGap (dt mn fall rise : Nat) : List (Nat × Nat) :=
  if fall + dt < rise - dt ∧ mn ≤ rise - dt - (fall + dt) then [(fall + dt, rise - dt)] else []

/-- The intervals in which output n's ball is high, from the start of a period in units of 125 ps, the low side's running on
to the rise in the next period of the same pair; none while its group does not run, or the Gate holds it safe (R424,
R428, R478). lowGap gives the low side's interval where the next period has another pair. -/
def pwmHigh (s : State) (n : Nat) : List (Nat × Nat) :=
  let g := pwmGroup n
  if !s.rb (rPWM_STAT g) PWM_STAT.RUN || groupSafe s g || !s.domOn (pwmDomain g) then []
  else
    let hs := if pwmLowSide n then n - 1 else n
    let p := s.rf (rPWM_CUR hs) PWM_CUR.PERIOD
    let h := s.rf (rPWM_CUR hs) PWM_CUR.HT
    let rise := pwmRise s g p h
    if !pwmLowSide n then (if h = 0 then [] else [(rise, rise + h)])
    else if h = 0 then [(0, p * 32)]
    else lowGap (s.rf (rPWM_CTL g) PWM_CTL.DT) (s.rf (rPWM_CTL g) PWM_CTL.MINPW) (rise + h) (p * 32 + rise)

end Sys2Proof.Machine
end

