-- ==== Sys2Proof/Machine/Cle.lean ====
section
/-! DEFINITION. The Control Law Engine: configuration, scheduling, runs, every law instruction, publication, the
memory window (R393 to R416). -/

namespace Sys2Proof.Machine

open Sys2Proof

/-! ### Memories and coefficients (R398, R401) -/

/-- Word w of copy k of slot n: 0 to 63 the program, 64 to 143 coefficient values, 144 to 223 shifts. -/
def cleWord (s : State) (n k w : Nat) : W32 := tget s.cle.mem (Config.clearedWord 32) (448 * n + 224 * k + w)

/-- The coefficient entry of kj in region r (R398). -/
def coefEntry (r j : Nat) : Nat := if j < 8 then 8 * r + j else 56 + j

/-- Coefficient kj of region r in copy k: c in the least significant bits of the value format, and e; e is 0 in
F16 (R401). -/
def coefAt (s : State) (n k r j : Nat) : Int × Int :=
  let x := cleOf s n
  let w := cleWord s n k (64 + coefEntry r j)
  if x.f16 then (valInt true w, 0)
  else (w.toInt, (BitVec.ofNat 5 (cleWord s n k (144 + coefEntry r j)).toNat).toInt)

/-- The region in force. -/
def cleRegion (s : State) (n : Nat) : Nat := s.rf (rCLE_SLOT_STAT n) CLE_SLOT_STAT.REG

/-- Coefficient kj of the run in progress. -/
def coef (s : State) (n j : Nat) : Int × Int := coefAt s n (cleOf s n).bank (cleRegion s n) j

/-- x × 2^e rounded toward minus infinity. -/
def shiftInt (x e : Int) : Int := if 0 ≤ e then x * 2 ^ e.toNat else x / 2 ^ e.natAbs

/-- A coefficient product term in the least significant bits of acc, truncated toward minus infinity (R402). -/
def coefTerm (f16 : Bool) (v : Int) (k : Int × Int) : Int := if f16 then v * k.1 else shiftInt (v * k.1) (k.2 - 14)

/-- A product of two values in the least significant bits of acc. -/
def prodTerm (f16 : Bool) (a b : Int) : Int := if f16 then a * b else shiftInt (a * b) (-14)

/-- x of n fraction bits too many, rounded: half-up, or toward minus infinity (R193, R402). -/
def cleRnd (up : Bool) (x : Int) (n : Nat) : Int := if up then rndHalfUp x n else x / 2 ^ n

/-! ### Ports (R406, R407) -/

/-- PORT is an input port. -/
def portIn (p : Nat) : Bool := decide (p < 0x100) || (decide (0x140 ≤ p) && decide (p < 0x180)) || (resultPort p).isSome

/-- PORT is an output port. -/
def portOut (p : Nat) : Bool := decide (p < 0x104) || (decide (0x300 ≤ p) && decide (p < 0x324))

/-- The value of an input port for a run of slot n (R407). -/
def readPort (s : State) (n p : Nat) : W32 :=
  if p < 0x100 then tget (cleOf s n).cs 0 p
  else
    match resultPort p with
    | some r => BitVec.ofNat 32 (s.rf r ADC_RRES.CODE * 2 ^ 19)
    | none => tget (cleOf s ((p - 0x140) / 4)).outs 0 (p % 4)

/-- The control store as it stands (R407). -/
def storeNow (s : State) : Tab W32 :=
  (s.regs.filter fun p => decide (rCFL_CS 0 ≤ p.1) && decide (p.1 ≤ rCFL_CS 255)).map
    fun p => ((p.1 - rCFL_CS 0) / 4, p.2.setWidth 32)

/-! ### Configuration (R397) -/

/-- The least and the greatest deadline of R395: T − 2 µs, or T/2 − 2 µs, in ticks. -/
def cleDlMax (s : State) (double : Bool) : Nat :=
  if s.cyc.fam < 2 then (if double then 15125 else 30750) else (if double then 16506 else 33513)

/-- A list of numbers is strictly ascending. -/
def risingInts : List Int → Bool
  | a :: b :: r => decide (a < b) && risingInts (b :: r)
  | _ => true

/-- The configuration written for slot n is one R397 refuses. HYST, a number of the slot's format, is always below 1.0
(R416). -/
def cleCfgBad (s : State) (n : Nat) : Bool :=
  let cfg := (s.reg (rCLE_SLOT_CFG n)).setWidth 32
  let sched := (s.reg (rCLE_SCHED n)).setWidth 32
  let f16 := cfgOf CLE_SLOT_CFG.FMT cfg == 1
  let double := cfgOf CLE_SLOT_CFG.RATE cfg == 1
  let thr := (idxs 1 (cfgOf CLE_SCHED.NREG sched)).map fun j => valInt f16 ((s.reg (rCLE_THR n j)).setWidth 32)
  let others := ((idxs 0 16).filter fun m => m != n && (cleOf s m).double).length
  decide (cleDlMax s double < cfgOf CLE_SLOT_CFG.DL cfg) || (cfgOf CLE_SCHED.EN sched == 1 && !risingInts thr) ||
    (double && decide (8 ≤ others))

/-- x as R414 reads it for the scheduling of slot n; a port that is no input port gives a free value. -/
def schedX (n : Nat) (s : State) : Int × State :=
  let x := cleOf s n
  let p := cfgOf CLE_SCHED.SRC x.sched
  if portIn p then (valInt x.f16 (readPort s n p), s) else (valInt x.f16 (s.freeVal 32), s.tick1)

/-- THR_r of a slot, r from 1 to 7. -/
def thrOf (x : CleSlot) (r : Nat) : Int := valInt x.f16 (x.thr.getD (r - 1) 0)

/-- The steps up and down of R414 from region r, at most fuel each. -/
def regionUp (x : CleSlot) (hyst v : Int) (nreg fuel r : Nat) : Nat :=
  match fuel with
  | 0 => r
  | f + 1 => if r + 1 < nreg ∧ thrOf x (r + 1) + hyst ≤ v then regionUp x hyst v nreg f (r + 1) else r

def regionDown (x : CleSlot) (hyst v : Int) (fuel r : Nat) : Nat :=
  match fuel with
  | 0 => r
  | f + 1 => if 0 < r ∧ v < thrOf x r - hyst then regionDown x hyst v f (r - 1) else r

/-- The region R414 chooses from region r0 for the value v. -/
def regionFor (x : CleSlot) (hyst v : Int) (r0 : Nat) : Nat :=
  let nreg := cfgOf CLE_SCHED.NREG x.sched + 1
  regionDown x hyst v 8 (regionUp x hyst v nreg 8 (min r0 (nreg - 1)))

/-- The state with region r of slot n in force. -/
def setRegion (n r : Nat) (s : State) : State := s.setRf (rCLE_SLOT_STAT n) CLE_SLOT_STAT.REG r

/-- The written configuration of slot n is taken, or refused (R397); a configuration that is applied sets the
region without hysteresis (R414). -/
def cleConfig (n : Nat) (s : State) : State :=
  if !(cleOf s n).dirty then s
  else
    let bad := cleCfgBad s n
    let s := setCle n { cleOf s n with dirty := false } s
    if bad then raise srcCleCfg (s.setRb rCLE_STAT CLE_STAT.CFG_ERR true)
    else
      let w := fun a => (s.reg a).setWidth 32
      let x := { cleOf s n with
        cfg := w (rCLE_SLOT_CFG n), sched := w (rCLE_SCHED n), hyst := w (rCLE_HYST n)
        thr := (idxs 1 7).map fun j => w (rCLE_THR n j), cs := storeNow s }
      let s := setCle n x s
      if cfgOf CLE_SCHED.EN x.sched = 1 then
        let v := schedX n s
        setRegion n (regionFor x 0 v.1 0) v.2
      else setRegion n 0 s

/-- A write of a configuration register of slot n waits for the slot's next boundary release (R397). -/
def cleDirty (n : Nat) (s : State) : State := setCle n { cleOf s n with dirty := true } s

/-! ### Releases (R393, R394, R400, R414, R415) -/

/-- The exchange of slot n's copies; it ends the request of CMT where FLW_ACT has changed, and at a release that of
REQ (R400). -/
def cleExchange (release : Bool) (n : Nat) (s : State) : State :=
  let x := cleOf s n
  let s := setCle n { x with bank := 1 - x.bank, cmtDue := false } s
  let s := s.setRb (rCLE_SLOT_STAT n) CLE_SLOT_STAT.BANK (x.bank == 0)
  let s := if release then s.setBit rCLE_SWAP n false else s
  if x.cmtDue then s.setBit rCLE_SWAP (16 + n) false else s

/-- FLW_ACT has changed at this boundary: the exchanges that CMT requests are due (R400). -/
def cleActChanged (s : State) : State :=
  forEach ((idxs 0 16).filter fun n => s.rbit rCLE_SWAP (16 + n)) (fun n t => setCle n { cleOf t n with cmtDue := true } t) s

/-- The re-base of R415 for the change from coefficient kOld. -/
def cleRebase (n : Nat) (kOld : Int × Int) (s : State) : State :=
  let x := cleOf s n
  let kNew := coef s n (cfgOf CLE_SCHED.BMP_K x.sched)
  let e := valInt x.f16 (tget x.st 0 (cfgOf CLE_SCHED.BMP_E x.sched))
  let i := cfgOf CLE_SCHED.BMP_I x.sched
  -- coefficients with 16 fraction bits more, for the shifts down to −16
  let d := (kOld.1 * 2 ^ (kOld.2 + 16).toNat - kNew.1 * 2 ^ (kNew.2 + 16).toNat) * e
  let delta := rndHalfUp d (valFrac x.f16 + 16)
  let shown := clampS (valWidth x.f16) delta
  let sum := valInt x.f16 (tget x.st 0 i) + delta
  let y := clampS (valWidth x.f16) sum
  let s := setCle n { x with st := tset x.st 0 i (valWord x.f16 y) } s
  let s := cleSat n (shown != delta || y != sum) s
  (s.setReg (rCLE_REBASE n) ((valWord x.f16 shown).setWidth 64)).bumpSat (rCLE_SLOT_STAT n) CLE_SLOT_STAT.REBASES

/-- Slot n is released: exchange (swap), scheduling, re-base, the control store as it stands, Echo's signal; its
registers and acc are zero (R393, R400, R401, R407, R414, R415, R417). The region before is r0. -/
def cleRelease (n r0 : Nat) (second swap : Bool) (s : State) : State :=
  let x := cleOf s n
  let kOld := coefAt s n x.bank r0 (cfgOf CLE_SCHED.BMP_K x.sched)
  let s := if swap then cleExchange true n s else s
  let x := cleOf s n
  let x := { x with
    live := true, second := second, v := [], acc := 0, pc := 0, cs := storeNow s, ports := [], states := [], cap := none }
  let s := setCle n x s
  let s :=
    if cfgOf CLE_SCHED.EN x.sched = 1 then
      let v := schedX n s
      setRegion n (regionFor x (valInt x.f16 x.hyst) v.1 (cleRegion v.2 n)) v.2
    else s
  let s := if cfgOf CLE_SCHED.BMP x.sched = 1 && (swap || cleRegion s n != r0) then cleRebase n kOld s else s
  let s := echoRelease n s
  { s with cle := { s.cle with queue := s.cle.queue ++ [n] } }

/-- The datapath takes the next run: the second runs of double-rate slots, then the run that is suspended, then the
other runs (R393, R394). -/
def cleNext (s : State) : State :=
  match s.cle.cur with
  | some _ => s
  | none =>
    match s.cle.susp, s.cle.queue with
    | none, [] => s
    | none, n :: r => { s with cle := { s.cle with cur := some n, queue := r } }
    | some m, [] => { s with cle := { s.cle with cur := some m, susp := none } }
    | some m, n :: r =>
      if (cleOf s n).second then { s with cle := { s.cle with cur := some n, queue := r } }
      else { s with cle := { s.cle with cur := some m, susp := none } }

/-- At the mid-cycle instant a base-rate run is suspended, and the runs released there, the last k of the queue,
come first (R394). -/
def cleMid (k : Nat) (s : State) : State :=
  let q := s.cle.queue
  let q := q.drop (q.length - k) ++ q.take (q.length - k)
  if k = 0 then s
  else
    match s.cle.cur with
    | some m => { s with cle := { s.cle with cur := none, susp := some m, queue := q } }
    | none => { s with cle := { s.cle with queue := q } }

/-! ### The end of a run -/

/-- Firmware writes of state words that waited take effect (R413). -/
def cleFirmware (n : Nat) (s : State) : State :=
  let x := cleOf s n
  setCle n { x with fw := [], st := x.fw.foldl (fun t p => tset t 0 p.1 p.2) x.st } s

/-- The run of slot n leaves the datapath, which takes the next (R393). -/
def cleLeave (n : Nat) (s : State) : State :=
  let s := cleFirmware n (setCle n { cleOf s n with live := false } s)
  let c := s.cle
  let s := { s with cle := { c with
    cur := if c.cur = some n then none else c.cur
    susp := if c.susp = some n then none else c.susp
    queue := c.queue.filter fun m => m != n } }
  cleNext s

/-- The last of the writes to each key, in order. -/
def lastWrites (l : List (Nat × W32)) : List (Nat × W32) :=
  match l with
  | [] => []
  | p :: r => if r.any (fun q => q.1 == p.1) then lastWrites r else p :: lastWrites r

/-- One port write of a publication (R406, R408, R410). -/
def publishPort (n : Nat) (p : Nat × W32) (s : State) : State :=
  if p.1 < 0x100 then s.setRf (rCFL_CS p.1) CFL_CS.VALUE p.2.toNat
  else if p.1 < 0x104 then
    let x := cleOf s n
    setCle n { x with outs := tset x.outs 0 (p.1 - 0x100) p.2 } s
  else
    let d := if p.2.msb then 0 else p.2
    pwmDuty (p.1 - 0x300) d (s.setReg (rCLE_DUTY (p.1 - 0x300)) (d.setWidth 64))

/-- The publication of slot n's run (R408). -/
def clePublish (n : Nat) (s : State) : State :=
  let x := cleOf s n
  let s := setCle n { x with st := x.states.foldl (fun t p => tset t 0 p.1 p.2) x.st } s
  echoRunOver n true (forEach (lastWrites x.ports) (publishPort n) s)

/-- The run of slot n ends: it publishes, on time or not at all (R48, R408, R409). -/
def cleFinish (n : Nat) (s : State) : State :=
  let s := setUnit (16 + n) .idle s
  match slackOf s (16 + n) with
  | some v => autoSleep (16 + n) (monitorDone (16 + n) v (cleLeave n (clePublish n s)))
  | none => autoSleep (16 + n) (cleLeave n (echoRunOver n false (monitorMiss (16 + n) s)))

/-- Slot n misses: its run, if it has not ended, stops and publishes nothing (R49, R409). -/
def cleMiss (n : Nat) (s : State) : State := cleLeave n (echoRunOver n false s)

/-- An illegal instruction of slot n's run: no effect, the run stops as at a miss (R404). -/
def cleIllegal (n cause : Nat) (s : State) : State :=
  let a := rCLE_SLOT_STAT n
  let s := (s.setRb a CLE_SLOT_STAT.ILL true).setRf a CLE_SLOT_STAT.CAUSE cause
  let s := s.setRf a CLE_SLOT_STAT.INDEX (cleOf s n).pc
  cleLeave n (raise srcCleIllegal s)

/-! ### Reading and writing within a run -/

/-- Working register i of slot n. -/
def vReg (s : State) (n i : Nat) : Int := let x := cleOf s n; valInt x.f16 (tget x.v 0 i)

/-- Working registers take results that all were computed before: each saturates (R402, R403). -/
def putVs (n : Nat) (rs : List (Nat × Int)) (s : State) : State :=
  forEach rs
    (fun r t =>
      let x := cleOf t n
      let y := clampS (valWidth x.f16) r.2
      cleSat n (y != r.2) (setCle n { x with v := tset x.v 0 r.1 (valWord x.f16 y) } t)) s

/-- acc as a number, and acc taking a result that saturates. -/
def accOf (s : State) (n : Nat) : Int := (cleOf s n).acc.toInt
def putCleAcc (n : Nat) (r : Int) (s : State) : State :=
  let x := cleOf s n
  let y := clampS (accWidth x.f16) r
  cleSat n (y != r) (setCle n { x with acc := BitVec.ofInt 64 y } s)

/-- A state word as the run reads it: pending, or the last published (R408). -/
def stateWord (s : State) (n i : Nat) : Int :=
  let x := cleOf s n
  let w := match (x.states.filter fun p => p.1 == i).getLast? with
    | some p => p.2
    | none => tget x.st 0 i
  valInt x.f16 w

/-- A state word write, held until publication. -/
def putState (n i : Nat) (r : Int) (s : State) : State :=
  let x := cleOf s n
  let y := clampS (valWidth x.f16) r
  cleSat n (y != r) (setCle n { x with states := x.states ++ [(i, valWord x.f16 y)] } s)

/-! ### Instructions (R403 to R405, R411, R412) -/

/-- The fields of an instruction, OP apart. -/
def lD (f : BitVec 26) : Nat := bf f 22 4
def lA (f : BitVec 26) : Nat := bf f 18 4
def lB (f : BitVec 26) : Nat := bf f 14 4
def lK (f : BitVec 26) : Nat := bf f 9 5
def lRM (f : BitVec 26) : Nat := bf f 7 2
def lPort (f : BitVec 26) : Nat := bf f 4 10

/-- The fields an operation uses: D, A, B, K, RM, PORT; none where the OP is not listed. -/
def lawFields (op : Nat) : Option (List Char) :=
  match op with
  | 0x00 | 0x01 => some []
  | 0x02 | 0x03 | 0x04 | 0x05 | 0x08 => some ['D', 'A', 'B']
  | 0x06 | 0x07 => some ['D', 'A']
  | 0x10 | 0x11 | 0x12 => some ['A', 'K']
  | 0x13 | 0x14 | 0x15 => some ['A', 'B']
  | 0x16 => some ['D', 'R']
  | 0x17 => some ['A']
  | 0x18 => some ['D', 'K', 'R']
  | 0x20 => some ['D', 'P']
  | 0x21 => some ['A', 'P']
  | 0x22 => some ['D', 'B']
  | 0x23 => some ['A', 'B']
  | 0x28 => some ['D', 'A', 'B', 'K']
  | 0x29 => some ['D', 'A', 'K']
  | 0x2A | 0x2B | 0x2C | 0x2D => some ['D', 'A', 'B']
  | 0x2E => some ['D', 'A']
  | 0x30 => some ['D', 'A']
  | 0x31 => some ['A', 'B']
  | _ => none

/-- A field the operation does not use is not zero, or RM is 0b11 (R404). -/
def lawDash (us : List Char) (f : BitVec 26) : Bool :=
  let p := us.contains 'P'
  let off := fun (c : Char) (v : Nat) => !us.contains c && v != 0
  off 'D' (lD f) || off 'A' (lA f) || (us.contains 'R' && lRM f == 3) ||
    (if p then bf f 14 4 != 0 || bf f 0 4 != 0
     else off 'B' (lB f) || off 'K' (lK f) || off 'R' (lRM f) || bf f 0 7 != 0)

/-- A coefficient, a register pair or a state pair runs past its end (R404). -/
def lawRange (op : Nat) (f : BitVec 26) : Bool :=
  let us := (lawFields op).getD []
  (us.contains 'K' && decide (24 ≤ lK f)) || (op == 0x28 && (decide (19 < lK f) || lB f == 15)) ||
    ((op == 0x29 || op == 0x2B) && lD f == 15) ||
    ((op == 0x2C || op == 0x2D) && (lD f == 15 || lA f == 15 || lB f == 15)) || (op == 0x2E && decide (13 < lD f))

/-- The lowest cause for which an instruction is illegal; 0 where it is not (R404; where several apply, the choice is
notes/assumptions/107.md). -/
def lawCause (op : Nat) (f : BitVec 26) : Nat :=
  match lawFields op with
  | none => 1
  | some us =>
    if lawDash us f then 2
    else if lawRange op f then 3
    else if (op == 0x20 && !portIn (lPort f)) || (op == 0x21 && !portOut (lPort f)) then 4
    else 0

/-- 1/√3 and √3/2 in Q1.31 (R405). -/
def cInvSqrt3 : Int := 1239850262
def cHalfSqrt3 : Int := 1859775393

/-- Whether a result rounds half-up under RM (R402). -/
def rmUp (x : CleSlot) (rm : Nat) : Bool := if rm = 1 then false else if rm = 2 then true else x.rndUp

/-- One biquad stage (R411). -/
def lawBq (n : Nat) (f : BitVec 26) (s : State) : State :=
  let x := cleOf s n
  let g := accFrac x.f16 - valFrac x.f16
  let k := fun i => coef s n (lK f + i)
  let t := fun v i => coefTerm x.f16 v (k i)
  let acc := fun (v : Int) => clampS (accWidth x.f16) v
  let v := vReg s n (lA f)
  let z1 := stateWord s n (lB f) * 2 ^ g
  let z2 := stateWord s n (lB f + 1) * 2 ^ g
  let y0 := rndHalfUp (acc (t v 0 + z1)) g
  let y := clampS (valWidth x.f16) y0
  let a1 := acc (t v 1 - t y 3)
  let w1 := rndHalfUp (acc (a1 + z2)) g
  let w2 := rndHalfUp (acc (t v 2 - t y 4)) g
  let overrun := acc (t v 0 + z1) != t v 0 + z1 || a1 != t v 1 - t y 3 || acc (a1 + z2) != a1 + z2 ||
    acc (t v 2 - t y 4) != t v 2 - t y 4
  cleSat n overrun (putState n (lB f + 1) w2 (putState n (lB f) w1 (putVs n [(lD f, y0)] s)))

/-- sincos: within 2⁻²² in F32S and one least significant bit in F16 of the exact value (R405). -/
def lawSincos (n : Nat) (f : BitVec 26) (s : State) : State :=
  let x := cleOf s n
  let k := coef s n (lK f)
  let p := vReg s n (lA f) * k.1
  let t := if x.f16 then p * 2 ^ 30 else shiftInt p (k.2 - 2)
  let cs := fxCosSin t
  let d := if x.f16 then 2 else 513
  let pick := s.freeVal 32
  let c := fxNear (valFrac x.f16) d (pick.setWidth 16) cs.1
  let sn := fxNear (valFrac x.f16) d (pick.extractLsb' 16 16) cs.2
  putVs n [(lD f, c), (lD f + 1, sn)] s.tick1

/-- atan2(vA, vB)/π, 0 when both are 0 (R403, R405). -/
def lawAtan2 (n : Nat) (f : BitVec 26) (s : State) : State :=
  let x := cleOf s n
  let y := vReg s n (lA f)
  let z := vReg s n (lB f)
  if y = 0 ∧ z = 0 then putVs n [(lD f, 0)] s
  else
    let d := if x.f16 then 2 else 513
    putVs n [(lD f, fxNear (valFrac x.f16) d (s.freeVal 16) (fxAtan2 y z))] s.tick1

/-- The three duties of svm (R412); vA+1 past v15 is a free value. -/
def lawSvm (n : Nat) (f : BitVec 26) (s : State) : State :=
  let x := cleOf s n
  let a := vReg s n (lA f)
  let r : Int × State := if lA f = 15 then (valInt x.f16 (s.freeVal 32), s.tick1) else (vReg s n (lA f + 1), s)
  let b := r.1
  -- in units of 2⁻³² of a least significant bit
  let va := a * 2 ^ 32
  let vb := - (a * 2 ^ 31) + cHalfSqrt3 * b * 2
  let vc := - (a * 2 ^ 31) - cHalfSqrt3 * b * 2
  let m2 := max va (max vb vc) + min va (min vb vc)
  let half : Int := 2 ^ (valFrac x.f16 - 1) * 2 ^ 33
  let duty := fun (v : Int) => rndHalfUp (half + 2 * v - m2) 33
  let lo := fun (v : Int) => if v < 0 then 0 else v
  let neg := decide (duty va < 0) || decide (duty vb < 0) || decide (duty vc < 0)
  cleSat n neg (putVs n [(lD f, lo (duty va)), (lD f + 1, lo (duty vb)), (lD f + 2, lo (duty vc))] r.2)

/-- The effect of a legal instruction in slot n's run, end apart (R403). -/
def lawEffect (op : Nat) (n : Nat) (f : BitVec 26) (s : State) : State :=
  let x := cleOf s n
  let a := vReg s n (lA f)
  let b := vReg s n (lB f)
  let put := fun (v : Int) => putVs n [(lD f, v)] s
  let fr := valFrac x.f16
  let g := accFrac x.f16 - fr
  let kp := coefTerm x.f16 a (coef s n (lK f))
  let vp := prodTerm x.f16 a b
  let a1 := vReg s n (lA f + 1)
  let b1 := vReg s n (lB f + 1)
  match op with
  | 0x02 => put (a + b)
  | 0x03 => put (a - b)
  | 0x04 => put (min a b)
  | 0x05 => put (max a b)
  | 0x06 => put (- a)
  | 0x07 => put a
  | 0x08 => put (if 0 ≤ vReg s n (lD f) then a else b)
  | 0x10 => putCleAcc n kp s
  | 0x11 => putCleAcc n (accOf s n + kp) s
  | 0x12 => putCleAcc n (accOf s n - kp) s
  | 0x13 => putCleAcc n vp s
  | 0x14 => putCleAcc n (accOf s n + vp) s
  | 0x15 => putCleAcc n (accOf s n - vp) s
  | 0x16 => put (cleRnd (rmUp x (lRM f)) (accOf s n) g)
  | 0x17 => putCleAcc n (a * 2 ^ g) s
  | 0x18 =>
    let k := coef s n (lK f)
    put (if 0 ≤ k.2 then k.1 * 2 ^ k.2.toNat else cleRnd (rmUp x (lRM f)) k.1 k.2.natAbs)
  | 0x20 => put (valInt x.f16 (readPort s n (lPort f)))
  | 0x21 => setCle n { x with ports := x.ports ++ [(lPort f, tget x.v 0 (lA f))] } s
  | 0x22 => put (stateWord s n (lB f))
  | 0x23 => putState n (lB f) a s
  | 0x28 => lawBq n f s
  | 0x29 => lawSincos n f s
  | 0x2A => lawAtan2 n f s
  | 0x2B => putVs n [(lD f, a), (lD f + 1, rndHalfUp ((a + 2 * b) * cInvSqrt3) 31)] s
  | 0x2C => putVs n [(lD f, rndHalfUp (a * b + a1 * b1) fr), (lD f + 1, rndHalfUp (a1 * b - a * b1) fr)] s
  | 0x2D => putVs n [(lD f, rndHalfUp (a * b - a1 * b1) fr), (lD f + 1, rndHalfUp (a * b1 + a1 * b) fr)] s
  | 0x2E => lawSvm n f s
  | 0x30 =>
    match x.inj with
    | some w => put (a + valInt x.f16 w)
    | none => put a
  | 0x31 => if x.inj.isSome then setCle n { x with cap := some (tget x.v 0 (lA f), tget x.v 0 (lB f)) } s else s
  | _ => s

/-- The CLE can issue an instruction of slot n: its run is released and neither held nor unpowered (R393, R397). -/
def cleIssues (s : State) (n : Nat) : Bool :=
  unitOf s (16 + n) == .running && !s.held 20 && s.domOn 123 && s.domOn 124

/-- The law instruction of OP op with fields f is the next of the run on the datapath (R393, R403, R404). -/
def lawIssue (op : Nat) (f : BitVec 26) (s : State) : State :=
  match s.cle.cur with
  | none => s
  | some n =>
    if !cleIssues s n then s
    else
      let c := lawCause op f
      if c ≠ 0 then cleIllegal n c s
      else if op = 1 then cleFinish n s
      else
        let s := lawEffect op n f s
        let x := cleOf s n
        if x.pc = 63 then cleFinish n s else setCle n { x with pc := x.pc + 1 } s

/-! ### Firmware (R398, R399, R413) -/

/-- A window write of state word j of slot n (R413). -/
def cleStateWrite (n j : Nat) (v : W32) (s : State) : State :=
  let x := cleOf s n
  if x.live then setCle n { x with fw := x.fw ++ [(j, v)] } s else setCle n { x with st := tset x.st 0 j v } s

/-- A word offset of the window lies in no region (R398). -/
def cleHole (off : Nat) : Bool :=
  let o := off % 0x800
  decide (off < 0x8000) && ((decide (0x3D0 ≤ o) && decide (o < 0x400)) || decide (0x780 ≤ o))

/-- A word offset of the window is read-only (R398, R399). -/
def cleReadOnly (off : Nat) : Bool := decide (0x8000 ≤ off) || decide (0x3C0 ≤ off % 0x800)

/-- The word at a word offset of the window. -/
def cleRead (s : State) (off : Nat) : W32 :=
  let n := off / 0x800
  let o := off % 0x800 / 4
  let x := cleOf s n
  if 0x8000 ≤ off then tget s.echo.buf (Config.clearedWord 32) ((off - 0x8000) / 4)
  else if o < 224 then cleWord s n (1 - x.bank) o
  else if o < 240 then tget x.st 0 (o - 224)
  else if o < 244 then tget x.outs 0 (o - 240)
  else cleWord s n x.bank (o - 256)

/-- A write of the word at a word offset. -/
def cleWrite (off : Nat) (v : W32) (s : State) : State :=
  let n := off / 0x800
  let o := off % 0x800 / 4
  if o < 224 then
    { s with cle := { s.cle with
        mem := tset s.cle.mem (Config.clearedWord 32) (448 * n + 224 * (1 - (cleOf s n).bank) + o) v } }
  else cleStateWrite n (o - 224) v s

/-- An access to the CLE memory window at offset off (R398, R399). -/
def cleAccess (off bytes : Nat) (write : Bool) (d : W64) (s : State) : Answer × State :=
  if cleHole off then ((0, 1), s)
  else if !((bytes = 8 ∧ off % 8 = 0) ∨ (bytes = 4 ∧ off % 4 = 0)) then ((0, 3), s)
  else if write ∧ cleReadOnly off then ((0, 5), s)
  else if !s.domOn 124 then ((0, 6), s)
  else if s.held 20 then ((0, 7), s)
  else if write then
    let s := cleWrite off (d.setWidth 32) s
    ((0, 0), if bytes = 8 then cleWrite (off + 4) (d.extractLsb' 32 32) s else s)
  else
    let lo := (cleRead s off).setWidth 64
    ((if bytes = 8 then lo ||| ((cleRead s (off + 4)).setWidth 64 <<< 32) else lo, 0), s)

end Sys2Proof.Machine
end

