-- ==== Sys2Proof/Machine/Lantern.lean ====
section
/-! DEFINITION. The light pass and the Lantern ports (R427, R430 to R437). -/

namespace Sys2Proof.Machine

open Sys2Proof

/-- Lantern port n. -/
def ltnOf (s : State) (n : Nat) : Ltn := tget s.ltn Ltn.init n

/-- The state with port n's state replaced. -/
def setLtn (n : Nat) (x : Ltn) (s : State) : State := { s with ltn := tset s.ltn Ltn.init n x }

/-- The power domain of port n (R430). -/
def ltnDomain (n : Nat) : Nat := 129 + n / 2

/-- The light map of port n for frames of npix pixels: first colour index, count and first light store word, or that it is out
of range
(R434). -/
def ltnMap (n npix : Nat) (s : State) : Option (Nat × Nat × Nat) × Bool :=
  if !s.rb (rLTN_MAP n) LTN_MAP.EN then (none, false)
  else
    let c := s.rf (rLTN_MAP n) LTN_MAP.CNT
    let f := s.rf (rLTN_MAP_FIRST n) LTN_MAP_FIRST.FIRST
    let b := s.rf (rLTN_MAP n) LTN_MAP.LBASE
    if 4096 < b + c ∨ 4096 < c ∨ 4 * npix < f + c then (none, true) else (some (f, c, b), false)

/-- The frame of port n starts at an L boundary, or is skipped (R431, R434, R436). -/
def ltnFrameStart (n : Nat) (s : State) : State :=
  let x := ltnOf s n
  if !x.on || !s.domOn (ltnDomain n) || s.held 22 || !s.rb (rLTN_CTL n) LTN_CTL.EN then s
  else if x.sending then s.bumpSat (rLTN_STAT n) LTN_STAT.SKIP_CNT
  else
    let m := ltnMap n (x.pair.2 + 1) s
    let seq := (x.seq + 1) % 65536
    let s := if m.2 then s.setRb (rLTN_STAT n) LTN_STAT.MAP_ERR true else s
    let s := setLtn n { x with started := true, framePair := x.pair, map := m.1, tv := s.timeValid, seq := seq } s
    s.setReg (rLTN_FRAME_SEQ n)
      (fput LTN_FRAME_SEQ.SEQ (fput LTN_FRAME_SEQ.NPIXM1 (fput LTN_FRAME_SEQ.BASE 0 x.pair.1) x.pair.2) seq)

/-- What the light pass takes at its release: the latch of each port that starts a frame, the duties of the LED
groups (R427, R434). -/
def lightRelease (s : State) : State :=
  let ls := (s.regs.filter fun p => decide (rCFL_LS 0 ≤ p.1) && decide (p.1 ≤ rCFL_LS 4095)).map fun p =>
    ((p.1 - rCFL_LS 0) / 4, p.2.toNat)
  forEach (idxs 0 4) ltnFrameStart { s with cyc := { s.cyc with lightIn := ls } }

/-- The light pass completes: latches and LED duties (R427, R434). -/
def lightComplete (s : State) : State :=
  let s := forEach (idxs 0 4)
    (fun n t =>
      let x := ltnOf t n
      match x.map with
      | some (_, c, b) =>
        if x.started then
          let l := (List.range c).foldl (fun l e => tset l 0 e (BitVec.ofNat 16 (tget t.cyc.lightIn 0 (b + e)))) x.latch
          setLtn n { x with latch := l } t
        else t
      | none => t) s
  forEach (idxs 4 12)
    (fun g t =>
      if t.rb (rPWM_LSRC g) PWM_LSRC.EN then
        pwmDuty (20 + g) (BitVec.ofNat 32 (tget t.cyc.lightIn 0 (t.rf (rPWM_LSRC g) PWM_LSRC.WORD) * 2 ^ 15)) t
      else t) s

/-- The half-word k of a Cavern word (R434). -/
def halfOf (v : W40) (k : Nat) : BitVec 16 := (v.toNat / 2 ^ (16 * k) % 65536 : Nat)

/-- The colour values i on, left of them, of the frame of port n: from the latch, or from Cavern under
identifier 56 + n; whether a read drew an error response (R433, R434). -/
def ltnColours (n i left : Nat) (s : State) : List (BitVec 16) × Bool × State :=
  match left with
  | 0 => ([], false, s)
  | left + 1 =>
    let x := ltnOf s n
    let mapped := match x.map with
      | some (f, c, _) => decide (f ≤ i) && decide (i < f + c)
      | none => false
    if mapped then
      let r := ltnColours n (i + 1) left s
      (tget x.latch 0 (i - (x.map.getD (0, 0, 0)).1) :: r.1, r.2)
    else
      let w := x.framePair.1 + 2 * (i / 4) + i % 4 / 2
      let v := matrixRead (56 + n) w s
      let r := ltnColours n (i + 1) left v.2
      (halfOf (v.1.getD 0) (i % 2) :: r.1, r.2.1 || v.1.isNone, r.2.2)

/-- The bytes of frame words, high byte first. -/
def wordBytes (ws : List (BitVec 16)) : List Byte := ws.flatMap fun (w : BitVec 16) => [(w >>> 8).setWidth 8, w.setWidth 8]

/-- A frame of port n (R432): its words, the CRC inverted for a stomped frame (R433). -/
def ltnFrame (n : Nat) (x : Ltn) (cs : List (BitVec 16)) (stomp : Bool) : List (BitVec 16) :=
  let body : List (BitVec 16) :=
    [BitVec.ofNat 16 x.seq, BitVec.ofNat 16 (n * 4096 + x.framePair.2), if x.tv then 0x8000 else 0] ++ cs
  let crc := crc32 (wordBytes body)
  let crc := if stomp then ~~~ crc else crc
  [0xD13A#16] ++ body ++ [(crc >>> 16).setWidth 16, crc.setWidth 16]

/-- The bits of frame words as lane k sends them: the words of k's parity, each most significant bit first (R432). -/
def ltnLane (k : Nat) (ws : List (BitVec 16)) : List Bool :=
  (List.range (ws.length / 2)).flatMap fun i =>
    let w := ws.getD (2 * i + k) 0
    (List.range 16).map fun b => w.getLsbD (15 - b)

/-- The first bit of a frame may leave: the light pass of the cycle has ended, and BLANK_MIN is over since BLANK_START
(R431). -/
def ltnMayStart (n : Nat) (s : State) : Bool :=
  tget s.cyc.units .idle 35 == .idle &&
    match (ltnOf s n).blankAt with
    | none => true
    | some t => decide (t + max 64 (s.rf (rLTN_BLANK n) LTN_BLANK.BLANK_MIN) ≤ s.dtm.ticks)

/-- The lane rate of port n in Hz: its synthesizer's clock over DIV + 1 (R430). -/
def laneHz (s : State) (n : Nat) : Frac :=
  (synHz s (s.rf (rLTN_CTL n) LTN_CTL.SRC)).mul (Frac.quot 1 (s.rf (rLTN_CTL n) LTN_CTL.DIV + 1))

/-- The bits of the frame being sent have all left: 16 of each pair of words on each lane, at the lane rate (R430 to
R432). -/
def ltnSent (n : Nat) (s : State) : Bool :=
  let x := ltnOf s n
  (Frac.ofNat (8 * x.sent.length * 250000000)).le ((laneHz s n).mul (Frac.ofNat (s.dtm.ticks - x.sentAt)))

/-- The data of the frame that has started leaves; lack of the colour values from value first on did not come in
time (R431 to R433). -/
def ltnDataStart (n first lack : Nat) (s : State) : State :=
  let x := ltnOf s n
  if !x.started || x.sending || !s.domOn (ltnDomain n) || !ltnMayStart n s then s
  else
    let cnt := 4 * (x.framePair.2 + 1)
    let r := ltnColours n 0 cnt s
    let s := r.2.2
    let under := decide (0 < lack) && decide (first < cnt)
    let cs := (List.range cnt).map fun i =>
      if first ≤ i ∧ i < first + lack then 0 else gateColour n (r.1.getD i 0) s
    let stomp := under || r.2.1
    let s := if stomp then s.setRb (rLTN_STAT n) LTN_STAT.STOMP true else s
    let s := if under then raise (srcLanternUnderrun n) (s.bumpSat (rLTN_ERR_CNT n) LTN_ERR_CNT.UNDER) else s
    let s := if r.2.1 then s.bumpSat (rLTN_ERR_CNT n) LTN_ERR_CNT.RDERR else s
    let s := setLtn n { ltnOf s n with started := false, sending := true, sent := ltnFrame n x cs stomp, sentAt := s.dtm.ticks } s
    s.setRb (rLTN_STAT n) LTN_STAT.BLANK false

/-- A pair that is taken: it is used where its words lie inside Cavern and off the event log, else the previous
pair is kept (R435). -/
def ltnTake (n : Nat) (s : State) : State :=
  let x := ltnOf s n
  match x.pend with
  | none => s
  | some p =>
    let s := s.setRb (rLTN_STAT n) LTN_STAT.PEND false
    if p.1 + 2 * (p.2 + 1) ≤ logBase ∧ p.2 < 2048 then setLtn n { x with pair := p, pend := none } s
    else raise srcLtnFb ((setLtn n { x with pend := none } s).setRb (rLTN_STAT n) LTN_STAT.CFG_ERR true)

/-- The last bit of the frame has been sent: blanking begins, a pending pair is taken, a port whose EN is clear
stops (R431, R435, R437). -/
def ltnBlankStart (n : Nat) (s : State) : State :=
  let x := ltnOf s n
  if !x.sending || !ltnSent n s then s
  else
    let s := ltnTake n (setLtn n { x with sending := false, blankAt := some s.dtm.ticks } s)
    if s.rb (rLTN_CTL n) LTN_CTL.EN then s.setRb (rLTN_STAT n) LTN_STAT.BLANK true
    else setLtn n { ltnOf s n with on := false, started := false } s

/-- A commit of a frame-buffer pair (R435). -/
def ltnCommit (n : Nat) (base npixm1 : Nat) (s : State) : State :=
  let x := ltnOf s n
  let s := (s.setRf (rLTN_FB n) LTN_FB.BASE base).setRf (rLTN_FB n) LTN_FB.NPIXM1 npixm1
  let s := (setLtn n { x with pend := some (base, npixm1) } s).setRb (rLTN_STAT n) LTN_STAT.PEND true
  if s.rb (rLTN_STAT n) LTN_STAT.BLANK then s.setRb (rLTN_STAT n) LTN_STAT.COMMIT_LATE true else s

/-- A write of EN of port n (R430, R435, R437). -/
def ltnEnableWrite (n : Nat) (on : Bool) (s : State) : State :=
  let was := s.rb (rLTN_CTL n) LTN_CTL.EN
  let s := s.setRb (rLTN_CTL n) LTN_CTL.EN on
  let src := s.rf (rLTN_CTL n) LTN_CTL.SRC
  if on && !was then
    if src = 3 ∨ !((laneHz s n).le (Frac.ofNat 400000000)) then
      raise srcLtnCfg (s.setRb (rLTN_STAT n) LTN_STAT.CFG_ERR true)
    else
      let s := ltnTake n s
      let s := setLtn n { ltnOf s n with on := true } s
      if (ltnOf s n).sending then s else s.setRb (rLTN_STAT n) LTN_STAT.BLANK true
  else if was && !on && !(ltnOf s n).sending then
    (setLtn n { ltnOf s n with on := false, started := false } s).setRb (rLTN_STAT n) LTN_STAT.BLANK false
  else s

end Sys2Proof.Machine
end

