-- ==== Sys2Proof/Machine/Power.lean ====
section
/-! DEFINITION. Switched domains: mode writes, what a domain loses when it goes off, the end of a wake and of a sleep
transition, the release of a unit into its domains (R63 to R74). -/

namespace Sys2Proof.Machine

open Sys2Proof

/-- A write of RETAIN or OFF to domain n is refused: the Guide's domains and the Cavern half of the event log
(R65). -/
def protectedDomain (n : Nat) : Bool := n == 131 || n == 132 || n == 111

/-- What a Chamber's domain loses: k = 1 the register files and the sequencer, with a run in progress, 2 X, 3 Y, 4 the
program (R63). -/
def loseChamber (n k : Nat) (s : State) : State :=
  let c := chmOf s n
  match k with
  | 1 => setChm n { c with d := [], q := [], a := [], p := [], m := [], b := [], l := [], cg := 0, rb := 0
                           z := false, n := false, o := false, pc := 0, stack := [], stopped := true } s
  | 2 => setChm n { c with x := [], xf := [] } s
  | 3 => setChm n { c with y := [], yf := [] } s
  | 4 => setChm n { c with prog := [], pf := [] } s
  | _ => s

/-- The crypto engine loses power: an operation in progress is lost, with a RESULT the spec does not state. -/
def loseEngine (s : State) : State :=
  match s.sec.ce with
  | none => s
  | some _ =>
    let s := (s.setRb rSEC_CE_STAT SEC_CE_STAT.BUSY false).setRf rSEC_CE_STAT SEC_CE_STAT.RESULT (s.freeVal 4).toNat
    { s.tick1 with sec := { s.tick1.sec with ce := none } }

/-- The logic of Gallery port n loses its link and train state; its queue lies in the frame buffers (R63, R66). -/
def losePort (n : Nat) (s : State) : State :=
  let p := tget s.gal.ports GalPort.init n
  { s with gal := { s.gal with ports := tset s.gal.ports GalPort.init n { GalPort.init with queue := p.queue } } }

/-- The CLE's datapath loses the runs in progress: their monitors will record misses (R66). -/
def loseLaw (s : State) : State :=
  let slots := (s.cle.slots.map fun p => (p.1, { p.2 with live := false, v := [], acc := 0, pc := 0, ports := []
                                                          states := [], cap := none })).filter
    fun p => decide (p.2 ≠ CleSlot.init)
  forEach (idxs 16 16) loseRun
    { s with cle := { s.cle with slots := slots, queue := [], cur := none, susp := none } }

/-- The logic of PWM group g loses its timebase: the group runs again from its next reload (R66, R428). -/
def losePwm (g : Nat) (s : State) : State :=
  ({ s with pwm := tset s.pwm PwmGrp.init g PwmGrp.init }).setRb (rPWM_STAT g) PWM_STAT.RUN false

/-- The logic of Lantern port n loses the frame in progress and its light latch (R66). -/
def loseLtn (n : Nat) (s : State) : State :=
  let x := ltnOf s n
  setLtn n { Ltn.init with pair := x.pair, pend := x.pend, on := x.on, seq := x.seq } s

/-- What domain n loses as it goes off: arrays are left cleared to zero, as their wake from OFF makes them before
it reports ON; a logic domain keeps no state (R64, R66). A quarter of the crosspoints is that of 16 buses
(notes/assumptions/82.md). -/
def loseDomain (n : Nat) (s : State) : State :=
  if n < 80 then loseChamber (n / 5) (n % 5) s
  else if n < 112 then
    let lo := (n - 80) * 32768
    { s with cav := { words := tclear s.cav.words lo (lo + 32767), flips := tclear s.cav.flips lo (lo + 32767) } }
  else if n < 116 then
    { s with cfl := { s.cfl with gains := s.cfl.gains.filter fun p => p.1 % 64 / 16 != n - 112 } }
  else if n < 118 then losePort (n - 116) s
  else if n = 118 then
    { s with gal := { s.gal with ports := s.gal.ports.map fun p => (p.1, { p.2 with queue := [] }) } }
  else if n = 119 then clearHistory (onDtm (fun x => { x with refs := [], pi := 0, piNext := false }) s)
  else if n = 120 then showPts (onDtm (fun x => { x with pts := [] }) s)
  else if n = 121 then
    forEach (idxs 0 3) (fun k t => t.setRf (rSYN_PHASE k) SYN_PHASE.PEND 0) (onDtm (fun x => { x with syn := [] }) s)
  else if n = 122 then showCairn (setCrn Crn.init s)
  else if n = 123 then loseLaw s
  else if n = 124 then
    let slots := (s.cle.slots.map fun p => (p.1, { p.2 with st := [], outs := [] })).filter
      fun p => decide (p.2 ≠ CleSlot.init)
    onEcho (fun e => { e with buf := [] }) { s with cle := { s.cle with mem := [], slots := slots } }
  else if n = 125 ∨ n = 126 then setAdc (n - 125) Adc.init s
  else if n = 127 then forEach [0, 1] losePwm s
  else if n = 128 then forEach (idxs 2 14) losePwm s
  else if n = 129 then forEach [0, 1] loseLtn s
  else if n = 130 then forEach [2, 3] loseLtn s
  else if n = 133 then { s with hwn := { s.hwn with arr := [] } }
  else if n = 134 then loseEngine (s.resetRegs (rSEC_CE_BUF 0) (rSEC_CE_BUF 1023))
  else if n = 135 then cartsOff { s with dmx := [], tw := [], tim := [] }
  else s

/-- A mode takes effect on a domain that neither wakes nor is in the sleep transition (R64). AUTO leaves a domain that
is off, or at retention, as it is until it wakes, at once where HOLD is set (R68); a memory domain goes from OFF to
RETAIN with its array lost (notes/assumptions/29.md). -/
def applyMode (n m : Nat) (s : State) : State :=
  let s := setDom n { domOf s n with mode := m } s
  let st := domState s n
  if m = 0 ∨ (m = 1 ∧ !autoDomain n) then domWake n s
  else if m = 1 then (if s.rb (rPWR_DOM_CTL n) PWR_DOM_CTL.HOLD then domWake n s else s)
  else if m = 2 ∧ memDomain n then (if st = 2 then s else domSleep n 2 s)
  else if st = 3 then s
  else domSleep n 3 (loseDomain n s)

/-- A mode write to domain n (R64, R65, R74). -/
def powerMode (n m : Nat) (s : State) : State :=
  if 136 ≤ n then s
  else if 2 ≤ m ∧ protectedDomain n then raise srcRefusedPower s
  else
    let s := s.setRf (rPWR_DOM_CTL n) PWR_DOM_CTL.MODE m
    let d := domOf s n
    if d.sleeping || domState s n == 1 then setDom n { d with pendMode := some m } s else applyMode n m s

/-- A write of HOLD of domain n (R68). -/
def powerHold (n : Nat) (h : Bool) (s : State) : State :=
  if 136 ≤ n then s
  else
    let s := s.setRb (rPWR_DOM_CTL n) PWR_DOM_CTL.HOLD h
    if h && domMode s n == 1 then domWake n s else s

/-- The wake of domain n, once switched on, completes: it reports ON, unless a write of RETAIN or OFF waits
(R66, R70, R73, R74). -/
def wakeComplete (n : Nat) (s : State) : State :=
  if 136 ≤ n ∨ domState s n ≠ 1 ∨ (domOf s n).sleeping ∨ (domOf s n).queued then s
  else
    let d := domOf s n
    let s := setDomState n 0 (setDom n { d with pendMode := none } s)
    let s := match d.pendMode with
      | some m => applyMode n m s
      | none => s
    if n = 135 ∧ s.domOn 135 then cartsOn s else s

/-- The sleep transition of domain n ends; a mode write that waits takes effect, and a wake called for meanwhile
follows where the mode lets the domain wake (R74). -/
def sleepEnd (n : Nat) (s : State) : State :=
  let d := domOf s n
  if !d.sleeping then s
  else
    let s := setDom n { d with sleeping := false, wakeReq := false, pendMode := none } s
    let s := match d.pendMode with
      | some m => applyMode n m s
      | none => s
    if d.wakeReq && !s.domOff n then domWake n s else s

/-- The release of unit u meets its block and its domains (R69, R73, R86): it starts, it waits for a wake, or it
is blocked and its monitor will record a miss. DETAIL is the lowest of its domains that is not powered, as R67 counts
it. -/
def unitGate (u : Nat) (s : State) : UnitPhase × State :=
  let slow := (unitDomains u).filter fun d => !s.domOn d
  if s.held (unitBlock u) then (.blocked, s)
  else if slow.any s.domOff then
    (.blocked, raiseAux srcUnpoweredRelease (BitVec.ofNat 32 (slow.headD 0)) (unitBlock u) s)
  else if slow.isEmpty then (.running, s)
  else
    let s := forEach slow
      (fun d t => domWake d (t.setRb (rPWR_DOM_STAT d) PWR_DOM_STAT.WAKE_LATE true)) s
    (.waking, s.bumpSat rPWR_WAKE_LATE_CNT PWR_WAKE_LATE_CNT.CNT)

end Sys2Proof.Machine
end

