-- ==== Sys2Proof/Machine/Security.lean ====
section
/-! DEFINITION. The key store and its window, installs and rotations, the crypto engine, the random source, the
violation inputs and the debug challenge (R503 to R521). -/

namespace Sys2Proof.Machine

open Sys2Proof

/-! ### The key store window (R505 to R507) -/

/-- The word at offset o of a field that begins at offset b. -/
def fieldWord (l : List Byte) (b o : Nat) : W32 := (ofBytes ((l.drop (o - b)).take 4)).setWidth 32

/-- The header word of a fleet slot. -/
def slotHeader (f : FleetSlot) : W32 :=
  BitVec.ofNat 32 ((if f.active then 1 else 0) + (if f.bank then 0x100 else 0) + f.gen * 0x10000)

/-- What the 32-bit word at window offset o, a multiple of 4, reads as; none at an offset that the layout does not
list. The staged key reads as zero. -/
def keyWord (s : State) (o : Nat) : Option W32 :=
  let otp := s.sec.otp
  let g := s.sec.staged
  if o < 0x8 then some (fieldWord otp.uid 0 o)
  else if 0x20 ≤ o ∧ o < 0x40 then some (fieldWord otp.bootHash 0x20 o)
  else if 0x40 ≤ o ∧ o < 0x60 then some (fieldWord otp.licHash 0x40 o)
  else if 0x60 ≤ o ∧ o < 0x80 then some (fieldWord otp.dbgHash 0x60 o)
  else if o = 0x80 then some s.sec.mram.fwFloor
  else if o = 0x84 then some s.sec.mram.profFloor
  else if 0x100 ≤ o ∧ o < 0x500 then
    let f := fleetSlot s (o / 0x100 - 1)
    let k := o % 0x100
    if k = 0 then some (slotHeader f)
    else if k = 4 then some f.cur.fleetId
    else if 0x20 ≤ k ∧ k < 0x40 then some (fieldWord f.cur.keyHash 0x20 k)
    else if 0x40 ≤ k ∧ k < 0x80 then some (fieldWord f.cur.pub 0x40 k)
    else if 0x80 ≤ k ∧ k < 0xC0 then some (fieldWord f.cur.sig 0x80 k)
    else none
  else if 0x800 ≤ o ∧ o < 0x820 then some 0
  else if o = 0x820 then some g.fleetId
  else if 0x840 ≤ o ∧ o < 0x880 then some (fieldWord g.pub 0x840 o)
  else if 0x880 ≤ o ∧ o < 0x8C0 then some (fieldWord g.sig 0x880 o)
  else none

/-- A write of the word at offset o is not refused with code 5: a floor or a staged field. -/
def keyWritable (o : Nat) : Bool := o == 0x80 || o == 0x84 || decide (0x800 ≤ o)

/-- The bytes of a field with the word v at index k. -/
def putWord (l : List Byte) (k : Nat) (v : W32) : List Byte :=
  l.take k ++ bytesOf 4 (v.setWidth 64) ++ l.drop (k + 4)

/-- The state with the staged fields changed. -/
def setStaged (f : FleetBank → FleetBank) (s : State) : State :=
  { s with sec := { s.sec with staged := f s.sec.staged } }

/-- A key-store write joins those in progress; KEYWR reads 1 (R506). -/
def startKeyOp (o : KeyOp) (s : State) : State :=
  { (s.setRb rSEC_STAT SEC_STAT.KEYWR true) with sec := { s.sec with keyOps := s.sec.keyOps ++ [o] } }

/-- A write of a rollback floor: a greater value raises it, any other is ignored (R507). -/
def rollbackRaise (profile : Bool) (v : W32) (s : State) : State :=
  let old := if profile then s.sec.mram.profFloor else s.sec.mram.fwFloor
  if old.toNat < v.toNat then startKeyOp (.floor profile v) s else s

/-- The word v written at a writable offset o of the window. -/
def keyWordWrite (o : Nat) (v : W32) (s : State) : State :=
  if o = 0x80 then rollbackRaise false v s
  else if o = 0x84 then rollbackRaise true v s
  else if o < 0x820 then setStaged (fun g => { g with key := putWord g.key (o - 0x800) v }) s
  else if o = 0x820 then setStaged (fun g => { g with fleetId := v }) s
  else if o < 0x880 then setStaged (fun g => { g with pub := putWord g.pub (o - 0x840) v }) s
  else setStaged (fun g => { g with sig := putWord g.sig (o - 0x880) v }) s

/-- A Guide access to the key store window at byte offset off (R505, R506); the lowest code is answered (R174). -/
def keyAccess (off bytes : Nat) (write : Bool) (d : W64) (s : State) : Answer × State :=
  let a := off / 4 * 4
  let b := (off + bytes - 1) / 4 * 4
  match keyWord s a, keyWord s b with
  | some x, some y =>
    if !((bytes = 4 ∧ off % 4 = 0) ∨ (bytes = 8 ∧ off % 8 = 0)) then ((0, 3), s)
    else if write && !(keyWritable a && keyWritable b) then ((0, 5), s)
    else if s.rb rSEC_STAT SEC_STAT.KEYWR then ((0, 9), s)
    else if !write then ((x.setWidth 64 ||| (if bytes = 8 then y.setWidth 64 <<< 32 else 0), 0), s)
    else
      let s := keyWordWrite a (d.setWidth 32) s
      ((0, 0), if bytes = 8 then keyWordWrite b ((d >>> 32).setWidth 32) s else s)
  | _, _ => ((0, 1), s)

/-! ### Install, rotation, retirement (R509 to R512) -/

/-- The result of a rotation command. -/
def rotResult (n : Nat) (s : State) : State := s.setRf rSEC_ROT_STAT SEC_ROT_STAT.RESULT n

/-- A rotation command runs. -/
def rotBusy (s : State) : Bool := s.rb rSEC_ROT_STAT SEC_ROT_STAT.BUSY

/-- A rotation command that has passed its checks starts its key-store write. -/
def startRotation (o : KeyOp) (s : State) : State := startKeyOp o (s.setRb rSEC_ROT_STAT SEC_ROT_STAT.BUSY true)

/-- The staged key words are cleared (order 1 of R510). -/
def clearStagedKey (s : State) : State := setStaged (fun g => { g with key := List.replicate 32 0 }) s

/-- INSTALL into fleet slot n: orders 1 and 2 of R510 (R509, R512). -/
def rotInstall (n : Nat) (s : State) : State :=
  if rotBusy s then rotResult 2 s
  else
    let f := { s.sec.staged with keyHash := sha256 s.sec.staged.key }
    let s := clearStagedKey s
    if licenceHolds s f then startRotation (.install n f) s else rotResult 1 s

/-- RETIRE of fleet slot n (R509, R512). -/
def rotRetire (n : Nat) (s : State) : State :=
  if rotBusy s then rotResult 2 s else startRotation (.retire n) s

/-- ROOT: the staged key bytes; SLOT must be 0, and the command has no effect with another (R509, R510, R512). -/
def rotRoot (slot : Nat) (s : State) : State :=
  if rotBusy s then rotResult 2 s
  else if slot ≠ 0 then s
  else
    let k := s.sec.staged.key
    startRotation (.root k) (clearStagedKey s)

/-- A write of SEC_ROT with GO (R509). -/
def rotGo (op slot : Nat) (s : State) : State :=
  if op = 1 then rotInstall slot s
  else if op = 2 then rotRetire slot s
  else if op = 3 then rotRoot slot s
  else s

/-- The bank of a fleet slot that is not in use takes f, and the marker word puts it in use (orders 3 and 4 of
R510, R511). -/
def slotInstall (x : FleetSlot) (f : FleetBank) : FleetSlot :=
  { active := true, bank := !x.bank, gen := (x.gen + 1) % 65536
    b0 := if x.bank then f else x.b0, b1 := if x.bank then x.b1 else f }

/-- The ROOT bank that is not in use takes k, and the marker puts it in use (R510, R511). -/
def rootInstall (k : List Byte) (m : Mram) : Mram :=
  match m.rootBank with
  | some false => { m with rootBank := some true, root1 := k }
  | _ => { m with rootBank := some false, root0 := k }

/-- What a key-store write has written at its end; a floor only rises (R507, R510, R521). -/
def keyOpEffect (o : KeyOp) (m : Mram) : Mram :=
  match o with
  | .install n f => { m with slots := tset m.slots FleetSlot.blank n (slotInstall (tget m.slots FleetSlot.blank n) f) }
  | .retire n =>
    { m with slots := tset m.slots FleetSlot.blank n { tget m.slots FleetSlot.blank n with active := false } }
  | .root k => rootInstall k m
  | .floor profile v =>
    if profile then { m with profFloor := if m.profFloor.toNat < v.toNat then v else m.profFloor }
    else { m with fwFloor := if m.fwFloor.toNat < v.toNat then v else m.fwFloor }
  | .reopen => { m with dbgDeny := false }

/-- What the registers show of a key-store write that has ended: the verdict formed again after an install and a
retire, RESULT and BUSY (order 5 of R510). -/
def keyOpShow (o : KeyOp) (s : State) : State :=
  match o with
  | .install .. | .retire .. => formVerdict (rotResult 0 (s.setRb rSEC_ROT_STAT SEC_ROT_STAT.BUSY false))
  | .root _ => rotResult 0 (s.setRb rSEC_ROT_STAT SEC_ROT_STAT.BUSY false)
  | .floor .. => s
  | .reopen => showDebug s

/-- An install whose bank has read back wrong twice ends: no marker is written, and the bank that it was for is not in
use and never read as a key (order 3 of R510, R511). -/
def keyOpFailed (s : State) : State := formVerdict (rotResult 3 (s.setRb rSEC_ROT_STAT SEC_ROT_STAT.BUSY false))

/-- A key-store write ends: an erase in progress, or the oldest of the others; KEYWR clears with the last (R506,
R518). bad: the bank of an install or of ROOT has read back wrong twice (R510). -/
def keyWriteDone (bad : Bool) (s : State) : State :=
  if s.sec.eraseMark.isSome then finishErase s
  else
    match s.sec.keyOps with
    | [] => s
    | o :: r =>
      let s := { s with sec := { s.sec with keyOps := r } }
      (if bad && o.installs then keyOpFailed s else keyOpShow o (setMram (keyOpEffect o) s)).setRb rSEC_STAT SEC_STAT.KEYWR (!r.isEmpty)

/-- REOPEN is taken only while the verdict is valid (R521). -/
def reopen (s : State) : State :=
  if s.rb rSEC_STAT SEC_STAT.LIC_VALID then startKeyOp .reopen s else s

/-! ### The crypto engine (R513) -/

/-- n bytes of the buffer from byte o. -/
def ceBytes (s : State) (o n : Nat) : List Byte :=
  (idxs o n).map fun i => ((s.reg (rSEC_CE_BUF (i / 4))) >>> (8 * (i % 4))).setWidth 8

/-- The buffer with byte v at byte i. -/
def cePutByte (i : Nat) (v : Byte) (s : State) : State :=
  s.setRf (rSEC_CE_BUF (i / 4)) ⟨8 * (i % 4) + 7, 8 * (i % 4), .rw⟩ v.toNat

/-- The buffer with the bytes l from byte o on. -/
def cePut (o : Nat) (l : List Byte) (s : State) : State :=
  match l with
  | [] => s
  | b :: r => cePut (o + 1) r (cePutByte o b s)

/-- The buffer zeroed. -/
def ceZero (s : State) : State := s.resetRegs (rSEC_CE_BUF 0) (rSEC_CE_BUF 1023)

/-- The digest d in SEC_CE_OUT. -/
def ceOut (d : List Byte) (s : State) : State :=
  forEach (idxs 0 8) (fun i t => t.setReg (rSEC_CE_OUT i) (BitVec.ofNat 64 (beNat ((d.drop (4 * i)).take 4)))) s

/-- The 32 bytes of SEC_CE_LABEL. -/
def ceLabel (s : State) : List Byte := (idxs 0 8).flatMap fun i => natBe 4 (s.reg (rSEC_CE_LABEL i)).toNat

/-- What KSEL selects: none where the value is none of R513's, an empty key where the slot is EMPTY. -/
def ceKey (s : State) (ksel : Nat) : Option (List Byte) :=
  if ksel ≤ 3 then some (if (fleetSlot s ksel).active then (fleetSlot s ksel).cur.key else [])
  else if ksel = 4 then some (hmac s.sec.otp.duk (ceLabel s))
  else if ksel = 8 then some (ceBytes s 0xFE0 32)
  else none

/-- The operation uses a key. -/
def ceKeyed (op : Nat) : Bool := decide (2 ≤ op) && decide (op ≤ 4)

/-- LEN and ALEN fit the buffer. -/
def ceFits (op alen len : Nat) : Bool :=
  if op = 3 ∨ op = 4 then decide (alen + len + 32 ≤ 4096) else op == 5 || decide (len ≤ 4096)

/-- The result of the engine. -/
def ceResult (n : Nat) (s : State) : State := s.setRf rSEC_CE_STAT SEC_CE_STAT.RESULT n

/-- The engine's operation op with key KSEL starts: ignored while BUSY; refused arguments end it at once. The key is
taken into the engine's key register here, LEN and ALEN with it (R513). -/
def ceGo (op ksel : Nat) (s : State) : State :=
  if s.rb rSEC_CE_STAT SEC_CE_STAT.BUSY ∨ !s.domOn 134 then s
  else
    let len := s.rf rSEC_CE_LEN SEC_CE_LEN.LEN
    let alen := s.rf rSEC_CE_LEN SEC_CE_LEN.ALEN
    let start := fun (k : List Byte) (stored : Bool) =>
      (ceResult 0 (s.setRb rSEC_CE_STAT SEC_CE_STAT.BUSY true) : State) |> fun t =>
        { t with sec := { t.sec with ce := some { op := op, key := k, stored := stored, alen := alen, len := len } } }
    if op = 0 ∨ 6 < op ∨ !ceFits op alen len then ceResult 5 s
    else if !ceKeyed op then start [] false
    else
      match ceKey s ksel with
      | none => ceResult 5 s
      | some [] => ceResult 6 s
      | some k => start k (decide (ksel ≤ 4))

/-- A write of SEC_CE_CTL: OP and KSEL are stored, GO starts the operation. -/
def ceCtlWrite (v : W32) (s : State) : State :=
  let s := s.setReg rSEC_CE_CTL ((v &&& 0x0F0F0000#32).setWidth 64)
  if v.getLsbD 31 then ceGo (s.rf rSEC_CE_CTL SEC_CE_CTL.OP) (s.rf rSEC_CE_CTL SEC_CE_CTL.KSEL) s else s

/-- What the operation leaves in the buffer and the result registers, and RESULT (R513, R514). -/
def ceEffect (o : CeOp) (s : State) : State :=
  if o.op = 1 then ceResult 0 (ceOut (sha256 (ceBytes s 0 o.len)) s)
  else if o.op = 2 then ceResult 0 (ceOut (hmac o.key (ceBytes s 0 o.len)) s)
  else if o.op = 3 then
    let iv := ceBytes s 0 12
    let aad := ceBytes s 16 o.alen
    let ct := gcmCrypt o.key iv (ceBytes s (16 + o.alen) o.len)
    ceResult 0 (cePut (16 + o.alen) (ct ++ gcmTag o.key iv aad ct) s)
  else if o.op = 4 then
    let iv := ceBytes s 0 12
    let aad := ceBytes s 16 o.alen
    let ct := ceBytes s (16 + o.alen) o.len
    if ceBytes s (16 + o.alen + o.len) 16 = gcmTag o.key iv aad ct then
      ceResult 0 (cePut (16 + o.alen) (gcmCrypt o.key iv ct) s)
    else ceResult 1 (cePut (16 + o.alen) (List.replicate o.len 0) s)
  else if o.op = 5 then
    ceResult (if ecdsaVerify (ceBytes s 0 64) (ceBytes s 64 64) (ceBytes s 128 32) then 0 else 2) s
  else if s.rb rSEC_STAT SEC_STAT.RNG_FAIL then ceResult 3 (ceZero s)
  else ceResult 0 (cePut 0 (natBe o.len (s.freeVal (8 * o.len)).toNat) s.tick1)

/-- The operation in progress ends; a random fill waits for the random source's start-up test (R513, R514). -/
def ceDone (s : State) : State :=
  match s.sec.ce with
  | none => s
  | some o =>
    if !s.domOn 134 ∨ (o.op = 6 ∧ s.sec.rngStarting ∧ !s.rb rSEC_STAT SEC_STAT.RNG_FAIL) then s
    else
      let s := ceEffect o { s with sec := { s.sec with ce := none } }
      s.setRb rSEC_CE_STAT SEC_CE_STAT.BUSY false

/-- An entropy test fails (R514). -/
def rngFail (s : State) : State :=
  { (s.setRb rSEC_STAT SEC_STAT.RNG_FAIL true) with sec := { s.sec with rngStarting := true } }

/-- The start-up test ends (R514). -/
def rngStarted (s : State) : State := { s with sec := { s.sec with rngStarting := false } }

/-! ### Violation inputs (R515, R516) -/

/-- Tamper ball k shows its level in SEC_VIOL. -/
def showTamper (k : Nat) (active : Bool) (s : State) : State := s.setBit rSEC_VIOL (16 + k) active

/-- The hold time of tamper ball k in µs; 0 acts as 1. -/
def tamperHold (s : State) (k : Nat) : Nat := max 1 (s.rf (rSEC_TAMP_CFG k) SEC_TAMP_CFG.DEB)

/-- Tamper ball k has been at a level for held µs: at its active level TLEVEL shows it, and once it has held it for its hold
time it is a violation, once on entering (R515). -/
def tamperActive (k : Nat) (level : Bool) (held : Nat) (s : State) : State :=
  if !s.rb (rSEC_TAMP_CFG k) SEC_TAMP_CFG.EN || level != s.rb (rSEC_TAMP_CFG k) SEC_TAMP_CFG.POL then s
  else
    let s := showTamper k true s
    if k ∈ s.sec.debDown ∨ held < tamperHold s k then s
    else violate k { s with sec := { s.sec with debDown := s.sec.debDown ++ [k] } }

/-- Tamper ball k has left its active level (R515). -/
def tamperReleased (k : Nat) (s : State) : State :=
  showTamper k false { s with sec := { s.sec with debDown := s.sec.debDown.filter fun j => j != k } }

/-- The mesh pattern returns wrong (R515). -/
def meshFault (s : State) : State := if s.rb rSEC_MESH SEC_MESH.EN then violate 4 s else s

/-- A write of SEC_VIOL: a tamper bit whose input is active keeps (R516). -/
def violClear (mask : W64) (s : State) : State :=
  forEach (idxs 0 7)
    (fun k t => if bit mask k && !(decide (k < 4) && t.rbit rSEC_VIOL (16 + k)) then t.setBit rSEC_VIOL k false else t) s

/-! ### Debug access (R520, R521) -/

/-- The random source answers a challenge: no failure, no start-up test, domain 134 on. -/
def challengeRng (s : State) : Bool := s.domOn 134 && !s.rb rSEC_STAT SEC_STAT.RNG_FAIL && !s.sec.rngStarting

/-- A failed attempt lies within 1 s of PWR_UPTIME (R521). -/
def recentFail (s : State) : Bool :=
  match s.sec.lastFail with
  | some t => decide ((s.reg rPWR_UPTIME).toNat < t + 1000000)
  | none => false

/-- CHAL: the 16 bytes shifted out, zeros where the challenge is refused, and the attempt it opens (R514, R521). -/
def debugChallenge (s : State) : List Byte × State :=
  if recentFail s ∨ !challengeRng s then (List.replicate 16 0, s)
  else
    let n := natBe 16 (s.freeVal 128).toNat
    (n, { s.tick1 with sec := { s.tick1.sec with nonce := some n } })

/-- RESP: the public key and signature of the open attempt (R521). -/
def debugResponse (pub sig : List Byte) (s : State) : State :=
  if s.sec.nonce.isNone ∨ s.sec.response.isSome then s
  else { s with sec := { s.sec with response := some (pub, sig) } }

/-- The response unlocks debug (R521). -/
def responseHolds (s : State) (nonce pub sig : List Byte) : Bool :=
  !s.sec.mram.dbgDeny && sha256 pub == s.sec.otp.dbgHash && ecdsaVerify pub sig (sha256 (s.sec.otp.uid ++ nonce))

/-- The attempt ends: debug is unlocked, or DBG_FAIL counts and, from 3 on, source 5 violates (R521). -/
def debugVerified (s : State) : State :=
  match s.sec.nonce, s.sec.response with
  | some n, some (pub, sig) =>
    let ok := responseHolds s n pub sig
    let s := { s with sec := { s.sec with nonce := none, response := none } }
    if ok then
      let s := setMram (fun m => { m with dbgFail := 0 }) s
      showDebug { s with sec := { s.sec with unlocked := true } }
    else
      let s := setMram (fun m => { m with dbgFail := min 255 (m.dbgFail + 1) }) s
      let s := showDebug { s with sec := { s.sec with lastFail := some (s.reg rPWR_UPTIME).toNat } }
      if 3 ≤ s.sec.mram.dbgFail then violate 5 s else s
  | _, _ => s

end Sys2Proof.Machine
end

