-- ==== Sys2Proof/Machine/Boot.lean ====
section
/-! DEFINITION. The power-on reset and chip resets, the boot sequence, images, host-window boot (R61, R83 to
R105, R476). -/

namespace Sys2Proof.Machine

open Sys2Proof

/-! ### Resets -/

/-- The alarm configuration as OTP holds it (R516). -/
def loadAlarms (l : List (Nat × W64)) (s : State) : State :=
  forEach l (fun (p : Nat × W64) t => t.setReg p.1 p.2) s

/-- The power-on reset: everything cleared but the key store and OTP; the regulator strap is sampled (R61, R76, R83,
R87, R516). -/
def powerOn (vsel : Nat) (s : State) : State :=
  let r := State.reset
  let t : State := { r with
    pending := s.pending, free := s.free, resp := s.resp
    rst := { r.rst with pinLow := s.rst.pinLow }
    sec := { r.sec with otp := s.sec.otp, mram := s.sec.mram, eraseMark := s.sec.eraseMark } }
  (loadAlarms s.sec.otp.almDefault t).setRf rPWR_STAT PWR_STAT.VSEL vsel

/-- nRESET is recognised low, which starts a pin reset, or rises (R84). -/
def pinReset (low : Bool) (s : State) : State :=
  if low then
    if s.rst.pinLow then s else chipReset 1 0 { s with rst := { s.rst with pinLow := true } }
  else { s with rst := { s.rst with pinLow := false } }

/-- The Sump's chip reset starts where it is due, with the source that asked for it (R491). -/
def sumpReset (s : State) : State :=
  match s.smp.chipWait with
  | some (n, _) => if sumpDue s then chipReset 3 n s else s
  | none => s

/-- The key of RST_CTL and RST_BLK (R85). -/
def rstKey : Nat := 0xA5C3

/-- A write of RST_CTL (R85). -/
def rstCtlWrite (v : W32) (s : State) : State :=
  if (v >>> 16).toNat = rstKey ∧ v.getLsbD 0 then chipReset 2 0 s else raise srcBadKey s

/-- A write of RST_BLK (R85, R86). -/
def rstBlkWrite (v : W32) (s : State) : State :=
  if (v >>> 16).toNat = rstKey ∧ v.toNat % 64 < 36 then blockReset (v.toNat % 64) s else raise srcBadKey s

/-! ### Images (R95 to R97) -/

/-- A little-endian number of bytes. -/
def leNat (l : List Byte) : Nat := beNat l.reverse

/-- n bytes of an image, which f reads by offset and length, as a little-endian number. -/
def imgNat (f : Nat → Nat → List Byte) (o n : Nat) : Nat := leNat (f o n)

/-- A section of an image (R96). -/
structure Section where
  dest : Nat
  len : Nat
  off : Nat
  kind : Nat
  deriving DecidableEq, Repr

/-- Section i of an image's table. -/
def imgSection (f : Nat → Nat → List Byte) (i : Nat) : Section :=
  let o := 128 + 16 * i
  { dest := imgNat f o 4, len := imgNat f (o + 4) 4, off := imgNat f (o + 8) 4, kind := imgNat f (o + 12) 1 }

/-- The destination range lies wholly inside the memory the KIND names, and not in the event log (R97). A Cavern range
starts at a word. -/
def secDestOk (x : Section) : Bool :=
  match x.kind with
  | 0 => decide (x.dest + x.len ≤ 0x40000)
  | 1 => decide (0x100000 ≤ x.dest) && decide (x.dest + x.len ≤ 0x120000)
  | 2 | 3 =>
    decide (0x10000000 ≤ x.dest) && decide (x.dest + x.len ≤ 0x10000000 + 8 * logBase) && decide (x.dest % 8 = 0)
  | 4 => true
  | _ => false

/-- The sections lie in ascending, non-overlapping order from offset lo to offset hi; a ZERO section has no data
(R96, R97). -/
def sectionsOk (lo hi : Nat) (l : List Section) : Bool :=
  match l with
  | [] => decide (lo ≤ hi)
  | x :: r =>
    decide (x.len % 8 = 0) && secDestOk x &&
      (if x.kind = 3 then sectionsOk lo hi r
       else decide (x.off % 8 = 0) && decide (lo ≤ x.off) && decide (x.off + x.len ≤ hi) &&
         sectionsOk (x.off + x.len) hi r)

/-- The section table of an image of the type is right (R95 to R97). -/
def tableOk4 (f : Nat → Nat → List Byte) (profile : Bool) : Bool :=
  let n := imgNat f 0x0E 2
  let len := imgNat f 0x14 4
  let l := (idxs 0 n).map (imgSection f)
  decide (1 ≤ n) && decide (n ≤ 32) && decide (128 + 16 * n + 64 ≤ len) &&
    sectionsOk (128 + 16 * n) (len - 64) l &&
    (if profile then n == 1 && l.all (fun x => x.kind == 4) else l.all fun x => x.kind != 4)

/-- The failure code of an image, the lowest that applies; 0 where it is accepted (R97, RST_BOOT_STAT). -/
def imageCode (f : Nat → Nat → List Byte) (profile : Bool) (maxLen : Nat) (s : State) : Nat :=
  let len := imgNat f 0x14 4
  let floor := if profile then s.sec.mram.profFloor else s.sec.mram.fwFloor
  if imgNat f 0 4 ≠ 0x494F424D ∨ imgNat f 4 2 ≠ 1 ∨ imgNat f 6 2 ≠ (if profile then 2 else 1) then 1
  else if imgNat f 8 4 ≠ 0x4896 ∨ 0x10 < imgNat f 0xC 1 then 2
  else if imgNat f 0x10 4 < floor.toNat then 3
  else if !tableOk4 f profile then 4
  else if maxLen < len then 5
  else if sha256 (f 0x20 64) ≠ s.sec.otp.bootHash then 6
  else if !ecdsaVerify (f 0x20 64) (f (len - 64) 64) (sha256 (f 0 (len - 64))) then 7
  else 0

/-- The words of Cavern from word w on take the 8-byte slots of l, n of them (R3, R96). -/
def loadSlots (n w : Nat) (l : List Byte) (s : State) : State :=
  match n with
  | 0 => s
  | n + 1 => loadSlots n (w + 1) (l.drop 8) (cavPut w ((ofBytes (l.take 8)).setWidth 40) s)

/-- A section is written to its destination (R96). -/
def loadSection (f : Nat → Nat → List Byte) (x : Section) (s : State) : State :=
  let d := f x.off x.len
  match x.kind with
  | 0 => { s with gde := { s.gde with imem := wrBytes s.gde.imem x.dest d } }
  | 1 => { s with gde := { s.gde with dmem := wrBytes s.gde.dmem (x.dest - 0x100000) d } }
  | 2 => loadSlots (x.len / 8) ((x.dest - 0x10000000) / 8) d s
  | 3 => loadSlots (x.len / 8) ((x.dest - 0x10000000) / 8) (List.replicate x.len 0) s
  | _ => s

/-- Every section of an accepted firmware image is loaded; its ENTRY and VERSION are kept. -/
def loadImage (f : Nat → Nat → List Byte) (s : State) : State :=
  let s := forEach ((idxs 0 (imgNat f 0x0E 2)).map (imgSection f)) (loadSection f) s
  let s := s.setRf rRST_BOOT_VER RST_BOOT_VER.VERSION (imgNat f 0x10 4)
  { s with rst := { s.rst with entry := BitVec.ofNat 32 (imgNat f 0x18 4) } }

/-! ### The limit record (R475, R476) -/

/-- The bits that word w of a limit record may hold (R475). -/
def recMask (w : Nat) : W32 :=
  if w = 0 ∨ w = 2 ∨ w = 100 then 0xFFFFFFFF#32
  else if w = 1 ∨ w = 72 then 0xFFFF#32
  else if 8 ≤ w ∧ w < 20 then 0xC3F803FF#32
  else if 32 ≤ w ∧ w < 48 then
    (if w % 4 = 0 then 0xE00003FF#32 else if w % 4 = 1 then 0x0FFF0FFF#32 else if w % 4 = 2 then 0xFFFF0FFF#32 else 0)
  else if 48 ≤ w ∧ w < 72 then (if w % 2 = 0 then 0xC000FFFF#32 else 0xFFFF#32)
  else if 80 ≤ w ∧ w < 96 then
    (if w % 4 = 0 then 0x8000007F#32 else if w % 4 = 1 then 0xFFFFFF#32
     else if w % 4 = 2 then 0xFFFFFFFF#32 else 0x1F#32)
  else if 96 ≤ w ∧ w < 100 then 0x80000000#32
  else if 104 ≤ w ∧ w < 108 then 0x8001EFFF#32
  else if w = 108 then 0xFFFFFF#32
  else 0

/-- Bits lo to lo + n − 1 of a word. -/
def wordBits (v : W32) (lo n : Nat) : Nat := v.toNat / 2 ^ lo % 2 ^ n

/-- Axis a of a record lies in its ranges; those that shut out zero are checked where the axis is enabled (R475,
R476). -/
def recAxisOk (w : Nat → W32) (a : Nat) : Bool :=
  let pos := wordBits (w (32 + 4 * a)) 0 10
  decide (wordBits (w (33 + 4 * a)) 0 12 ≤ wordBits (w (33 + 4 * a)) 16 12) &&
    (!(w (32 + 4 * a)).getLsbD 31 ||
      (decide (0x210 ≤ pos) && decide (pos ≤ 0x22F) && wordBits (w (34 + 4 * a)) 24 8 != 0 &&
        wordBits (w (34 + 4 * a)) 16 8 != 0))

/-- Two loudspeaker channels of a record are not both enabled with one SLOT (R476). -/
def recSpkApart (w : Nat → W32) (i j : Nat) : Bool :=
  !((w (80 + 4 * i)).getLsbD 31 && (w (80 + 4 * j)).getLsbD 31 &&
    wordBits (w (80 + 4 * i)) 0 7 == wordBits (w (80 + 4 * j)) 0 7)

/-- The boot sequencer accepts the record (R476). -/
def recordOk (w : Nat → W32) : Bool :=
  let flk := (idxs 0 12).any (fun m => (w (48 + 2 * m)).getLsbD 30) || (idxs 0 4).any fun n => (w (96 + n)).getLsbD 31
  let trips := (idxs 0 12).any (fun k => (w (8 + k)).getLsbD 31) || (idxs 0 4).any fun a => (w (32 + 4 * a)).getLsbD 31
  w 0 == 0x4C455447#32 && w 1 == 1#32 &&
    (idxs 0 256).all (fun i => w i &&& ~~~ recMask i == 0) &&
    (idxs 0 4).all (recAxisOk w) &&
    (idxs 0 12).all (fun m => decide (wordBits (w (48 + 2 * m)) 0 16 ≤ 0x8000)) &&
    (idxs 0 4).all (fun i => decide (wordBits (w (81 + 4 * i)) 0 24 ≤ 0x800000) &&
      decide (wordBits (w (83 + 4 * i)) 0 5 ≤ 20)) &&
    (!flk || (wordBits (w 100) 0 8 != 0 && wordBits (w 100) 12 4 != 0 && wordBits (w 100) 16 16 != 0)) &&
    (!trips || wordBits (w 108) 16 8 != 0) &&
    (idxs 0 4).all (fun i => (idxs 0 4).all fun j => i == j || recSpkApart w i j)

/-- An accepted record is loaded: GTE_REC, the comparators, the cartridge maps, the fixture's identifier (R476). -/
def loadRecord (w : Nat → W32) (s : State) : State :=
  let s := forEach (idxs 0 256) (fun i t => t.setReg (rGTE_REC i) ((w i).setWidth 64)) s
  let s := forEach (idxs 0 12) (fun k t => t.setReg (rADC_CMP k) ((w (8 + k) &&& 0xC30003FF#32).setWidth 64)) s
  let s := forEach (idxs 0 4) (fun c t => t.setReg (rLTN_CART_MAP c) ((w (104 + c)).setWidth 64)) s
  s.setReg rGTE_ID ((w 2).setWidth 64)

/-- The Gate is locked, with all-zero limits where no record was accepted, which is the maintenance state (R91, R102,
R103, R477). -/
def lockGate (zero : Bool) (s : State) : State :=
  let s := (s.setRb rGTE_STAT GTE_STAT.LOCK true).setRb rGTE_STAT GTE_STAT.ZERO zero
  if zero then enterMaint s else s

/-- The failure code of a profile, 9 for its record; 0 where it is accepted (R97, R102, R476). -/
def profileCode (f : Nat → Nat → List Byte) (s : State) : Nat :=
  let c := imageCode f true 16384 s
  if c ≠ 0 then c
  else
    let x := imgSection f 0
    if x.dest ≠ 0 ∨ x.len ≠ 1024 then 9
    else if recordOk fun i => BitVec.ofNat 32 (imgNat f (x.off + 4 * i) 4) then 0 else 9

/-- An accepted profile is loaded and the Gate locked; from is the code of PROF (R91, R102). -/
def takeProfile (f : Nat → Nat → List Byte) (from_ : Nat) (s : State) : State :=
  let x := imgSection f 0
  let s := loadRecord (fun i => BitVec.ofNat 32 (imgNat f (x.off + 4 * i) 4)) s
  lockGate false (s.setRf rRST_BOOT_STAT RST_BOOT_STAT.PROF from_)

/-! ### The boot directory (R93, R94) -/

/-- What the boot sequencer takes from the directory. -/
structure BootDir where
  profA : Nat
  profB : Nat
  slotA : Nat
  slotB : Nat
  slotLen : Nat
  preferB : Bool
  trial : Bool
  octal : Bool
  xdiv : Nat
  rdCmd : Nat
  dummy : Nat
  /-- the configuration writes used: opcode, the address bytes it carries, data byte -/
  cfgs : List (List Byte)
  deriving DecidableEq, Repr

/-- The layout where neither copy is valid (R94). -/
def BootDir.dflt : BootDir :=
  { profA := 0x2000, profB := 0x6000, slotA := 0x10000, slotB := 0x810000, slotLen := 0x800000, preferB := false
    trial := false, octal := false, xdiv := 0, rdCmd := 0, dummy := 0, cfgs := [] }

/-- A directory copy is valid (R94). -/
def dirOk (b : List Byte) : Bool :=
  leNat (b.take 4) == 0x4B594244 && leNat ((b.drop 0xFC).take 4) == (crc32 (b.take 0xFC)).toNat

/-- Configuration write CFGi of a directory copy as the boot sequencer sends it: opcode, no address or the 4 address
bytes from the most significant (notes/assumptions/88.md), data (R93). -/
def dirCfg (b : List Byte) (i : Nat) : List Byte :=
  let c := (b.drop (0x10 + 8 * i)).take 8
  c.take 1 ++ (if leNat ((c.drop 1).take 1) = 4 then ((c.drop 2).take 4).reverse else []) ++ (c.drop 6).take 1

/-- The fields of a directory copy (R93). -/
def dirOf (b : List Byte) : BootDir :=
  let n := fun o k => leNat ((b.drop o).take k)
  { profA := n 0x30 4, profB := n 0x34 4, slotA := n 0x38 4, slotB := n 0x3C 4, slotLen := n 0x40 4
    preferB := n 0x44 1 == 1, trial := n 0x45 1 == 1, octal := n 8 1 == 1, xdiv := n 9 1, rdCmd := n 0xA 2
    dummy := n 0xC 1 % 32, cfgs := (idxs 0 (min 4 (n 0xD 1))).map (dirCfg b) }

/-- The directory in use of a flash (R94). -/
def chooseDir (flash : Cells 8) : BootDir :=
  let a := rdBytes flash 0 256
  let b := rdBytes flash 0x1000 256
  let seq := fun (x : List Byte) => leNat ((x.drop 4).take 4)
  if dirOk a && dirOk b then (if seq a < seq b then dirOf b else dirOf a)
  else if dirOk a then dirOf a
  else if dirOk b then dirOf b
  else BootDir.dflt

/-! ### The boot sequence (R89, R90, R92, R98, R99) -/

/-- Us microseconds of the boot pass, and the cycle in progress is the one the timebase lies in (R348, R352). -/
def bootPass (us : Nat) (s : State) : State :=
  let s := passTicks (250 * us) (250 * us * addend s) s
  let one := cyclesTb s 1
  let k := cycleIndex s
  let into := (s.dtm.tb - (k * one.1 + one.2 - 1) / one.2) / max 1 (addend s)
  { s with cyc := { s.cyc with
    idx := k, next := k + 1, start := s.dtm.ticks - into
    midDone := decide ((2 * k + 1) * one.1 < 2 * s.dtm.tb * one.2) } }

/-- The boot report in host-window words 8 to 11 (R99). -/
def bootReport (released : Bool) (s : State) : State :=
  let s := hwnPut 8 0x4B425054#32 s
  let s := hwnPut 9 ((s.reg rRST_BOOT_STAT).setWidth 32) s
  let s := hwnPut 10 (if released then (s.reg rRST_BOOT_VER).setWidth 32 else 0) s
  let s := hwnPut 11 (if released then 1 else 2) s
  { s with hwn := { s.hwn with hbusy := false } }

/-- The Guide is released at ENTRY (order 10 of R90, R92, R516). -/
def release (s : State) : State :=
  let s := s.setRf rRST_BOOT_TIME RST_BOOT_TIME.US (s.dtm.ticks / 250)
  let s := { (bootReport true s) with rst := { s.rst with phase := .running, hostImage := [] } }
  let s := { s with gde := { s.gde with
    banks := tset s.gde.banks Bank.init 8 { tget s.gde.banks Bank.init 8 with pc := s.rst.entry } } }
  lateRaises s

/-- The handshake word of host-window boot (R100). -/
def handshake (n code fail : Nat) (s : State) : State :=
  hwnPut 0 (BitVec.ofNat 32 (n * 65536 + fail * 256 + code)) s

/-- The boot sequencer turns to host-window boot and waits for chunk 0 (R99, R100). -/
def hostBoot (s : State) : State :=
  let s := s.setRf rRST_BOOT_STAT RST_BOOT_STAT.SLOT 2
  let s := handshake 0 1 0 (bootReport false s)
  { s with rst := { s.rst with phase := .hostWait, chunk := 0, hostImage := [] } }

/-- Order 5: the directory's configuration writes are sent, each after a Write Enable, and the port switches to 8-8-8
DTR, where the directory asks for it (R90, R93, R94). -/
def bootXspi (d : BootDir) (s : State) : State :=
  if d.octal then
    { s with rst := { s.rst with xspi := { octal := true, xdiv := d.xdiv, rdCmd := d.rdCmd, dummy := d.dummy
                                           sent := d.cfgs.flatMap fun c => [[6], c] } } }
  else s

/-- The image that begins at an offset of the flash. -/
def flashAt (flash : Cells 8) (base : Nat) : Nat → Nat → List Byte := fun o n => rdBytes flash (base + o) n

/-- Orders 4 and 6: the directory copies are checked, profile A is loaded, or B if A is refused (R94, R102). -/
def bootProfile (flash : Cells 8) (d : BootDir) (s : State) : State :=
  let s := s.setRb rRST_BOOT_STAT RST_BOOT_STAT.DIR_BAD0 (!dirOk (rdBytes flash 0 256))
  let s := s.setRb rRST_BOOT_STAT RST_BOOT_STAT.DIR_BAD1 (!dirOk (rdBytes flash 0x1000 256))
  let a := profileCode (flashAt flash d.profA) s
  if a = 0 then takeProfile (flashAt flash d.profA) 0 s
  else
    let s := s.setRf rRST_BOOT_STAT RST_BOOT_STAT.PFAIL_A a
    let b := profileCode (flashAt flash d.profB) s
    if b = 0 then takeProfile (flashAt flash d.profB) 1 s
    else (s.setRf rRST_BOOT_STAT RST_BOOT_STAT.PFAIL_B b).setRf rRST_BOOT_STAT RST_BOOT_STAT.PROF 2

/-- The failure code of a firmware slot in RST_BOOT_STAT. -/
def slotFail (b : Bool) (code : Nat) (s : State) : State :=
  s.setRf rRST_BOOT_STAT (if b then RST_BOOT_STAT.FAIL_B else RST_BOOT_STAT.FAIL_A) code

/-- A firmware slot is booted (R98). -/
def bootSlot (f : Nat → Nat → List Byte) (b armed : Bool) (s : State) : State :=
  let s := (loadImage f s).setRf rRST_BOOT_STAT RST_BOOT_STAT.SLOT (if b then 1 else 0)
  if armed then (s.setRb rRST_TRIAL RST_TRIAL.ARMED true).setRb rRST_BOOT_STAT RST_BOOT_STAT.TRIAL true else s

/-- Orders 8 and 9: the first accepted slot in the order of R98 is booted; whether one was. -/
def bootFirmware (flash : Cells 8) (d : BootDir) (s : State) : Bool × State :=
  let at_ := fun (b : Bool) => flashAt flash (if b then d.slotB else d.slotA)
  let code := fun (b : Bool) => imageCode (at_ b) false d.slotLen s
  let ran := d.trial && (s.rb rRST_TRIAL RST_TRIAL.ARMED || s.rb rRST_TRIAL RST_TRIAL.FAILED)
  let first := if ran then !d.preferB else d.preferB
  let s := if ran then (s.setRb rRST_TRIAL RST_TRIAL.FAILED true).setRb rRST_TRIAL RST_TRIAL.ARMED false else s
  let failed := fun (b : Bool) (t : State) =>
    if d.trial && b == d.preferB then t.setRb rRST_TRIAL RST_TRIAL.FAILED true else t
  if code first = 0 then
    let s := if ran then slotFail (!first) 8 s else s
    (true, bootSlot (at_ first) first (d.trial && first == d.preferB) s)
  else
    let s := failed first (slotFail first (code first) s)
    if code (!first) = 0 then (true, bootSlot (at_ (!first)) (!first) (d.trial && (!first) == d.preferB) s)
    else (false, failed (!first) (slotFail (!first) (code (!first)) s))

/-- The boot sequence from the end of a reset to the Guide's release, or to the wait for the host (R88 to R103). -/
def bootSequence (bootsel hmode : Bool) (flash : Cells 8) (s : State) : State :=
  if s.rst.phase ≠ .inReset ∨ s.rst.pinLow then s
  else
    let s := (s.setRb rRST_BOOT_STAT RST_BOOT_STAT.BOOTSEL bootsel).setRf rHWN_STAT HWN_STAT.HMODE (if hmode then 1 else 0)
    let s := lateActions (finishErase s)
    let s := finishErase s
    let s := if s.rf rRST_CAUSE RST_CAUSE.CAUSE = 0 then s else bootScan s
    let s := forEach (idxs 0 6) (fun k t => t.setReg (rADC_TCAL k) (BitVec.ofNat 64 (t.sec.otp.tcal.getD k 0 % 4096))) s
    let d := if bootsel then BootDir.dflt else chooseDir flash
    let s := showDebug (bootXspi d { s with rst := { s.rst with slotLen := d.slotLen } })
    let s := if bootsel then s.setRf rRST_BOOT_STAT RST_BOOT_STAT.PROF 2 else bootProfile flash d s
    let s := formVerdict s
    let s := if s.rb rSEC_STAT SEC_STAT.LIC_VALID then s else enterMaint s
    let locked := s.rb rGTE_STAT GTE_STAT.LOCK
    let s := bootPass (s.freeVal 32).toNat s.tick1
    if bootsel then hostBoot { s with rst := { s.rst with needProfile := true } }
    else
      let r := bootFirmware flash d s
      if r.1 then release (if locked then r.2 else lockGate true r.2)
      else hostBoot { r.2 with rst := { r.2.rst with needProfile := !locked } }

/-! ### Host-window boot (R100) -/

/-- The bytes received so far as an image. -/
def hostImg (l : List Byte) : Nat → Nat → List Byte :=
  fun o n => let x := (l.drop o).take n
    x ++ List.replicate (n - x.length) 0

/-- An image from the host is refused: chunk 0 of a new one is expected. A refused profile leaves all-zero limits
(R100, R102). -/
def hostRefuse (code : Nat) (s : State) : State :=
  let s := handshake 0 4 code { s with rst := { s.rst with chunk := 0, hostImage := [] } }
  if s.rst.needProfile then
    lockGate true ({ s with rst := { s.rst with needProfile := false } }.setRf rRST_BOOT_STAT RST_BOOT_STAT.PFAIL_A code)
  else s

/-- The image from the host is whole: it is accepted or refused (R97, R99, R100). -/
def hostWhole (s : State) : State :=
  let f := hostImg s.rst.hostImage
  if s.rst.needProfile then
    let c := profileCode f s
    if c = 0 then
      let s := takeProfile f 3 { s with rst := { s.rst with needProfile := false, chunk := 0, hostImage := [] } }
      handshake 0 3 0 s
    else hostRefuse c s
  else if imgNat f 0 4 = 0x494F424D ∧ imgNat f 6 2 = 2 then
    hostRefuse 1 (s.setRf rRST_BOOT_STAT RST_BOOT_STAT.PFAIL_A 1)
  else
    let c := imageCode f false s.rst.slotLen s
    if c = 0 then release (handshake 0 3 0 (loadImage f s)) else hostRefuse c s

/-- FULL or FULL_LAST stands in word 0: the chunk is ignored, refused or taken (R100). -/
def hostChunk (n : Nat) (last : Bool) (s : State) : State :=
  if n ≠ s.rst.chunk % 65536 then handshake (s.rst.chunk % 65536) 1 0 s
  else
    let len := (hwnWord s 1).toNat
    if len = 0 ∨ 16320 < len ∨ len % 8 ≠ 0 then hostRefuse 5 s
    else
      let d := ((idxs 16 ((len + 3) / 4)).flatMap fun w => bytesOf 4 ((hwnWord s w).setWidth 64)).take len
      let img := s.rst.hostImage ++ d
      let total := imgNat (hostImg img) 0x14 4
      if (128 ≤ img.length ∧ total < img.length) ∨ (last ∧ (img.length < 128 ∨ total ≠ img.length)) then hostRefuse 5 s
      else
        let s := { s with rst := { s.rst with hostImage := img, chunk := s.rst.chunk + 1 } }
        if last then hostWhole s else handshake (s.rst.chunk % 65536) 1 0 s

/-- The boot sequencer looks at the handshake word while it waits for the host (R100). -/
def hostPoll (s : State) : State :=
  if s.rst.phase ≠ .hostWait then s
  else
    let w := hwnWord s 0
    if w.toNat % 256 = 2 then hostChunk (w >>> 16).toNat false s
    else if w.toNat % 256 = 0x12 then hostChunk (w >>> 16).toNat true s
    else s

end Sys2Proof.Machine
end

