-- ==== Sys2Proof/Machine/WaterTable.lean ====
section
/-! DEFINITION. Water table, the loop that steers VCORE (R75 to R82). -/

namespace Sys2Proof.Machine

open Sys2Proof

/-- The state with Water table's state changed. -/
def onWtb (f : Wtb → Wtb) (s : State) : State := { s with wtb := f s.wtb }

/-- A least slack no monitor can report: the window has gathered none. -/
def noSlack : Int := 2 ^ 20

/-- The floor, the ceiling, the interface. -/
def wtbFloor (s : State) : Nat := s.rf rWTB_FLOOR WTB_FLOOR.CODE
def wtbCeil (s : State) : Nat := s.rf rWTB_CEIL WTB_CEIL.CODE
def wtbVid (s : State) : Bool := s.rb rWTB_CTL WTB_CTL.IFACE
def wtbBase (s : State) : Nat := s.rf rWTB_VID_BASE WTB_VID_BASE.CODE

/-- The mode the register asks for; 0b11 acts as OFF (R76). -/
def wtbAsked (s : State) : Nat := let m := s.rf rWTB_CTL WTB_CTL.MODE; if m = 3 then 0 else m

/-- The code reaches the regulator: WTB_CUR shows it, the loop works from it (R82). -/
def wtbTaken (c : Nat) (s : State) : State :=
  let s := (s.setRf rWTB_CUR WTB_CUR.CODE c).setRb rWTB_CUR WTB_CUR.VALID true
  onWtb (fun w => { w with code := c, issued := true }) s

/-- Water table issues a code and settles (R75, R79): on the VID pins, where a code outside their span is driven modulo
64 (notes/assumptions/84.md), or as 900 + 5c mV to the rail of AVS_RAIL. -/
def wtbIssue (c : Nat) (s : State) : State :=
  let due := s.dtm.ticks + 250 * max 1 (s.rf rWTB_SETTLE WTB_SETTLE.US)
  let s := onWtb (fun w => { w with settling := true, settleAt := due, miss := 0, again := none }) s
  if wtbVid s then wtbTaken c (onWtb (fun w => { w with vid := some ((c + 64 - wtbBase s % 64) % 64) }) s)
  else onWtb (fun w => { w with avs := some ⟨c, s.rf rWTB_CTL WTB_CTL.AVS_RAIL, 900 + 5 * c, 0⟩ }) s

/-- A wanted code within the bounds, with the flags and the counter of R81. -/
def wtbClamp (want : Int) (s : State) : Nat × State :=
  let hi := decide ((wtbCeil s : Int) < want)
  let lo := !hi && decide (want < (wtbFloor s : Int))
  let s := (s.setRb rWTB_STAT WTB_STAT.AT_CEIL hi).setRb rWTB_STAT WTB_STAT.AT_FLOOR lo
  let s := if hi then s.bumpSat rWTB_STAT WTB_STAT.CEIL_HIT_CNT else s
  (if hi then wtbCeil s else if lo then wtbFloor s else want.toNat, s)

/-- The evaluation window restarts here. -/
def wtbRestart (s : State) : State := onWtb (fun w => { w with win := 0, minSlack := noSlack, restart := false }) s

/-- The AUTO loop wants a code: issued where it is not the one in force. -/
def wtbWant (want : Int) (s : State) : State :=
  let r := wtbClamp want s
  if r.1 = r.2.wtb.code then r.2 else wtbIssue r.1 r.2

/-- A code whose transaction failed is tried again, within the bounds as they now stand (R82). -/
def wtbAgain (s : State) : State :=
  match s.wtb.again with
  | none => s
  | some c => let r := wtbClamp c s; wtbIssue r.1 r.2

/-- One boundary of the AUTO loop while it is not settling (R79). -/
def wtbAuto (s : State) : State :=
  let s := if s.wtb.restart then wtbRestart s else onWtb (fun w => { w with win := w.win + 1 }) s
  let w := s.wtb
  let code : Int := w.code
  let tgt : Int := s.rf rWTB_SLACK WTB_SLACK.SLK_TGT
  let band : Int := s.rf rWTB_SLACK WTB_SLACK.SLK_BAND
  if w.miss &&& w.mask ≠ 0 then wtbWant (code + max 1 (s.rf rWTB_LOOP WTB_LOOP.STEP_MISS)) s
  else if max 1 (s.rf rWTB_LOOP WTB_LOOP.EVAL) ≤ w.win then
    let s := wtbRestart s
    if w.minSlack ≠ noSlack ∧ w.minSlack < tgt then wtbWant (code + 1) s
    else if w.minSlack ≠ noSlack ∧ tgt + band < w.minSlack then wtbWant (code - 1) s
    else wtbWant code s
  else s

/-- The settle time has expired, with no transaction left: the window restarts at the first boundary after (R79). -/
def wtbSettled (s : State) : State :=
  if s.wtb.settling && s.wtb.avs.isNone && decide (s.wtb.settleAt ≤ s.dtm.ticks) then
    onWtb (fun w => { w with settling := false, restart := true }) s
  else s

/-- The masks the registers hold, monitor u at bit u. -/
def wtbMasks (s : State) : BitVec 36 :=
  ((s.reg rWTB_MON_MASK_LO).setWidth 32).setWidth 36 ||| ((s.reg rWTB_MON_MASK_HI).setWidth 36 <<< 32)

/-- The mode and the masks that writes have left take effect (R76, R80); a mode that changes starts with no miss. -/
def wtbLoad (s : State) : State :=
  let m := wtbAsked s
  onWtb (fun w => { w with
    mode := m, miss := if m = w.mode then w.miss else 0, mask := if w.restart then wtbMasks s else w.mask }) s

/-- Water table at a cycle boundary (R76, R78 to R80, R82). A bound that is forced comes before a target or a code to
be tried again that is due at the same boundary (notes/assumptions/85.md). -/
def wtbBoundary (s : State) : State :=
  let s := wtbLoad (wtbSettled s)
  let m := s.wtb.mode
  let w := s.wtb
  if m = 0 then onWtb (fun w => { w with forced := false, manual := false, again := none }) s
  else if w.forced && (decide (w.code < wtbFloor s) || decide (wtbCeil s < w.code)) then
    wtbIssue (if w.code < wtbFloor s then wtbFloor s else wtbCeil s) (onWtb (fun w => { w with forced := false }) s)
  else
    let s := onWtb (fun w => { w with forced := false }) s
    if m = 1 then
      if w.manual then
        let r := wtbClamp (s.rf rWTB_TARGET WTB_TARGET.CODE) s
        wtbIssue r.1 (onWtb (fun w => { w with manual := false }) r.2)
      else wtbAgain s
    else if w.settling then s
    else if w.again.isSome then wtbAgain s
    else wtbAuto s

/-- A write of FLOOR or CEIL (R77, R80). -/
def wtbBound (ceil : Bool) (c : Nat) (s : State) : State :=
  let lo := if ceil then wtbFloor s else c
  let hi := if ceil then c else wtbCeil s
  if 180 < c ∨ hi < lo ∨ (wtbVid s ∧ (lo < wtbBase s ∨ wtbBase s + 63 < hi)) then
    raise srcWtbBound (s.setRb rWTB_STAT WTB_STAT.BOUND_ERR true)
  else
    let s := if ceil then s.setRf rWTB_CEIL WTB_CEIL.CODE c else s.setRf rWTB_FLOOR WTB_FLOOR.CODE c
    if s.wtb.code < lo ∨ hi < s.wtb.code then onWtb (fun w => { w with forced := true }) s else s

/-- A write of WTB_TARGET (R78). -/
def wtbTarget (c : Nat) (s : State) : State :=
  onWtb (fun w => { w with manual := true }) (s.setRf rWTB_TARGET WTB_TARGET.CODE c)

/-- A write of MODE takes effect at the next boundary and restarts the window (R76, R80); one that selects MANUAL
asks for the code in WTB_TARGET (notes/assumptions/30.md). -/
def wtbMode (m : Nat) (s : State) : State :=
  onWtb (fun w => { w with restart := true, manual := w.manual || m == 1 }) (s.setRf rWTB_CTL WTB_CTL.MODE m)

/-- A write of EVAL, STEP_MISS, SLK_TGT, SLK_BAND or a mask restarts the window (R80). -/
def wtbTouch (s : State) : State := onWtb (fun w => { w with restart := true }) s

/-- An AVSBus transaction ends: acknowledged, tried again up to three times, or failed, its code then waiting for the
next boundary that acts (R82). Once OFF has taken effect nothing is sent again (R76). -/
def avsDone (good : Bool) (s : State) : State :=
  match s.wtb.avs with
  | none => s
  | some x =>
    if good then wtbTaken x.code (onWtb (fun w => { w with avs := none }) s)
    else if s.wtb.mode = 0 then onWtb (fun w => { w with avs := none, settling := false }) s
    else if x.fails < 3 then onWtb (fun w => { w with avs := some { x with fails := x.fails + 1 } }) s
    else
      let s := onWtb (fun w => { w with avs := none, settling := false, again := some x.code }) s
      raise srcAvsFailure (s.setRb rWTB_STAT WTB_STAT.AVS_ERR true)

end Sys2Proof.Machine
end

