-- ==== Sys2Proof/Machine/Timer.lean ====
section
/-! DEFINITION. Timers TIM0 to TIM7 and the events they raise (R133 to R137). -/

namespace Sys2Proof.Machine

open Sys2Proof

/-- Timer n beside its registers. -/
def timOf (s : State) (n : Nat) : Timer := tget s.tim Timer.init n
def setTim (n : Nat) (x : Timer) (s : State) : State := { s with tim := tset s.tim Timer.init n x }

/-- The event of timer n: the roster, Siphon and Cairn, the Chambers its CHMEV names, the converters, Echo (R137,
R244, R418, R444). -/
def timerEvent (n : Nat) (s : State) : State :=
  let s := timerRosterEvent n s
  let s := forEach (idxs 0 16)
    (fun k t => if t.rbit (rTIM_CTL n) (16 + k) && !t.held k then chmEvent n k t else t) s
  let s := adcEvent (8 + n) s
  if s.rb rECHO_CTL ECHO_CTL.TTRIG && s.rf rECHO_CTL ECHO_CTL.TSEL == n && !s.held 20 then echoTrigger s else s

/-- Timer n stands at its terminal count: its next tick is the one that finds CNT at or above PERIOD (R134). -/
def timerAtTop (s : State) (n : Nat) : Bool :=
  timLive s n && timMode s n != 3 && decide ((timOf s n).period.toNat ≤ s.rf (rTIM_CNT n) TIM_CNT.CNT)

/-- A tick finds CNT at or above PERIOD, or has found it there already and the event is due: the event is raised
(R134). -/
def timerExpire (n : Nat) (s : State) : State :=
  let s := if (timOf s n).due = 0 ∧ timerAtTop s n then timerTop n s else s
  let x := timOf s n
  if x.due = 0 then s else timerEvent n (setTim n { x with due := x.due - 1 } s)

/-- The events that are due are raised, timer by timer (R133). -/
def timersDue (s : State) : State :=
  forEach (idxs 0 8) (fun n t => if (timOf t n).due = 0 then t else timerExpire n t) s

/-- The tick of a timer in CAPTURE that wraps from 0xFFFF_FFFF to 0 (R134). -/
def timerWraps (n : Nat) (s : State) : State :=
  if timLive s n ∧ timMode s n = 3 ∧ s.rf (rTIM_CNT n) TIM_CNT.CNT = 0xFFFFFFFF then timerCount n 1 s else s

/-- An edge of pin TSIN pin to a level that it has then held for a number of ticks of 4 ns, at timer n's edge detector:
the detector of the pin TSEL names accepts it once the level is new and has been held for TICKS. An accepted edge that EDGE
selects is captured (R136). -/
def timerEdge (n pin : Nat) (rising : Bool) (held : Nat) (s : State) : State :=
  if !s.domOn 135 || s.held 35 || s.rf (rTIM_CTL n) TIM_CTL.TSEL != pin ||
      decide (held < s.rf (rTIM_DEB n) TIM_DEB.TICKS) || (timOf s n).level == rising then s
  else
    let s := setTim n { timOf s n with level := rising } s
    let e := s.rf (rTIM_DEB n) TIM_DEB.EDGE
    if timLive s n ∧ timMode s n = 3 ∧ (if rising then e % 2 = 1 else 2 ≤ e) then
      let s := if s.rb (rTIM_STAT n) TIM_STAT.CAPF then s.setRb (rTIM_STAT n) TIM_STAT.CAP_OVR true else s
      let s := s.setRf (rTIM_CAP n) TIM_CAP.CAP (s.rf (rTIM_CNT n) TIM_CNT.CNT)
      timerEvent n (s.setRb (rTIM_STAT n) TIM_STAT.CAPF true)
    else s

/-- A write of TIM_CTL_n: a timer that enters ONESHOT or PERIODIC takes its period (R135). -/
def timCtlWrite (n : Nat) (v : W64) (s : State) : State :=
  let old := timMode s n
  let s := s.setReg (rTIM_CTL n) v
  let m := timMode s n
  if m ≠ old ∧ (m = 1 ∨ m = 2) then takePeriod n s else s

/-- A tick of source 2 (cycle boundaries) or 3 (L-domain boundaries) reaches the timers that count it (R133). -/
def timersTick (src : Nat) (s : State) : State :=
  forEach (idxs 0 8) (fun n t => if t.rf (rTIM_CTL n) TIM_CTL.TICK = src then timerCount n 1 t else t) s

end Sys2Proof.Machine
end

