-- ==== Sys2Proof/Machine/GalLink.lean ====
section
/-! DEFINITION. Gallery: enabling, roles, IDs, LINK frames, link delay, the ring's closure, messages queued,
management (R15 to R19, R316, R317, R321, R322, R331, R337 to R347). -/

namespace Sys2Proof.Machine

open Sys2Proof

/-! ### Bytes -/

/-- Byte o of a payload as a number; zero past its end. -/
def pbyte (p : List Byte) (o : Nat) : Nat := (p.getD o 0).toNat

/-- n bytes of a payload from byte o as a big-endian number (R321). -/
def pnum (p : List Byte) (o n : Nat) : Nat := beNat ((p.drop o).take n)

/-- The payload with the bytes vs from byte o on. -/
def putAt (p : List Byte) (o : Nat) (vs : List Byte) : List Byte := p.take o ++ vs ++ p.drop (o + vs.length)

/-- A timebase value in the 12-byte layout of ORIGIN (R327). -/
def timeBytes (tb : Nat) : List Byte :=
  natBe 6 (tb / 2 ^ 28 / 1000000000) ++ natBe 4 (tb / 2 ^ 28 % 1000000000) ++ natBe 2 (tb / 2 ^ 12 % 2 ^ 16)

/-- The time of 12 bytes in units of 2⁻¹⁶ ns. -/
def timeOf (p : List Byte) (o : Nat) : Nat := (pnum p o 6 * 1000000000 + pnum p (o + 6) 4) * 2 ^ 16 + pnum p (o + 10) 2

/-- The header of a Gallery payload (R322). -/
def galHeader (type sec : Nat) (ret far : Bool) (cycle : Nat) : List Byte :=
  [BitVec.ofNat 8 (0x10 + type), BitVec.ofNat 8 sec,
   BitVec.ofNat 8 ((if ret then 0x80 else 0) + (if far then 0x40 else 0)), 0] ++ natBe 4 cycle

/-! ### The node -/

/-- The state with Gallery's state changed. -/
def onGal (f : Gal → Gal) (s : State) : State := { s with gal := f s.gal }

/-- Port n. -/
def galPort (s : State) (n : Nat) : GalPort := tget s.gal.ports GalPort.init n
def setPort (n : Nat) (p : GalPort) (s : State) : State := onGal (fun g => { g with ports := tset g.ports GalPort.init n p }) s

/-- Port n of a Gallery that runs is powered. -/
def galLive (s : State) (n : Nat) : Bool := galOn s && s.domOn (116 + n)

/-- The head's RING, as taken at EN. -/
def ringCfg (s : State) : Bool := headCfg s && cfgOf GAL_CTL.RING s.gal.ctl == 1

/-- The node has the role HEAD. -/
def isHead (s : State) : Bool := galOn s && s.rf rGAL_NODE GAL_NODE.ROLE == 0

/-- Port n is a management port (R316). -/
def portMgmt (s : State) (n : Nat) : Bool :=
  cfgOf GAL_PORT.MGMT (if n = 0 then s.gal.port0 else s.gal.port1) == 1 && !(n == 0 && ringCfg s)

/-- GAL_PORT_STAT_n. -/
def phyUp (s : State) (n : Nat) : Bool := s.rb (rGAL_PORT_STAT n) GAL_PORT_STAT.PHY_UP
def phyGig (s : State) (n : Nat) : Bool :=
  phyUp s n && s.rb (rGAL_PORT_STAT n) GAL_PORT_STAT.FDX && s.rf (rGAL_PORT_STAT n) GAL_PORT_STAT.SPEED == 2
def standby (s : State) (n : Nat) : Bool := s.rb (rGAL_PORT_STAT n) GAL_PORT_STAT.STANDBY
def glink (s : State) (n : Nat) : Bool := s.rb (rGAL_PORT_STAT n) GAL_PORT_STAT.GLINK

/-- The ring is wrapped; the node is in the far arm. -/
def wrapped (s : State) : Bool := s.rb rGAL_NODE GAL_NODE.WRAP
def farArm (s : State) : Bool := s.rb rGAL_NODE GAL_NODE.ARM

/-- The upstream and the downstream port of a member (R345). -/
def upPort (s : State) : Nat := if farArm s then 1 else 0
def downPort (s : State) : Nat := 1 - upPort s

/-- The node's ID and RLAG. -/
def nodeId (s : State) : Nat := s.rf rGAL_NODE GAL_NODE.ID
def rlag (s : State) : Nat := s.rf rGAL_WRAP GAL_WRAP.RLAG

/-- Frame timestamps are taken: domain 120 is powered (R358). -/
def stamps (s : State) : Bool := s.domOn 120

/-- The receive timestamp t of port n less RXLAT, and the transmit timestamp t with TXLAT, both signed and in units of
2⁻⁴ ns (R360; notes/assumptions/31.md). -/
def rxStamp (s : State) (n t : Nat) : Nat :=
  ((t : Int) - ((s.reg (rDTM_PTP_LAT n)).setWidth 16).toInt * 2 ^ 24).toNat
def txStamp (s : State) (n t : Nat) : Nat :=
  ((t : Int) + ((s.reg (rDTM_PTP_LAT n)).extractLsb' 16 16).toInt * 2 ^ 24).toNat

/-- Ticks of a cycle period, rounded up (R26). -/
def cycleTicks (s : State) : Nat := if s.cyc.fam < 2 then 31250 else 34014

/-- Ticks of the wire time of n bytes at 1 Gb/s. -/
def wireTicks (n : Nat) : Nat := 2 * n

/-- A Gallery frame is sent on port n: DA, the payload behind the Gallery EtherType, and whether its FCS is right
(R321). -/
def galSend (n : Nat) (da sa : List Byte) (payload : List Byte) (good : Bool) (s : State) : State :=
  let p := galPort s n
  setPort n { p with sent := p.sent ++ [(da ++ sa ++ natBe 2 s.gal.etype ++ payload, good)] } s

/-- The DA of train sections and of LINK frames. -/
def daTrain : List Byte := [0x03, 0x4B, 0x59, 0x47, 0x00, 0x00]
def daLink : List Byte := [0x03, 0x4B, 0x59, 0x47, 0x00, 0x01]

/-! ### Enabling (R337) -/

/-- GAL_MAC. -/
def macRegs (s : State) : List Byte :=
  natBe 2 ((s.reg rGAL_MAC_HI).toNat % 65536) ++ natBe 4 ((s.reg rGAL_MAC_LO).toNat % 2 ^ 32)

/-- The links and their standing are gone. -/
def portsDown (s : State) : State :=
  forEach [0, 1]
    (fun n t =>
      let t := setPort n { GalPort.init with queue := (galPort t n).queue, sent := (galPort t n).sent } t
      ((t.setRb (rGAL_PORT_STAT n) GAL_PORT_STAT.GLINK false).setRb (rGAL_PORT_STAT n) GAL_PORT_STAT.STANDBY false).setReg
        (rGAL_LDLY n) 0) s

/-- Everything of the chain that a node forgets when Gallery starts or stops. -/
def galForget (s : State) : State :=
  let s := portsDown s
  let s := onGal (fun g => { g with
    famTaken := false, idmode := none, derive := false, dup := false, next := none, pMute := none, trains := []
    talks := [], lpub := [], lostRun := [], fade := [], relayed := [], commits := [], settx := none, wrapReq := false
    restore := none, restored := 0, launch := none, backNear := none, backFar := none, relays := [], curTrain := []
    first := none }) s
  let s := (s.setRf rGAL_NODE GAL_NODE.ID 0).setRf rGAL_NODE GAL_NODE.ROLE 3
  let s := (s.setRb rGAL_NODE GAL_NODE.ARM false).setRb rGAL_NODE GAL_NODE.WRAP false
  (s.setReg rGAL_WRAP 0).setRb rGAL_SETTX GAL_SETTX.BUSY false

/-- EN is set: the fields of the chapter's list are taken (R337, R41). -/
def galStart (s : State) : State :=
  let p := pMicros s
  let n := nL s
  let s := galForget (s.setRb rGAL_CTL GAL_CTL.EN true)
  let w := fun a => (s.reg a).setWidth 32
  let s := onGal (fun g => { g with
    ctl := w rGAL_CTL, etype := (s.reg rGAL_ETYPE).toNat % 65536, mac := macRegs s, port0 := w (rGAL_PORT 0)
    port1 := w (rGAL_PORT 1) }) s
  let s := (s.setRf rGAL_CYC_STAT GAL_CYC_STAT.P_US p).setRf rGAL_CYC_STAT GAL_CYC_STAT.N_L n
  let s := s.setRf rGAL_CYC_STAT GAL_CYC_STAT.FAM s.cyc.fam
  if headCfg s then { s with cyc := { s.cyc with famNext := some (s.rf rGAL_CYC_CTL GAL_CYC_CTL.FAM) } }
  else s.setRf rGAL_NODE GAL_NODE.POS 255

/-- A write of EN (R337). -/
def galEnableWrite (on : Bool) (s : State) : State :=
  if s.rb rGAL_CTL GAL_CTL.EN = on then s
  else if on then galStart s
  else galForget (s.setRb rGAL_CTL GAL_CTL.EN false)

/-! ### LINK frames (R338, R339) -/

/-- The payload of the LINK frame that leaves port n now (R338). -/
def linkPayload (s : State) (n : Nat) (wrap : Bool) : List Byte :=
  let p := galPort s n
  let role := s.rf rGAL_NODE GAL_NODE.ROLE
  let flags := role * 64 + n * 32 + (if standby s n then 16 else 0) + (if wrap then 8 else 0)
  let t := fun (x : Nat) => if stamps s then timeBytes x else List.replicate 12 0
  let e := match p.echo with
    | some (ttx, at') => natBe 6 (ttx / 2 ^ 16 / 1000000000) ++ natBe 4 (ttx / 2 ^ 16 % 1000000000) ++ natBe 2 (ttx % 2 ^ 16) ++ t at'
    | none => List.replicate 24 0
  galHeader 2 0 false false s.cyc.idx ++ [BitVec.ofNat 8 (nodeId s), BitVec.ofNat 8 flags] ++ t (txStamp s n s.dtm.tb) ++
    e ++ [0, 0]

/-- A LINK frame leaves port n. -/
def linkSend (n : Nat) (wrap : Bool) (s : State) : State :=
  let pay := linkPayload s n wrap
  let s := galSend n daLink s.gal.mac pay true s
  let p := galPort s n
  let txs := (p.txs ++ [(s.cyc.idx, txStamp s n s.dtm.tb / 2 ^ 12)]).filter fun x => decide (s.cyc.idx ≤ x.1 + 64)
  setPort n { p with linkDue := false, txs := if stamps s then txs else p.txs } s

/-- The mean link delay of port n is shown, in units of 2⁻⁴ ns (R339). -/
def showDelay (n : Nat) (s : State) : State :=
  let l := (galPort s n).samples
  if l.isEmpty then s
  else
    let m := (l.sum / (l.length : Int)) / 2 ^ 24
    s.setReg (rGAL_LDLY n) (BitVec.ofNat 64 (2 ^ 31 + (max 0 m).toNat % 2 ^ 31))

/-- Port n meets the conditions of an established Gallery link (R340); a link that recovers during WRAP is standby
(R345). The closure of the ring is standby outside WRAP. -/
def linkCheck (n : Nat) (closure : Bool) (s : State) : State :=
  let two := match (galPort s n).links with
    | a :: r => r.any fun b => b != a
    | [] => false
  let st := rGAL_PORT_STAT n
  if !two || !phyGig s n || portMgmt s n then s
  else if closure then
    (s.setRb st GAL_PORT_STAT.STANDBY (!wrapped s)).setRb st GAL_PORT_STAT.GLINK (wrapped s)
  else if glink s n then s
  else if wrapped s then s.setRb st GAL_PORT_STAT.STANDBY true
  else (s.setRb st GAL_PORT_STAT.STANDBY false).setRb st GAL_PORT_STAT.GLINK true

/-- A LINK frame arrives on port n (R338 to R340, R344, R345). -/
def linkReceive (n m : Nat) (p : List Byte) (good : Bool) (s : State) : State :=
  if !galLive s n || portMgmt s n || !good || pbyte p 0 != 0x12 || pbyte p 1 != 0 || p.length != 48 then s
  else
    let role := pbyte p 9 / 64
    let closure := if n = 0 then ringCfg s else role == 0 && pbyte p 9 / 32 % 2 == 0
    let a2 := rxStamp s n (edgeTime m s)
    let q := galPort s n
    let echo := timeOf p 22
    let known := q.txs.any fun x => x.2 == echo && decide (s.cyc.idx ≤ x.1 + 64)
    let sample : List Int :=
      if stamps s && echo != 0 && known then
        [((a2 : Int) - echo * 2 ^ 12 - ((timeOf p 10 : Int) - timeOf p 34) * 2 ^ 12) / 2]
      else []
    let samples := q.samples ++ sample
    let samples := samples.drop (samples.length - 16)
    let q := { q with
      links := (pnum p 4 4 :: q.links).take 8, heard := some s.cyc.idx, closure := closure, samples := samples
      echo := if stamps s then some (timeOf p 10, a2) else q.echo }
    let s := showDelay n (setPort n q s)
    let s := if closure && n == 0 && !s.gal.wrapReq && pbyte p 9 / 8 % 2 == 1 && !wrapped s then
        onGal (fun g => { g with wrapReq := true }) s
      else s
    linkCheck n closure s

/-- Port n loses its Gallery link; the ring tail that loses it on GAL0 asks for WRAP on the closure at once
(R340, R345). -/
def glinkDrop (n : Nat) (s : State) : State :=
  if !galOn s || !glink s n then s
  else
    let s := s.setRb (rGAL_PORT_STAT n) GAL_PORT_STAT.GLINK false
    let s := setPort n { galPort s n with links := [], train := none, got := none, badTrain := none } s
    let s := raise (srcGlinkLoss n) s
    if n = 0 ∧ !headCfg s ∧ (galPort s 1).closure ∧ standby s 1 ∧ !wrapped s then linkSend 1 true s else s

/-- Port n has a condition that ends its link: a side that carries trains misses the second in a row, the section 0 of
which has not begun 2 µs after its expected start; a port without trains has heard no valid LINK frame for 48 cycles
(R340). -/
def glinkFails (s : State) (n : Nat) : Bool :=
  match (galPort s n).got with
  | some t => decide (t + 2 * cycleTicks s + 500 < s.dtm.ticks)
  | none => decide ((galPort s n).heard.getD 0 + 48 ≤ s.cyc.idx)

/-- The instant at which port n may lose its link (R340). -/
def glinkLost (n : Nat) (s : State) : State := if glinkFails s n then glinkDrop n s else s

/-- A section of train j comes invalid on port n; after one of the train before it, two trains in a row were invalid
(R340). -/
def trainInvalid (n j : Nat) (s : State) : State :=
  if (galPort s n).badTrain = some (j - 1) ∧ 0 < j then glinkDrop n s
  else setPort n { galPort s n with badTrain := some j } s

/-- A PHY reports a change (R317, R340). -/
def phyChange (n : Nat) (up fdx : Bool) (speed : Nat) (s : State) : State :=
  let a := rGAL_PORT_STAT n
  let s := (s.setRb a GAL_PORT_STAT.PHY_UP up).setRb a GAL_PORT_STAT.FDX fdx
  let s := s.setRf a GAL_PORT_STAT.SPEED speed
  if phyGig s n then s
  else
    let s := setPort n { galPort s n with links := [], heard := none } (glinkDrop n s)
    s.setRb a GAL_PORT_STAT.STANDBY false

/-! ### Roles, IDs and the ring at a boundary (R16, R17, R337, R341, R342, R345, R347) -/

/-- The ID a member derives afresh (R341). -/
def derivedId (s : State) : Nat :=
  let pos := s.rf rGAL_NODE GAL_NODE.POS
  let st := s.rf rGAL_NODE GAL_NODE.STORED_ID
  if 254 ≤ pos then 0
  else if s.gal.idmode = some true then pos + 1
  else if st ≤ 1 ∨ st = 255 then 0 else st

/-- P_US, N_L and LBLK as the head's register gives them (R26, R326). -/
def headParams (s : State) : Nat × (Nat × Nat) :=
  let n := s.rf rGAL_CYC_CTL GAL_CYC_CTL.N_L
  let b := s.rf rGAL_CYC_CTL GAL_CYC_CTL.LBLK
  (clampP (s.rf rGAL_CYC_CTL GAL_CYC_CTL.P_US),
   (if n < 2 then 2 else if 80 < n then 80 else n, if b = 0 then 1 else if 4 < b then 4 else b))

/-- P, N_L and LBLK take effect; a change of P mutes the outputs for P_eff cycles (R337). -/
def takeParams (x : Nat × (Nat × Nat)) (s : State) : State :=
  let p0 := s.rf rGAL_CYC_STAT GAL_CYC_STAT.P_US
  let s := (s.setRf rGAL_CYC_STAT GAL_CYC_STAT.P_US x.1).setRf rGAL_CYC_STAT GAL_CYC_STAT.N_L x.2.1
  let s := s.setRf rGAL_CYC_STAT GAL_CYC_STAT.LBLK x.2.2
  if p0 = x.1 then s
  else
    onGal (fun g => { g with pMute := some (s.cyc.idx + pCycles s) }) (s.setRb rGAL_STAT GAL_STAT.P_CHG true)

/-- The ring returns to its roles (R347). -/
def ringRestore (s : State) : State :=
  let s := (s.setRb rGAL_NODE GAL_NODE.WRAP false).setRb rGAL_NODE GAL_NODE.ARM false
  let s := forEach [0, 1]
    (fun n t =>
      let a := rGAL_PORT_STAT n
      if (galPort t n).closure then
        (t.setRb a GAL_PORT_STAT.STANDBY (glink t n || standby t n)).setRb a GAL_PORT_STAT.GLINK false
      else if standby t n then (t.setRb a GAL_PORT_STAT.STANDBY false).setRb a GAL_PORT_STAT.GLINK true
      else t) s
  let s := s.setRf rGAL_WRAP GAL_WRAP.RLAG 0
  onGal (fun g => { g with
    restore := none, restored := s.cyc.idx, launch := none, backNear := none, backFar := none, relays := [], relayed := [] }) s

/-- The head enters WRAP (R345). -/
def enterWrap (s : State) : State :=
  let s := onGal (fun g => { g with
    wrapReq := false, launch := some (s.cyc.idx, s.dtm.ticks), backNear := none, backFar := none }) s
  let s := s.setRb rGAL_NODE GAL_NODE.WRAP true
  (s.setRb (rGAL_PORT_STAT 0) GAL_PORT_STAT.STANDBY false).setRb (rGAL_PORT_STAT 0) GAL_PORT_STAT.GLINK true

/-- The node's role and ID at a boundary; beyond the 254th place a member holds ID 0 in either mode (R16, R19, R341,
R342). -/
def roleBoundary (s : State) : State :=
  if headCfg s then (s.setRf rGAL_NODE GAL_NODE.ROLE 0).setRf rGAL_NODE GAL_NODE.ID 1
  else
    let s := s.setRf rGAL_NODE GAL_NODE.ROLE (if glink s (downPort s) then 1 else 2)
    if 254 ≤ s.rf rGAL_NODE GAL_NODE.POS then
      onGal (fun g => { g with derive := true, dup := false }) (s.setRf rGAL_NODE GAL_NODE.ID 0)
    else if s.gal.derive then
      onGal (fun g => { g with derive := false, dup := false }) (s.setRf rGAL_NODE GAL_NODE.ID (derivedId s))
    else if s.gal.dup then onGal (fun g => { g with dup := false }) (s.setRf rGAL_NODE GAL_NODE.ID 0)
    else s

/-- Gallery's own standing at a boundary, before the train of the cycle: restore and wrap of the ring, role, ID,
P, N_L and LBLK, the end of the mute of R337, the LINK frames due. -/
def galBoundary (s : State) : State :=
  if !galOn s then s
  else
    let s := forEach [0, 1] (fun n t => glinkLost n (setPort n { galPort t n with sent := [] } t)) s
    let s := if s.gal.restore = some s.cyc.idx then ringRestore s else s
    let s := if s.gal.wrapReq && isHead s then enterWrap s else s
    let s := roleBoundary s
    let s := if isHead s then takeParams (headParams s) s
      else
        match s.gal.next with
        | some x => takeParams x (onGal (fun g => { g with next := none }) s)
        | none => s
    let s := match s.gal.pMute with
      | some c => if c ≤ s.cyc.idx then onGal (fun g => { g with pMute := none }) s else s
      | none => s
    let s := s.setRf rGAL_CYC_STAT GAL_CYC_STAT.FAM s.cyc.fam
    if s.cyc.idx % 16 = 0 then
      forEach [0, 1]
        (fun n t =>
          if phyUp t n && !portMgmt t n && !(n == 0 && headCfg t && !ringCfg t) then
            setPort n { galPort t n with linkDue := true } t
          else t) s
    else s

/-- A write of RESTORE (R347): counted on the head in WRAP only. -/
def galRestoreWrite (s : State) : State :=
  if isHead s && wrapped s && s.gal.restore.isNone then onGal (fun g => { g with restore := some (s.cyc.idx + 4) }) s else s

/-- STORED_ID takes a value by a write or by an ASSIGN: a member in STORED mode derives its ID afresh (R341). -/
def storedIdSet (v : Nat) (s : State) : State :=
  let s := s.setRf rGAL_NODE GAL_NODE.STORED_ID v
  if !headCfg s && s.gal.idmode == some false then onGal (fun g => { g with derive := true }) s else s

/-! ### Messages (R329 to R331) -/

/-- LEVEL of the transmit queue, and the receive registers, follow the queues. -/
def showMsgs (s : State) : State :=
  let s := s.setRf rGAL_TXMSG_CTL GAL_TXMSG_CTL.LEVEL s.gal.txq.length
  let s := s.setRf rGAL_RXMSG_CTL GAL_RXMSG_CTL.LEVEL s.gal.rxq.length
  let m := s.gal.rxq.headD []
  forEach (idxs 0 8) (fun w t => t.setReg (rGAL_RXMSG w) (BitVec.ofNat 64 (pnum m (4 * w) 4))) s

/-- A message enters GAL_RXMSG, or is dropped and counted; one queued raises the event (R330). -/
def rxMessage (m : List Byte) (s : State) : State :=
  if s.gal.rxq.length < 16 then
    rosterEvent 0x1A (showMsgs (onGal (fun g => { g with rxq := g.rxq ++ [m] }) s))
  else s.bumpSat rGAL_RXMSG_CTL GAL_RXMSG_CTL.DROP

/-- A message enters GAL_TXMSG; a full queue sets TXFULL (R331). -/
def txMessage (m : List Byte) (s : State) : State :=
  if s.gal.txq.length < 16 then showMsgs (onGal (fun g => { g with txq := g.txq ++ [m] }) s)
  else s.setRb rGAL_STAT GAL_STAT.TXFULL true

/-- GO of GAL_TXMSG: the written message is queued. -/
def txmsgGo (s : State) : State :=
  txMessage ((idxs 0 8).flatMap fun w => natBe 4 ((s.reg (rGAL_TXMSG w)).toNat % 2 ^ 32)) s

/-- POP of GAL_RXMSG (R330). -/
def rxmsgPop (s : State) : State := showMsgs (onGal (fun g => { g with rxq := g.rxq.tail }) s)

/-- GO of GAL_SETTX on the head: streaming of a set begins; its LEN is read (R331). -/
def settxGo (s : State) : State :=
  if !isHead s || s.rb rGAL_SETTX GAL_SETTX.BUSY then s
  else
    let base := s.rf (rFLW_SLOT_BASE (s.rf rGAL_SETTX GAL_SETTX.SRC_SLOT)) FLW_SLOT_BASE.WORD
    let r := matrixRead 28 ((base + 1) % 1048576) s
    let len := (r.1.getD 0).toNat % 2 ^ 14
    let s := r.2.setRb rGAL_SETTX GAL_SETTX.BUSY true
    let d := s.rf rGAL_SETTX GAL_SETTX.DEST
    onGal (fun g => { g with settx := some (s.rf rGAL_SETTX GAL_SETTX.DST_SLOT, d, base, len, 0) }) s

/-- Words of a set read for a SETDATA message; an error response gives zero (R174). -/
def settxWords (w n : Nat) (s : State) : List W40 × State :=
  match n with
  | 0 => ([], s)
  | n + 1 =>
    let a := matrixRead 28 w s
    let b := settxWords (w + 1) n a.2
    (a.1.getD 0 :: b.1, b.2)

/-- A message of 32 bytes from its first bytes. -/
def padMsg (l : List Byte) : List Byte := l ++ List.replicate (32 - l.length) 0

/-- The next SETDATA or SETEND message of the stream, if one runs (R329, R331). -/
def settxNext (s : State) : Option (List Byte) × State :=
  match s.gal.settx with
  | none => (none, s)
  | some (slot, dest, base, len, i) =>
    if len ≤ i then
      let s := (onGal (fun g => { g with settx := none }) s).setRb rGAL_SETTX GAL_SETTX.BUSY false
      (some (padMsg [0x03, BitVec.ofNat 8 dest, BitVec.ofNat 8 slot]), s)
    else
      let n := min 4 (len - i)
      let r := settxWords (base + i) n s
      let m := [0x02, BitVec.ofNat 8 dest, BitVec.ofNat 8 slot] ++ natBe 2 i ++ [BitVec.ofNat 8 n] ++
        r.1.flatMap fun w => natBe 5 w.toNat
      (some (padMsg m), onGal (fun g => { g with settx := some (slot, dest, base, len, i + n) }) r.2)

/-- k messages of the stream at most. -/
def settxTake (k : Nat) (s : State) : List (List Byte) × State :=
  match k with
  | 0 => ([], s)
  | k + 1 =>
    match settxNext s with
    | (none, s) => ([], s)
    | (some m, s) => let r := settxTake k s; (m :: r.1, r.2)

/-- The messages of the next train: commits, then GAL_TXMSG, then the stream, four places (R331). -/
def launchMessages (s : State) : List (List Byte) × State :=
  let c := s.gal.commits.take 4
  let t := s.gal.txq.take (4 - c.length)
  let s := showMsgs (onGal (fun g => { g with commits := g.commits.drop c.length, txq := g.txq.drop t.length }) s)
  let r := settxTake (4 - c.length - t.length) s
  (c ++ t ++ r.1, r.2)

/-- A message is for this node: DEST is its non-zero ID, or 255 (R330). -/
def msgMine (dest : Nat) (s : State) : Bool := dest == 255 || (dest != 0 && dest == nodeId s)

/-- A COMMIT message (R329, R330): a repeat of the commit that is pending is ignored. -/
def commitMsg (dest slot c : Nat) (s : State) : State :=
  let same := match s.flw.commit with
    | some p => p.slot == slot && p.c == c
    | none => false
  if msgMine dest s && !same then commitArrives slot c s else s

/-- A chain commit the head originates: it waits for the next launch, and reaches the head itself, by the rules of any
other node, where DEST names it (R281, R330, R331, R34). -/
def chainCommit (slot dest c : Nat) (s : State) : State :=
  let m := padMsg ([0x01, BitVec.ofNat 8 dest, BitVec.ofNat 8 slot] ++ natBe 6 c)
  commitMsg dest slot c (onGal (fun g => { g with commits := g.commits ++ [m] }) s)

/-- FLW_CMT with GO (R281): CHAIN on a node that is not the head is ignored. -/
def commitWrite (chain : Bool) (slot dest c : Nat) (s : State) : State :=
  if !chain then commitArrives slot c s
  else if isHead s then chainCommit slot dest c s
  else cmdErr s

/-- The words of a SETDATA message are written under identifier 27; false where one draws an error response. -/
def setdataWrite (w : Nat) (vs : List W40) (s : State) : Bool × State :=
  match vs with
  | [] => (true, s)
  | v :: r =>
    let a := matrixWrite 27 w v s
    if a.1 then setdataWrite (w + 1) r a.2 else a

/-- A SETDATA message (R329, R330). -/
def setdataMsg (dest slot word : Nat) (vs : List W40) (s : State) : State :=
  if !msgMine dest s then s
  else if slotInUse s slot then s.setRb rGAL_STAT GAL_STAT.SET_REJ true
  else
    let s := if word = 0 then emptySlot slot s else s
    let r := setdataWrite (s.rf (rFLW_SLOT_BASE slot) FLW_SLOT_BASE.WORD + word) vs s
    if r.1 then r.2 else r.2.setRb rGAL_STAT GAL_STAT.SET_REJ true

/-- A SETEND message (R329). -/
def setendMsg (dest slot : Nat) (s : State) : State := if msgMine dest s then stage slot s else s

/-- An ASSIGN message (R329, R341). -/
def assignMsg (mac : List Byte) (ident : Nat) (s : State) : State := if mac = s.gal.mac then storedIdSet ident s else s

/-- An IDENT message: the node at position POS queues its reply, with part number and stepping code (R1, R329); one that
finds GAL_TXMSG full is lost (notes/assumptions/53.md). -/
def identMsg (pos : Nat) (s : State) : State :=
  if isHead s || s.rf rGAL_NODE GAL_NODE.POS != pos || 16 ≤ s.gal.txq.length then s
  else
    let m := [0x05, BitVec.ofNat 8 (nodeId s)] ++ s.gal.mac ++
      [BitVec.ofNat 8 pos, BitVec.ofNat 8 (s.rf rGAL_NODE GAL_NODE.STORED_ID), 0x48, 0x96, 0x10]
    txMessage (padMsg m) s

/-- A HEAD message of 32 bytes reaches the node on the outbound pass (R329, R330). -/
def headMessage (m : List Byte) (s : State) : State :=
  let dest := pbyte m 1
  let slot := pbyte m 2 % 16
  match pbyte m 0 with
  | 0x01 => commitMsg dest slot (pnum m 3 6) s
  | 0x02 =>
    let n := min 4 (pbyte m 5)
    setdataMsg dest slot (pnum m 3 2) ((idxs 0 n).map fun k => BitVec.ofNat 40 (pnum m (6 + 5 * k) 5)) s
  | 0x03 => setendMsg dest slot s
  | 0x04 => assignMsg ((m.drop 2).take 6) (pbyte m 8) s
  | 0x05 => identMsg (pbyte m 2) s
  | 0x06 => if msgMine dest s then rxMessage m s else s
  | _ => s

/-- An up-message reaches the head (R329). -/
def upMessage (m : List Byte) (s : State) : State := if pbyte m 0 = 0 then s else rxMessage m s

/-! ### Management (R317) -/

/-- GO of GAL_MDIO: one transaction with the fields written, ignored while one runs. -/
def mdioStart (s : State) : State :=
  if s.rb rGAL_MDIO GAL_MDIO.BUSY then s
  else
    onGal (fun g => { g with mdio := some (s.rb rGAL_MDIO GAL_MDIO.WR), mdc := true }) (s.setRb rGAL_MDIO GAL_MDIO.BUSY true)

/-- A write of GAL_MDIO with GO: its other fields are stored, whether or not a transaction runs (R7). -/
def mdioGo (write : Bool) (phy reg data : Nat) (s : State) : State :=
  let s := (s.setRb rGAL_MDIO GAL_MDIO.WR write).setRf rGAL_MDIO GAL_MDIO.PHYAD phy
  mdioStart ((s.setRf rGAL_MDIO GAL_MDIO.REGAD reg).setRf rGAL_MDIO GAL_MDIO.DATA data)

/-- The transaction ends; a read leaves its data. -/
def mdioDone (data : Nat) (s : State) : State :=
  match s.gal.mdio with
  | none => s
  | some wr =>
    let s := onGal (fun g => { g with mdio := none }) (s.setRb rGAL_MDIO GAL_MDIO.BUSY false)
    if wr then s else s.setRf rGAL_MDIO GAL_MDIO.DATA data

/-! ### The clock of a port (R317) -/

/-- The synthesizer that supplies TXC: TXSYN as taken at EN, where 3 acts as 0. -/
def txSyn (s : State) : Nat := cfgOf GAL_CTL.TXSYN s.gal.ctl % 3

/-- The rate of TXC of port n in kHz: 125 MHz, divided to 25 MHz or 2.5 MHz on a management port at 100 or 10 Mb/s. -/
def txcKilohertz (s : State) (n : Nat) : Nat :=
  if !portMgmt s n then 125000
  else
    match s.rf (rGAL_PORT_STAT n) GAL_PORT_STAT.SPEED with
    | 0 => 2500
    | 1 => 25000
    | _ => 125000

/-- TXC runs: Gallery is enabled and its synthesizer is in lock; its output is low otherwise (R317, R389). -/
def txcRuns (s : State) : Bool :=
  s.rb rGAL_CTL GAL_CTL.EN && s.rb (rSYN_CTL (txSyn s)) SYN_CTL.EN && s.rb (rSYN_STAT (txSyn s)) SYN_STAT.LOCK

end Sys2Proof.Machine
end

