-- ==== Sys2Proof/Machine/GalTrain.lean ====
section
/-! DEFINITION. Trains: the launch at the head, the outbound pass, the turnaround, the return pass, relays of a
wrapped ring, what listeners take at a boundary, late and lost cycles (R20 to R35, R323 to R336, R342, R343,
R345, R346). -/

namespace Sys2Proof.Machine

open Sys2Proof

/-! ### Sections and channel states (R323, R324) -/

/-- Payload bytes of section sec. -/
def secLen (sec : Nat) : Nat :=
  if sec = 0 then 232 else if sec ≤ 8 then 1176 else if sec = 9 then 1096 else if sec ≤ 11 then 1160 else 328

/-- Where the data of section sec begin, and the bytes of a slot. -/
def dataOff (sec : Nat) : Nat := if sec ≤ 8 then 24 else if sec = 9 then 72 else 136
def slotBytes (s : State) (sec : Nat) : Nat := if sec ≤ 8 then 3 * spc s else if sec = 9 then 4 else 2

/-- The slots of section sec. -/
def secSlots (s : State) (sec : Nat) : Nat :=
  if sec = 0 ∨ 12 ≤ sec then 0 else if sec ≤ 8 then (if s.cyc.fam % 2 = 1 then 32 else 64) else if sec = 9 then 256 else 512

/-- The channel state of slot i. -/
def csGet (p : List Byte) (i : Nat) : Nat := pbyte p (8 + i / 4) / 2 ^ (6 - 2 * (i % 4)) % 4

/-- The payload with the channel state of slot i. -/
def csPut (p : List Byte) (i v : Nat) : List Byte :=
  let sh := 6 - 2 * (i % 4)
  let b := p.getD (8 + i / 4) 0
  putAt p (8 + i / 4) [(b &&& ~~~ (3#8 <<< sh)) ||| (BitVec.ofNat 8 v <<< sh)]

/-- A slot written with its state. -/
def slotPut (s : State) (sec i cs : Nat) (bytes : List Byte) (p : List Byte) : List Byte :=
  putAt (csPut p i cs) (dataOff sec + slotBytes s sec * i) bytes

/-- The bytes of slot i. -/
def slotGet (s : State) (sec i : Nat) (p : List Byte) : List Byte :=
  (p.drop (dataOff sec + slotBytes s sec * i)).take (slotBytes s sec)

/-! ### Audio samples (R21) -/

/-- S40 to a 24-bit chain sample: saturated, rounded half-up at bit 9. -/
def toChain (x : W40) : Nat :=
  let hi : Int := (2 ^ 23 - 1) * 2 ^ 9
  let lo : Int := - 2 ^ 32
  let v := if hi < x.toInt then hi else if x.toInt < lo then lo else x.toInt
  lowBits 24 (clampS 24 (rndHalfUp v 9))

/-- A 24-bit chain sample to S40. -/
def fromChain (n : Nat) : W40 := (BitVec.ofNat 24 n).signExtend 40 <<< 9

/-- The bytes of an audio block, and the block of its bytes (R325). -/
def audioBytes (b : List W40) : List Byte := b.flatMap fun x => natBe 3 (toChain x)
def audioBlock (n : Nat) (l : List Byte) : List W40 :=
  match n with
  | 0 => []
  | n + 1 => fromChain (beNat (l.take 3)) :: audioBlock n (l.drop 3)

/-! ### What a node talks (R20, R22, R325, R326) -/

/-- The light block that train j carries, by the L boundaries; none for a train without one (R326). -/
def lightBlock (s : State) (j : Nat) : Option Nat :=
  let n := nL s
  let b := (j - 2) / n * n
  let lb := min (max 1 (s.rf rGAL_CYC_STAT GAL_CYC_STAT.LBLK)) n
  if 2 ≤ j ∧ j - 2 - b < lb then some (j - 2 - b) else none

/-- Slots and bytes this node writes into section sec of train j; nothing at ID 0 (R18). -/
def sectionTalk (s : State) (j sec : Nat) : List (Nat × List Byte) :=
  let t := tget s.gal.talks GalTalk.init j
  if nodeId s = 0 then []
  else if sec = 0 ∨ 12 ≤ sec then []
  else if sec ≤ 8 then
    let lo := secSlots s sec * (sec - 1)
    (t.a.filter fun x => decide (lo ≤ x.1) && decide (x.1 < lo + secSlots s sec)).map fun x => (x.1 - lo, audioBytes x.2)
  else if sec = 9 then t.c.map fun x => (x.1, natBe 4 x.2.toNat)
  else
    match lightBlock s j with
    | none => []
    | some q =>
      let lo := 1024 * q + 512 * (sec - 10)
      (t.l.filter fun x => decide (lo ≤ x.1) && decide (x.1 < lo + 512)).map fun x => (x.1 - lo, natBe 2 x.2.toNat)

/-- Writes into a section: a granted slot that is empty is written, one that is not is a clash (R22, R333). -/
def talkInto (s : State) (sec : Nat) (ws : List (Nat × List Byte)) (p : List Byte) : List Byte × Nat :=
  match ws with
  | [] => (p, 0)
  | (i, b) :: r =>
    if csGet p i = 0 then talkInto s sec r (slotPut s sec i 1 b p)
    else let x := talkInto s sec r p; (x.1, x.2 + 1)

/-- n clashes are flagged and counted (R22, R333). -/
def clashes (n : Nat) (s : State) : State :=
  match n with
  | 0 => s
  | n + 1 =>
    clashes n (raise srcTalkClash ((s.setRb rGAL_STAT GAL_STAT.TALK_CLASH true).bumpSat rGAL_CLASH_CNT GAL_CLASH_CNT.CNT))

/-- The light channels the node is granted with the values its light pass published at the L boundary whose blocks the
trains carry: they are taken at the boundary at which the first of these trains is launched (R326). -/
def lightTalk (s : State) : Tab (BitVec 16) :=
  if (s.cyc.idx - 2) % nL s = 0 then s.gal.grantL.map fun i => (i, (tget s.cfl.talk 0 (0xA000 + i)).setWidth 16)
  else s.gal.lpub

/-- At the boundary of cycle j the node gathers what it writes into train j: the audio and control values of block
j − 2, and the light values of the L boundary the train belongs to (R29, R325, R326). It does so before the blocks of
cycle j − 1 become readable and before a commit acts, so that block C − 1 is still talked as the previous set says
(R31). -/
def talkSnapshot (s : State) : State :=
  if !galOn s then s
  else
    let j := s.cyc.idx
    let w := routesOf s
    let a := (idxs 0 512).filterMap fun c =>
      if s.rb (rCFL_TALK c) CFL_TALK.GRANT then some (c, localBlock w s (talkSrc w.new c)) else none
    let c := s.gal.grantC.map fun c => (c, tget s.cfl.talk 0 (0x8000 + c))
    let l := lightTalk s
    let t : GalTalk := { a := a, c := c, l := if (lightBlock s j).isSome then l else [] }
    onGal (fun g => { g with
      lpub := l, talks := (tset g.talks GalTalk.init j t).filter fun x => decide (j ≤ x.1 + 16) }) s

/-! ### What a node reads (R324, R333, R346) -/

/-- Train j as the node has it. -/
def trainOf (s : State) (j : Nat) : GalTrain := tget s.gal.trains GalTrain.init j
def setTrain (j : Nat) (t : GalTrain) (s : State) : State :=
  onGal (fun g => { g with trains := tset g.trains GalTrain.init j t }) s

/-- The bytes b of slot i of section sec taken from a train whose light block is q; relayed values are kept apart
(R324, R346). -/
def takeSlot (relay : Bool) (sec i q : Nat) (b : List Byte) (t : GalTrain) (slots samples : Nat) : GalTrain :=
  if sec ≤ 8 then
    let c := slots * (sec - 1) + i
    let v := audioBlock samples b
    if relay then { t with ra := tset t.ra [] c v } else { t with a := tset t.a [] c v }
  else if sec = 9 then
    let v : W32 := BitVec.ofNat 32 (beNat b)
    if relay then { t with rc := tins (tdel t.rc i) i v } else { t with c := tins (tdel t.c i) i v }
  else
    let k := 1024 * q + 512 * (sec - 10) + i
    let v := BitVec.ofNat 16 (beNat b)
    if relay then { t with rl := tins (tdel t.rl k) k v } else { t with l := tins (tdel t.l k) k v }

/-- The slots is of section sec of train j whose state shows a talker are taken (R324). -/
def readSlots (sec j : Nat) (p : List Byte) (is : List Nat) (s : State) : State :=
  match is with
  | [] => s
  | i :: r =>
    let cs := csGet p i
    let q := lightBlock s j
    let ok := (cs == 1 || cs == 3) && (decide (sec ≤ 9) || q.isSome)
    let s := if ok then
        setTrain j (takeSlot (cs == 3) sec i (q.getD 0) (slotGet s sec i p) (trainOf s j) (secSlots s sec) (spc s)) s
      else s
    readSlots sec j p r s

/-- Every section of train j has come, of both arms where the head reads both (R30, R336). -/
def allCame (s : State) (l : List Nat) : Bool :=
  (idxs 0 13).all (fun k => l.contains k) && (!(isHead s && wrapped s) || (idxs 16 13).all fun k => l.contains k)

/-- A section of train j has come on the return pass, valid or not; its FCS ends a section's wire time after its SFD
(R30, R336). -/
def sectionCame (far valid : Bool) (sec j : Nat) (s : State) : State :=
  let t := trainOf s j
  let came := ((if far then 16 else 0) + sec) :: t.came
  let full := if t.full.isNone && allCame s came then some (s.dtm.ticks + wireTicks (18 + secLen sec)) else t.full
  setTrain j { t with came := came, full := full, bad := t.bad || !valid } s

/-- A valid section of train j comes on the return pass, from the near or the far arm (R333, R336). -/
def readSection (far : Bool) (sec j : Nat) (p : List Byte) (s : State) : State :=
  sectionCame far true sec j (readSlots sec j p (idxs 0 (secSlots s sec)) s)

/-! ### Listeners at a boundary (R23, R27, R30, R35, R336) -/

/-- The train whose block a CHAIN consumer processes in the cycle that begins at boundary n (R29). -/
def trainDue (s : State) (n : Nat) : Nat := n + 3 + uCycles s - pCycles s

/-- Train j had come by G = 2.0 µs, 500 ticks, before tick t (R30). -/
def inTime (s : State) (t j : Nat) : Bool :=
  match (trainOf s j).full with
  | some f => decide (f + 500 ≤ t)
  | none => false

/-- A lost cycle is counted once (R35). -/
def countLost (j : Nat) (s : State) : State :=
  let t := trainOf s j
  if t.counted then s
  else raise srcGalLost ((setTrain j { t with counted := true } s).bumpWrap rGAL_LOSTCNT)

/-- A train of a cycle that began after the first one launched or received is due. -/
def trainExpected (s : State) (j : Nat) : Bool :=
  match s.gal.first with
  | some f => decide (f ≤ j)
  | none => false

/-- The trains beside train j that carry light blocks of the L boundary whose block 0 rides train j (R326). -/
def lightTrains (s : State) (j : Nat) : List Nat :=
  if (j - 2) % nL s = 0 then
    (idxs 1 3).filterMap fun q => if lightBlock s (j + q) = some q then some (j + q) else none
  else []

/-- The blocks that a processing cycle from tick t on needs, of train j and of the trains that carry its light blocks:
those that had not come by G before it are late (R30). -/
def judge (t j : Nat) (s : State) : State :=
  if !galOn s || !trainExpected s j then s
  else
    let late := fun (f : GalTrain → GalTrain) (k : Nat) (u : State) =>
      if inTime u t k then u else countLost k ((setTrain k (f (trainOf u k)) u).setRb rGAL_STAT GAL_STAT.LATE true)
    forEach (lightTrains s j) (fun k u => late (fun x => { x with lightLate := true }) k u)
      (late (fun x => { x with late := true }) j s)

/-- G before the next processing cycle, its train has not come whole: late (R30). -/
def blockLateNow (s : State) : State :=
  let t := boundaryTick s
  if s.dtm.ticks + 500 < t then s else judge t (trainDue s (s.cyc.idx + 1)) s

/-- Train j has come whole, valid and in time, from both arms where the head reads both (R30, R336). -/
def trainGood (s : State) (j : Nat) : Bool :=
  let t := trainOf s j
  !t.bad && !t.late && t.full.isSome

/-- The train that carries the relayed values of block j − 2 (R346). -/
def relayTrain (s : State) (j : Nat) : Nat := j + rlag s

/-- An audio chain channel in a cycle: lost, it holds its last sample and then fades to zero; else it takes its block,
zeros without a talker, under the ramp that is left of a loss (R23, R35, R571). -/
def listenChannel (bs : Tab (List W40)) (lost : Nat → Bool) (c : Nat) (s : State) : State :=
  let f := tget s.gal.fade 0 c
  let h := tget s.cfl.held 0 (0x3000 + c)
  if lost c then
    let run := tget s.gal.lostRun 0 c
    let r := if run = 0 then (List.replicate (spc s) (32 - f), 32 - f) else rampList false (32 - f) (spc s)
    onGal (fun g => { g with lostRun := tset g.lostRun 0 c (run + 1), fade := tset g.fade 0 c (32 - r.2) })
      (if h = 0 then s
       else { s with cfl := { s.cfl with
         blk := tset s.cfl.blk [] (0x3000 + c) (scaleBlock r.1 (List.replicate (spc s) h)) } })
  else
    let b := tget bs [] c
    let r := rampList true (32 - f) (spc s)
    let s := if f = 0 ∧ tget s.gal.lostRun 0 c = 0 then s
      else onGal (fun g => { g with lostRun := tset g.lostRun 0 c 0, fade := tset g.fade 0 c (32 - r.2) }) s
    { s with cfl := { s.cfl with
      blk := if b.isEmpty then s.cfl.blk else tset s.cfl.blk [] (0x3000 + c) (scaleBlock r.1 b)
      held := tset s.cfl.held 0 (0x3000 + c) (b.getLastD 0) } }

/-- The audio chain channels of the family take the blocks bs or are concealed. -/
def listenAudio (bs : Tab (List W40)) (lost : Nat → Bool) (s : State) : State :=
  let s := { s with cfl := { s.cfl with blk := tclear s.cfl.blk 0x3000 0x3FFF } }
  forEach (idxs 0 (if s.cyc.fam % 2 = 1 then 256 else 512)) (listenChannel bs lost) s

/-- The block of train j: its own values, and beside them those that came relayed, where the train that carries them has
come (R30, R346). A relayed channel whose train has not is concealed as in a lost cycle. -/
def listenGood (j : Nat) (s : State) : State :=
  let t := trainOf s j
  let k := relayTrain s j
  let came := k == j || (trainGood s k && inTime s s.dtm.ticks k)
  let r := if k != j && came then trainOf s k else GalTrain.init
  let gone := fun (c : Nat) => !came && s.gal.relayed.contains c && (t.a.all fun x => x.1 != c)
  let s := listenAudio (t.a ++ r.ra.filter fun x => t.a.all fun y => y.1 != x.1) gone s
  onGal (fun g => { g with
    relayed := if came then r.ra.map fun x => x.1 else g.relayed
    chainC := (r.rc ++ t.c).foldl (fun m x => tset m 0 x.1 x.2) g.chainC }) s

/-- Values of the block of train j come relayed by a train that has not come by G before now: they are late (R30, R346). -/
def judgeRelay (j : Nat) (s : State) : State :=
  let k := relayTrain s j
  if k = j ∨ s.gal.relayed.isEmpty ∨ !trainExpected s k ∨ inTime s s.dtm.ticks k then s
  else countLost k (s.setRb rGAL_STAT GAL_STAT.LATE true)

/-- The concealment of a lost cycle: held in the first, then a ramp to zero (R35). -/
def listenLost (s : State) : State := listenAudio [] (fun _ => true) s

/-- The light values whose presentation falls at this boundary: those captured at the L boundary P_eff before, block q in
train j + q, and those relayed an L period later (R27, R326, R346). -/
def listenLight (j : Nat) (s : State) : State :=
  if (j - 2) % nL s ≠ 0 then s
  else
    forEach (j :: lightTrains s j)
      (fun k t =>
        let x := trainOf t k
        let y := trainOf t (k + nL t)
        let l := (if trainGood t (k + nL t) then y.rl else []) ++ (if trainGood t k && !x.lightLate then x.l else [])
        onGal (fun g => { g with chainL := l.foldl (fun m v => tset m 0 v.1 v.2) g.chainL }) t) s

/-- The chain channels at a boundary. -/
def listenBoundary (s : State) : State :=
  if !galOn s then s
  else
    let j := trainDue s s.cyc.idx
    if !trainExpected s j then s
    else
      let s := judgeRelay j (judge s.dtm.ticks j s)
      let s := if trainGood s j then listenGood j s else listenLost (countLost j s)
      let s := listenLight j s
      onGal (fun g => { g with trains := g.trains.filter fun x => decide (j ≤ x.1) }) s

/-! ### The launch (R332, R345, R346) -/

/-- The HEAD section of the train of this cycle on an arm (R327, R332); its SFD leaves within 1 µs of the
boundary. -/
def headSection (far : Bool) (msgs : List (List Byte)) (s : State) : List Byte :=
  let j := s.cyc.idx
  let lq := lightBlock s j
  let p := s.rf rGAL_CYC_STAT GAL_CYC_STAT.P_US
  let lag := (s.freeVal 40).toNat % 268435456001
  let org := if stamps s then timeBytes (txStamp s (if far then 0 else 1) (s.dtm.tb + lag)) else List.replicate 12 0
  let b37 := s.cyc.fam * 64 + (if ringCfg s then 32 else 0) + (if wrapped s then 16 else 0) +
    (if cfgOf GAL_CTL.IDMODE ((s.reg rGAL_CTL).setWidth 32) = 1 then 8 else 0) + (if s.gal.restore.isSome then 4 else 0)
  let b39 := (match lq with | some q => 128 + q * 32 | none => 0) + s.rf rGAL_CYC_STAT GAL_CYC_STAT.LBLK
  let m := msgs.flatMap id
  galHeader 1 0 false far j ++ natBe 6 j ++ natBe 2 p ++ org ++ List.replicate 8 0 ++
    [0, BitVec.ofNat 8 b37, BitVec.ofNat 8 (nL s), BitVec.ofNat 8 b39, BitVec.ofNat 8 (rlag s), 0] ++
    natBe 2 ((s.gal.restore.getD 0) % 65536) ++ List.replicate 28 0 ++ (0x40 :: List.replicate 31 0) ++
    m ++ List.replicate (128 - m.length) 0

/-- The return of train j from an arm has ended at the head (R346). -/
def armBack (s : State) (far : Bool) (j : Nat) : Bool :=
  (idxs (if far then 16 else 0) 13).all fun k => (trainOf s j).came.contains k

/-- The values relayed into section sec of this train's arm: those the other arm's return gave, which has ended (R346). -/
def relayInto (far : Bool) (sec : Nat) (s : State) (p : List Byte) : List Byte :=
  (s.gal.relays.filter fun r => r.far == far && r.train == s.cyc.idx && r.sec == sec && armBack s (!far) r.origin).foldl
    (fun p r => if csGet p r.slot = 0 then slotPut s sec r.slot 3 r.bytes p else p) p

/-- A return whose relay train is launched before it has ended is not relayed (R346). -/
def relaysLate (s : State) : State :=
  if s.gal.relays.any fun r => r.train == s.cyc.idx && !armBack s (!r.far) r.origin then
    s.setRb rGAL_STAT GAL_STAT.RELAY_LATE true
  else s

/-- Section sec of the train of this cycle as the head sends it on an arm: its own writes, the relayed values. -/
def launchSection (far : Bool) (msgs : List (List Byte)) (s : State) (sec : Nat) : List Byte :=
  if sec = 0 then headSection far msgs s
  else
    let p := galHeader 1 sec false far s.cyc.idx ++ List.replicate (secLen sec - 8) 0
    relayInto far sec s (talkInto s sec (sectionTalk s s.cyc.idx sec) p).1

/-- A port can carry trains: 1000 Mb/s full duplex, and no management port (R316). -/
def trainPort (s : State) (n : Nat) : Bool := galLive s n && phyGig s n && !portMgmt s n

/-- A section leaves on port n, where it carries trains; section 0 begins the train (R319). -/
def sectionSend (n sec : Nat) (sa p : List Byte) (good : Bool) (s : State) : State :=
  if !trainPort s n then s
  else
    let s := galSend n daTrain sa p good s
    if sec = 0 then setPort n { galPort s n with train := some s.dtm.ticks } s else s

/-- A train leaves on an arm. -/
def launchArm (far : Bool) (msgs : List (List Byte)) (s : State) : State :=
  let n := if far then 0 else 1
  forEach (idxs 0 13) (fun sec t => sectionSend n sec s.gal.mac (launchSection far msgs t sec) true t) s

/-- The head launches the train of the cycle, on both arms in WRAP (R15, R332, R345). -/
def trainLaunch (s : State) : State :=
  if !isHead s then s
  else
    let m := launchMessages s
    let s := launchArm false m.1 (relaysLate m.2)
    let s := if wrapped s then launchArm true m.1 s else s
    let j := s.cyc.idx
    onGal (fun g => { g with
      first := some (min j (g.first.getD j)), relays := g.relays.filter fun r => decide (j < r.train) }) s.tick1

/-- Gallery's chain at a boundary: listeners take the train that is due, the head launches what its talkers gathered
(R29, R332, R336). -/
def chainBoundary (s : State) : State := if !galOn s then s else trainLaunch (listenBoundary s)

/-! ### A section arrives (R333 to R336) -/

/-- The ingress link delay of port n in units of 2⁻⁴ ns (R339). -/
def ingressDelay (s : State) (n : Nat) : Int :=
  ((s.reg (rGAL_LDLY n)).toNat % 2 ^ 31 : Nat) + ((s.reg (rGAL_ASYM n)).setWidth 32).toInt

/-- A member enters the far arm: its closure leaves standby, and its GAL0, now downstream, is a Gallery link where it has
heard LINK frames up to now (R345; notes/assumptions/105.md). -/
def enterFar (s : State) : State :=
  let s := if standby s 1 then
      (s.setRb (rGAL_PORT_STAT 1) GAL_PORT_STAT.STANDBY false).setRb (rGAL_PORT_STAT 1) GAL_PORT_STAT.GLINK true
    else s
  let p := galPort s 0
  let alive := phyGig s 0 && !portMgmt s 0 && (match p.heard with
    | some c => decide (s.cyc.idx < c + 48)
    | none => false)
  let s := setPort 0 { p with got := none, train := none, badTrain := none } s
  s.setRb (rGAL_PORT_STAT 0) GAL_PORT_STAT.GLINK alive

/-- The outbound HEAD section at a member (R18, R326, R330, R333, R337, R339, R341, R342): what it learns, and the
section as it forwards it. The residence time is a free value of at most 1.6 µs (R334). -/
def headOutbound (n m : Nat) (p : List Byte) (s : State) : List Byte × State :=
  let fam := pbyte p 37 / 64
  let pos := pbyte p 36 + 1
  let beyond := decide (254 ≤ s.rf rGAL_NODE GAL_NODE.POS)
  let idmode := pbyte p 37 / 8 % 2 == 1
  let cycle := pnum p 8 6
  let corr := (BitVec.ofNat 64 (pnum p 28 8)).toInt
  let dly := ingressDelay s n * 2 ^ 12
  -- the family, P, N_L and LBLK
  let s := if s.gal.famTaken then s
    else onGal (fun g => { g with famTaken := true }) { s with cyc := { s.cyc with famNext := some fam } }
  let s := onGal (fun g => { g with
    next := some (clampP (pnum p 14 2), pbyte p 38, pbyte p 39 % 8)
    first := some (min cycle (g.first.getD cycle))
    derive := g.derive || g.idmode != some idmode || (beyond && decide (pos < 254)), idmode := some idmode
    restore := if pbyte p 37 / 4 % 2 = 1 then some (cycle + (pnum p 42 2 + 65536 - cycle % 65536) % 65536) else g.restore }) s
  let s := s.setRf rGAL_NODE GAL_NODE.POS (if 254 < pos then 255 else pos)
  let s := if n = 1 ∧ !farArm s then enterFar s else s
  let s := (s.setRb rGAL_NODE GAL_NODE.ARM (n == 1)).setRb rGAL_NODE GAL_NODE.WRAP (pbyte p 37 / 16 % 2 == 1)
  let s := s.setRf rGAL_WRAP GAL_WRAP.RLAG (pbyte p 40)
  -- the claim
  let id := nodeId s
  let o := 72 + id / 8
  let mask := 1#8 <<< (7 - id % 8)
  let taken := id != 0 && (p.getD o 0 &&& mask) != 0
  let s := if taken then
      raise srcGalDup (onGal (fun g => { g with dup := true }) (s.setRb rGAL_STAT GAL_STAT.DUP true))
    else s
  let q := if id = 0 ∨ taken then p else putAt p o [p.getD o 0 ||| mask]
  -- chain time
  let s := if stamps s then
      refSample 0 ((timeOf p 16 : Int) + corr + dly - (rxStamp s n (edgeTime m s) / 2 ^ 12 : Nat)) s
    else s
  let stay : Int := (s.freeVal 32).toNat % 104857601
  let q := if stamps s then putAt q 28 (natBe 8 (lowBits 64 (corr + dly + stay))) else q
  let q := putAt q 36 [BitVec.ofNat 8 pos]
  (q, forEach (idxs 0 4) (fun k t => headMessage ((p.drop (104 + 32 * k)).take 32) t) s.tick1)

/-- The STATUS entry of the node (R328); LATE where the block of the cycle in progress came late
(notes/assumptions/104.md). -/
def statusEntry (s : State) : Byte :=
  let ack := if s.rb rFLW_LAST FLW_LAST.VALID then s.rf rFLW_LAST FLW_LAST.REASON else 15
  let t := trainOf s (trainDue s s.cyc.idx)
  BitVec.ofNat 8 (128 + (if s.timeValid then 64 else 0) + (if s.rst.joined then 0 else 32) + (if t.late then 16 else 0) + ack)

/-- The oldest queued up-message goes into the place at byte o, where that is free (R331). -/
def upPut (o : Nat) (x : List Byte × State) : List Byte × State :=
  match x.2.gal.txq with
  | [] => x
  | m :: r =>
    if pbyte x.1 o = 0 then (putAt x.1 o m, showMsgs (onGal (fun g => { g with txq := r }) x.2)) else x

/-- A member writes the STATUS section: its entry, and queued up-messages into the free places (R331, R333). -/
def statusWrite (p : List Byte) (s : State) : List Byte × State :=
  upPut 296 (upPut 264 (if nodeId s = 0 then p else putAt p (8 + nodeId s) [statusEntry s], s))

/-- The outbound pass of a valid section at a member; nothing is written into a train of another family (R337). -/
def outbound (n m sec j : Nat) (p : List Byte) (s : State) : List Byte × State :=
  if (trainOf s j).foreign then (p, s)
  else if sec = 0 then headOutbound n m p s
  else
    let r := talkInto s sec (sectionTalk s j sec) p
    (r.1, clashes r.2 s)

/-- The return pass of a valid section at a member: read, the STATUS section written. -/
def inbound (sec j : Nat) (p : List Byte) (s : State) : List Byte × State :=
  let s := readSection false sec j p s
  if sec = 12 then statusWrite p s else (p, s)

/-- The tail turns a section around: PASS set, TURN written (R333). -/
def turned (s : State) (sec : Nat) (p : List Byte) : List Byte :=
  let p := putAt p 2 [p.getD 2 0 ||| 0x80#8]
  if sec = 12 then putAt p 8 [BitVec.ofNat 8 (nodeId s)] else p

/-- A valid HEAD section shows another family than the one taken: the train is lost (R337). -/
def wrongFam (sec : Nat) (p : List Byte) (s : State) : Bool :=
  sec == 0 && s.gal.famTaken && pbyte p 37 / 64 != (s.cyc.famNext.getD s.cyc.fam)

/-- A train of another family (R337). -/
def foreignTrain (j : Nat) (s : State) : State :=
  raise srcFamErr (setTrain j { trainOf s j with foreign := true, bad := true } (s.setRb rGAL_STAT GAL_STAT.FAM_ERR true))

/-- A section of the far arm that a restore has abandoned (R347). -/
def abandoned (sec j : Nat) (far : Bool) (s : State) : Bool :=
  far && (decide (j < s.gal.restored) || (sec != 0 && !wrapped s))

/-- A section at a member: an outbound one is forwarded downstream, or turned around by the tail, and a returning one
upstream; one with a wrong FCS goes on stomped (R16, R333, R335, R345). -/
def memberSection (n m sec j : Nat) (far ret valid good : Bool) (sa p : List Byte) (s : State) : State :=
  let up := if far then 1 else 0
  let tail := !ret && s.rf rGAL_NODE GAL_NODE.ROLE == 2
  if !ret ∧ n ≠ up ∨ ret ∧ n = up ∨ abandoned sec j far s then s
  else if !valid then
    let s := if ret || tail then sectionCame false false sec j s else s
    sectionSend (if ret || tail then up else 1 - up) sec sa (if tail then turned s sec p else p) good s
  else if ret then
    let r := inbound sec j p s
    sectionSend up sec sa r.1 true r.2
  else
    let s := if wrongFam sec p s then foreignTrain j s else s
    let r := outbound n m sec j p s
    if tail then
      let q := inbound sec j (turned r.2 sec r.1) r.2
      sectionSend up sec sa q.1 true q.2
    else sectionSend (1 - up) sec sa r.1 true r.2

/-- The relays of a section an arm returns (R346). -/
def relaySection (far : Bool) (sec j : Nat) (p : List Byte) (s : State) : State :=
  let light := decide (10 ≤ sec)
  let is := (idxs 0 (secSlots s sec)).filter fun i => csGet p i == 1
  if rlag s = 0 ∨ is.isEmpty then s
  else if light && decide (nL s < rlag s) then s.setRb rGAL_STAT GAL_STAT.RELAY_SHORT true
  else
    let k := if light then j + nL s * ((s.cyc.idx - j) / nL s + 1) else j + rlag s
    if k ≤ s.cyc.idx then s.setRb rGAL_STAT GAL_STAT.RELAY_LATE true
    else
      onGal (fun g => { g with relays := g.relays ++ is.map fun i => ⟨!far, j, k, sec, i, slotGet s sec i p⟩ }) s

/-- RLAG from the times both arms take, the greater plus 1 µs over T, rounded up (R346). -/
def measureLag (s : State) : State :=
  match s.gal.launch, s.gal.backNear, s.gal.backFar with
  | some (_, t0), some a, some b =>
    let ns := (max a b - t0) * 4 + 1000
    let r := if s.cyc.fam < 2 then (ns + 124999) / 125000 else (ns * 7350 + 999999999) / 1000000000
    if rlag s = 0 then s.setRf rGAL_WRAP GAL_WRAP.RLAG r else s
  | _, _, _ => s

/-- The STATUS section of train j at the head: the entries, its own among them, TURN, the up-messages, the end of an
arm's return (R33, R328, R329, R345, R346). -/
def headStatus (far : Bool) (j : Nat) (p : List Byte) (s : State) : State :=
  let p := putAt p (8 + nodeId s) [statusEntry s]
  let s := forEach (idxs 0 256)
    (fun k t =>
      let v := pbyte p (8 + k)
      if far && (k == 0 || v < 128) then t
      else t.setRf (rGAL_NSTAT (k / 4)) ⟨31 - 8 * (k % 4), 24 - 8 * (k % 4), .ro⟩ v) s
  let s := if far then s.setRf rGAL_WRAP GAL_WRAP.FAR_TURN (pbyte p 8) else s.setRf rGAL_WRAP GAL_WRAP.NEAR_TURN (pbyte p 8)
  let s := upMessage ((p.drop 296).take 32) (upMessage ((p.drop 264).take 32) s)
  if !wrapped s || rlag s != 0 || (s.gal.launch.map fun x => x.1) != some j then s
  else
    let t := s.dtm.ticks + wireTicks (18 + secLen 12)
    measureLag (onGal (fun g => { g with
      backNear := if far || g.backNear.isSome then g.backNear else some t
      backFar := if far && g.backFar.isNone then some t else g.backFar }) s)

/-- A section that returns to the head (R333, R346). -/
def headReturn (sec j : Nat) (far valid : Bool) (p : List Byte) (s : State) : State :=
  if !valid then sectionCame far false sec j s
  else
    let s := readSection far sec j p s
    let s := if wrapped s then relaySection far sec j p s else s
    if sec = 12 then headStatus far j p s else s

/-- A wrong FCS, or a stomped section, is counted at the ingress port (R335). -/
def countFcs (n fcs : Nat) (s : State) : State :=
  if fcs = 0 then s
  else if fcs = 2 then s.bumpSat (rGAL_FCS n) GAL_FCS.STOMP
  else raise srcGalFcs (s.bumpSat (rGAL_FCS n) GAL_FCS.BAD)

/-- Sections of another head arrive on GAL0: the node launches no more trains and is a member from here on, which takes
its family, its ID and its parameters from the other head (R17, R343). -/
def headConflict (s : State) : State :=
  let s := (s.setRb rGAL_STAT GAL_STAT.HEAD_CONFLICT true).setRf rGAL_NODE GAL_NODE.ROLE (if glink s 1 then 1 else 2)
  let s := (s.setRf rGAL_NODE GAL_NODE.ID 0).setRf rGAL_NODE GAL_NODE.POS 255
  raise srcHeadConflict (onGal (fun g => { g with famTaken := false, idmode := none, relays := [], curTrain := [] }) s)

/-- The train that section sec on port n belongs to, and whether it is valid (R335). A HEAD section names its train; the
CYC32 of another section must be that of the train whose HEAD came, or of the one after it where its HEAD section did
not come valid. -/
def sectionTrain (s : State) (n sec fcs : Nat) (p : List Byte) : Nat × Bool :=
  let cur := tget s.gal.curTrain 0 n
  let c32 := pnum p 4 4
  if sec = 0 then
    let j := pnum p 8 6
    if fcs = 0 ∧ c32 = j % 2 ^ 32 then (j, true) else (cur + 1, false)
  else if c32 = cur % 2 ^ 32 then (cur, fcs == 0)
  else if c32 = (cur + 1) % 2 ^ 32 then (cur + 1, fcs == 0)
  else (cur, false)

/-- A train section arrives on port n (R333, R335, R343, R345). -/
def sectionArrives (n m : Nat) (sa p : List Byte) (fcs : Nat) (s : State) : State :=
  let sec := pbyte p 1
  if !trainPort s n || pbyte p 0 != 0x11 || decide (12 < sec) || p.length != secLen sec ||
      s.rf rGAL_NODE GAL_NODE.ROLE == 3 then s
  else
    let ret := decide (128 ≤ pbyte p 2)
    let far := pbyte p 2 / 64 % 2 == 1
    let s := countFcs n fcs s
    let x := sectionTrain s n sec fcs p
    let j := x.1
    let s := if isHead s && n == 0 && x.2 && sa != s.gal.mac then headConflict s else s
    let s := if x.2 then onGal (fun g => { g with curTrain := tset g.curTrain 0 n j }) s else s
    let s := if sec = 0 then setPort n { galPort s n with got := some s.dtm.ticks } s else s
    let s := if x.2 then s else trainInvalid n j s
    if isHead s then
      if ret && (if far then n == 0 && wrapped s else n == 1) then headReturn sec j far x.2 p s else s
    else memberSection n m sec j far ret x.2 (fcs == 0) sa p s

end Sys2Proof.Machine
end

