-- ==== Sys2Proof/Machine/Ethernet.lean ====
section
/-! DEFINITION. Ordinary frames: the switch, the host port's descriptor rings, IEEE 1588 event messages (R318 to
R320, R359 to R363). -/

namespace Sys2Proof.Machine

open Sys2Proof

/-! ### PTP event messages (R359 to R363) -/

/-- An event message as R359 recognises it: 0 L2, 1 IPV4, 2 IPV6, and where the PTP header begins. -/
def ptpFind (s : State) (f : List Byte) : Option (Nat × Nat) :=
  let en := fun (x : Fld) => s.rb rDTM_PTP_CTL x
  let et := pnum f 12 2
  let l2 := if et = 0x88F7 then some 14 else if et = 0x8100 ∧ pnum f 16 2 = 0x88F7 then some 18 else none
  let ihl := 4 * (pbyte f 14 % 16)
  let cand : Option (Nat × Nat) :=
    match l2 with
    | some o => if en DTM_PTP_CTL.L2 then some (0, o) else none
    | none =>
      if et = 0x0800 ∧ pbyte f 23 = 17 ∧ pnum f (14 + ihl + 2) 2 = 319 then
        (if en DTM_PTP_CTL.IPV4 then some (1, 14 + ihl + 8) else none)
      else if et = 0x86DD ∧ pbyte f 20 = 17 ∧ pnum f 56 2 = 319 then
        (if en DTM_PTP_CTL.IPV6 then some (2, 62) else none)
      else none
  match cand with
  | some (k, o) => if pbyte f (o + 1) % 16 = 2 ∧ pbyte f o % 16 ≤ 3 ∧ o + 34 ≤ f.length then some (k, o) else none
  | none => none

/-- The FIFO entry of an event message. -/
def ptpEntry (port : Nat) (tx : Bool) (f : List Byte) (o stamp : Nat) : PtsEntry :=
  { port := port, tx := tx, msg := pbyte f o % 16, domain := pbyte f (o + 4), seqId := pnum f (o + 30) 2, stamp := stamp }

/-- correctionField with d added, in units of 2⁻¹⁶ ns. -/
def addCorrection (f : List Byte) (o : Nat) (d : Int) : List Byte :=
  putAt f (o + 8) (natBe 8 (lowBits 64 ((BitVec.ofNat 64 (pnum f (o + 8) 8)).toInt + d)))

/-- The link delay a peer-to-peer clock adds, in units of 2⁻¹⁶ ns (R363). -/
def peerDelay (s : State) (n : Nat) : Int :=
  if s.rb rDTM_PTP_CTL DTM_PTP_CTL.USE_GAL then ingressDelay s n * 2 ^ 12
  else ((s.reg (rDTM_PTP_LDLY n)).setWidth 32).toInt * 2 ^ 12

/-- A frame as it leaves port n at the egress timestamp t: a one-step Sync, or the correction of a transparent clock;
the FIFO entry of a message the host port sends (R361 to R363). -/
def ptpLeave (n t : Nat) (e : EthFrame) (s : State) : List Byte × State :=
  let f := e.bytes
  match ptpFind s f with
  | none => (f, s)
  | some (k, o) =>
    if !stamps s then (f, s)
    else
      let msg := pbyte f o % 16
      if e.host then
        if s.rb rDTM_PTP_CTL DTM_PTP_CTL.ONESTEP && msg == 0 && k ≤ 1 && pbyte f (o + 6) / 2 % 2 == 0 then
          let f := putAt f (o + 34) ((timeBytes t).take 10)
          let f := addCorrection f o (t / 2 ^ 12 % 2 ^ 16 : Nat)
          ((if k = 1 then putAt f (o - 2) [0, 0] else f), ptsAdd (ptpEntry n true f o t) s)
        else (f, ptsAdd (ptpEntry n true f o t) s)
      else if !s.rb rDTM_PTP_CTL DTM_PTP_CTL.TC_EN then (f, s)
      else if k = 2 then (f, s.bumpSat rDTM_TC_SKIP DTM_TC_SKIP.CNT)
      else
        let p2p := s.rb rDTM_PTP_CTL DTM_PTP_CTL.TC_P2P
        let stay : Int := ((t : Int) - (e.ingress.getD t : Nat)) / 2 ^ 12
        if msg = 0 then (addCorrection f o (stay + (if p2p then peerDelay s e.port else 0)), s)
        else if msg = 1 ∧ !p2p then (addCorrection f o stay, s)
        else (f, s)

/-! ### The switch (R318, R319) -/

/-- A dropped frame is counted (R318). -/
def ethDrop (s : State) : State := s.bumpSat rGAL_ETH_DROP GAL_ETH_DROP.CNT

/-- Bytes a port's transmit queue holds. -/
def queueBytes (p : GalPort) : Nat := (p.queue.map fun e => e.bytes.length).sum

/-- A port on which ordinary frames may be sent: its PHY reports link at full duplex, and it is not standby (R316,
R318). -/
def ethPort (s : State) (n : Nat) : Bool :=
  galLive s n && phyUp s n && s.rb (rGAL_PORT_STAT n) GAL_PORT_STAT.FDX && !standby s n

/-- A frame of len bytes, from DA to the end of its payload, fits the gap that port n's transmit side is in: a side that
carries trains has ended the last one, of 13,878 byte times, and preamble, frame, FCS and inter-frame gap end 1.0 µs
before the next, a period after the start of the last (R319). -/
def gapFits (s : State) (n len : Nat) : Bool :=
  match (galPort s n).train with
  | none => true
  | some t =>
    let now := s.dtm.ticks
    decide (t + wireTicks 13878 ≤ now) && decide (now + wireTicks (8 + len + 4 + 12) + 250 ≤ t + cycleTicks s)

/-- A frame enters port n's transmit queue; whether it did. -/
def ethQueue (n : Nat) (e : EthFrame) (s : State) : Bool × State :=
  if !ethPort s n then (false, s)
  else
    let p := galPort s n
    if 16384 < queueBytes p + e.bytes.length then (false, ethDrop s)
    else (true, setPort n { p with queue := p.queue ++ [e] } s)

/-! ### The host port (R320) -/

/-- A Cavern word under an identifier; zero for a read that draws an error response. -/
def ethRead (ident w : Nat) (s : State) : W40 × State :=
  let r := matrixRead ident w s
  (r.1.getD 0, r.2)
def ethWrite (ident w : Nat) (v : W40) (s : State) : State := (matrixWrite ident w v s).2

/-- The system address of the buffer a descriptor names. -/
def bufferAddr (d : W40) : Nat := d.toNat % 2 ^ 32

/-- The bytes of a frame are written into the buffer at system address a, four a word. -/
def bufferWrite (a : Nat) (n : Nat) (l : List Byte) (s : State) : State :=
  match n with
  | 0 => s
  | n + 1 =>
    if l.isEmpty then s
    else bufferWrite (a + 8) n (l.drop 4) (matrixWriteAt 24 a ((ofBytes (l.take 4)).setWidth 40) s).2

/-- n words of the buffer at system address a are read as bytes; a read that draws an error response gives zero. -/
def bufferRead (a n : Nat) (s : State) : List Byte × State :=
  match n with
  | 0 => ([], s)
  | n + 1 =>
    let r := matrixReadAt 25 a s
    let b := bufferRead (a + 8) n r.2
    (bytesOf 4 ((r.1.getD 0).setWidth 64) ++ b.1, b.2)

/-- A frame goes to the host port: the next receive descriptor the device owns, or a drop. -/
def hostReceive (n : Nat) (f : List Byte) (s : State) : State :=
  let len := s.rf rGAL_ETH_RX GAL_ETH_RX.LEN
  if !s.rb rGAL_ETH_CTL GAL_ETH_CTL.RXEN || len == 0 then ethDrop s
  else
    let i := s.gal.rxIdx % len
    let w := s.rf rGAL_ETH_RX GAL_ETH_RX.BASE + 2 * i
    let d1 := ethRead 26 (w + 1) s
    if !d1.1.getLsbD 16 then ethDrop d1.2
    else
      let d0 := ethRead 26 w d1.2
      let s := bufferWrite (bufferAddr d0.1) ((f.length + 3) / 4) f d0.2
      let s := ethWrite 26 (w + 1) (BitVec.ofNat 40 (f.length + 2 ^ (18 + n))) s
      onGal (fun g => { g with rxIdx := (i + 1) % len }) s

/-- A frame is a Gallery frame, which never reaches the switch (R321). -/
def isGallery (s : State) (f : List Byte) : Bool :=
  (f.take 6 == daTrain || f.take 6 == daLink) && pnum f 12 2 == s.gal.etype

/-- An ordinary frame arrives on port n, its SFD m eighths of a tick after the latest tick (R318, R361, R363). -/
def ethReceive (n m : Nat) (f : List Byte) (good : Bool) (s : State) : State :=
  if !galLive s n || isGallery s f then s
  else if 1522 < f.length + 4 ∨ !good then ethDrop s
  else
    let t := rxStamp s n (edgeTime m s)
    let ptp := ptpFind s f
    let s := match ptp with
      | some (_, o) => if stamps s then ptsAdd (ptpEntry n false f o t) s else s
      | none => s
    let da := f.take 6
    let mine := da == s.gal.mac
    let multi := pbyte f 0 % 2 == 1 && da != daTrain && da != daLink
    let pdelay := match ptp with
      | some (k, o) => s.rb rDTM_PTP_CTL DTM_PTP_CTL.TC_EN && s.rb rDTM_PTP_CTL DTM_PTP_CTL.TC_P2P && k ≤ 1 &&
          decide (2 ≤ pbyte f o % 16)
      | none => false
    let s := if mine || multi || pdelay then hostReceive n f s else s
    if mine || pdelay || (pbyte f 0 % 2 == 1 && !multi) then s
    else (ethQueue (1 - n) { bytes := f, host := false, ingress := if ptp.isSome && stamps s then some t else none, port := n } s).2

/-- A waiting frame leaves port n in a gap it fits: a LINK frame first, then the oldest ordinary frame (R318, R319). -/
def ethTransmit (n : Nat) (s : State) : State :=
  if !galLive s n then s
  else
    let p := galPort s n
    if p.linkDue then (if gapFits s n 62 then linkSend n false s else s)
    else
      match p.queue with
      | [] => s
      | e :: r =>
        if !ethPort s n || !gapFits s n e.bytes.length then s
        else
        let s := setPort n { p with queue := r } s
        let b := ptpLeave n (txStamp s n s.dtm.tb) e s
        let q := galPort b.2 n
        setPort n { q with sent := q.sent ++ [(b.1, true)] } b.2

/-- One transmit descriptor the device owns is sent to the ports it names, and given back (R320). -/
def txDescriptor (w : Nat) (d1 : W40) (s : State) : State :=
  let len := d1.toNat % 65536
  let ports := d1.toNat / 2 ^ 18 % 4
  let d0 := ethRead 26 w s
  let b := bufferRead (bufferAddr d0.1) ((len + 3) / 4) d0.2
  let e : EthFrame := { bytes := b.1.take len, host := true, ingress := none, port := 0 }
  let long := decide (1522 < len + 4)
  let s := if long then ethDrop b.2 else b.2
  let put := fun (n : Nat) (t : State) => if ports / 2 ^ n % 2 = 1 ∧ !long then ethQueue n e t else (false, t)
  let a := put 0 s
  let c := put 1 a.2
  let sent := (ports % 2 == 0 || a.1) && (ports / 2 == 0 || c.1) && ports != 0
  ethWrite 26 (w + 1) (BitVec.ofNat 40 (len + (if sent then 0 else 2 ^ 17) + ports * 2 ^ 18)) c.2

/-- The transmit ring is served from its next descriptor, k at most. -/
def txServe (base len k : Nat) (s : State) : State :=
  match k with
  | 0 => s
  | k + 1 =>
    let i := s.gal.txIdx % len
    let d1 := ethRead 26 (base + 2 * i + 1) s
    if !d1.1.getLsbD 16 then d1.2
    else
      txServe base len k (onGal (fun g => { g with txIdx := (i + 1) % len }) (txDescriptor (base + 2 * i) d1.1 d1.2))

/-- TXPOLL (R320). -/
def txPoll (s : State) : State :=
  let len := s.rf rGAL_ETH_TX GAL_ETH_TX.LEN
  if !galOn s || !s.rb rGAL_ETH_CTL GAL_ETH_CTL.TXEN || len == 0 then s
  else txServe (s.rf rGAL_ETH_TX GAL_ETH_TX.BASE) len len s

end Sys2Proof.Machine
end

