-- ==== Sys2Proof/Machine/Cycle.lean ====
section
/-! DEFINITION. The cycle (R41 to R53): releases, on-time completions, misses, the mid-cycle instant and the
cycle boundary with all that happens at it. -/

namespace Sys2Proof.Machine

open Sys2Proof

/-! ### Releases (R44, R69, R73) -/

/-- What unit u does as it is released: it captures its inputs, or starts its run. A Chamber takes its entry point,
its rounding and its input blocks, which the exchange writes to its input area as it starts (R44, R183, R254); for a
CLE slot the run is its second where second is set, and r0 was the region before this boundary. -/
def unitBegin (u r0 : Nat) (second : Bool) (s : State) : State :=
  if u < 16 then chmRelease u (exchangeTake u s)
  else if u < 32 then
    let n := u - 16
    let swap := !second && (s.rbit rCLE_SWAP n || (cleOf s n).cmtDue)
    cleRelease n r0 second swap s
  else if u = 32 then mixRelease s
  else if u = 33 then flwRelease s
  else if u = 34 then brgRelease s
  else lightRelease s

/-- Chamber u waits for its program swap (R240). -/
def swapWaits (u : Nat) (s : State) : Bool := decide (u < 16) && (chmOf s u).swapPend

/-- A Chamber that starts has its input area written (R254). -/
def unitStart (u : Nat) (s : State) : State := if u < 16 then exchangePut u s else s

/-- Unit u is released. A Chamber whose domains wake or whose program swap waits starts later, on what it took at its
release (R44, R73). -/
def releaseUnit (u r0 : Nat) (second : Bool) (s : State) : State :=
  let r := unitGate u s
  match r.1 with
  | .running =>
    if swapWaits u r.2 then unitBegin u r0 second (setUnit u .waking r.2)
    else unitStart u (unitBegin u r0 second (setUnit u .running r.2))
  | .waking => unitBegin u r0 second (setUnit u .waking r.2)
  | p => setUnit u p r.2

/-- The released unit u starts once its domains are on and no swap waits; where one of them has gone to RETAIN or
OFF it does not start (R73, R74, R240). -/
def startWaiting (u : Nat) (s : State) : State :=
  if unitOf s u != .waking then s
  else
    let slow := (unitDomains u).filter fun d => !s.domOn d
    if slow.any s.domOff then
      setUnit u .blocked (raiseAux srcUnpoweredRelease (BitVec.ofNat 32 (slow.headD 0)) (unitBlock u) s)
    else if slow.isEmpty && !swapWaits u s then unitStart u (setUnit u .running s)
    else s

/-- The units that wait for domain n start, or are blocked by the mode that took effect (R73, R74). -/
def unitsOfDomain (n : Nat) (s : State) : State :=
  forEach ((idxs 0 36).filter fun u => (unitDomains u).contains n) startWaiting s

/-- The wake of domain n completes; a unit that waited for it starts (R66, R73). -/
def domainReady (n : Nat) (s : State) : State := unitsOfDomain n (wakeComplete n s)

/-- The sleep transition of domain n ends; a mode that takes effect there may block a unit that waits (R74). -/
def domainSlept (n : Nat) (s : State) : State := unitsOfDomain n (sleepEnd n s)

/-- The swap of CHMn that a commit asked for is made once the Chamber's stores are acknowledged; a release that
waited for it goes on (R240). -/
def swapReady (n : Nat) (s : State) : State :=
  let c := chmOf s n
  if c.swapPend && !storesOut c then startWaiting n (chmSwap n s) else s

/-- The response of the oldest Cavern access of CHMn arrives, or it times out; a swap that waited for the last store is
made (R203, R240). -/
def chamberReturns (n : Nat) (s : State) : State := swapReady n (chmAnswer n s)
def chamberTimeout (n : Nat) (s : State) : State := swapReady n (chmTimeout n s)

/-! ### The order of a cycle's units (R44) -/

/-- The Chambers of a stage. -/
def stageChms (s : State) (k : Nat) : List Nat := (idxs 0 16).filter fun n => stageOf s n == k

/-- Unit u is neither released nor in progress. -/
def unitIdle (s : State) (u : Nat) : Bool := unitOf s u == .idle

/-- A unit that is released in its turn; one that already waits or is blocked in this cycle is left. -/
def releaseNext (u : Nat) (s : State) : State := if unitIdle s u then releaseUnit u 0 false s else s

/-- The units that follow unit u in R44 are released once it has completed or missed; free names the FREE Chambers
whose words its Flowstone pass has written. -/
def successors (u : Nat) (free : List Nat) (s : State) : State :=
  if u = 33 then
    let s := forEach free releaseNext s
    match stageChms s 1 with
    | [] => releaseNext 32 s
    | l => forEach l releaseNext s
  else if u < 16 ∧ stageOf s u = 1 then
    if (stageChms s 1).all (unitIdle s) && unitIdle s 33 then releaseNext 32 s else s
  else if u = 32 then forEach (stageChms s 2) releaseNext s
  else s

/-- What is left to do once unit u has ended: it is idle, its successors are released, its domains may sleep. -/
def unitEnd (u : Nat) (free : List Nat) (s : State) : State :=
  autoSleep u (successors u free (setUnit u .idle s))

/-! ### Misses and completions (R48 to R51) -/

/-- Unit u holds its outputs and stops (R49, R50); of a Flowstone pass the first k words are written. -/
def unitStop (u k : Nat) (s : State) : State :=
  if u < 16 then chmStop u (exchangeMiss u s)
  else if u < 32 then cleMiss (u - 16) s
  else if u = 32 then mixMiss s
  else if u = 33 then flwMiss k s
  else if u = 34 then brgMiss s
  else s

/-- The tick at which unit u misses: its deadline tick, or the boundary that a set or step has brought before it
(R48). -/
def missTick (s : State) (u : Nat) : Nat := min (baseTick s u + deadlineOf s u) (boundaryTick s)

/-- Unit u misses at its deadline tick, or at the boundary that comes before it (R48 to R51). Chambers whose words a
Flowstone pass left unwritten are not released in this cycle (R291). -/
def unitMiss (u k : Nat) (s : State) : State :=
  if unitIdle s u then s
  else
    let s := waitTicks (missTick s u - s.dtm.ticks) s
    let free := if u = 33 then (stageChms s 3).filter (chmDue s) else []
    let s := monitorMiss u (unitStop u k s)
    let s := if u = 33 then forEach (s.flw.late.filter fun n => stageOf s n != 0) (fun n t => setUnit n .blocked t) s
      else s
    unitEnd u free s

/-- Unit u misses with no command that says so; how many of its words a Flowstone pass had written by then is a free
value. -/
def unitLate (u : Nat) (s : State) : State :=
  if u = 33 then unitMiss 33 (s.freeVal 16).toNat s.tick1 else unitMiss u 0 s

/-- Unit u completes: on time it publishes and reports its slack, after its deadline tick it has missed (R48). A
Chamber completes when its run has ended and its stores are acknowledged (R202). The CLE's runs end at their end
instruction. -/
def unitComplete (u : Nat) (s : State) : State :=
  if unitOf s u != .running || (decide (16 ≤ u) && decide (u < 32)) || (decide (u < 16) && !chmDone s u) then s
  else
    match slackOf s u with
    | none => unitLate u s
    | some v =>
      let free := if u = 33 then (stageChms s 3).filter (chmDue s) else []
      let s :=
        if u < 16 then exchangeOut u s
        else if u = 32 then mixComplete s
        else if u = 33 then flwComplete s
        else if u = 34 then brgComplete s
        else lightComplete s
      unitEnd u free (monitorDone u v s)

/-- The units in the order in which they can end in a cycle. -/
def unitOrder (s : State) : List Nat :=
  [33] ++ stageChms s 1 ++ [32] ++ stageChms s 2 ++ stageChms s 3 ++ [34, 35] ++ idxs 16 16 ++ stageChms s 0

/-- The unit in progress that misses first, before tick t. -/
def firstMiss (t : Nat) (s : State) : Option Nat :=
  ((unitOrder s).filter fun u => !unitIdle s u && decide (missTick s u < t)).foldl
    (fun a u =>
      match a with
      | none => some u
      | some v => if missTick s u < missTick s v then some u else some v) none

/-- The units in progress that miss before tick t do so, each at its own tick, the earliest first; so do those that
their misses release. n bounds the misses: a cycle has at most one of each unit and run. -/
def missUntil (n t : Nat) (s : State) : State :=
  match n with
  | 0 => s
  | n + 1 =>
    match firstMiss t s with
    | none => s
    | some u => missUntil n t (unitLate u s)

/-- Every unit in progress misses before tick t. -/
def missBefore (t : Nat) (s : State) : State := missUntil 72 t s

/-- Every unit in progress misses: at its deadline tick, or at the boundary that ends its cycle. A unit that a miss at
the boundary itself releases still belongs to the cycle that ends, and misses there too (R48, R49;
notes/assumptions/80.md). -/
def missAll (s : State) : State := missBefore (boundaryTick s + 1) s

/-! ### The mid-cycle instant (R42, R393, R394) -/

/-- Ticks pass to the wake lead of the release point at tick t, where the domains due are switched on (R70). -/
def leadPass (t : Nat) (s : State) : State :=
  leadWakes 135 (waitTicks (t - s.rf rPWR_WAKE_LEAD PWR_WAKE_LEAD.TICKS - s.dtm.ticks) s)

/-- A run of unit u that is in progress is cut short at this tick: it has missed (R48). -/
def runCut (u : Nat) (s : State) : State :=
  if unitIdle s u then s else unitEnd u [] (monitorMiss u (unitStop u 0 s))

/-- The mid-cycle instant: second runs of double-rate slots are released, the events of the instant are raised.
A first run that a set or step left running has missed (R48). -/
def midCycle (s : State) : State :=
  let s := settleTicks s
  if s.cyc.midDone then s
  else
    let half := cyclesTb s (2 * s.cyc.next - 1)
    let s := advanceTo half.1 (2 * half.2) (leadPass (midTick s) (missBefore (midTick s) s))
    let doubles := (idxs 0 16).filter fun n => (cleOf s n).on && (cleOf s n).double
    let s := forEach doubles (fun n t => runCut (16 + n) t) s
    let s := { s with cyc := { s.cyc with midDone := true, mid := s.dtm.ticks } }
    let q := s.cle.queue.length
    let s := forEach doubles (fun n t => releaseUnit (16 + n) (cleRegion t n) true t) s
    let s := cleNext (cleMid (s.cle.queue.length - q) s)
    adcEvent 2 (cycleEvent 2 s)

/-- The deadline tick of unit u passes: a pending set or step and the mid-cycle instant come before it where they lie
before it. A first run of a double-rate slot that the instant reaches has missed there (R48). -/
def unitDeadline (u k : Nat) (s : State) : State :=
  if unitIdle s u then s
  else
    let s := settleTicks s
    if s.cyc.midDone || decide (missTick s u < midTick s) then unitMiss u k s
    else
      let t := midCycle s
      if baseTick t u = baseTick s u then unitMiss u k t else t

/-! ### Deadline tables (R45, R46) -/

/-- A deadline table is valid (R45): the conditions in ticks of 4 ns, T − 2 µs rounded down. -/
def tableOk (s : State) (d : List Nat) : Bool :=
  let g := fun i => d.getD i 0
  let last := if s.cyc.fam < 2 then 30750 else 33513
  let mix := if spc s = 6 then 4500 else 2250
  decide (g 0 < g 1) && decide (g 1 < g 2) && decide (g 2 < g 3) && d.all (fun x => decide (x ≤ last)) &&
    decide (g 1 + mix ≤ g 2)

/-- The table the registers hold. -/
def tableRegs (s : State) : List Nat := (idxs 0 7).map fun i => s.rf (rDTM_DL_FLW + 4 * i) DTM_DL_FLW.TICKS

/-- A table is refused (R45). -/
def tableRefused (s : State) : State :=
  raise srcDeadlineCfg (s.setRb rDTM_CYC_STAT DTM_CYC_STAT.DL_CFG_ERR true)

/-- DL_APPLY: the written table is checked at the next boundary (R45). -/
def dlApply (s : State) : State := s.setRb rDTM_CYC_STAT DTM_CYC_STAT.DL_PENDING true

/-- The table of a set that takes effect: it goes to the registers, and replaces an apply that waits (R46). -/
def tableSet (ws : List W40) (s : State) : State :=
  let d := (idxs 0 7).map fun i => setBits ws (1456 + i) 0 16
  if tableOk s d then
    let s := forEach (idxs 0 7) (fun i t => t.setRf (rDTM_DL_FLW + 4 * i) DTM_DL_FLW.TICKS (d.getD i 0)) s
    let st : W32 := (setWord ws 1463).setWidth 32
    let s := s.setReg rDTM_CHM_STAGE (st.setWidth 64)
    let s := s.setRb rDTM_CYC_STAT DTM_CYC_STAT.DL_PENDING false
    { s with cyc := { s.cyc with dl := d, stage := st } }
  else tableRefused s

/-- The table firmware asked to be applied (R45). -/
def tableApply (s : State) : State :=
  if !s.rb rDTM_CYC_STAT DTM_CYC_STAT.DL_PENDING then s
  else
    let s := s.setRb rDTM_CYC_STAT DTM_CYC_STAT.DL_PENDING false
    let d := tableRegs s
    if tableOk s d then { s with cyc := { s.cyc with dl := d, stage := (s.reg rDTM_CHM_STAGE).setWidth 32 } }
    else tableRefused s

/-- The timer words of a set that takes effect (R137, R285): debounce and period before the mode. -/
def timersSet (ws : List W40) (s : State) : State :=
  forEach (idxs 0 8)
    (fun n t =>
      let w := fun i => ((setWord ws (1464 + 3 * n + i)).setWidth 32 : W32).setWidth 64
      timCtlWrite n (w 0) ((t.setReg (rTIM_DEB n) (w 2)).setReg (rTIM_PERIOD n) (w 1))) s

/-- The set whose LOCAL swap point is this boundary (R285). -/
def swapsNow (s : State) : Option (List W40) :=
  match s.flw.commit with
  | some c => if c.swap.isNone && decide (c.c + 1 ≤ s.cyc.idx) && decide (c.arm = .done) then some c.shadow else none
  | none => none

/-! ### The boundary (R41, R42, R44) -/

/-- A family that was taken comes into effect: the active set ends, the next boundary falls at the first whole
multiple of the new T (R41). -/
def familyChange (s : State) : State :=
  match s.cyc.famNext with
  | none => s
  | some f =>
    let s := { s with cyc := { s.cyc with famNext := none } }
    if f = s.cyc.fam then s
    else
      let s := { s with cyc := { s.cyc with fam := f } }
      let s := endSet (s.setRf rCFL_CFG CFL_CFG.RATE f)
      let s := { s with cyc := { s.cyc with idx := cycleIndex s, next := cycleIndex s + 1 } }
      let one := cyclesTb s 1
      { s with cyc := { s.cyc with midDone := decide ((2 * s.cyc.idx + 1) * one.1 < 2 * s.dtm.tb * one.2) } }

/-- The deadline table and the timer words of a set that takes effect, where it carries them (R46, R137). -/
def setTimes (ws : List W40) (s : State) : State :=
  let s := if setBits ws 3 2 1 = 1 then tableSet ws s else s
  if setBits ws 3 3 1 = 1 then timersSet ws s else s

/-- The previous set is put back where a commit lost TIME_VALID between its swap points (R284); whether it was. -/
def restoreStep (s : State) : Bool × State :=
  match s.flw.dropped with
  | none => (false, s)
  | some d => (true, setTimes d.undo.image (commitRestore s))

/-- The values due, the previous set of a dropped commit, what the node talks and emits from the cycle that ends, then
the commit, the deadline table and the timers at a boundary; whether FLW_ACT changed (R31, R45, R46, R284, R285). -/
def commitStep (s : State) : Bool × State :=
  let r := restoreStep (presentValues s)
  let s := takeOutputs (talkSnapshot r.2)
  let ws := swapsNow s
  let s := commitBoundary s
  let s := match ws with
    | some ws => setTimes ws s
    | none => s
  (r.1 || ws.isSome, forEach (idxs 0 16) swapReady (tableApply s))

/-- The configurations of the CLE's slots at a boundary, and the exchanges that are due there: that of a slot that is
released is made at its release (R397, R400). -/
def cleBoundary (actChanged : Bool) (s : State) : State :=
  if s.held 20 then s
  else
    let s := forEach (idxs 0 16) cleConfig s
    let s := if actChanged then cleActChanged s else s
    forEach ((idxs 0 16).filter fun n => (cleOf s n).cmtDue && !(cleOf s n).on) (cleExchange false) s

/-- The releases of a boundary (R44); regions holds the regions of the CLE's slots before it. Double-rate slots run
before the others (R393). -/
def releaseAll (l : Bool) (regions : List Nat) (s : State) : State :=
  let s := releaseUnit 33 0 false s
  let s := forEach ((stageChms s 3).filter fun n => !chmDue s n) (fun n t => releaseUnit n 0 false t) s
  let s := releaseUnit 34 0 false s
  let s := if l then releaseUnit 35 0 false s else s
  let on := (idxs 0 16).filter fun n => (cleOf s n).on
  let order := on.filter (fun n => (cleOf s n).double) ++ on.filter (fun n => !(cleOf s n).double)
  cleNext (forEach order (fun n t => releaseUnit (16 + n) (regions.getD n 0) false t) s)

/-- The events and the blocks that act at a boundary, before the releases. -/
def boundaryBlocks (l : Bool) (s : State) : State :=
  let s := if s.timeValid then { s with cyc := { s.cyc with timeMute := false } } else s
  let s := forEach (idxs 0 8) sapBoundary s
  let s := galBoundary (brgPublish s)
  let s := forEach (idxs 0 3) synBoundary (datumBoundary s)
  let s := wtbBoundary (gateBoundary s)
  let s := chainBoundary s
  let div := max 1 (s.rf rCRN_CYCDIV CRN_CYCDIV.DIV)
  let s := if s.cyc.idx % div = 0 then cairnEvent 16 false s else s
  let s := adcEvent 1 (cycleEvent 1 (timersTick 2 s))
  if l then adcEvent 3 (cycleEvent 3 (timersTick 3 (cairnEvent 17 false (gateLBoundary s)))) else s

/-- The cycle boundary: ticks pass to it, what is still in progress has missed, and the next cycle begins (R42). -/
def cycleStart (s : State) : State :=
  let s := stepXr (ringFill (missAll (midCycle s)))
  let k := cyclesTb s s.cyc.next
  let s := advanceTo k.1 k.2 (leadPass (boundaryTick s) s)
  { s with cyc := { s.cyc with
    idx := s.cyc.next, next := s.cyc.next + 1, midDone := false, start := s.dtm.ticks, grid := 0 } }

/-- A cycle boundary (R41, R42, R44). -/
def cycleBoundary (s : State) : State :=
  if s.rst.phase = .inReset then s
  else
    let s := cycleStart s
    let hadSet := s.rb rFLW_ACT FLW_ACT.VALID
    let regions := (idxs 0 16).map (cleRegion s)
    let s := familyChange s
    let ended := hadSet && !s.rb rFLW_ACT FLW_ACT.VALID
    let s := s.setRf rDTM_CYC_CTL DTM_CYC_CTL.FAM s.cyc.fam
    let l := decide (s.cyc.idx % nL s = 0)
    let r := commitStep s
    let s := cleBoundary (r.1 || ended) (boundaryBlocks l r.2)
    releaseAll l regions s

/-- The mid-cycle instant as a command: nothing runs in reset. -/
def midInstant (s : State) : State := if s.rst.phase = .inReset then s else midCycle s

/-- What the block does when no command waits (notes/assumptions/1.md): a unit whose deadline tick is this one misses;
else one tick of the timebase counter clock passes, or the boundary or the mid-cycle instant that this tick reaches
falls. Domains whose wake lead has come are switched on, the edges of the pulse outputs and the reloads and centres
of the PWM groups that are due fall, and the events
of timers that have expired are raised. A Sump chip reset that is due begins (R491). In reset only the time since power-on passes (R12, R62). -/
def idleTick (s : State) : State :=
  if s.rst.phase = .inReset then upTime 1 s
  else if sumpDue s then sumpReset s
  else
    match firstMiss (s.dtm.ticks + 1) s with
    | some u => unitLate u s
    | none =>
      let s := forEach (idxs 0 16) pwmTick (frmoEdge (ppsoEdge (leadWakes 135 s)))
      let t := oneTick s
      if boundaryReached t then cycleBoundary s
      else if midReached t then midInstant s
      else timersDue t

end Sys2Proof.Machine
end

