-- ==== Sys2Proof/Machine/Dmx.lean ====
section
/-! DEFINITION. DMX ports (R311 to R315). -/

namespace Sys2Proof.Machine

open Sys2Proof

/-- Port d. -/
def dmxOf (s : State) (d : Nat) : Dmx := tget s.dmx Dmx.init d

/-- The state with port d's state replaced. -/
def setDmx (d : Nat) (x : Dmx) (s : State) : State := { s with dmx := tset s.dmx Dmx.init d x }

/-- Port d works: domain 135 is on and its block not held (R311). -/
def dmxLive (s : State) (d : Nat) : Bool := d < 2 && s.domOn 135 && !s.held 34

/-- Ticks of n microseconds. -/
def usTicks (n : Nat) : Nat := 250 * n

/-- MODE of a DMX_CTL word: 1 CONT, 2 ONCE; the reserved code sends nothing. -/
def dmxMode (w : W32) : Nat := fget DMX_CTL.MODE (w.setWidth 64)

/-- RDM of a DMX_CTL word. -/
def dmxRdm (w : W32) : Nat := fget DMX_CTL.RDM (w.setWidth 64)

/-- The level of the line of a frame, t ticks after it began: break, mark-after-break, then the bytes, each a start bit,
8 bits with the least significant first and two stop bits of 4 µs, 1,000 ticks, with a mark between them (R311,
R312). -/
def dmxLevel (x : Dmx) (t : Nat) : Bool :=
  if t < x.brk then false
  else if t < x.brk + x.mab then true
  else
    let r := t - x.brk - x.mab
    let k := r / (11000 + x.gap)
    let o := r % (11000 + x.gap)
    if x.tx.length ≤ k ∨ 9000 ≤ o then true
    else if o < 1000 then false
    else (x.tx.getD k 0).getLsbD (o / 1000 - 1)

/-- GO: a frame is requested in ONCE; a responder answers only a request, not before 176 µs after its last stop bit and
not after 2,000 µs (R312, R315). -/
def dmxGo (d : Nat) (s : State) : State :=
  let x := dmxOf s d
  let ctl : W32 := (s.reg (rDMX_CTL d)).setWidth 32
  if !dmxLive s d || dmxMode ctl != 2 then s
  else if dmxRdm ctl = 2 then
    match x.request with
    | none => s
    | some t =>
      if usTicks 2000 < s.dtm.ticks - t then
        (setDmx d { x with request := none } s).setRb (rDMX_STAT d) DMX_STAT.RDM_LATE true
      else setDmx d { x with go := true, request := none, after := t + usTicks 176 } s
  else setDmx d { x with go := true } s

/-- SWAP: the other buffer from the next break (R312). -/
def dmxSwap (d : Nat) (s : State) : State := setDmx d { dmxOf s d with swap := true } s

/-- Word w of a buffer's registers. -/
def dmxWord (b : Cells 8) (w : Nat) : W64 := ofBytes (rdBytes b (4 * w) 4)

/-- The bytes the transmit registers of port d show. -/
def dmxShown (s : State) (d : Nat) : Cells 8 :=
  (idxs 0 129).foldl
    (fun m w => wrBytes m (4 * w) ((bytesOf 4 (s.reg (rDMX_TXD d w))).take (513 - 4 * w))) []

/-- A light store value as a DMX byte: bits [15:8], rounded half-up, saturated (R314). -/
def dmxLight (v : Nat) : Byte := BitVec.ofNat 8 (min 255 ((v + 128) / 256))

/-- A frame of port d begins, no earlier than the settings allow: SWAP, settings and light store values are taken (R312,
R314, R315). A byte whose light store index lies beyond 4,095 is a free value. While the light outputs stay dark, the
slots of a frame with start code 0 are 0 (R18, R24, R37; notes/assumptions/48.md). -/
def dmxBreak (d : Nat) (s : State) : State :=
  let x := dmxOf s d
  let ctl : W32 := (s.reg (rDMX_CTL d)).setWidth 32
  let now := s.dtm.ticks
  let due := ((dmxMode ctl == 1 && !x.await) || (dmxMode ctl == 2 && x.go)) && decide (x.after ≤ now)
  if !dmxLive s d || s.rb (rDMX_STAT d) DMX_STAT.TX_BUSY || !due then s
  else
    let shown := dmxShown s d
    let s := if x.swap then forEach (idxs 0 129) (fun w t => t.setReg (rDMX_TXD d w) (dmxWord x.used w)) s else s
    let used := if x.swap then shown else x.used
    let n := s.rf (rDMX_CTL d) DMX_CTL.TX_LEN
    let n := if n = 0 ∨ 513 < n then 513 else n
    let base := s.rf (rDMX_LS d) DMX_LS.TXBASE
    let bytes := (List.range n).map fun k =>
      if k ≠ 0 ∧ s.rb (rDMX_CTL d) DMX_CTL.SRC then
        (if base + k - 1 < 4096 then dmxLight (s.rf (rCFL_LS (base + k - 1)) CFL_LS.VALUE) else (s.freeVal 4104).extractLsb' (8 * k) 8)
      else tget used 0 k
    let bytes := if chainDark s && bytes.headD 0 == 0 then List.replicate n 0 else bytes
    let plain := fget DMX_CTL.NOBRK (ctl.setWidth 64) == 0
    let us := fun (lo a : Nat) (f : Fld) => usTicks (max lo (s.rf a f))
    let s := setDmx d { x with
      used := used, swap := false, go := false, ctl := ctl, tx := bytes, began := now
      brk := if plain then us 92 (rDMX_TTIM d) DMX_TTIM.BRK else 0
      mab := if plain then us 12 (rDMX_TTIM d) DMX_TTIM.MAB else 0
      gap := us 0 (rDMX_TPER d) DMX_TPER.IST
      after := if dmxMode ctl = 1 then now + us 1204 (rDMX_TPER d) DMX_TPER.PER else 0, de := true } s.tick1
    s.setRb (rDMX_STAT d) DMX_STAT.TX_BUSY true

/-- The last stop bit of a frame of port d; an RDM controller's ONCE frame turns the port to receive (R315). -/
def dmxTxEnd (d : Nat) (s : State) : State :=
  let x := dmxOf s d
  if !s.rb (rDMX_STAT d) DMX_STAT.TX_BUSY || !dmxLive s d then s
  else
    let turn := dmxMode x.ctl == 2 && dmxRdm x.ctl == 1
    let de := !(turn || dmxRdm x.ctl == 2)
    (setDmx d { x with tx := [], await := turn, de := de } s).setRb (rDMX_STAT d) DMX_STAT.TX_BUSY false

/-- A received frame begins: a low of at least 88 µs and a mark of at least 8 µs; the response that an RDM controller
waits for may come without a break (R313, R315). -/
def dmxStarts (x : Dmx) (brk mark : Nat) : Bool :=
  (decide (usTicks 88 ≤ brk) && decide (usTicks 8 ≤ mark)) || (x.await && brk == 0)

/-- A received frame of port d, after a low of brk and a mark of mark ticks, ends and is published whole (R313, R314),
ago ticks after its last stop bit; fe: a byte with a framing error ended it. Bytes beyond the frame in the published
buffer are free values. -/
def dmxRx (d brk mark : Nat) (bytes : List Byte) (fe : Bool) (ago : Nat) (s : State) : State :=
  if !dmxLive s d || !dmxStarts (dmxOf s d) brk mark then s
  else
    let b := bytes.take 513
    let n := b.length
    let s := forEach (idxs 0 129)
      (fun w t =>
        let mine := (b.drop (4 * w)).take 4
        if mine.length = 4 then t.setReg (rDMX_RXD d w) (ofBytes mine)
        else
          let rest := (bytesOf 4 (t.freeVal 32 |>.setWidth 64)).drop mine.length
          t.tick1.setReg (rDMX_RXD d w) (ofBytes (mine ++ rest))) s
    let s := s.setRf (rDMX_STAT d) DMX_STAT.RX_LEN n
    let s := s.setRf (rDMX_STAT d) DMX_STAT.RX_SEQ ((s.rf (rDMX_STAT d) DMX_STAT.RX_SEQ + 1) % 65536)
    let s := if fe then s.setRb (rDMX_STAT d) DMX_STAT.FE true else s
    let base := s.rf (rDMX_LS d) DMX_LS.RXBASE
    let s :=
      if s.rb (rDMX_CTL d) DMX_CTL.RXLS then
        forEach ((idxs 1 (n - 1)).filter fun k => decide (base + k - 1 < 4096))
          (fun k t => t.setRf (rCFL_LS (base + k - 1)) CFL_LS.VALUE ((b.getD k 0).toNat * 257)) s
      else s
    let x := dmxOf s d
    let asked := s.rf (rDMX_CTL d) DMX_CTL.RDM = 2 ∧ b.headD 0 = 0xCC
    let s := setDmx d { x with await := false, request := if asked then some (s.dtm.ticks - ago) else x.request } s
    rosterEvent 0x1D s

/-- No response came within RESP_TMO (R315). -/
def dmxTimeout (d : Nat) (s : State) : State :=
  let x := dmxOf s d
  if x.await && dmxLive s d then
    (setDmx d { x with await := false } s).setRb (rDMX_STAT d) DMX_STAT.RDM_TMO true
  else s

end Sys2Proof.Machine
end

