-- ==== Sys2Proof/Machine/GuideCore.lean ====
section
/-! DEFINITION. The Guide's banks, its roster's decisions, exceptions and NMI (R106, R119 to R123, R125 to R132,
R572, R573). -/

namespace Sys2Proof.Machine

open Sys2Proof

/-- The state with the Guide's state changed. -/
def onGde (f : Gde → Gde) (s : State) : State := { s with gde := f s.gde }

/-- Bank b: 0 to 7 B0 to B7, 8 BB, 9 BN. -/
def bankOf (s : State) (b : Nat) : Bank := tget s.gde.banks Bank.init b

/-- The state with bank b changed. -/
def onBank (b : Nat) (f : Bank → Bank) (s : State) : State :=
  onGde (fun g => { g with banks := tset g.banks Bank.init b (f (tget g.banks Bank.init b)) }) s

/-- The running bank. -/
def curBank (s : State) : Nat := s.rf rGDE_STAT GDE_STAT.BANK

/-- The Guide runs in BN. -/
def inBn (s : State) : Bool := curBank s == 9

/-- The running bank's program counter. -/
def guidePc (s : State) : W32 := (bankOf s (curBank s)).pc

/-- The running bank goes on at address a; bit 0 of a program counter is zero. -/
def setPc (a : W32) (s : State) : State := onBank (curBank s) (fun b => { b with pc := a &&& 0xFFFFFFFE#32 }) s

/-- Register i of the running bank; g0 reads as zero (R106). -/
def gReg (s : State) (i : BitVec 5) : W32 := tget (bankOf s (curBank s)).g 0 i.toNat

/-- Register n of bank b takes v; g0 ignores writes (R106). -/
def bankReg (b n : Nat) (v : W32) (s : State) : State :=
  if n = 0 then s else onBank b (fun x => { x with g := tset x.g 0 n v }) s

/-- Register i of the running bank takes v. -/
def setG (i : BitVec 5) (v : W32) (s : State) : State := bankReg (curBank s) i.toNat v s

/-- Bank b becomes the running bank. -/
def switchBank (b : Nat) (s : State) : State :=
  (s.setRf rGDE_STAT GDE_STAT.BANK b).setRb rGDE_STAT GDE_STAT.NMI_ACT (b == 9)

/-- The Guide is released and nothing halts it (R92, R123, R539). -/
def guideLive (s : State) : Bool :=
  s.running && !s.held 16 && !s.rb rGDE_STAT GDE_STAT.HALT && !s.gde.dbgHalted

/-- The Guide issues instructions: neither an NMI nor a dispatch has stopped issue, and BB does not idle in wait
(R122, R129, R130). -/
def guideIssues (s : State) : Bool :=
  guideLive s && !s.gde.nmiSignal && s.gde.decided.isNone && !(s.gde.waiting && curBank s == 8)

/-- A load of the running bank is in flight. -/
def bankLoads (s : State) : Bool := s.gde.loads.any fun l => l.bank == curBank s

/-! ### The roster (R125 to R131, R572, R573) -/

/-- A word with the bits of the slots l from slot lo on. -/
def slotBits (l : List Nat) (lo : Nat) : W64 :=
  l.foldl (fun v n => if lo ≤ n ∧ n < lo + 32 then v ||| BitVec.ofNat 64 (2 ^ (n - lo)) else v) 0

/-- The roster registers follow its state: pending and active slots, the running context outside BN. -/
def showRoster (s : State) : State :=
  let act := s.gde.active.map fun a => a.1
  let s := (s.setReg rGDE_ROSTER_PEND_LO (slotBits s.gde.pend 0)).setReg rGDE_ROSTER_PEND_HI (slotBits s.gde.pend 32)
  let s := (s.setReg rGDE_ROSTER_ACT_LO (slotBits act 0)).setReg rGDE_ROSTER_ACT_HI (slotBits act 32)
  s.setReg rGDE_ROSTER_CUR
    (match s.gde.active with
      | [] => fput GDE_ROSTER_CUR.BG 0 1
      | (n, p) :: _ => fput GDE_ROSTER_CUR.SLOT (fput GDE_ROSTER_CUR.PRIO 0 p) n)

/-- PRIO of slot n. -/
def taskPrio (s : State) (n : Nat) : Nat := s.rf (rGDE_TASK_CFG n) GDE_TASK_CFG.PRIO

/-- The oldest pending slot of the highest pending priority (R128). -/
def nextTask (s : State) : Option Nat :=
  let top := s.gde.pend.foldl (fun p n => max p (taskPrio s n)) 0
  (s.gde.pend.filter fun n => taskPrio s n == top).head?

/-- Slot n ranks above the running code; BB ranks below priority 0 (R128). -/
def ranksHere (s : State) (n : Nat) : Bool :=
  match s.gde.active with
  | [] => true
  | (_, p) :: _ => decide (p < taskPrio s n)

/-- The pending slot that ranks above the running code, where there is one (R128). -/
def outranks (s : State) : Option Nat := (nextTask s).filter (ranksHere s)

/-- The roster decides; what it decides while BN runs waits for the return (R122, R128). -/
def rosterDecide (s : State) : State := onGde (fun g => { g with decided := if inBn s then none else outranks s }) s

/-- Slot n is dispatched into the bank of its priority (R128, R129). -/
def dispatch (n : Nat) (s : State) : State :=
  let p := taskPrio s n
  let s := onBank p (fun b => { b with
    pc := (s.reg (rGDE_TASK_ENTRY n)).setWidth 32, exc := false, slot := n }) s
  let s := bankReg p 4 (BitVec.ofNat 32 n) (bankReg p 3 ((s.reg (rGDE_TASK_ARG n)).setWidth 32) s)
  let s := onGde (fun g => { g with
    pend := g.pend.filter (fun m => m != n), active := (n, p) :: g.active, decided := none, waiting := false }) s
  showRoster (switchBank p s)

/-- The running instance ends: the roster decides at once (R128, R130, R573). -/
def endInstance (s : State) : State :=
  let s := onGde (fun g => { g with active := g.active.tail, decided := none }) s
  match outranks s with
  | some n => dispatch n s
  | none =>
    showRoster (switchBank (match s.gde.active with
      | [] => 8
      | (_, p) :: _ => p) s)

/-- A ready that a window accepts: the slot becomes pending, or the ready merges (R126). -/
def takeReady (n : Nat) (s : State) : State :=
  if s.gde.pend.contains n then s.bumpWrap rGDE_ROSTER_MERGE
  else onGde (fun g => { g with pend := g.pend ++ [n] }) s

/-- The window closes and resolves what belongs to it: cancels win, readies are ordered by slot (R126 to R128,
R572). -/
def closeWindow (s : State) : State :=
  if !s.gde.windowOpen then s
  else
    let rs := s.gde.readies
    let cs := s.gde.cancels
    let s := forEach (rs.filter cs.contains) (fun _ t => t.bumpWrap rGDE_ROSTER_RACE) s
    let s := onGde (fun g => { g with
      windowOpen := false, readies := [], cancels := [], pend := g.pend.filter fun n => !cs.contains n }) s
    let s := forEach ((idxs 0 64).filter fun n => !cs.contains n)
      (fun n t => forEach (rs.filter fun m => m == n) (fun _ u => takeReady n u) t) s
    rosterDecide (showRoster s)

/-- The dispatch the roster has decided: the running bank's loads have drained (R129). The slot is dispatched if it is
still pending above the running code, which a write of its PRIO may have changed; an instance is never pre-empted by a
slot of equal or lower priority (R128, R131). -/
def taskDispatch (s : State) : State :=
  match s.gde.decided with
  | some n =>
    if !guideLive s || s.gde.nmiSignal || bankLoads s then s
    else if s.gde.pend.contains n && ranksHere s n then dispatch n s
    else rosterDecide s
  | none => s

/-- A write of GDE_TASK_CFG_n: a cleared EN acts as a cancel, a pending slot whose PRIO changes queues anew (R127,
R131). The latter opens no window (DESIGN CHOICE, notes/assumptions/92.md). -/
def taskCfg (n : Nat) (v : W32) (s : State) : State :=
  let old := taskPrio s n
  let was := s.rb (rGDE_TASK_CFG n) GDE_TASK_CFG.EN
  let s := s.setReg (rGDE_TASK_CFG n) ((v &&& 0x801F0007#32).setWidth 64)
  let s := if s.gde.pend.contains n && taskPrio s n != old then
      onGde (fun g => { g with pend := g.pend.filter (fun m => m != n) ++ [n] }) s
    else s
  if was && !s.rb (rGDE_TASK_CFG n) GDE_TASK_CFG.EN then rosterCancel n s else s

/-! ### Exceptions (R119 to R121) -/

/-- The cause codes. -/
def excIllegal : Nat := 1
def excFetch : Nat := 2
def excAlign : Nat := 3
def excLoadErr : Nat := 4
def excTrap : Nat := 5

/-- Taking an exception in the running bank: cause, address, whether it is imprecise. EPC takes the program counter,
which is the faulting instruction's address, or that of the next instruction for an imprecise one (R119). In a handler
it is a double exception (R121); in BN it halts the Guide (R123). -/
def takeException (cause : Nat) (addr : W32) (imprecise : Bool) (s : State) : State :=
  let b := curBank s
  if b = 9 then raise srcNmiFault (s.setRb rGDE_STAT GDE_STAT.HALT true)
  else if (bankOf s b).exc then
    let s := raise srcDoubleExc (onBank b (fun x => { x with exc := false }) s)
    if s.held 16 ∨ !s.running then s
    else if b = 8 then onBank 8 (fun x => { x with pc := s.rst.entry }) s
    else endInstance s
  else
    let c := BitVec.ofNat 32 (cause + (if imprecise then 2 ^ 31 else 0))
    onBank b (fun x => { x with epc := x.pc, ecause := c, eaddr := addr, exc := true, pc := s.gde.vbase }) s

/-- The return from an exception (R119). -/
def exceptionReturn (s : State) : State :=
  onBank (curBank s) (fun x => { x with exc := false, pc := x.epc &&& 0xFFFFFFFE#32 }) s

/-! ### NMI (R122, R123) -/

/-- NMI entry: the running bank's loads have drained (R122). -/
def nmiEnter (s : State) : State :=
  if guideLive s && s.gde.nmiSignal && !bankLoads s && !inBn s then
    let b := curBank s
    let s := onGde (fun g => { g with
      nmiSignal := false, nepc := (bankOf s b).pc, nstat := b, decided := none, waiting := false }) s
    switchBank 9 (onBank 9 (fun x => { x with pc := s.gde.vbase + 0x40#32 }) s)
  else s

/-- The return from BN: a pending NMI is taken before any instruction of the bank; the roster decides again
(R122, R123). -/
def nmiReturn (s : State) : State :=
  let s := switchBank s.gde.nstat s
  let s := onBank (curBank s) (fun x => { x with pc := s.gde.nepc &&& 0xFFFFFFFE#32 }) s
  let s := if s.rb rGDE_STAT GDE_STAT.NMI_PEND then
      onGde (fun g => { g with nmiSignal := true }) (s.setRb rGDE_STAT GDE_STAT.NMI_PEND false)
    else s
  rosterDecide s

/-! ### Loads and posted stores in flight (R109, R120) -/

/-- The Guide's transactions in flight at the matrix. -/
def guideOut (s : State) : Nat := s.gde.loads.length + s.gde.stores.length

/-- A value a load brings, extended as the load says. -/
def extendLoad (bytes : Nat) (signed : Bool) (v : W64) : W32 :=
  if bytes = 1 then (if signed then (v.setWidth 8).signExtend 32 else (v.setWidth 8).setWidth 32)
  else if bytes = 2 then (if signed then (v.setWidth 16).signExtend 32 else (v.setWidth 16).setWidth 32)
  else v.setWidth 32

/-- A load writes its destination, a 64-bit one two registers (R112). -/
def loadWrite (b reg bytes : Nat) (signed : Bool) (v : W64) (s : State) : State :=
  let s := bankReg b reg (extendLoad bytes signed v) s
  if bytes = 8 then bankReg b (reg + 1) ((v >>> 32).setWidth 32) s else s

/-- The response of the load of place i arrives: its data, or with an error response zero and the LOADERR that waits for
the bank's next instruction boundary (R109, R120, R172). Of two loads of a bank that err before that boundary the later
one's address is kept (DESIGN CHOICE, notes/assumptions/89.md). -/
def loadAnswer (i : Nat) (s : State) : State :=
  match s.gde.loads[i]? with
  | none => s
  | some l =>
    if !inOrder s l.seq 0 l.addr then s
    else
      let s := freeEntry 0 (onGde (fun g => { g with loads := g.loads.eraseIdx i }) s)
      if l.code = 0 then (if 10 ≤ l.bank then s else loadWrite l.bank l.reg l.bytes l.signed l.data s)
      else
        errorResponse 0 l.addr false l.code
          (if l.bank < 10 then
            onBank l.bank (fun b => { b with loadErr := some (BitVec.ofNat 32 l.addr) })
              (loadWrite l.bank l.reg l.bytes l.signed 0 s)
          else s)

/-- The load of place i completes, with its data or with an error response: error says which of the two the command
stands for. -/
def loadEnds (i : Nat) (error : Bool) (s : State) : State :=
  if s.gde.loads[i]?.any fun l => (l.code != 0) == error then loadAnswer i s else s

/-- The response of the posted store of place i arrives; an error is reported (R109, R120, R172). -/
def storeAnswer (i : Nat) (s : State) : State :=
  match s.gde.stores[i]? with
  | none => s
  | some e =>
    if !inOrder s e.seq 0 e.addr then s
    else
      let s := freeEntry 0 (onGde (fun g => { g with stores := g.stores.eraseIdx i }) s)
      if e.code = 0 then s
      else
        errorResponse 0 e.addr true e.code
          (if e.live then (s.setReg rGDE_PERR (BitVec.ofNat 64 e.addr)).bumpSat rGDE_PERR_CNT GDE_PERR_CNT.CNT else s)

/-- The oldest posted store that drew an error response, and whose response may return, is reported (R120). -/
def storeErrorEnds (s : State) : State :=
  match s.gde.stores.findIdx? fun e => e.code != 0 && inOrder s e.seq 0 e.addr with
  | some i => storeAnswer i s
  | none => s

/-- The Guide's load, or posted store, of place i times out (R174, R175). -/
def loadTimeout (i : Nat) (s : State) : State :=
  match (s.gde.loads[i]?).bind fun l => timeoutCode l.code with
  | none => s
  | some c => loadAnswer i (onGde (fun g => { g with loads := g.loads.modify i fun l => { l with code := c } }) s)
def storeTimeout (i : Nat) (s : State) : State :=
  match (s.gde.stores[i]?).bind fun e => timeoutCode e.code with
  | none => s
  | some c => storeAnswer i (onGde (fun g => { g with stores := g.stores.modify i fun e => { e with code := c } }) s)

end Sys2Proof.Machine
end

