-- ==== Sys2Proof/Machine/Bus.lean ====
section
/-! DEFINITION. Accesses to the peripheral registers by field type and through the alias windows, what a write of
each register does, and one access through the bus matrix (R4 to R8, R165 to R182). -/

namespace Sys2Proof.Machine

open Sys2Proof

/-! ### Reading and storing by field type (R6 to R8) -/

/-- The alias operation of a bit: 0 primary write, 1 through the bit-set window, 2 through the bit-clear window. -/
def rwBits (op : Nat) (old v : W64) : W64 := if op = 0 then v else if op = 1 then old ||| v else old &&& ~~~ v

/-- What a field's bits become under a write (R7, R8); locked: the block's lock bit is set. -/
def fieldBits (op : Nat) (locked : Bool) (old v : W64) (t : FieldType) : W64 :=
  match t with
  | .rw => rwBits op old v
  | .rwl => if locked then old else rwBits op old v
  | .w1c => if op = 2 then old else old &&& ~~~ v
  | .w1s => if op = 2 then old else old ||| v
  | .ro | .wo | .rc => old

/-- A register after a write: every field by its type, reserved bits as they are (R6 to R8). -/
def regNext (op : Nat) (locked : Bool) (flds : List Fld) (old v : W64) : W64 :=
  flds.foldl (fun acc f => (acc &&& ~~~ fmask f) ||| (fieldBits op locked old v f.ty &&& fmask f)) old

/-- The RC fields of a register, cleared (R7). -/
def rcCleared (flds : List Fld) (old : W64) : W64 :=
  flds.foldl (fun acc f => if f.ty = .rc then acc &&& ~~~ fmask f else acc) old

/-- The lock bit of the block of register address a is set (R487, R516). -/
def locked (s : State) (a : Nat) : Bool :=
  if (a - periphBase) / 0x10000 = 7 then s.rb rSMP_CTL SMP_CTL.LOCK
  else if (a - periphBase) / 0x10000 = 9 then s.rb rSEC_CTL SEC_CTL.LOCK
  else false

/-- A locked write that would have changed an RWL bit (R7). -/
def lockedChange (op : Nat) (flds : List Fld) (old v : W64) : Bool :=
  flds.any fun f => f.ty == .rwl && ((rwBits op old v ^^^ old) &&& fmask f) != 0

/-- The index of a register in a row of n with a stride. -/
def ix (a base stride n : Nat) : Option Nat :=
  if base ≤ a ∧ (a - base) % stride = 0 ∧ (a - base) / stride < n then some ((a - base) / stride) else none

/-- The value with field f as the register holds it now. -/
def keepFld (s : State) (a : Nat) (f : Fld) (new : W64) : W64 := fput f new (s.rf a f)

/-- A write reaches a field's bits: every primary write, and an alias write whose mask names one of them. -/
def touches (op : Nat) (f : Fld) (v : W64) : Bool := op == 0 || (v &&& fmask f) != 0

/-- What a write gives a WO field: an alias write leaves it unchanged (R8). -/
def woBits (op : Nat) (v : W64) : W64 := if op = 0 then v else 0

/-! ### What a register shows that another part of the state holds -/

/-- The entry registers of Cairn's FIFO. -/
def crnEntry (a : Nat) : Bool := decide (rCRN_ENT_HDR ≤ a) && decide (a ≤ rCRN_ENT_LNS)

/-- Register address a as a read shows it. -/
def regView (s : State) (a : Nat) : W64 :=
  let v := s.reg a
  if a = rCFL_XP_DATA then xpRead s
  else if crnEntry a && !s.domOn 122 then 0
  else
    match ix a (rCHM_CC 0) 0x100 16, ix a (rCHM_LOOP_STAT 0) 0x100 16, ix a (rCHM_XCH 0) 0x100 16,
      ix a (rCHM_EVQ 0) 0x100 16 with
    | some n, _, _, _ =>
      let c := chmOf s n
      let b := fun (x : Bool) => if x then 1 else 0
      fput CHM_CC.O (fput CHM_CC.N (fput CHM_CC.Z v (b c.z)) (b c.n)) (b c.o)
    | _, some n, _, _ => fput CHM_LOOP_STAT.RB (fput CHM_LOOP_STAT.DEPTH v (chmOf s n).stack.length) (chmOf s n).rb
    | _, _, some n, _ => fput CHM_XCH.GEN (fput CHM_XCH.ACT v (chmOf s n).act) (chmOf s n).gen
    | _, _, _, some n => fput CHM_EVQ.LEVEL v (chmOf s n).evq.length
    | _, _, _, _ => v

/-- A read of register address a by master m: RC fields clear, the timebase is snapshotted (R7, R350). -/
def regRead (m a : Nat) (s : State) : W64 × State :=
  if a = rDTM_TB_NS then tbSnapshot m s
  else if a = rDTM_TB_SEC then (tbSec (tget s.dtm.snaps (0, 0) m).1, s)
  else if a = rDTM_CYCLE then (BitVec.ofNat 64 (tget s.dtm.snaps (0, 0) m).2, s)
  else
    match regAt a with
    | none => (0, s)
    | some d => (regView s a, s.setReg a (rcCleared d.flds (s.reg a)))

/-! ### What a write does, block by block -/

/-- The reset block. -/
def wrRst (a op : Nat) (v new : W64) (s : State) : State :=
  if a = rRST_CTL then rstCtlWrite ((woBits op v).setWidth 32) s
  else if a = rRST_BLK then rstBlkWrite ((woBits op v).setWidth 32) s
  else s.setReg a new

/-- The power controller: a refused mode leaves the mode as it is, HOLD is stored (R65, R68). -/
def wrPwr (a : Nat) (new : W64) (s : State) : State :=
  match ix a (rPWR_DOM_CTL 0) 4 136 with
  | some n => powerMode n (fget PWR_DOM_CTL.MODE new) (s.setReg a (keepFld s a PWR_DOM_CTL.MODE new))
  | none => s.setReg a new

/-- Water table (R75 to R81). -/
def wrWtb (a op : Nat) (v new : W64) (s : State) : State :=
  if a = rWTB_CTL then
    let m := fget WTB_CTL.MODE new
    let s := s.setReg a (keepFld s a WTB_CTL.MODE new)
    if touches op WTB_CTL.MODE v then wtbMode m s else s
  else if a = rWTB_FLOOR then wtbBound false (fget WTB_FLOOR.CODE new) s
  else if a = rWTB_CEIL then wtbBound true (fget WTB_CEIL.CODE new) s
  else if a = rWTB_TARGET then wtbTarget (fget WTB_TARGET.CODE new) s
  else if a = rWTB_VID_BASE then (if wtbAsked s = 0 then s.setReg a new else s)
  else if a = rWTB_LOOP ∨ a = rWTB_SLACK ∨ a = rWTB_MON_MASK_LO ∨ a = rWTB_MON_MASK_HI then wtbTouch (s.setReg a new)
  else s.setReg a new

/-- Gallery. -/
def wrGal (a op : Nat) (v new : W64) (s : State) : State :=
  let w := woBits op v
  if a = rGAL_CTL then
    let s := galEnableWrite (fget GAL_CTL.EN new == 1) (s.setReg a (keepFld s a GAL_CTL.EN new))
    if fget GAL_CTL.RESTORE w = 1 then galRestoreWrite s else s
  else if a = rGAL_NODE then
    if touches op GAL_NODE.STORED_ID v then storedIdSet (fget GAL_NODE.STORED_ID new) s else s
  else if a = rGAL_MDIO then
    let s := s.setReg a new
    if fget GAL_MDIO.GO w = 1 then mdioStart s else s
  else if a = rGAL_TXMSG_CTL then (if fget GAL_TXMSG_CTL.GO w = 1 then txmsgGo s else s)
  else if a = rGAL_RXMSG_CTL then (if fget GAL_RXMSG_CTL.POP w = 1 then rxmsgPop s else s)
  else if a = rGAL_SETTX then
    let s := s.setReg a new
    if fget GAL_SETTX.GO w = 1 then settxGo s else s
  else if a = rGAL_ETH_CTL then
    let s := s.setReg a new
    if fget GAL_ETH_CTL.TXPOLL w = 1 then txPoll s else s
  else s.setReg a new

/-- A write of DTM_CYC_CTL: a family waits for the boundary, and is ignored while Gallery is enabled (R41); DL_APPLY
(R45). -/
def cycCtlWrite (op : Nat) (v new : W64) (s : State) : State :=
  let f := fget DTM_CYC_CTL.FAM new
  let s := s.setReg rDTM_CYC_CTL (keepFld s rDTM_CYC_CTL DTM_CYC_CTL.FAM new)
  let s := if touches op DTM_CYC_CTL.FAM v && !s.rb rGAL_CTL GAL_CTL.EN then
      { s with cyc := { s.cyc with famNext := some f } }
    else s
  if fget DTM_CYC_CTL.DL_APPLY (woBits op v) = 1 then dlApply s else s

/-- Datum: the cycle controller, the timebase, the references. -/
def wrDtm (a op : Nat) (v new : W64) (s : State) : State :=
  let w := woBits op v
  if a = rDTM_CYC_CTL then cycCtlWrite op v new s
  else if a = rDTM_CTL then modeWrite (fget DTM_CTL.MODE new == 1) (s.setReg a (keepFld s a DTM_CTL.MODE new))
  else if a = rDTM_TV then tvWrite (fget DTM_TV.SET w == 1) (fget DTM_TV.CLR w == 1) s
  else if a = rDTM_ADDEND then addendWrite (new.setWidth 32) s
  else if a = rDTM_SET_CTL then (if fget DTM_SET_CTL.GO w = 1 then setGo s else s)
  else if a = rDTM_STEP then (if op = 0 then stepWrite v s else s)
  else if a = rDTM_PTP_OFS then (if op = 0 then refSample 1 v.toInt s else s)
  else if a = rDTM_PTS_CTL then (if fget DTM_PTS_CTL.POP w = 1 then ptsPop s else s)
  else if a = rDTM_REF_CTL then
    let s := s.setReg a new
    if touches op DTM_REF_CTL.BW v then setGains s else s
  else if a = rDTM_SRV_KP ∨ a = rDTM_SRV_KI then (if s.rb rDTM_CTL DTM_CTL.AUTO_GAIN then s else s.setReg a new)
  else if a = rDTM_PPSO_CTL ∨ a = rDTM_PPSO_OFS then ppsoWrite a new s
  else if a = rDTM_FRMO_CTL ∨ a = rDTM_FRMO_OFS then frmoWrite a new s
  else
    match ix a (rDTM_DL_MIN 0) 0x10 36 with
    | some u => if fget DTM_DL_MIN.MIN_CLR w = 1 then minClear u s else s
    | none => s.setReg a new

/-- Cairn. -/
def wrCrn (a op : Nat) (v new : W64) (s : State) : State :=
  let w := woBits op v
  if a = rCRN_POP then
    if fget CRN_POP.FLUSH w = 1 then cairnFlush s else if fget CRN_POP.POP w = 1 then cairnPop s else s
  else s.setReg a new

/-- The synthesizers. -/
def wrSyn (a op : Nat) (v new : W64) (s : State) : State :=
  match ix a (rSYN_CTL 0) 0x20 3, ix a (rSYN_FRAC 0) 0x20 3, ix a (rSYN_DIV 0) 0x20 3, ix a (rSYN_PHASE 0) 0x20 3 with
  | some n, _, _, _ => synCtlWrite n new s
  | _, some n, _, _ => synFracWrite n (fget SYN_FRAC.FRAC new) s
  | _, _, some n, _ => synDivWrite n new s
  | _, _, _, some n => if op = 0 then synStep n (v.setWidth 16) s else s
  | _, _, _, _ => s.setReg a new

/-- LOG_CLR: the record headers are cleared; ignored while a clear runs (R499). -/
def logClr (s : State) : State := s.setRb rSMP_LOG_STAT SMP_LOG_STAT.CLEARING true

/-- The Sump. -/
def wrSmp (a op : Nat) (v new : W64) (s : State) : State :=
  let w := woBits op v
  if a = rSMP_CTL then
    let s := s.setReg a new
    if fget SMP_CTL.LOG_CLR w = 1 then logClr s else s
  else if a = rSMP_ACK then acknowledge (w.setWidth 32) s
  else s.setReg a new

/-- The security controller. -/
def wrSec (a op : Nat) (v new : W64) (s : State) : State :=
  let w := woBits op v
  if a = rSEC_ROT then
    if fget SEC_ROT.GO w = 1 then rotGo (fget SEC_ROT.OP w) (fget SEC_ROT.SLOT w) s else s
  else if a = rSEC_VIOL then (if op = 2 then s else violClear v s)
  else if a = rSEC_DBG then (if fget SEC_DBG.REOPEN w = 1 then reopen s else s)
  else if a = rSEC_CE_CTL then
    ceCtlWrite (new.setWidth 32 ||| (w.setWidth 32 &&& 0x80000000#32)) s
  else s.setReg a new

/-- The timers. -/
def wrTim (a : Nat) (new : W64) (s : State) : State :=
  match ix a (rTIM_CTL 0) 0x20 8 with
  | some n => timCtlWrite n new s
  | none => s.setReg a new

/-- Siphon: the channels of a mask are triggered, from the lowest; EN arms or stops a channel; SPH_DESC and TRIG keep
while a block runs (R161, R164). -/
def wrSph (a op : Nat) (v new : W64) (s : State) : State :=
  if a = rSPH_TRIG then
    forEach ((idxs 0 16).filter fun n => bit (woBits op v) n) (fun n t => sphTrigger n t) s
  else
    match ix a (rSPH_CTL 0) 0x20 16, ix a (rSPH_DESC 0) 0x20 16 with
    | some n, _ =>
      let was := s.rb (rSPH_CTL n) SPH_CTL.EN
      let on := fget SPH_CTL.EN new == 1
      let new := if s.rb (rSPH_STAT n) SPH_STAT.BUSY then keepFld s a SPH_CTL.TRIG new else new
      let s := s.setReg a (keepFld s a SPH_CTL.EN new)
      if on && !was then sphEnable n s else if !on && was then sphDisable n s else s
    | _, some n => if s.rb (rSPH_STAT n) SPH_STAT.BUSY then s else s.setReg a new
    | _, _ => s.setReg a new

/-- PEAK_CLR: the peak starts again from the entries held now (R169). -/
def peakClr (m : Nat) (s : State) : State := s.setRf (rBMX_OUT m) BMX_OUT.PEAK (outOf s m)

/-- The matrix. -/
def wrBmx (a op : Nat) (v new : W64) (s : State) : State :=
  match ix a (rBMX_OUT 0) 0x10 6 with
  | some m => if fget BMX_OUT.PEAK_CLR (woBits op v) = 1 then peakClr m s else s
  | none => s.setReg a new

/-- The Guide's registers. -/
def wrGde (a op : Nat) (v new : W64) (s : State) : State :=
  if a = rGDE_ROSTER_READY then (if op = 0 then rosterReady (fget GDE_ROSTER_READY.SLOT v) s else s)
  else if a = rGDE_ROSTER_CANCEL then (if op = 0 then rosterCancel (fget GDE_ROSTER_CANCEL.SLOT v) s else s)
  else
    match ix a (rGDE_TASK_CFG 0) 0x10 64 with
    | some n => taskCfg n (new.setWidth 32) s
    | none => s.setReg a new

/-- Confluence. -/
def wrCfl (a : Nat) (new : W64) (s : State) : State :=
  if a = rCFL_XP_DATA then xpWrite (new.setWidth 32) s else s.setReg a new

/-- FLW_CMD (R274). -/
def flwCmd (op slot : Nat) (s : State) : State := if op = 1 then stage slot s else if op = 2 then discard slot s else s

/-- Flowstone. -/
def wrFlw (a op : Nat) (v new : W64) (s : State) : State :=
  let w := woBits op v
  if a = rFLW_CMD then flwCmd (fget FLW_CMD.OP w) (fget FLW_CMD.SLOT w) s
  else if a = rFLW_CMT then
    if fget FLW_CMT.GO w = 1 then
      commitWrite (fget FLW_CMT.CHAIN w == 1) (fget FLW_CMT.SLOT w) (fget FLW_CMT.DEST w) (fget FLW_CMT.C w) s
    else s
  else if a = rFLW_MORPH_BASE then morphBaseWrite (fget FLW_MORPH_BASE.WORD new) s
  else
    match ix a (rFLW_SLOT_BASE 0) 8 16 with
    | some k => slotBaseWrite k (fget FLW_SLOT_BASE.WORD new) s
    | none => s.setReg a new

/-- The serial audio ports. -/
def wrSap (a : Nat) (new : W64) (s : State) : State :=
  match ix a (rSAP_CTL 0) 0x100 8 with
  | some n => sapEnableWrite n (fget SAP_CTL.EN new == 1) (s.setReg a (keepFld s a SAP_CTL.EN new))
  | none => s.setReg a new

/-- A slot's configuration registers (R397). -/
def cleCfgSlot (a : Nat) : Option Nat :=
  match ix a (rCLE_SLOT_CFG 0) 0x20 16, ix a (rCLE_SCHED 0) 0x20 16, ix a (rCLE_HYST 0) 0x20 16 with
  | some n, _, _ => some n
  | _, some n, _ => some n
  | _, _, some n => some n
  | _, _, _ => if rCLE_THR 0 1 ≤ a ∧ a ≤ rCLE_THR 15 7 then some ((a - rCLE_THR 0 1) / 0x20) else none

/-- The Control Law Engine and Echo. -/
def wrCle (a op : Nat) (v new : W64) (s : State) : State :=
  if a = rECHO_CTL then
    let w := woBits op v
    echoCtlWrite (fget ECHO_CTL.GO w == 1) (fget ECHO_CTL.ABORT w == 1) (s.setReg a new)
  else
    match cleCfgSlot a with
    | some n => cleDirty n (s.setReg a new)
    | none => s.setReg a new

/-- The PWM groups. -/
def wrPwm (a : Nat) (new : W64) (s : State) : State :=
  match ix a (rPWM_CTL 0) 0x20 16, ix a (rPWM_DP 0) 8 36 with
  | some g, _ => pwmEnableWrite g (fget PWM_CTL.EN new == 1) (s.setReg a (keepFld s a PWM_CTL.EN new))
  | _, some n => pwmWrite n new s
  | _, _ => s.setReg a new

/-- The Lantern ports, the cartridges, the two-wire controllers. The attempts at a life record that a write makes are
a free value (R470, R471). -/
def wrLtn (a op : Nat) (v new : W64) (s : State) : State :=
  let w := woBits op v
  match ix a (rLTN_CTL 0) 0x40 4, ix a (rLTN_FB 0) 0x40 4, ix a (rLTN_CART_CFG 0) 0x40 4, ix a (rLTN_CART_CMD 0) 0x40 4 with
  | some n, _, _, _ => ltnEnableWrite n (fget LTN_CTL.EN new == 1) (s.setReg a (keepFld s a LTN_CTL.EN new))
  | _, some n, _, _ => ltnCommit n (fget LTN_FB.BASE new) (fget LTN_FB.NPIXM1 new) s
  | _, _, some c, _ =>
    let s := s.setReg a (keepFld s a LTN_CART_CFG.EN new)
    cartEnable c (fget LTN_CART_CFG.EN new == 1) (s.freeVal 3).toNat s.tick1
  | _, _, _, some c =>
    if fget LTN_CART_CMD.REPROBE w = 1 then cartReprobe c (s.freeVal 3).toNat s.tick1 else s
  | _, _, _, _ =>
    match ix a (rLTN_TW_CMD 0) 0x20 5 with
    | some k =>
      let s := s.setReg a new
      if fget LTN_TW_CMD.GO w = 1 then twGo k s else s
    | none => s.setReg a new

/-- The converters; an injected trigger comes first (R444, R445). -/
def wrAdc (a op : Nat) (v new : W64) (s : State) : State :=
  let w := woBits op v
  match ix a (rADC_CTL 0) 0x100 2, ix a (rADC_CMD 0) 0x100 2 with
  | some i, _ => adcEnableWrite i (fget ADC_CTL.EN new == 1) (s.setReg a (keepFld s a ADC_CTL.EN new))
  | _, some i =>
    let s := if fget ADC_CMD.ISWT w = 1 then injTrigger i s else s
    if fget ADC_CMD.RSWT w = 1 then regTrigger i s else s
  | _, _ => s.setReg a new

/-- The DMX ports; transmit bytes beyond 512 are ignored. -/
def wrDmx (a op : Nat) (v new : W64) (s : State) : State :=
  let w := woBits op v
  match ix a (rDMX_CTL 0) 0x40 2 with
  | some d =>
    let s := s.setReg a new
    let s := if fget DMX_CTL.SWAP w = 1 then dmxSwap d s else s
    if fget DMX_CTL.GO w = 1 then dmxGo d s else s
  | none =>
    if a = rDMX_TXD 0 128 ∨ a = rDMX_TXD 1 128 then s.setReg a (new &&& 0xFF#64) else s.setReg a new

/-- CNT_CLR and CRC_CLR of a Chamber's loader (R206). -/
def ldrCntClr (n : Nat) (s : State) : State := s.setReg (rCHM_LDR_CNT n) 0
def ldrCrcClr (n : Nat) (s : State) : State := s.setReg (rCHM_LDR_CRC n) 0

/-- The Chambers' registers. -/
def wrChm (a op : Nat) (v new : W64) (s : State) : State :=
  let w := woBits op v
  match ix a (rCHM_LDR_CTL 0) 0x100 16, ix a (rCHM_EVQ 0) 0x100 16 with
  | some n, _ =>
    let s := if fget CHM_LDR_CTL.CNT_CLR w = 1 then ldrCntClr n s else s
    if fget CHM_LDR_CTL.CRC_CLR w = 1 then ldrCrcClr n s else s
  | _, some n => if fget CHM_EVQ.FLUSH w = 1 then chmFlush n s else s
  | _, _ => s.setReg a new

/-- The effect of a write of value v on register address a whose fields become new. -/
def regAct (a op : Nat) (v new : W64) (s : State) : State :=
  match (a - periphBase) / 0x10000 with
  | 0 => wrRst a op v new s
  | 1 => wrPwr a new s
  | 2 => wrWtb a op v new s
  | 3 => wrGal a op v new s
  | 4 => wrDtm a op v new s
  | 5 => wrCrn a op v new s
  | 6 => wrSyn a op v new s
  | 7 => wrSmp a op v new s
  | 8 => if a = rGTE_REL then relWrite ((woBits op v).setWidth 32) s else s.setReg a new
  | 9 => wrSec a op v new s
  | 12 => wrSph a op v new s
  | 13 => wrBmx a op v new s
  | 14 => wrGde a op v new s
  | 15 => wrTim a new s
  | 16 => wrCfl a new s
  | 17 => wrFlw a op v new s
  | 18 => wrSap a new s
  | 19 => wrCle a op v new s
  | 20 => wrPwm a new s
  | 21 => wrLtn a op v new s
  | 22 => wrAdc a op v new s
  | 23 => wrDmx a op v new s
  | 24 => wrChm a op v new s
  | _ => s.setReg a new

/-- A write of v to register address a: op 0 through the primary window, 1 bit-set, 2 bit-clear (R7, R8). -/
def regWrite (a op : Nat) (v : W64) (s : State) : State :=
  match regAt a with
  | none => s
  | some d =>
    let v := if d.wide then v else v &&& 0xFFFFFFFF#64
    let old := if a = rCFL_XP_DATA then xpRead s else s.reg a
    let s := if locked s a && lockedChange op d.flds old v then raiseD srcLockedWrite (BitVec.ofNat 32 a) s else s
    regAct a op v (regNext op (locked s a) d.flds old v) s

/-! ### Accesses to the register windows (R4, R5, R67, R149, R179) -/

/-- The register that covers the 32-bit word at address w, a multiple of 4: its first address and its row. -/
def regCover (w : Nat) : Option (Nat × RegDesc) :=
  match regAt w with
  | some d => some (w, d)
  | none =>
    match regAt (w - 4) with
    | some d => if d.wide then some (w - 4, d) else none
    | none => none

/-- The register an access of n bytes at address a names, or the code it draws: 4 outside every register, 3 where it
overlaps one and does not cover exactly one at its width (R4, R5). -/
def regHit (a n : Nat) : Nat ⊕ RegDesc :=
  let w := a / 4 * 4
  match (idxs 0 ((a + n - 1) / 4 - a / 4 + 1)).findSome? fun i => regCover (w + 4 * i) with
  | none => .inl 4
  | some (b, d) => if b = a ∧ n = (if d.wide then 8 else 4) then .inr d else .inl 3

/-- The block of RST_BLK that holds register address a (R85, R182). -/
def regBlock (a : Nat) : Option Nat :=
  match (a - periphBase) / 0x10000 with
  | 3 => some 19
  | 11 => some 33
  | 12 => some 32
  | 14 => some 16
  | 15 => some 35
  | 16 => some 17
  | 17 => some 18
  | 18 => some (24 + (a - periphBase) % 0x10000 / 0x100 % 8)
  | 19 => some 20
  | 20 => some 21
  | 21 => some 22
  | 22 => some 23
  | 23 => some 34
  | 24 => some ((a - periphBase) % 0x10000 / 0x100 % 16)
  | _ => none

/-- Register address a is in a block that is held. -/
def regHeld (s : State) (a : Nat) : Bool :=
  match regBlock a with
  | some k => s.held k
  | none => false

/-- Register address a is a word of the crypto engine's buffer. -/
def inCeBuf (a : Nat) : Bool := decide (rSEC_CE_BUF 0 ≤ a) && decide (a ≤ rSEC_CE_BUF 1023)

/-- An access to the register space at offset off through window win by master m: 0 primary, 1 bit-set, 2 bit-clear. The
lowest code is answered. -/
def periphAccess (m win off bytes : Nat) (write : Bool) (d : W64) (s : State) : Answer × State :=
  let a := periphBase + off
  match regHit a bytes with
  | .inl c => ((0, c), s)
  | .inr _ =>
    if win ≠ 0 ∧ !write then ((0, 5), s)
    else if inCeBuf a && !s.domOn 134 then ((0, 6), s)
    else if regHeld s a then ((0, 7), s)
    else if inCeBuf a && s.rb rSEC_CE_STAT SEC_CE_STAT.BUSY then ((0, 0), s.setRb rSEC_CE_STAT SEC_CE_STAT.BUFCOL true)
    else if write then ((0, 0), regWrite a win d s)
    else
      let r := regRead m a s
      ((r.1, 0), r.2)

/-! ### One access through the matrix (R165 to R174, R180) -/

/-- An access to one of the Guide's memories at offset off (R107, R168); they are the held Guide's while it is held
(R179). -/
def memAccess (imem : Bool) (off bytes : Nat) (write : Bool) (d : W64) (s : State) : Answer × State :=
  if !([1, 2, 4, 8].contains bytes && off % bytes == 0) then ((0, 3), s)
  else if s.held 16 then ((0, 7), s)
  else
    let m := if imem then s.gde.imem else s.gde.dmem
    if write then
      let m := wrBytes m off (bytesOf bytes d)
      ((0, 0), { s with gde := if imem then { s.gde with imem := m } else { s.gde with dmem := m } })
    else ((ofBytes (rdBytes m off bytes), 0), s)

/-- The access at its target, the region and the offset in it given. -/
def targetAccess (m : Nat) (r : Region) (off bytes : Nat) (write : Bool) (d : W64) (coll : List (Nat × HwnAccess))
    (s : State) : Answer × State :=
  match r with
  | .imem => memAccess true off bytes write d s
  | .dmem => memAccess false off bytes write d s
  | .hostArray => hwnAccess off bytes write d coll s
  | .cleMem => cleAccess off bytes write d s
  | .keyStore => keyAccess off bytes write d s
  | .chmMem => chmAccess off bytes write d s
  | .cavern win => cavAccess win off bytes write d s
  | .periph win => periphAccess m win off bytes write d s

/-- The access and the code it draws before it reaches a target: 1 outside every region, 2 and 0xA where the master has
no path (R167, R174, R180). -/
def routeAccess (m a bytes : Nat) (write : Bool) (d : W64) (coll : List (Nat × HwnAccess)) (s : State) : Answer × State :=
  match regionOf a with
  | none => ((0, 1), s)
  | some (r, off) =>
    if !hasPath m r write then ((0, if r = .keyStore then 0xA else 2), s)
    else targetAccess m r off bytes write d coll s

/-- A transaction that is issued and answered within one command, its access f: it holds an entry (R169). -/
def withEntry (m : Nat) (f : State → Answer × State) (s : State) : Answer × State :=
  let r := f (takeEntry m s)
  (r.1, freeEntry m r.2)

/-- One transaction under an identifier, its error response reported. -/
def busAccess (ident a bytes : Nat) (write : Bool) (d : W64) (coll : List (Nat × HwnAccess)) (s : State) : Answer × State :=
  let r := withEntry (masterOf ident) (routeAccess (masterOf ident) a bytes write d coll) s
  if r.1.2 = 0 then r else (r.1, errorResponse ident a write r.1.2 r.2)

/-- The identifier a master's transaction carries where a command does not name one: its first (R165). -/
def firstIdent (m : Nat) : Nat :=
  if m = 0 then 0 else if m = 1 then 8 else if m = 2 then 24 else if m = 3 then 32 else if m = 4 then 50 else 56

end Sys2Proof.Machine
end

