-- ==== Sys2Proof/Machine/Command.lean ====
section
/-! DEFINITION. What the meanings of the commands share: an event of the device, a write of firmware to a register that
has a command of its own. -/

namespace Sys2Proof.Machine

open Sys2Proof

/-- An event f of a block: nothing happens while the device is in reset (R83). -/
def ev (f : State → State) (s : State) : State := if s.rst.phase = .inReset then s else f s

/-- Firmware's write of the register at address a, with its effect f: none before the Guide's release; a write to a held
block draws code 7 (R174, R179). The answer is in the state. -/
def ctl (a : Nat) (f : State → State) (s : State) : State :=
  if !s.running then s
  else if regHeld s a then (errorResponse 0 a true 7 s).answer 0 7
  else (f s).answer 0 0

end Sys2Proof.Machine
end

