-- ==== Sys2Proof/Machine/AudioExec.lean ====
section
/-! DEFINITION. The commands of Confluence, Flowstone, the serial audio ports and DMX (ch. 11 to 13). -/

namespace Sys2Proof.Machine

open Sys2Proof

/-- A write of CFL_XP_DATA stores a crosspoint gain as a step at the next mix pass (R268). -/
def execCflXpDataWrite (gain : W32) (s : State) : Out :=
  .next (ctl (rCFL_XP_DATA) (xpWrite gain) s)

/-- A change of CFL_IN_i.MUTE ramps the input in or out over 32 samples from the next mix pass (R263). -/
def execCflMuteWrite (input : BitVec 8) (mute : Bool) (s : State) : Out :=
  .next (ctl (rCFL_IN input.toNat) (muteWrite input.toNat mute) s)

/-- A STAGE request sets a slot CHECKING and queues its check (R278). -/
def execFlwStage (slot : BitVec 4) (s : State) : Out :=
  .next (ctl (rFLW_CMD) (stage slot.toNat) s)

/-- A DISCARD request sets a slot not in use EMPTY (R274). -/
def execFlwDiscard (slot : BitVec 4) (s : State) : Out :=
  .next (ctl (rFLW_CMD) (discard slot.toNat) s)

/-- Flowstone finishes reading and checking a set, which becomes STAGED or FAILED (R278). -/
def execSetCheckDone (s : State) : Out :=
  .next (ev (checkDone) s)

/-- A write of FLW_CMT with GO and CHAIN clear requests a local commit, accepted or refused (R281). -/
def execFlwLocalCommit (slot : BitVec 4) (cyc : BitVec 48) (s : State) : Out :=
  .next (ctl (rFLW_CMT) (commitWrite false slot.toNat 0 cyc.toNat) s)

/-- A write of FLW_CMT with GO and CHAIN set on the head originates a chain commit (R281). -/
def execFlwChainCommit (slot : BitVec 4) (dest : BitVec 8) (cyc : BitVec 48) (s : State) : Out :=
  .next (ctl (rFLW_CMT) (commitWrite true slot.toNat dest.toNat cyc.toNat) s)

/-- Within 5 µs of acceptance Flowstone starts reading the set again and loading shadow copies (R282). -/
def execArmingStart (s : State) : Out :=
  .next (ev (armStart) s)

/-- Arming ends after rechecking the CRC and loading the shadow copies (R282). -/
def execArmingDone (s : State) : Out :=
  .next (ev (armDone) s)

/-- A write of FLW_SLOT_BASE_s places a slot and sets it EMPTY, unless it is in use (R274). -/
def execFlwSlotBaseWrite (slot : BitVec 4) (word : BitVec 20) (s : State) : Out :=
  .next (ctl (rFLW_SLOT_BASE slot.toNat) (slotBaseWrite slot.toNat word.toNat) s)

/-- A write of FLW_MORPH_BASE places the morph area, ignored while a commit is pending or a ramp runs (R288). -/
def execFlwMorphBaseWrite (word : BitVec 20) (s : State) : Out :=
  .next (ctl (rFLW_MORPH_BASE) (morphBaseWrite word.toNat) s)

/-- Setting EN checks the port configuration and starts the port, or refuses it with CFG_ERR (R307). -/
def execSapEnable (port : BitVec 3) (s : State) : Out :=
  .next (ctl (rSAP_CTL port.toNat) (sapEnableWrite port.toNat true) s)

/-- Clearing EN ramps the port to zero and enters TRAIL, or returns it to IDLE (R308). -/
def execSapDisable (port : BitVec 3) (s : State) : Out :=
  .next (ctl (rSAP_CTL port.toNat) (sapEnableWrite port.toNat false) s)

/-- Frame edges arrive at a slave port in WAIT_CLK and it enters LEAD (R307). -/
def execSapClockArrival (port : BitVec 3) (s : State) : Out :=
  .next (ev (sapClock port.toNat) s)

/-- LEAD frames of zero have been sent and the port waits for the cycle boundary to enter RUN (R307). -/
def execSapLeadEnd (port : BitVec 3) (s : State) : Out :=
  .next (ev (Sys2Proof.Machine.sapLeadEnd port.toNat) s)

/-- The trail ends, a master stops its clocks and the port returns to IDLE or restarts (R308). -/
def execSapTrailEnd (port : BitVec 3) (s : State) : Out :=
  .next (ev (Sys2Proof.Machine.sapTrailEnd port.toNat) s)

/-- A serial-audio frame begins and its slot words are sent and received (R295). -/
def execSapFrame (port : BitVec 3) (di : List Bool) (s : State) : Out :=
  .next (ev (Sys2Proof.Machine.sapFrame port.toNat di) s)

/-- At each sample grid point the node reads the input buffers and writes the output buffers, slipping where the fill requires (R303). -/
def execSampleGridPoint (s : State) : Out :=
  .next (ev (gridPoint) s)

/-- No frame edge for four frame periods makes a clock fault and the port waits for clocks (R309). -/
def execSapClockLoss (port : BitVec 3) (s : State) : Out :=
  .next (ev (sapFault port.toNat SAP_STAT.CLK_LOSS) s)

/-- The frame rate measured over 1,024 frames lies outside tolerance and a clock fault follows (R309). -/
def execSapRateError (port : BitVec 3) (s : State) : Out :=
  .next (ev (sapFault port.toNat SAP_STAT.RATE_ERR) s)

/-- GO sends one frame in ONCE mode, or a responder's RDM reply if not late (R312). -/
def execDmxGo (port : BitVec 1) (s : State) : Out :=
  .next (ctl (rDMX_CTL port.toNat) (Sys2Proof.Machine.dmxGo port.toNat) s)

/-- SWAP switches to the other transmit buffer at the next break (R312). -/
def execDmxSwap (port : BitVec 1) (s : State) : Out :=
  .next (ctl (rDMX_CTL port.toNat) (Sys2Proof.Machine.dmxSwap port.toNat) s)

/-- A DMX transmit frame begins with its break, taking buffers, settings and light store values (R312). -/
def execDmxBreakStart (port : BitVec 1) (s : State) : Out :=
  .next (ev (dmxBreak port.toNat) s)

/-- A received DMX frame ends and is published whole with RX_LEN and RX_SEQ (R313). -/
def execDmxRxFrame (port : BitVec 1) (brk mark : BitVec 32) (bytes : List Byte) (framingError : Bool) (ago : BitVec 32)
    (s : State) : Out :=
  .next (ev (dmxRx port.toNat brk.toNat mark.toNat bytes framingError ago.toNat) s)

/-- No RDM response edge arrives within RESP_TMO and RDM_TMO is set (R315). -/
def execDmxRdmTimeout (port : BitVec 1) (s : State) : Out :=
  .next (ev (dmxTimeout port.toNat) s)

/-- The last stop bit of a transmitted DMX frame ends; TX_BUSY clears and, for an RDM controller in ONCE mode, DE goes low within 2 µs and the port turns to receive the response (R315). -/
def execDmxTxFrameEnd (port : BitVec 1) (s : State) : Out :=
  .next (ev (dmxTxEnd port.toNat) s)

end Sys2Proof.Machine
end

