-- ==== Sys2Proof/Machine/MatrixRun.lean ====
section
/-! DEFINITION. Transactions of the matrix that are issued and answered in commands of their own (R109, R169 to R178), and
the elements Siphon moves (R162 to R164). -/

namespace Sys2Proof.Machine

open Sys2Proof

/-! ### The Guide's store queue (R109, R170) -/

/-- The state with the Guide's queue and posted stores changed. -/
def onPosts (ps : List GPost) (ss : List GStore) (s : State) : State :=
  { s with gde := { s.gde with posts := ps, stores := ss } }

/-- The oldest store of the queue is issued: it takes an entry, and its target performs it (R109, R170). A store that
resets the device leaves nothing in flight; the Guide discards the response where it is held (R178). -/
def postIssue (s : State) : State :=
  match s.gde.posts with
  | [] => s
  | p :: r =>
    let q := s.mtx.issues
    let s := issueSeq (takeEntry 0 (onPosts r s.gde.stores s))
    let a := routeAccess 0 p.addr p.bytes true p.data [] s
    if !a.2.running then a.2
    else onPosts a.2.gde.posts (a.2.gde.stores ++ [⟨p.addr, a.1.2, !a.2.held 16, q⟩]) a.2

/-- The store queue drains in order while entries are free, n stores at most (R109). -/
def postDrain (n : Nat) (s : State) : State :=
  match n with
  | 0 => s
  | n + 1 => if s.gde.posts.isEmpty || !identFree s 0 || s.held 16 then s else postDrain n (postIssue s)

/-- Store p is posted: it is issued where an entry is free and none waits before it, or waits in the queue, counted once
(R109, R169, R170). -/
def postStore (p : GPost) (s : State) : State :=
  let go := s.gde.posts.isEmpty && identFree s 0
  let s := onPosts (s.gde.posts ++ [p]) s.gde.stores s
  if go then postIssue s else countStall 0 s

/-! ### Transactions (R169 to R178) -/

/-- A transaction that has not been answered. -/
def newTxn (ident a bytes : Nat) (write : Bool) (d : W64) (coll : List (Nat × HwnAccess)) : Txn :=
  { master := masterOf ident, ident := ident, addr := a, bytes := bytes, write := write, data := d, code := 0
    issued := false, coll := coll, seq := 0, early := false }

/-- A Chamber that takes an entry has had its turn (R201). -/
def takeTurn (ident : Nat) (s : State) : State :=
  if 32 ≤ ident ∧ ident < 48 then { s with mtx := { s.mtx with gwTurn := ident - 32 } } else s

/-- The transaction of place i is issued: it takes an entry, and its target performs it (R169, R170). -/
def issueAt (i : Nat) (s : State) : State :=
  match s.txns[i]? with
  | none => s
  | some x =>
    let q := s.mtx.issues
    let r := routeAccess x.master x.addr x.bytes x.write x.data x.coll
      (takeTurn x.ident (issueSeq (takeEntry x.master s)))
    if !r.2.running then r.2
    else
      { r.2 with txns := r.2.txns.modify i fun x => { x with data := r.1.1, code := r.1.2, issued := true, seq := q } }

/-- A transaction waits for an entry that is free for it. -/
def mayIssue (s : State) (x : Txn) : Bool := !x.issued && identFree s x.ident && !identHeld s x.ident

/-- The oldest transaction of master m that waits for an entry is issued where one is free; the Guide's store queue comes
first (R169). -/
def issueWaiting (m : Nat) (s : State) : State :=
  let s := if m = 0 then postDrain 8 s else s
  match s.txns.findIdx? fun x => x.master == m && mayIssue s x with
  | some i => issueAt i s
  | none => s

/-- A master issues a transaction, or waits for an entry, counted once. Identifiers 60 to 63 are not used, and a master
that is held issues nothing (R165, R169, R178). -/
def bmxIssue (ident a bytes : Nat) (write : Bool) (d : W64) (coll : List (Nat × HwnAccess)) (s : State) : State :=
  if !s.running ∨ 60 ≤ ident ∨ identHeld s ident then s
  else
    let free := identFree s ident && (ident != 0 || s.gde.posts.isEmpty)
    let s := { s with txns := s.txns ++ [newTxn ident a bytes write d coll] }
    if free then issueAt (s.txns.length - 1) s else countStall (masterOf ident) s

/-- One transaction under an identifier that its command issues and answers; it waits in flight for a command of its
response where no entry is free, or where an earlier one must be answered first (R169, R172). -/
def busAs (ident a bytes : Nat) (write : Bool) (d : W64) (coll : List (Nat × HwnAccess)) (s : State) : State :=
  if !s.running ∨ 60 ≤ ident ∨ identHeld s ident then s
  else if !identFree s ident || !inOrder s s.mtx.issues ident a || (ident == 0 && !s.gde.posts.isEmpty) then
    bmxIssue ident a bytes write d coll s
  else
    let r := busAccess ident a bytes write d coll s
    r.2.answer r.1.1 r.1.2

/-- A transaction of master m that the command answers; nothing where there is no such master or no firmware runs. -/
def busCommand (m a bytes : Nat) (write : Bool) (d : W64) (coll : List (Nat × HwnAccess)) (s : State) : State :=
  if 6 ≤ m then s else busAs (firstIdent m) a bytes write d coll s

/-- The transaction of place i may be answered (R172). -/
def mayAnswer (s : State) (x : Txn) : Bool := x.issued && inOrder s x.seq x.ident x.addr

/-- The transaction of place i receives a response of data d and code c; its entry is freed, and a transaction that
waits takes it (R169, R174). A transaction that waits for an entry that is free is issued first. -/
def respond (i : Nat) (s : State) : State :=
  let s := match s.txns[i]? with
    | some x => if mayIssue s x then issueAt i s else s
    | none => s
  match s.txns[i]? with
  | none => s
  | some x =>
    if !mayAnswer s x then s
    else
      let d : W64 := if x.code ≠ 0 ∨ x.write then 0 else x.data
      let s := { s with txns := s.txns.eraseIdx i }
      let s := if x.early then s else freeEntry x.master s
      let s := issueWaiting x.master (if identHeld s x.ident then s else s.answer d x.code)
      if x.code = 0 then s else errorResponse x.ident x.addr x.write x.code s

/-- The transaction of place i times out. -/
def txnTimeout (i : Nat) (s : State) : State :=
  match s.txns[i]? with
  | none => s
  | some x =>
    match x.issued, timeoutCode x.code with
    | true, some c => respond i { s with txns := s.txns.modify i fun x => { x with code := c } }
    | _, _ => s

/-! ### Siphon's elements (R162 to R164) -/

/-- The address of element k from the first source or destination and the two steps. -/
def elemAddr (base : Nat) (xinc yinc : Int) (xcnt k : Nat) : Nat :=
  lowBits 32 (base + yinc * (k / xcnt : Nat) + xinc * (k % xcnt : Nat))

/-- The width of an element in bytes. -/
def elemBytes (c : SphCh) : Nat := if c.wide then 8 else 4

/-- The transaction channel n issues next: the write of the next element, once its read has returned, or else the read of
the next element; none while the channel does not run, and no new read once EN is cleared (R162, R164). -/
def sphNext (s : State) (n : Nat) : Option (Nat × Bool × W64) :=
  let c := sphOf s n
  if !s.rb (rSPH_STAT n) SPH_STAT.BUSY then none
  else
    match c.ready.find? fun e => e.1 == c.wnext with
    | some e => some (e.1, true, e.2)
    | none => if c.rnext < c.xcnt * c.ycnt ∧ !c.stopping then some (c.rnext, false, 0) else none

/-- Channel n issues the read or the write of element k: it takes an entry, and its target performs it (R162, R169). -/
def sphIssue (n k : Nat) (write : Bool) (d : W64) (s : State) : State :=
  let c := sphOf s n
  let q := s.mtx.issues
  let a := if write then elemAddr c.dst c.dxinc c.dyinc c.xcnt k else elemAddr c.src c.sxinc c.syinc c.xcnt k
  let c := if write then { c with ready := c.ready.filter (fun e => e.1 != k), wnext := k + 1, waits := false }
    else { c with rnext := k + 1, waits := false }
  let r := routeAccess 1 a (elemBytes c) write d [] (issueSeq (takeEntry 1 (setSph n c s)))
  if !r.2.running then r.2
  else
    let x := sphOf r.2 n
    let dead := r.2.held 32 || !r.2.rb (rSPH_STAT n) SPH_STAT.BUSY
    setSph n { x with flight := x.flight ++ [⟨k, a, write, r.1.1, r.1.2, q, dead, false⟩] } r.2

/-- Every channel that waits for an entry with its next transaction is counted once for it (R169). -/
def sphStalls (s : State) : State :=
  forEach (idxs 0 16)
    (fun n t =>
      if (sphNext t n).isSome && !(sphOf t n).waits then countStall 1 (setSph n { sphOf t n with waits := true } t)
      else t) s

/-- Siphon issues while entries are free, its channels in rotation, one transaction at a time, k at most (R162, R169). -/
def sphFill (k : Nat) (s : State) : State :=
  match k with
  | 0 => s
  | k + 1 =>
    if s.held 32 || !s.running then s
    else if !identFree s 8 then sphStalls s
    else
      match (idxs 0 16).findSome? fun j =>
        let n := (s.mtx.sphTurn + 1 + j) % 16
        (sphNext s n).map fun x => (n, x) with
      | none => s
      | some (n, e, w, d) => sphFill k (sphIssue n e w d { s with mtx := { s.mtx with sphTurn := n } })

/-- Siphon issues what its quota allows. -/
def sphGo (s : State) : State := sphFill 17 s

/-- Channel n's block has completed (R162); a trigger that was latched starts the next. -/
def sphBlockDone (n : Nat) (s : State) : State :=
  let c := sphOf s n
  let s := (s.setRb (rSPH_STAT n) SPH_STAT.BUSY false).setRb (rSPH_STAT n) SPH_STAT.BLK true
  let s :=
    if c.last then
      ((s.setRb (rSPH_CTL n) SPH_CTL.EN false).setRb (rSPH_STAT n) SPH_STAT.DONE true).setRb
        (rSPH_STAT n) SPH_STAT.PEND false
    else s.setRf (rSPH_CUR n) SPH_CUR.ADDR (c.next / 64)
  let s := if c.irq then rosterEvent 0x1C s else s
  if s.rb (rSPH_STAT n) SPH_STAT.PEND then sphStart n (s.setRb (rSPH_STAT n) SPH_STAT.PEND false) else s

/-- The write of an element of channel n is acknowledged: the channel completes its block, or stops where EN was cleared
and no element is in progress (R162, R164). -/
def sphAcked (n : Nat) (s : State) : State :=
  let c := sphOf s n
  let c := { c with acked := c.acked + 1 }
  let s := sphLeft n (setSph n c s)
  if c.stopping && sphIdle c then sphStop n 5 false s
  else if c.acked < c.xcnt * c.ycnt then s else sphBlockDone n s

/-- The response of the i-th transaction in flight of channel n arrives: a read's element waits to be written, a write's
is acknowledged, an error stops the channel (R162, R163). -/
def sphAnswer (n i : Nat) (s : State) : State :=
  let c := sphOf s n
  match c.flight[i]? with
  | none => s
  | some e =>
    if !inOrder s e.seq (8 + n) e.addr then s
    else
      let s := setSph n { c with flight := c.flight.eraseIdx i } s
      let s := if e.early then s else freeEntry 1 s
      let s := if e.code = 0 then s else errorResponse (8 + n) e.addr e.write e.code s
      let s :=
        if e.dead || s.held 32 || !s.running then s
        else if e.code ≠ 0 then sphStop n (if e.write then 2 else if e.code = 8 then 3 else 1) true s
        else if e.write then sphAcked n s
        else setSph n { sphOf s n with ready := (sphOf s n).ready ++ [(e.elem, e.data)] } s
      sphGo s

/-- The place of channel n's oldest read, or write, in flight. -/
def sphOldest (s : State) (n : Nat) (write : Bool) : Nat := ((sphOf s n).flight.takeWhile fun e => e.write != write).length

/-- The oldest read, or write, of channel n in flight receives its response. -/
def sphReturns (n : Nat) (write : Bool) (s : State) : State :=
  let s := sphGo s
  sphAnswer n (sphOldest s n write) s

/-- The i-th transaction in flight of channel n times out. -/
def sphTimeout (n i : Nat) (s : State) : State :=
  let c := sphOf s n
  match (c.flight[i]?).bind fun e => timeoutCode e.code with
  | none => s
  | some k => sphAnswer n i (setSph n { c with flight := c.flight.modify i fun e => { e with code := k } } s)

end Sys2Proof.Machine
end

