-- ==== Sys2Proof/Machine/ChamberExec.lean ====
section
/-! DEFINITION. The commands of the Chambers (ch. 8 to 10). -/

namespace Sys2Proof.Machine

open Sys2Proof

/-- A bundle of a short slot with what shares it (R211, R212, R217). -/
def shortBundle (op : BitVec 6) (f : BitVec 25) (co : CoSlot) : W64 :=
  if co.slotB then 1#2 ++ co.other ++ (op ++ f) else 1#2 ++ (op ++ f) ++ co.other

/-- CHMn meets a bundle with a short slot of op6 op and fields f. -/
def chmShort (n : Nat) (op : BitVec 6) (f : BitVec 25) (co : CoSlot) (s : State) : State :=
  chmBundle n (shortBundle op f co) (chmFlip n co.flip s)

/-- CHMn meets a long bundle of opcode op and fields f (R211, R224). -/
def chmLong (n : Nat) (op : BitVec 4) (f : BitVec 58) (flip : Option ChmFlip) (s : State) : State :=
  chmBundle n (0#2 ++ op ++ f) (chmFlip n flip s)

/-- The fields of a MAC instruction with its AOP (R217, R220). -/
def macFields (aop : BitVec 2) (f : BitVec 25) : BitVec 25 := f.extractLsb' 5 20 ++ aop ++ f.setWidth 3

/-- The fields of a MISC instruction with its SUB (R217, R222). -/
def miscFields (sub : BitVec 3) (f : BitVec 25) : BitVec 25 := sub ++ f.setWidth 22

/-- A 64-bit write to the loader window writes one shadow bundle and updates the loader CRC and count (R205). -/
def execLoaderWrite (tile : BitVec 4) (index : BitVec 13) (v : W64) (s : State) : Out :=
  .next (busCommand 0 (0x1040000 + 0x80000 * tile.toNat + 8 * index.toNat) 8 true v [] s)

/-- CNT_CLR clears CHM_LDR_CNT_n (R206). -/
def execLoaderCntClr (tile : BitVec 4) (s : State) : Out :=
  .next (ctl (rCHM_LDR_CTL tile.toNat) (ldrCntClr tile.toNat) s)

/-- CRC_CLR sets CHM_LDR_CRC_n to the CRC-32 initial state (R206). -/
def execLoaderCrcClr (tile : BitVec 4) (s : State) : Out :=
  .next (ctl (rCHM_LDR_CTL tile.toNat) (ldrCrcClr tile.toNat) s)

/-- A Chamber Cavern load response writes its destination, or zero with GERR on an error response (R209). -/
def execChamberCavernLoadReturn (tile : BitVec 4) (s : State) : Out :=
  .next (ev (chamberReturns tile.toNat) s)

/-- nop does nothing (R218). -/
def execChmNop (tile : BitVec 4) (bundle : W64) (flip : Option ChmFlip) (s : State) : Out :=
  .next (ev (fun t => chmBundle tile.toNat bundle (chmFlip tile.toNat flip t)) s)

/-- add writes dA + dB, saturating or wrapping (R218). -/
def execChmAdd (tile : BitVec 4) (f : BitVec 25) (co : CoSlot) (s : State) : Out :=
  .next (ev (chmShort tile.toNat 0x1 f co) s)

/-- sub writes dA − dB, saturating or wrapping (R218). -/
def execChmSub (tile : BitVec 4) (f : BitVec 25) (co : CoSlot) (s : State) : Out :=
  .next (ev (chmShort tile.toNat 0x2 f co) s)

/-- min writes the signed minimum (R218). -/
def execChmMin (tile : BitVec 4) (f : BitVec 25) (co : CoSlot) (s : State) : Out :=
  .next (ev (chmShort tile.toNat 0x3 f co) s)

/-- max writes the signed maximum (R218). -/
def execChmMax (tile : BitVec 4) (f : BitVec 25) (co : CoSlot) (s : State) : Out :=
  .next (ev (chmShort tile.toNat 0x4 f co) s)

/-- abs writes |dA| (R218). -/
def execChmAbs (tile : BitVec 4) (f : BitVec 25) (co : CoSlot) (s : State) : Out :=
  .next (ev (chmShort tile.toNat 0x5 f co) s)

/-- neg writes −dA (R218). -/
def execChmNeg (tile : BitVec 4) (f : BitVec 25) (co : CoSlot) (s : State) : Out :=
  .next (ev (chmShort tile.toNat 0x6 f co) s)

/-- mul writes dA × dB rounded to the operand format (R218). -/
def execChmMul (tile : BitVec 4) (f : BitVec 25) (co : CoSlot) (s : State) : Out :=
  .next (ev (chmShort tile.toNat 0x7 f co) s)

/-- and writes the bitwise AND over 40 bits (R218). -/
def execChmAnd (tile : BitVec 4) (f : BitVec 25) (co : CoSlot) (s : State) : Out :=
  .next (ev (chmShort tile.toNat 0x8 f co) s)

/-- or writes the bitwise OR over 40 bits (R218). -/
def execChmOr (tile : BitVec 4) (f : BitVec 25) (co : CoSlot) (s : State) : Out :=
  .next (ev (chmShort tile.toNat 0x9 f co) s)

/-- xor writes the bitwise XOR over 40 bits (R218). -/
def execChmXor (tile : BitVec 4) (f : BitVec 25) (co : CoSlot) (s : State) : Out :=
  .next (ev (chmShort tile.toNat 0xa f co) s)

/-- cmp sets Z and N from comparing dA with dB (R218). -/
def execChmCmp (tile : BitVec 4) (f : BitVec 25) (co : CoSlot) (s : State) : Out :=
  .next (ev (chmShort tile.toNat 0xb f co) s)

/-- tst sets Z and N from dA (R218). -/
def execChmTst (tile : BitVec 4) (f : BitVec 25) (co : CoSlot) (s : State) : Out :=
  .next (ev (chmShort tile.toNat 0xc f co) s)

/-- sel writes dA if COND holds, else dB (R218). -/
def execChmSel (tile : BitVec 4) (f : BitVec 25) (co : CoSlot) (s : State) : Out :=
  .next (ev (chmShort tile.toNat 0xd f co) s)

/-- shli shifts dA left by IMM6 (R218). -/
def execChmShli (tile : BitVec 4) (f : BitVec 25) (co : CoSlot) (s : State) : Out :=
  .next (ev (chmShort tile.toNat 0x10 f co) s)

/-- shri shifts dA right by IMM6 with rounding (R218). -/
def execChmShri (tile : BitVec 4) (f : BitVec 25) (co : CoSlot) (s : State) : Out :=
  .next (ev (chmShort tile.toNat 0x11 f co) s)

/-- lsri shifts the 40 bits logically right by IMM6 (R218). -/
def execChmLsri (tile : BitVec 4) (f : BitVec 25) (co : CoSlot) (s : State) : Out :=
  .next (ev (chmShort tile.toNat 0x12 f co) s)

/-- sha shifts dA by the signed amount in dB (R218). -/
def execChmSha (tile : BitVec 4) (f : BitVec 25) (co : CoSlot) (s : State) : Out :=
  .next (ev (chmShort tile.toNat 0x13 f co) s)

/-- mov copies dA to dD (R218). -/
def execChmMov (tile : BitVec 4) (f : BitVec 25) (co : CoSlot) (s : State) : Out :=
  .next (ev (chmShort tile.toNat 0x18 f co) s)

/-- movi writes the sign-extended IMM18 (R218). -/
def execChmMovi (tile : BitVec 4) (f : BitVec 25) (co : CoSlot) (s : State) : Out :=
  .next (ev (chmShort tile.toNat 0x19 f co) s)

/-- nrm writes the count of redundant sign bits (R218). -/
def execChmNrm (tile : BitVec 4) (f : BitVec 25) (co : CoSlot) (s : State) : Out :=
  .next (ev (chmShort tile.toNat 0x1a f co) s)

/-- pack converts two S40 values into F16 lanes (R218). -/
def execChmPack (tile : BitVec 4) (f : BitVec 25) (co : CoSlot) (s : State) : Out :=
  .next (ev (chmShort tile.toNat 0x1b f co) s)

/-- unpk writes one F16 lane as S40 (R218). -/
def execChmUnpk (tile : BitVec 4) (f : BitVec 25) (co : CoSlot) (s : State) : Out :=
  .next (ev (chmShort tile.toNat 0x1c f co) s)

/-- ext extracts an accumulator scaled by 2^K4 into dR (R219). -/
def execChmExt (tile : BitVec 4) (f : BitVec 25) (co : CoSlot) (s : State) : Out :=
  .next (ev (chmShort tile.toNat 0x28 f co) s)

/-- ext4 extracts four accumulators into four registers (R219). -/
def execChmExt4 (tile : BitVec 4) (f : BitVec 25) (co : CoSlot) (s : State) : Out :=
  .next (ev (chmShort tile.toNat 0x29 f co) s)

/-- aclr clears an accumulator (R219). -/
def execChmAclr (tile : BitVec 4) (f : BitVec 25) (co : CoSlot) (s : State) : Out :=
  .next (ev (chmShort tile.toNat 0x2a f co) s)

/-- amov copies one accumulator to another (R219). -/
def execChmAmov (tile : BitVec 4) (f : BitVec 25) (co : CoSlot) (s : State) : Out :=
  .next (ev (chmShort tile.toNat 0x2b f co) s)

/-- aadd adds two accumulators (R219). -/
def execChmAadd (tile : BitVec 4) (f : BitVec 25) (co : CoSlot) (s : State) : Out :=
  .next (ev (chmShort tile.toNat 0x2c f co) s)

/-- asub subtracts two accumulators (R219). -/
def execChmAsub (tile : BitVec 4) (f : BitVec 25) (co : CoSlot) (s : State) : Out :=
  .next (ev (chmShort tile.toNat 0x2d f co) s)

/-- ald loads dR into an accumulator exactly (R219). -/
def execChmAld (tile : BitVec 4) (f : BitVec 25) (co : CoSlot) (s : State) : Out :=
  .next (ev (chmShort tile.toNat 0x2e f co) s)

/-- ashr shifts an accumulator right by K4 with rounding (R219). -/
def execChmAshr (tile : BitVec 4) (f : BitVec 25) (co : CoSlot) (s : State) : Out :=
  .next (ev (chmShort tile.toNat 0x2f f co) s)

/-- aget reads one part of an accumulator into dR (R219). -/
def execChmAget (tile : BitVec 4) (f : BitVec 25) (co : CoSlot) (s : State) : Out :=
  .next (ev (chmShort tile.toNat 0x30 f co) s)

/-- aput writes dR into one part of an accumulator (R219). -/
def execChmAput (tile : BitVec 4) (f : BitVec 25) (co : CoSlot) (s : State) : Out :=
  .next (ev (chmShort tile.toNat 0x31 f co) s)

/-- mset sets accumulators to the MAC quad products (R220). -/
def execChmMset (tile : BitVec 4) (f : BitVec 25) (co : CoSlot) (s : State) : Out :=
  .next (ev (chmShort tile.toNat 0x34 (macFields 0 f) co) s)

/-- mneg sets accumulators to the negated products (R220). -/
def execChmMneg (tile : BitVec 4) (f : BitVec 25) (co : CoSlot) (s : State) : Out :=
  .next (ev (chmShort tile.toNat 0x34 (macFields 1 f) co) s)

/-- macc adds the products to accumulators (R220). -/
def execChmMacc (tile : BitVec 4) (f : BitVec 25) (co : CoSlot) (s : State) : Out :=
  .next (ev (chmShort tile.toNat 0x34 (macFields 2 f) co) s)

/-- msub subtracts the products from accumulators (R220). -/
def execChmMsub (tile : BitVec 4) (f : BitVec 25) (co : CoSlot) (s : State) : Out :=
  .next (ev (chmShort tile.toNat 0x34 (macFields 3 f) co) s)

/-- ld loads one word, or two with W, through a pointer (R221). -/
def execChmLd (tile : BitVec 4) (f : BitVec 25) (co : CoSlot) (s : State) : Out :=
  .next (ev (chmShort tile.toNat 0x20 f co) s)

/-- st stores one word, or two with W, through a pointer (R221). -/
def execChmSt (tile : BitVec 4) (f : BitVec 25) (co : CoSlot) (s : State) : Out :=
  .next (ev (chmShort tile.toNat 0x21 f co) s)

/-- mtc writes a control register from dR (R222). -/
def execChmMtc (tile : BitVec 4) (f : BitVec 25) (co : CoSlot) (s : State) : Out :=
  .next (ev (chmShort tile.toNat 0x38 f co) s)

/-- mfc reads a control register into dR (R222). -/
def execChmMfc (tile : BitVec 4) (f : BitVec 25) (co : CoSlot) (s : State) : Out :=
  .next (ev (chmShort tile.toNat 0x39 f co) s)

/-- setcg sets the current channel group (R222). -/
def execChmSetcg (tile : BitVec 4) (f : BitVec 25) (co : CoSlot) (s : State) : Out :=
  .next (ev (chmShort tile.toNat 0x3a f co) s)

/-- evget removes the oldest event record into dR (R222). -/
def execChmEvget (tile : BitVec 4) (f : BitVec 25) (co : CoSlot) (s : State) : Out :=
  .next (ev (chmShort tile.toNat 0x3b f co) s)

/-- br continues at TGT if COND holds, popping repeats it leaves (R222). -/
def execChmBr (tile : BitVec 4) (f : BitVec 25) (co : CoSlot) (s : State) : Out :=
  .next (ev (chmShort tile.toNat 0x3c f co) s)

/-- rep opens a block repeat of CNT + 1 passes (R222). -/
def execChmRep (tile : BitVec 4) (f : BitVec 25) (co : CoSlot) (s : State) : Out :=
  .next (ev (chmShort tile.toNat 0x3d f co) s)

/-- repr opens a block repeat with the count in dR (R222). -/
def execChmRepr (tile : BitVec 4) (f : BitVec 25) (co : CoSlot) (s : State) : Out :=
  .next (ev (chmShort tile.toNat 0x3e f co) s)

/-- end ends the Chamber run (R222). -/
def execChmEnd (tile : BitVec 4) (f : BitVec 25) (co : CoSlot) (s : State) : Out :=
  .next (ev (chmShort tile.toNat 0x3f (miscFields 0 f) co) s)

/-- rot advances the rotation base by K6 (R237). -/
def execChmRot (tile : BitVec 4) (f : BitVec 25) (co : CoSlot) (s : State) : Out :=
  .next (ev (chmShort tile.toNat 0x3f (miscFields 1 f) co) s)

/-- The long MAC with memory operands and parallel loads, stores or ext4 (R224). -/
def execChmLongMac (tile : BitVec 4) (f : BitVec 58) (flip : Option ChmFlip) (s : State) : Out :=
  .next (ev (chmLong tile.toNat 1 f flip) s)

/-- ldi writes IMM40 to dR (R224). -/
def execChmLdi (tile : BitVec 4) (f : BitVec 58) (flip : Option ChmFlip) (s : State) : Out :=
  .next (ev (chmLong tile.toNat 2 f flip) s)

/-- cset writes IMM24 to a control register (R224). -/
def execChmCset (tile : BitVec 4) (f : BitVec 58) (flip : Option ChmFlip) (s : State) : Out :=
  .next (ev (chmLong tile.toNat 3 f flip) s)

/-- FLUSH empties the Chamber's event queue (R247). -/
def execChmEvqFlush (tile : BitVec 4) (s : State) : Out :=
  .next (ctl (rCHM_EVQ tile.toNat) (chmFlush tile.toNat) s)

end Sys2Proof.Machine
end

