-- ==== Sys2Proof/Machine/GuideOps.lean ====
section
/-! DEFINITION. What the Guide's instructions share: issue, operands, loads and stores, branches, the system
registers (R106 to R109, R112 to R118). -/

namespace Sys2Proof.Machine

open Sys2Proof

/-! ### Issue (R109, R115, R119, R120) -/

/-- Register i of the running bank awaits a load (R109). -/
def loadPending (s : State) (i : BitVec 5) : Bool :=
  s.gde.loads.any fun l =>
    l.bank == curBank s && (l.reg == i.toNat || (l.bytes == 8 && l.reg + 1 == i.toNat)) && i != 0

/-- The first address outside instruction memory that the fetch at pc meets. -/
def fetchFault (pc : W32) : W32 := if pc.toNat < 0x40000 then 0x40000#32 else pc

/-- An instruction of len bytes at the running bank's program counter, which reads and writes the registers l, with its
effect f. A load's error is raised at this boundary instead (R120); a fetch outside instruction memory raises FETCH; a
register that awaits a load stalls it (R109). -/
def guideIssue (len : Nat) (l : List (BitVec 5)) (f : State → State) (s : State) : State :=
  if !guideIssues s then s
  else
    match (bankOf s (curBank s)).loadErr with
    | some a => takeException excLoadErr a true (onBank (curBank s) (fun b => { b with loadErr := none }) s)
    | none =>
      if 0x40000 < (guidePc s).toNat + len then takeException excFetch (fetchFault (guidePc s)) false s
      else if l.any (loadPending s) then s
      else f s

/-- The running bank goes on after an instruction of len bytes. -/
def guideNext (len : Nat) (s : State) : State := setPc (guidePc s + BitVec.ofNat 32 len) s

/-- ILLEGAL at the instruction in execution, without any other effect (R115). -/
def guideIllegal (s : State) : State := takeException excIllegal (guidePc s) false s

/-- An instruction that writes the value v to gd, computed from the registers l. -/
def guideWrite (len : Nat) (gd : BitVec 5) (l : List (BitVec 5)) (v : State → W32) (s : State) : State :=
  guideIssue len (gd :: l) (fun t => guideNext len (setG gd (v t) t)) s

/-- A three-register instruction. -/
def guideAlu (gd ga gb : BitVec 5) (f : W32 → W32 → W32) (s : State) : State :=
  guideWrite 4 gd [ga, gb] (fun t => f (gReg t ga) (gReg t gb)) s

/-- A register and a value. -/
def guideAluK (len : Nat) (gd ga : BitVec 5) (k : W32) (f : W32 → W32 → W32) (s : State) : State :=
  guideWrite len gd [ga] (fun t => f (gReg t ga) k) s

/-! ### Arithmetic (R112, R113) -/

/-- 1 or 0. -/
def ofBool32 (b : Bool) : W32 := if b then 1 else 0

/-- Shifts use the low five bits of the amount. -/
def shiftAmt (b : W32) : Nat := (b.setWidth 5).toNat

/-- The most negative word. -/
def minW32 : W32 := 0x80000000#32

/-- The greatest word. -/
def maxW32 : W32 := 0x7FFFFFFF#32

/-- div of -2^31 by -1. -/
def divOvf (a b : W32) : Bool := a == minW32 && b == 0xFFFFFFFF#32

/-- The quotient of div. -/
def divS (a b : W32) : W32 :=
  if b = 0 then (if a.toInt < 0 then minW32 else maxW32) else if divOvf a b then maxW32 else a.sdiv b

/-- The quotient of divu. -/
def divU (a b : W32) : W32 := if b = 0 then 0xFFFFFFFF#32 else a / b

/-- The remainder of rem. -/
def remS (a b : W32) : W32 := if b = 0 ∨ divOvf a b then 0 else a.srem b

/-- The remainder of remu. -/
def remU (a b : W32) : W32 := if b = 0 then 0 else a % b

/-- ASTAT of the running bank takes DZ and DOV beside what it holds. -/
def setAstat (dz dov : Bool) (s : State) : State :=
  onBank (curBank s) (fun b => { b with astat := b.astat ||| (BitVec.ofBool dov ++ BitVec.ofBool dz) }) s

/-- A division: signed ones note the overflow too. -/
def guideDivide (signed : Bool) (gd ga gb : BitVec 5) (f : W32 → W32 → W32) (s : State) : State :=
  guideIssue 4 [gd, ga, gb] (fun t =>
    let a := gReg t ga
    let b := gReg t gb
    guideNext 4 (setG gd (f a b) (setAstat (b == 0) (signed && divOvf a b) t))) s

/-- The high half of the signed product. -/
def mulHiS (a b : W32) : W32 := ((a.signExtend 64 * b.signExtend 64) >>> 32).setWidth 32

/-- The high half of the unsigned product. -/
def mulHiU (a b : W32) : W32 := ((a.setWidth 64 * b.setWidth 64) >>> 32).setWidth 32

/-- The number of leading zeros among the low n bits. -/
def leadingZeros (v : W32) (n : Nat) : Nat :=
  match n with
  | 0 => 0
  | n + 1 => if v.getLsbD n then 0 else leadingZeros v n + 1

/-- A shift by an immediate: bits [14:5] must be zero (R112). -/
def guideShiftK (gd ga : BitVec 5) (imm : BitVec 15) (f : W32 → W32 → W32) (s : State) : State :=
  if imm.toNat < 32 then guideAluK 4 gd ga (imm.setWidth 32) f s else guideIssue 4 [] guideIllegal s

/-! ### Memory (R107 to R109) -/

/-- The Guide's own memory that holds address a, with the offset in it: instruction memory or not (R107). -/
def guideLocal (a : Nat) : Option (Bool × Nat) :=
  if a < 0x40000 then some (true, a) else if 0x100000 ≤ a ∧ a < 0x120000 then some (false, a - 0x100000) else none

/-- The effective address. -/
def guideAddr (s : State) (ga : BitVec 5) (imm : W32) : W32 := gReg s ga + imm

/-- The access waits for a tracking entry: counted once (R169). -/
def guideWait (s : State) : State :=
  if s.gde.waits then s else countStall 0 (onGde (fun g => { g with waits := true }) s)

/-- A load waits: 8 are in flight, no entry of the Guide's quota is free, or a posted store waits for one before it
(R108, R109). -/
def guideFull (s : State) : Bool := decide (8 ≤ s.gde.loads.length) || !identFree s 0 || !s.gde.posts.isEmpty

/-- The Guide has been reset by what an access raised. -/
def guideGone (s : State) : Bool := !s.running || s.held 16

/-- A load of n bytes at address a into register gd. One of the Guide's own memories answers at once, the matrix within a
later command (R107, R109). -/
def loadAt (len n : Nat) (signed : Bool) (gd : BitVec 5) (a : W32) (s : State) : State :=
  if a.toNat % n ≠ 0 then takeException excAlign a false s
  else
    match guideLocal a.toNat with
    | some (imem, off) =>
      guideNext len (loadWrite (curBank s) gd.toNat n signed (memAccess imem off n false 0 s).1.1 s)
    | none =>
      if guideFull s then guideWait s
      else
        let b := curBank s
        let q := s.mtx.issues
        let r := routeAccess 0 a.toNat n false 0 [] (issueSeq (takeEntry 0 (guideNext len s)))
        if !r.2.running then r.2
        else
          onGde (fun g => { g with
            waits := false
            loads := g.loads ++ [⟨if r.2.held 16 then 10 else b, gd.toNat, a.toNat, n, signed, r.1.1, r.1.2, q⟩] }) r.2

/-- A store of the low n bytes of v at address a: one of the Guide's own memories takes it at once; for the matrix it is
posted, and stalls while the store queue is full (R107, R109). -/
def storeAt (len n : Nat) (a : W32) (v : W64) (s : State) : State :=
  if a.toNat % n ≠ 0 then takeException excAlign a false s
  else
    match guideLocal a.toNat with
    | some (imem, off) => (memAccess imem off n true v (guideNext len s)).2
    | none =>
      if 8 ≤ s.gde.posts.length then s else postStore ⟨a.toNat, n, v⟩ (guideNext len s)

/-- A load instruction. -/
def guideLoad (len n : Nat) (signed : Bool) (gd ga : BitVec 5) (imm : W32) (s : State) : State :=
  guideIssue len [gd, ga] (fun t => loadAt len n signed gd (guideAddr t ga imm) t) s

/-- A store instruction. -/
def guideStore (len n : Nat) (gb ga : BitVec 5) (imm : W32) (s : State) : State :=
  guideIssue len [gb, ga] (fun t => storeAt len n (guideAddr t ga imm) ((gReg t gb).setWidth 64) t) s

/-- The second register of a pair. -/
def pairReg (g : BitVec 5) : BitVec 5 := g + 1

/-- A register number is odd. -/
def oddReg (g : BitVec 5) : Bool := g.getLsbD 0

/-- The two registers of a pair as one 64-bit value, the low word first. -/
def pairVal (s : State) (gb : BitVec 5) : W64 := gReg s (pairReg gb) ++ gReg s gb

/-! ### Branches and jumps (R111, R112) -/

/-- The address a signed count of halfwords from the instruction (R111). -/
def branchTarget (s : State) (off : W32) : W32 := guidePc s + (off <<< 1)

/-- A conditional branch of two registers. -/
def guideBranch (len : Nat) (ga gb : BitVec 5) (off : W32) (c : W32 → W32 → Bool) (s : State) : State :=
  guideIssue len [ga, gb] (fun t =>
    if c (gReg t ga) (gReg t gb) then setPc (branchTarget t off) t else guideNext len t) s

/-- A jump by an offset. -/
def guideJump (len : Nat) (off : W32) (s : State) : State :=
  guideIssue len [] (fun t => setPc (branchTarget t off) t) s

/-- A jump to a register and an immediate, which leaves the next address in gd. -/
def guideJumpReg (len : Nat) (gd ga : BitVec 5) (imm : W32) (s : State) : State :=
  guideIssue len [gd, ga] (fun t =>
    setPc (gReg t ga + imm) (setG gd (guidePc t + BitVec.ofNat 32 len) t)) s

/-! ### System instructions (R108, R117 to R119, R122, R130) -/

/-- An instruction whose three register fields must be zero (R112, R115). -/
def guideSystem (gd ga gb : BitVec 5) (f : State → State) (s : State) : State :=
  guideIssue 4 [] (if gd = 0 ∧ ga = 0 ∧ gb = 0 then f else guideIllegal) s

/-- drain: every load issued and every store posted has completed (R108). -/
def drainAct (s : State) : State := if guideOut s = 0 ∧ s.gde.posts.isEmpty then guideNext 4 s else s

/-- nmiret is illegal outside BN (R122). -/
def nmiretAct (s : State) : State := if inBn s then nmiReturn s else guideIllegal s

/-- tend is illegal in BB and BN (R130). -/
def tendAct (s : State) : State := if 8 ≤ curBank s then guideIllegal s else endInstance s

/-- wait is illegal outside BB (R130). -/
def waitAct (s : State) : State :=
  if curBank s = 8 then onGde (fun g => { g with waiting := true }) (guideNext 4 s) else guideIllegal s

/-- System register n as mfs reads it; none where that is illegal (R117). -/
def sysRead (n : Nat) (s : State) : Option W32 :=
  let b := curBank s
  let x := bankOf s b
  match n with
  | 0 => some (BitVec.ofNat 32 (256 * b) ||| ofBool32 x.exc ||| (ofBool32 (inBn s) <<< 1))
  | 1 => some x.epc
  | 2 => some x.ecause
  | 3 => some x.eaddr
  | 4 => if inBn s then some s.gde.nepc else none
  | 5 => if inBn s then some (BitVec.ofNat 32 s.gde.nstat) else none
  | 6 => some s.gde.vbase
  | 7 => some (if 8 ≤ b then 0x8000#32 else BitVec.ofNat 32 (256 * b + x.slot))
  | 8 => some (x.astat.setWidth 32)
  | _ => none

/-- System register n written by mts; none where that is illegal (R117, R118). -/
def sysWrite (n : Nat) (v : W32) (s : State) : Option State :=
  match n with
  | 1 => some (onBank (curBank s) (fun b => { b with epc := v }) s)
  | 4 => if inBn s then some (onGde (fun g => { g with nepc := v }) s) else none
  | 6 => if v.toNat % 256 = 0 ∧ v.toNat < 0x40000 then some (onGde (fun g => { g with vbase := v }) s) else none
  | 8 => some (onBank (curBank s) (fun b => { b with astat := v.setWidth 2 }) s)
  | _ => none

/-- mfs: ga and bits [13:10] of the number field are zero. -/
def guideMfs (gd ga : BitVec 5) (num : BitVec 14) (s : State) : State :=
  guideIssue 4 [gd] (fun t =>
    if ga = 0 ∧ num.toNat < 1024 then
      match sysRead num.toNat t with
      | some v => guideNext 4 (setG gd v t)
      | none => guideIllegal t
    else guideIllegal t) s

/-- mts: gd is 0b11111 and bits [13:10] of the number field are zero. -/
def guideMts (gd ga : BitVec 5) (num : BitVec 14) (s : State) : State :=
  guideIssue 4 [ga] (fun t =>
    if gd = 31 ∧ num.toNat < 1024 then
      match sysWrite num.toNat (gReg t ga) t with
      | some u => guideNext 4 u
      | none => guideIllegal t
    else guideIllegal t) s

/-- trap: gd and ga are zero; the immediate goes to EADDR (R112, R119). -/
def guideTrap (gd ga : BitVec 5) (imm : BitVec 15) (s : State) : State :=
  guideIssue 4 [] (fun t =>
    if gd = 0 ∧ ga = 0 then takeException excTrap (imm.signExtend 32) false t else guideIllegal t) s

end Sys2Proof.Machine
end

