-- ==== Sys2Proof/Machine/GuideExec.lean ====
section
/-! DEFINITION. The Guide's instructions (R112 to R115, R117 to R119, R122, R130). -/

namespace Sys2Proof.Machine

open Sys2Proof

/-- add writes ga + gb modulo 2^32 to gd (R112). -/
def execGdeAdd (gd ga gb : BitVec 5) (s : State) : Out :=
  .next (guideAlu gd ga gb (fun a b => a + b) s)

/-- sub writes ga − gb modulo 2^32 to gd (R112). -/
def execGdeSub (gd ga gb : BitVec 5) (s : State) : Out :=
  .next (guideAlu gd ga gb (fun a b => a - b) s)

/-- and writes the bitwise AND of ga and gb (R112). -/
def execGdeAnd (gd ga gb : BitVec 5) (s : State) : Out :=
  .next (guideAlu gd ga gb (fun a b => a &&& b) s)

/-- or writes the bitwise OR of ga and gb (R112). -/
def execGdeOr (gd ga gb : BitVec 5) (s : State) : Out :=
  .next (guideAlu gd ga gb (fun a b => a ||| b) s)

/-- xor writes the bitwise XOR of ga and gb (R112). -/
def execGdeXor (gd ga gb : BitVec 5) (s : State) : Out :=
  .next (guideAlu gd ga gb (fun a b => a ^^^ b) s)

/-- shl shifts ga left by gb[4:0] (R112). -/
def execGdeShl (gd ga gb : BitVec 5) (s : State) : Out :=
  .next (guideAlu gd ga gb (fun a b => a <<< shiftAmt b) s)

/-- shr shifts ga logically right by gb[4:0] (R112). -/
def execGdeShr (gd ga gb : BitVec 5) (s : State) : Out :=
  .next (guideAlu gd ga gb (fun a b => a >>> shiftAmt b) s)

/-- sra shifts ga arithmetically right by gb[4:0] (R112). -/
def execGdeSra (gd ga gb : BitVec 5) (s : State) : Out :=
  .next (guideAlu gd ga gb (fun a b => a.sshiftRight (shiftAmt b)) s)

/-- lts writes 1 if ga is less than gb signed, else 0 (R112). -/
def execGdeLts (gd ga gb : BitVec 5) (s : State) : Out :=
  .next (guideAlu gd ga gb (fun a b => ofBool32 (a.slt b)) s)

/-- ltu writes 1 if ga is less than gb unsigned, else 0 (R112). -/
def execGdeLtu (gd ga gb : BitVec 5) (s : State) : Out :=
  .next (guideAlu gd ga gb (fun a b => ofBool32 (a.ult b)) s)

/-- mul writes the low 32 bits of the product (R112). -/
def execGdeMul (gd ga gb : BitVec 5) (s : State) : Out :=
  .next (guideAlu gd ga gb (fun a b => a * b) s)

/-- mhs writes the high 32 bits of the signed product (R112). -/
def execGdeMhs (gd ga gb : BitVec 5) (s : State) : Out :=
  .next (guideAlu gd ga gb (fun a b => mulHiS a b) s)

/-- mhu writes the high 32 bits of the unsigned product (R112). -/
def execGdeMhu (gd ga gb : BitVec 5) (s : State) : Out :=
  .next (guideAlu gd ga gb (fun a b => mulHiU a b) s)

/-- div writes the signed quotient, saturating on a zero divisor or overflow and setting ASTAT (R113). -/
def execGdeDiv (gd ga gb : BitVec 5) (s : State) : Out :=
  .next (guideDivide true gd ga gb divS s)

/-- divu writes the unsigned quotient, 0xFFFF_FFFF on a zero divisor (R113). -/
def execGdeDivu (gd ga gb : BitVec 5) (s : State) : Out :=
  .next (guideDivide false gd ga gb divU s)

/-- rem writes the signed remainder with the dividend's sign (R113). -/
def execGdeRem (gd ga gb : BitVec 5) (s : State) : Out :=
  .next (guideDivide true gd ga gb remS s)

/-- remu writes the unsigned remainder (R113). -/
def execGdeRemu (gd ga gb : BitVec 5) (s : State) : Out :=
  .next (guideDivide false gd ga gb remU s)

/-- min writes the signed minimum of ga and gb (R112). -/
def execGdeMin (gd ga gb : BitVec 5) (s : State) : Out :=
  .next (guideAlu gd ga gb (fun a b => if a.slt b then a else b) s)

/-- max writes the signed maximum of ga and gb (R112). -/
def execGdeMax (gd ga gb : BitVec 5) (s : State) : Out :=
  .next (guideAlu gd ga gb (fun a b => if a.slt b then b else a) s)

/-- clz writes the count of leading zeros of ga (R112). -/
def execGdeClz (gd ga gb : BitVec 5) (s : State) : Out :=
  .next (if gb = 0 then guideWrite 4 gd [ga] (fun t => BitVec.ofNat 32 (leadingZeros (gReg t ga) 32)) s
    else guideIssue 4 [] guideIllegal s)

/-- addi adds the sign-extended immediate to ga (R112). -/
def execGdeAddi (gd ga : BitVec 5) (imm : BitVec 15) (s : State) : Out :=
  .next (guideAluK 4 gd ga (imm.signExtend 32) (fun a b => a + b) s)

/-- ltsi compares ga with the immediate, signed (R112). -/
def execGdeLtsi (gd ga : BitVec 5) (imm : BitVec 15) (s : State) : Out :=
  .next (guideAluK 4 gd ga (imm.signExtend 32) (fun a b => ofBool32 (a.slt b)) s)

/-- ltui compares ga with the immediate, unsigned (R112). -/
def execGdeLtui (gd ga : BitVec 5) (imm : BitVec 15) (s : State) : Out :=
  .next (guideAluK 4 gd ga (imm.signExtend 32) (fun a b => ofBool32 (a.ult b)) s)

/-- andi ANDs ga with the zero-extended immediate (R112). -/
def execGdeAndi (gd ga : BitVec 5) (imm : BitVec 15) (s : State) : Out :=
  .next (guideAluK 4 gd ga (imm.setWidth 32) (fun a b => a &&& b) s)

/-- ori ORs ga with the zero-extended immediate (R112). -/
def execGdeOri (gd ga : BitVec 5) (imm : BitVec 15) (s : State) : Out :=
  .next (guideAluK 4 gd ga (imm.setWidth 32) (fun a b => a ||| b) s)

/-- xori XORs ga with the zero-extended immediate (R112). -/
def execGdeXori (gd ga : BitVec 5) (imm : BitVec 15) (s : State) : Out :=
  .next (guideAluK 4 gd ga (imm.setWidth 32) (fun a b => a ^^^ b) s)

/-- shli shifts ga left by imm15[4:0] (R112). -/
def execGdeShli (gd ga : BitVec 5) (imm : BitVec 15) (s : State) : Out :=
  .next (guideShiftK gd ga imm (fun a b => a <<< shiftAmt b) s)

/-- shri shifts ga logically right by imm15[4:0] (R112). -/
def execGdeShri (gd ga : BitVec 5) (imm : BitVec 15) (s : State) : Out :=
  .next (guideShiftK gd ga imm (fun a b => a >>> shiftAmt b) s)

/-- srai shifts ga arithmetically right by imm15[4:0] (R112). -/
def execGdeSrai (gd ga : BitVec 5) (imm : BitVec 15) (s : State) : Out :=
  .next (guideShiftK gd ga imm (fun a b => a.sshiftRight (shiftAmt b)) s)

/-- himm writes imm20 × 2^12 to gd (R112). -/
def execGdeHimm (gd : BitVec 5) (imm : BitVec 20) (s : State) : Out :=
  .next (guideWrite 4 gd [] (fun _ => imm.setWidth 32 <<< 12) s)

/-- pcadd writes the instruction's address plus imm20 × 2^12 (R112). -/
def execGdePcadd (gd : BitVec 5) (imm : BitVec 20) (s : State) : Out :=
  .next (guideWrite 4 gd [] (fun t => guidePc t + (imm.setWidth 32 <<< 12)) s)

/-- ldb loads a signed byte (R112). -/
def execGdeLdb (gd ga : BitVec 5) (imm : BitVec 15) (s : State) : Out :=
  .next (guideLoad 4 1 true gd ga (imm.signExtend 32) s)

/-- ldbu loads an unsigned byte (R112). -/
def execGdeLdbu (gd ga : BitVec 5) (imm : BitVec 15) (s : State) : Out :=
  .next (guideLoad 4 1 false gd ga (imm.signExtend 32) s)

/-- ldh loads a signed halfword (R112). -/
def execGdeLdh (gd ga : BitVec 5) (imm : BitVec 15) (s : State) : Out :=
  .next (guideLoad 4 2 true gd ga (imm.signExtend 32) s)

/-- ldhu loads an unsigned halfword (R112). -/
def execGdeLdhu (gd ga : BitVec 5) (imm : BitVec 15) (s : State) : Out :=
  .next (guideLoad 4 2 false gd ga (imm.signExtend 32) s)

/-- ldw loads a word (R112). -/
def execGdeLdw (gd ga : BitVec 5) (imm : BitVec 15) (s : State) : Out :=
  .next (guideLoad 4 4 false gd ga (imm.signExtend 32) s)

/-- ldw2 loads 64 bits in one access into an even register pair (R112). -/
def execGdeLdw2 (gd ga : BitVec 5) (imm : BitVec 15) (s : State) : Out :=
  .next (if oddReg gd ∨ gd = 0 then guideIssue 4 [] guideIllegal s
    else guideIssue 4 [gd, pairReg gd, ga] (fun t => loadAt 4 8 false gd (guideAddr t ga (imm.signExtend 32)) t) s)

/-- stb stores the low byte of gb (R112). -/
def execGdeStb (gb ga : BitVec 5) (imm : BitVec 15) (s : State) : Out :=
  .next (guideStore 4 1 gb ga (imm.signExtend 32) s)

/-- sth stores the low halfword of gb (R112). -/
def execGdeSth (gb ga : BitVec 5) (imm : BitVec 15) (s : State) : Out :=
  .next (guideStore 4 2 gb ga (imm.signExtend 32) s)

/-- stw stores the word of gb, posted through the store queue for matrix targets (R112). -/
def execGdeStw (gb ga : BitVec 5) (imm : BitVec 15) (s : State) : Out :=
  .next (guideStore 4 4 gb ga (imm.signExtend 32) s)

/-- stw2 stores 64 bits from an even register pair in one access (R112). -/
def execGdeStw2 (gb ga : BitVec 5) (imm : BitVec 15) (s : State) : Out :=
  .next (if oddReg gb then guideIssue 4 [] guideIllegal s
    else guideIssue 4 [gb, pairReg gb, ga] (fun t =>
      storeAt 4 8 (guideAddr t ga (imm.signExtend 32)) (pairVal t gb) t) s)

/-- breq branches if ga equals gb (R112). -/
def execGdeBreq (ga gb : BitVec 5) (off : BitVec 15) (s : State) : Out :=
  .next (guideBranch 4 ga gb (off.signExtend 32) (fun a b => a == b) s)

/-- brne branches if ga differs from gb (R112). -/
def execGdeBrne (ga gb : BitVec 5) (off : BitVec 15) (s : State) : Out :=
  .next (guideBranch 4 ga gb (off.signExtend 32) (fun a b => a != b) s)

/-- brlt branches if ga is less than gb signed (R112). -/
def execGdeBrlt (ga gb : BitVec 5) (off : BitVec 15) (s : State) : Out :=
  .next (guideBranch 4 ga gb (off.signExtend 32) (fun a b => a.slt b) s)

/-- brge branches if ga is not less than gb signed (R112). -/
def execGdeBrge (ga gb : BitVec 5) (off : BitVec 15) (s : State) : Out :=
  .next (guideBranch 4 ga gb (off.signExtend 32) (fun a b => !a.slt b) s)

/-- brltu branches if ga is less than gb unsigned (R112). -/
def execGdeBrltu (ga gb : BitVec 5) (off : BitVec 15) (s : State) : Out :=
  .next (guideBranch 4 ga gb (off.signExtend 32) (fun a b => a.ult b) s)

/-- brgeu branches if ga is not less than gb unsigned (R112). -/
def execGdeBrgeu (ga gb : BitVec 5) (off : BitVec 15) (s : State) : Out :=
  .next (guideBranch 4 ga gb (off.signExtend 32) (fun a b => !a.ult b) s)

/-- jmp branches by off25 (R112). -/
def execGdeJmp (off : BitVec 25) (s : State) : Out :=
  .next (guideJump 4 (off.signExtend 32) s)

/-- call writes the return address to g28 and branches by off25 (R112). -/
def execGdeCall (off : BitVec 25) (s : State) : Out :=
  .next (guideIssue 4 [28] (fun t =>
    setPc (branchTarget t (off.signExtend 32)) (setG 28 (guidePc t + 4) t)) s)

/-- jmpr writes the return address to gd and jumps to ga + imm15 (R112). -/
def execGdeJmpr (gd ga : BitVec 5) (imm : BitVec 15) (s : State) : Out :=
  .next (guideJumpReg 4 gd ga (imm.signExtend 32) s)

/-- drain completes only when every issued load and posted store has completed (R108). -/
def execGdeDrain (gd ga gb : BitVec 5) (s : State) : Out :=
  .next (guideSystem gd ga gb drainAct s)

/-- exret clears EXC and continues at EPC (R119). -/
def execGdeExret (gd ga gb : BitVec 5) (s : State) : Out :=
  .next (guideSystem gd ga gb exceptionReturn s)

/-- nmiret returns from BN to the bank in NSTAT at NEPC, taking any pending NMI first (R122). -/
def execGdeNmiret (gd ga gb : BitVec 5) (s : State) : Out :=
  .next (guideSystem gd ga gb nmiretAct s)

/-- tend ends the running task instance and the roster decides at once what runs next (R130). -/
def execGdeTend (gd ga gb : BitVec 5) (s : State) : Out :=
  .next (guideSystem gd ga gb tendAct s)

/-- wait idles the background until the roster dispatches (R130). -/
def execGdeWait (gd ga gb : BitVec 5) (s : State) : Out :=
  .next (guideSystem gd ga gb waitAct s)

/-- mfs reads a system register into gd (R117). -/
def execGdeMfs (gd ga : BitVec 5) (num : BitVec 14) (s : State) : Out :=
  .next (guideMfs gd ga num s)

/-- mts writes ga to a system register, with VBASE checked as R118 states (R117). -/
def execGdeMts (gd ga : BitVec 5) (num : BitVec 14) (s : State) : Out :=
  .next (guideMts gd ga num s)

/-- trap raises the TRAP exception with the immediate in EADDR (R119). -/
def execGdeTrap (gd ga : BitVec 5) (imm : BitVec 15) (s : State) : Out :=
  .next (guideTrap gd ga imm s)

/-- addq adds simm6 to gd (R114). -/
def execGdeAddq (gd : BitVec 5) (imm : BitVec 6) (s : State) : Out :=
  .next (guideAluK 2 gd gd (imm.signExtend 32) (fun a b => a + b) s)

/-- ldq loads a word from g29 + uimm6 × 4 (R114). -/
def execGdeLdq (gd : BitVec 5) (imm : BitVec 6) (s : State) : Out :=
  .next (guideLoad 2 4 false gd 29 (imm.setWidth 32 <<< 2) s)

/-- stq stores a word to g29 + uimm6 × 4 (R114). -/
def execGdeStq (gb : BitVec 5) (imm : BitVec 6) (s : State) : Out :=
  .next (guideStore 2 4 gb 29 (imm.setWidth 32 <<< 2) s)

/-- bzq branches if ga is zero (R114). -/
def execGdeBzq (ga : BitVec 5) (off : BitVec 6) (s : State) : Out :=
  .next (guideBranch 2 ga 0 (off.signExtend 32) (fun a b => a == b) s)

/-- bnzq branches if ga is not zero (R114). -/
def execGdeBnzq (ga : BitVec 5) (off : BitVec 6) (s : State) : Out :=
  .next (guideBranch 2 ga 0 (off.signExtend 32) (fun a b => a != b) s)

/-- braq branches by soff11 (R114). -/
def execGdeBraq (off : BitVec 11) (s : State) : Out :=
  .next (guideJump 2 (off.signExtend 32) s)

/-- addrq adds ga to gd (R114). -/
def execGdeAddrq (gd ga : BitVec 5) (s : State) : Out :=
  .next (guideWrite 2 gd [ga] (fun t => gReg t gd + gReg t ga) s)

/-- subrq subtracts ga from gd (R114). -/
def execGdeSubrq (gd ga : BitVec 5) (s : State) : Out :=
  .next (guideWrite 2 gd [ga] (fun t => gReg t gd - gReg t ga) s)

/-- jrq jumps to ga (R114). -/
def execGdeJrq (ga z : BitVec 5) (s : State) : Out :=
  .next (if z = 0 then guideJumpReg 2 0 ga 0 s else guideIssue 2 [] guideIllegal s)

/-- jcq calls ga, writing g28 (R114). -/
def execGdeJcq (ga z : BitVec 5) (s : State) : Out :=
  .next (if z = 0 then guideJumpReg 2 28 ga 0 s else guideIssue 2 [] guideIllegal s)

/-- movq copies ga to gd (R114). -/
def execGdeMovq (gd : BitVec 5) (z : Bool) (ga : BitVec 5) (s : State) : Out :=
  .next (if z then guideIssue 2 [] guideIllegal s else guideAluK 2 gd ga 0 (fun a b => a + b) s)

/-- liq loads simm6 into gd (R114). -/
def execGdeLiq (gd : BitVec 5) (imm : BitVec 6) (s : State) : Out :=
  .next (guideWrite 2 gd [] (fun _ => imm.signExtend 32) s)

/-- shlq shifts gd left by uimm5 (R114). -/
def execGdeShlq (gd amt : BitVec 5) (s : State) : Out :=
  .next (guideWrite 2 gd [] (fun t => gReg t gd <<< amt.toNat) s)

/-- shrq shifts gd logically right by uimm5 (R114). -/
def execGdeShrq (gd amt : BitVec 5) (s : State) : Out :=
  .next (guideWrite 2 gd [] (fun t => gReg t gd >>> amt.toNat) s)

/-- The Guide meets an unlisted op6, fn10 or op4 (such as the erased halfword 0x0000), or a must-be-zero field that is not zero, and raises the ILLEGAL exception without effect (R115). -/
def execGdeIllegalInstruction (s : State) : Out :=
  .next (guideIssue 2 [] guideIllegal s)

end Sys2Proof.Machine
end

