-- ==== Sys2Proof/Machine/GuideCode.lean ====
section
/-! DEFINITION. The encoding of the Guide's instructions: the encoder, the decoder, and the instruction at an address
(R111, R112, R114, R115). -/

namespace Sys2Proof.Machine

open Sys2Proof

/-! ### The formats (R111) -/

/-- Format A. -/
def fmtA (gd ga gb : BitVec 5) (fn : BitVec 10) (op : BitVec 6) : W32 := gd ++ ga ++ gb ++ fn ++ op ++ 1#1

/-- Formats I, S and B: two register fields and 15 bits. -/
def fmtI (r q : BitVec 5) (imm : BitVec 15) (op : BitVec 6) : W32 := r ++ q ++ imm ++ op ++ 1#1

/-- Format U. -/
def fmtU (gd : BitVec 5) (imm : BitVec 20) (op : BitVec 6) : W32 := gd ++ imm ++ op ++ 1#1

/-- Format J. -/
def fmtJ (off : BitVec 25) (op : BitVec 6) : W32 := off ++ op ++ 1#1

/-- The 16-bit form: op4, a register field, six bits. -/
def fmtQ (op : BitVec 4) (r : BitVec 5) (x : BitVec 6) : BitVec 16 := op ++ r ++ x ++ 0#1

/-! ### The encoder -/

/-- The word of a 32-bit instruction; none for any other command (R112). -/
def guideWord (i : Instr) : Option W32 :=
  match i with
  | .gdeAdd gd ga gb => some (fmtA gd ga gb 0x0 0x0)
  | .gdeSub gd ga gb => some (fmtA gd ga gb 0x1 0x0)
  | .gdeAnd gd ga gb => some (fmtA gd ga gb 0x2 0x0)
  | .gdeOr gd ga gb => some (fmtA gd ga gb 0x3 0x0)
  | .gdeXor gd ga gb => some (fmtA gd ga gb 0x4 0x0)
  | .gdeShl gd ga gb => some (fmtA gd ga gb 0x5 0x0)
  | .gdeShr gd ga gb => some (fmtA gd ga gb 0x6 0x0)
  | .gdeSra gd ga gb => some (fmtA gd ga gb 0x7 0x0)
  | .gdeLts gd ga gb => some (fmtA gd ga gb 0x8 0x0)
  | .gdeLtu gd ga gb => some (fmtA gd ga gb 0x9 0x0)
  | .gdeMul gd ga gb => some (fmtA gd ga gb 0x10 0x0)
  | .gdeMhs gd ga gb => some (fmtA gd ga gb 0x11 0x0)
  | .gdeMhu gd ga gb => some (fmtA gd ga gb 0x12 0x0)
  | .gdeDiv gd ga gb => some (fmtA gd ga gb 0x18 0x0)
  | .gdeDivu gd ga gb => some (fmtA gd ga gb 0x19 0x0)
  | .gdeRem gd ga gb => some (fmtA gd ga gb 0x1a 0x0)
  | .gdeRemu gd ga gb => some (fmtA gd ga gb 0x1b 0x0)
  | .gdeMin gd ga gb => some (fmtA gd ga gb 0x20 0x0)
  | .gdeMax gd ga gb => some (fmtA gd ga gb 0x21 0x0)
  | .gdeClz gd ga gb => some (fmtA gd ga gb 0x22 0x0)
  | .gdeDrain gd ga gb => some (fmtA gd ga gb 0x1 0x30)
  | .gdeExret gd ga gb => some (fmtA gd ga gb 0x2 0x30)
  | .gdeNmiret gd ga gb => some (fmtA gd ga gb 0x3 0x30)
  | .gdeTend gd ga gb => some (fmtA gd ga gb 0x4 0x30)
  | .gdeWait gd ga gb => some (fmtA gd ga gb 0x5 0x30)
  | .gdeAddi r q x => some (fmtI r q x 0x1)
  | .gdeAndi r q x => some (fmtI r q x 0x2)
  | .gdeOri r q x => some (fmtI r q x 0x3)
  | .gdeXori r q x => some (fmtI r q x 0x4)
  | .gdeShli r q x => some (fmtI r q x 0x5)
  | .gdeShri r q x => some (fmtI r q x 0x6)
  | .gdeSrai r q x => some (fmtI r q x 0x7)
  | .gdeLtsi r q x => some (fmtI r q x 0x8)
  | .gdeLtui r q x => some (fmtI r q x 0x9)
  | .gdeLdb r q x => some (fmtI r q x 0x10)
  | .gdeLdbu r q x => some (fmtI r q x 0x11)
  | .gdeLdh r q x => some (fmtI r q x 0x12)
  | .gdeLdhu r q x => some (fmtI r q x 0x13)
  | .gdeLdw r q x => some (fmtI r q x 0x14)
  | .gdeLdw2 r q x => some (fmtI r q x 0x15)
  | .gdeStb r q x => some (fmtI r q x 0x18)
  | .gdeSth r q x => some (fmtI r q x 0x19)
  | .gdeStw r q x => some (fmtI r q x 0x1a)
  | .gdeStw2 r q x => some (fmtI r q x 0x1b)
  | .gdeBreq r q x => some (fmtI r q x 0x20)
  | .gdeBrne r q x => some (fmtI r q x 0x21)
  | .gdeBrlt r q x => some (fmtI r q x 0x22)
  | .gdeBrge r q x => some (fmtI r q x 0x23)
  | .gdeBrltu r q x => some (fmtI r q x 0x24)
  | .gdeBrgeu r q x => some (fmtI r q x 0x25)
  | .gdeJmpr r q x => some (fmtI r q x 0x29)
  | .gdeTrap r q x => some (fmtI r q x 0x33)
  | .gdeHimm gd x => some (fmtU gd x 0xA)
  | .gdePcadd gd x => some (fmtU gd x 0xB)
  | .gdeJmp x => some (fmtJ x 0x27)
  | .gdeCall x => some (fmtJ x 0x28)
  | .gdeMfs gd ga num => some (fmtI gd ga (0#1 ++ num) 0x31)
  | .gdeMts gd ga num => some (fmtI gd ga (1#1 ++ num) 0x31)
  | _ => none

/-- The halfword of a 16-bit instruction; none for any other command (R114). -/
def guideHalf (i : Instr) : Option (BitVec 16) :=
  match i with
  | .gdeAddq r x => some (fmtQ 0x1 r x)
  | .gdeLdq r x => some (fmtQ 0x2 r x)
  | .gdeStq r x => some (fmtQ 0x3 r x)
  | .gdeBzq r x => some (fmtQ 0x4 r x)
  | .gdeBnzq r x => some (fmtQ 0x5 r x)
  | .gdeBraq x => some (0x6#4 ++ x ++ 0#1)
  | .gdeAddrq r q => some (fmtQ 0x7 r (0#1 ++ q))
  | .gdeSubrq r q => some (fmtQ 0x7 r (1#1 ++ q))
  | .gdeJrq r z => some (fmtQ 0x8 r (0#1 ++ z))
  | .gdeJcq r z => some (fmtQ 0x8 r (1#1 ++ z))
  | .gdeMovq r z q => some (fmtQ 0x9 r (BitVec.ofBool z ++ q))
  | .gdeLiq r x => some (fmtQ 0xA r x)
  | .gdeShlq r q => some (fmtQ 0xB r (0#1 ++ q))
  | .gdeShrq r q => some (fmtQ 0xB r (1#1 ++ q))
  | _ => none

/-! ### The decoder -/

/-- op6 0x00 and 0x30 by fn10 (R112). -/
def decodeA (op fn : Nat) (gd ga gb : BitVec 5) : Instr :=
  match op, fn with
  | 0x0, 0x0 => .gdeAdd gd ga gb
  | 0x0, 0x1 => .gdeSub gd ga gb
  | 0x0, 0x2 => .gdeAnd gd ga gb
  | 0x0, 0x3 => .gdeOr gd ga gb
  | 0x0, 0x4 => .gdeXor gd ga gb
  | 0x0, 0x5 => .gdeShl gd ga gb
  | 0x0, 0x6 => .gdeShr gd ga gb
  | 0x0, 0x7 => .gdeSra gd ga gb
  | 0x0, 0x8 => .gdeLts gd ga gb
  | 0x0, 0x9 => .gdeLtu gd ga gb
  | 0x0, 0x10 => .gdeMul gd ga gb
  | 0x0, 0x11 => .gdeMhs gd ga gb
  | 0x0, 0x12 => .gdeMhu gd ga gb
  | 0x0, 0x18 => .gdeDiv gd ga gb
  | 0x0, 0x19 => .gdeDivu gd ga gb
  | 0x0, 0x1a => .gdeRem gd ga gb
  | 0x0, 0x1b => .gdeRemu gd ga gb
  | 0x0, 0x20 => .gdeMin gd ga gb
  | 0x0, 0x21 => .gdeMax gd ga gb
  | 0x0, 0x22 => .gdeClz gd ga gb
  | 0x30, 0x1 => .gdeDrain gd ga gb
  | 0x30, 0x2 => .gdeExret gd ga gb
  | 0x30, 0x3 => .gdeNmiret gd ga gb
  | 0x30, 0x4 => .gdeTend gd ga gb
  | 0x30, 0x5 => .gdeWait gd ga gb
  | _, _ => .gdeIllegalInstruction

/-- A 32-bit instruction (R112, R115). -/
def decodeWord (w : W32) : Instr :=
  let r := w.extractLsb' 27 5
  let q := w.extractLsb' 22 5
  let x := w.extractLsb' 7 15
  match (w.extractLsb' 1 6).toNat with
  | 0x0 => decodeA 0x0 (w.extractLsb' 7 10).toNat r q (w.extractLsb' 17 5)
  | 0x1 => .gdeAddi r q x
  | 0x2 => .gdeAndi r q x
  | 0x3 => .gdeOri r q x
  | 0x4 => .gdeXori r q x
  | 0x5 => .gdeShli r q x
  | 0x6 => .gdeShri r q x
  | 0x7 => .gdeSrai r q x
  | 0x8 => .gdeLtsi r q x
  | 0x9 => .gdeLtui r q x
  | 0x10 => .gdeLdb r q x
  | 0x11 => .gdeLdbu r q x
  | 0x12 => .gdeLdh r q x
  | 0x13 => .gdeLdhu r q x
  | 0x14 => .gdeLdw r q x
  | 0x15 => .gdeLdw2 r q x
  | 0x18 => .gdeStb r q x
  | 0x19 => .gdeSth r q x
  | 0x1a => .gdeStw r q x
  | 0x1b => .gdeStw2 r q x
  | 0x20 => .gdeBreq r q x
  | 0x21 => .gdeBrne r q x
  | 0x22 => .gdeBrlt r q x
  | 0x23 => .gdeBrge r q x
  | 0x24 => .gdeBrltu r q x
  | 0x25 => .gdeBrgeu r q x
  | 0xa => .gdeHimm r (w.extractLsb' 7 20)
  | 0xb => .gdePcadd r (w.extractLsb' 7 20)
  | 0x27 => .gdeJmp (w.extractLsb' 7 25)
  | 0x28 => .gdeCall (w.extractLsb' 7 25)
  | 0x29 => .gdeJmpr r q x
  | 0x30 => decodeA 0x30 (w.extractLsb' 7 10).toNat r q (w.extractLsb' 17 5)
  | 0x31 => if w.getLsbD 21 then .gdeMts r q (w.extractLsb' 7 14) else .gdeMfs r q (w.extractLsb' 7 14)
  | 0x33 => .gdeTrap r q x
  | _ => .gdeIllegalInstruction

/-- A 16-bit instruction (R114, R115). -/
def decodeHalf (h : BitVec 16) : Instr :=
  let r := h.extractLsb' 7 5
  let x := h.extractLsb' 1 6
  let q := h.extractLsb' 1 5
  let b := h.getLsbD 6
  match (h.extractLsb' 12 4).toNat with
  | 0x1 => .gdeAddq r x
  | 0x2 => .gdeLdq r x
  | 0x3 => .gdeStq r x
  | 0x4 => .gdeBzq r x
  | 0x5 => .gdeBnzq r x
  | 0x6 => .gdeBraq (h.extractLsb' 1 11)
  | 0x7 => if b then .gdeSubrq r q else .gdeAddrq r q
  | 0x8 => if b then .gdeJcq r q else .gdeJrq r q
  | 0x9 => .gdeMovq r b q
  | 0xa => .gdeLiq r x
  | 0xb => if b then .gdeShrq r q else .gdeShlq r q
  | _ => .gdeIllegalInstruction

/-- The instruction at address a of instruction memory: bit 0 of its first halfword selects the length (R111, R116). -/
def instrAt (m : Cells 8) (a : Nat) : Instr :=
  let h := (ofBytes (rdBytes m a 2)).setWidth 16
  if h.getLsbD 0 then decodeWord ((ofBytes (rdBytes m a 4)).setWidth 32) else decodeHalf h

/-- The effect of a Guide instruction, whatever command it is written as; other commands have none here. -/
def guideRun (i : Instr) (s : State) : Out :=
  match i with
  | .gdeAdd gd ga gb => execGdeAdd gd ga gb s
  | .gdeSub gd ga gb => execGdeSub gd ga gb s
  | .gdeAnd gd ga gb => execGdeAnd gd ga gb s
  | .gdeOr gd ga gb => execGdeOr gd ga gb s
  | .gdeXor gd ga gb => execGdeXor gd ga gb s
  | .gdeShl gd ga gb => execGdeShl gd ga gb s
  | .gdeShr gd ga gb => execGdeShr gd ga gb s
  | .gdeSra gd ga gb => execGdeSra gd ga gb s
  | .gdeLts gd ga gb => execGdeLts gd ga gb s
  | .gdeLtu gd ga gb => execGdeLtu gd ga gb s
  | .gdeMul gd ga gb => execGdeMul gd ga gb s
  | .gdeMhs gd ga gb => execGdeMhs gd ga gb s
  | .gdeMhu gd ga gb => execGdeMhu gd ga gb s
  | .gdeDiv gd ga gb => execGdeDiv gd ga gb s
  | .gdeDivu gd ga gb => execGdeDivu gd ga gb s
  | .gdeRem gd ga gb => execGdeRem gd ga gb s
  | .gdeRemu gd ga gb => execGdeRemu gd ga gb s
  | .gdeMin gd ga gb => execGdeMin gd ga gb s
  | .gdeMax gd ga gb => execGdeMax gd ga gb s
  | .gdeClz gd ga gb => execGdeClz gd ga gb s
  | .gdeAddi gd ga imm => execGdeAddi gd ga imm s
  | .gdeLtsi gd ga imm => execGdeLtsi gd ga imm s
  | .gdeLtui gd ga imm => execGdeLtui gd ga imm s
  | .gdeAndi gd ga imm => execGdeAndi gd ga imm s
  | .gdeOri gd ga imm => execGdeOri gd ga imm s
  | .gdeXori gd ga imm => execGdeXori gd ga imm s
  | .gdeShli gd ga imm => execGdeShli gd ga imm s
  | .gdeShri gd ga imm => execGdeShri gd ga imm s
  | .gdeSrai gd ga imm => execGdeSrai gd ga imm s
  | .gdeHimm gd imm => execGdeHimm gd imm s
  | .gdePcadd gd imm => execGdePcadd gd imm s
  | .gdeLdb gd ga imm => execGdeLdb gd ga imm s
  | .gdeLdbu gd ga imm => execGdeLdbu gd ga imm s
  | .gdeLdh gd ga imm => execGdeLdh gd ga imm s
  | .gdeLdhu gd ga imm => execGdeLdhu gd ga imm s
  | .gdeLdw gd ga imm => execGdeLdw gd ga imm s
  | .gdeLdw2 gd ga imm => execGdeLdw2 gd ga imm s
  | .gdeStb gb ga imm => execGdeStb gb ga imm s
  | .gdeSth gb ga imm => execGdeSth gb ga imm s
  | .gdeStw gb ga imm => execGdeStw gb ga imm s
  | .gdeStw2 gb ga imm => execGdeStw2 gb ga imm s
  | .gdeBreq ga gb off => execGdeBreq ga gb off s
  | .gdeBrne ga gb off => execGdeBrne ga gb off s
  | .gdeBrlt ga gb off => execGdeBrlt ga gb off s
  | .gdeBrge ga gb off => execGdeBrge ga gb off s
  | .gdeBrltu ga gb off => execGdeBrltu ga gb off s
  | .gdeBrgeu ga gb off => execGdeBrgeu ga gb off s
  | .gdeJmp off => execGdeJmp off s
  | .gdeCall off => execGdeCall off s
  | .gdeJmpr gd ga imm => execGdeJmpr gd ga imm s
  | .gdeDrain gd ga gb => execGdeDrain gd ga gb s
  | .gdeExret gd ga gb => execGdeExret gd ga gb s
  | .gdeNmiret gd ga gb => execGdeNmiret gd ga gb s
  | .gdeTend gd ga gb => execGdeTend gd ga gb s
  | .gdeWait gd ga gb => execGdeWait gd ga gb s
  | .gdeMfs gd ga num => execGdeMfs gd ga num s
  | .gdeMts gd ga num => execGdeMts gd ga num s
  | .gdeTrap gd ga imm => execGdeTrap gd ga imm s
  | .gdeAddq gd imm => execGdeAddq gd imm s
  | .gdeLdq gd imm => execGdeLdq gd imm s
  | .gdeStq gb imm => execGdeStq gb imm s
  | .gdeBzq ga off => execGdeBzq ga off s
  | .gdeBnzq ga off => execGdeBnzq ga off s
  | .gdeBraq off => execGdeBraq off s
  | .gdeAddrq gd ga => execGdeAddrq gd ga s
  | .gdeSubrq gd ga => execGdeSubrq gd ga s
  | .gdeJrq ga z => execGdeJrq ga z s
  | .gdeJcq ga z => execGdeJcq ga z s
  | .gdeMovq gd z ga => execGdeMovq gd z ga s
  | .gdeLiq gd imm => execGdeLiq gd imm s
  | .gdeShlq gd amt => execGdeShlq gd amt s
  | .gdeShrq gd amt => execGdeShrq gd amt s
  | .gdeIllegalInstruction => execGdeIllegalInstruction s
  | _ => .next s

end Sys2Proof.Machine
end

