-- ==== Sys2Proof/Machine/Debug.lean ====
section
/-! DEFINITION. The JTAG port: test access, boundary scan, the debug unlock, the Guide's halt and step, DBGMEM (R520,
R521, R535 to R540), and the meanings of its commands. -/

namespace Sys2Proof.Machine

open Sys2Proof

/-! ### The test access port (R520, R535) -/

/-- SEC_DBG.STATE. -/
def debugState (s : State) : Nat := s.rf rSEC_DBG SEC_DBG.STATE

/-- Debug is UNLOCKED. -/
def debugUnlocked (s : State) : Bool := debugState s == 1

/-- What the instruction register captures: 0b0000_SS01 (R535). -/
def irCapture (s : State) : Nat := 1 + 4 * debugState s

/-- An instruction of code c is loaded; its data register shifts out the bytes l. -/
def tapLoad (c : Nat) (l : List Byte) (s : State) : State :=
  { s with jtag := { s.jtag with ir := c, irOut := irCapture s, out := l } }

/-- The instructions that act whatever the debug state (R520). -/
def actsAlways (c : Nat) : Bool := c == 1 || c == 0x20 || c == 0x21 || c == 0xFF

/-- The instruction in force: one that does not act is BYPASS (R520, R538). -/
def tapActs (s : State) : Nat := if debugUnlocked s || actsAlways s.jtag.ir then s.jtag.ir else 0xFF

/-- An instruction that acts only while debug is UNLOCKED; otherwise the bypass bit is shifted out (R520). -/
def tapTest (c : Nat) (l : List Byte) (f : State → State) (s : State) : State :=
  if debugUnlocked s then f (tapLoad c l s) else tapLoad c [0] s

/-- IDCODE (R520). -/
def idcode : W32 := 0x14896B47#32

/-- The cells of the boundary-scan register as bytes, cell 0 first out (R536). -/
def cellBytes (n : Nat) (c : BitVec 666) : List Byte :=
  match n with
  | 0 => []
  | n + 1 => c.setWidth 8 :: cellBytes n (c >>> 8)

/-- A scan of the boundary register: the levels captured leave, the bits shifted in stand in the cells (R536, R537). -/
def boundaryScan (c : Nat) (balls shift : BitVec 666) (s : State) : State :=
  tapTest c (cellBytes 84 balls) (fun t => { t with jtag := { t.jtag with cells := shift } }) s

/-- CHAL (R521); in reset no source answers. -/
def tapChallenge (s : State) : State :=
  if s.rst.phase = .inReset then tapLoad 0x20 (List.replicate 16 0) s
  else
    let r := debugChallenge s
    tapLoad 0x20 r.1 r.2

/-! ### DBGCTL (R539) -/

/-- What DBGCTL captures. -/
def dbgctlCapture (s : State) : Byte :=
  let b := fun (x : Bool) => if x then 1 else 0
  BitVec.ofNat 8 (b s.gde.dbgHalted + 2 * b (s.gde.nmiSignal || s.rb rGDE_STAT GDE_STAT.NMI_PEND) + 16 * curBank s)

/-- A scan of DBGCTL with the effect f on a Guide that is released. -/
def dbgctl (f : State → State) (s : State) : State :=
  tapTest 0x30 [dbgctlCapture s] (fun t => if guideGone t then t else f t) s

/-- HALT: the Guide stops at its next instruction boundary. -/
def haltAct (s : State) : State := onGde (fun g => { g with dbgHalted := true }) s

/-- RESUME. -/
def resumeAct (s : State) : State := onGde (fun g => { g with dbgHalted := false }) s

/-- The Guide halts again, unless a reset or a relock has ended the halt. -/
def rehalt (s : State) : State := if guideGone s || !debugUnlocked s then s else haltAct s

/-- STEP: a pending NMI or a dispatch comes first, then one instruction of instruction memory runs, then the halt. Where
none can issue, the Guide stays halted (notes/assumptions/16.md). -/
def stepAct (s : State) : State :=
  if !s.gde.dbgHalted then s
  else
    let t := taskDispatch (nmiEnter (resumeAct s))
    if !guideIssues t then s
    else
      match guideRun (instrAt t.gde.imem (guidePc t).toNat) t with
      | .next u => rehalt u
      | _ => s

/-! ### DBGMEM (R540) -/

/-- DATA, ADDR, the width in bytes and WR of a DBGMEM access. -/
def drData (dr : BitVec 100) : W64 := dr.setWidth 64
def drAddr (dr : BitVec 100) : Nat := (dr.extractLsb' 64 32).toNat
def drBytes (dr : BitVec 100) : Nat := 2 ^ (dr.extractLsb' 96 2).toNat
def drWr (dr : BitVec 100) : Bool := dr.getLsbD 98
def drGo (dr : BitVec 100) : Bool := dr.getLsbD 99

/-- What DBGMEM captures. -/
def dbgmemCapture (s : State) : List Byte :=
  let j := s.jtag
  let b := fun (x : Bool) => if x then 1 else 0
  let v := j.memData.toNat + 2 ^ 64 * j.memCode + 2 ^ 98 * b j.busy.isSome + 2 ^ 99 * b j.memDone
  (idxs 0 13).map fun i => BitVec.ofNat 8 (v / 256 ^ i)

/-- An access has completed with data d and code c. -/
def dbgmemEnd (dr : BitVec 100) (d : W64) (c : Nat) (s : State) : State :=
  { s with jtag := { s.jtag with
      busy := none, memData := if drWr dr then drData dr else d, memCode := c, memDone := true } }

/-- The access is issued on the Guide's port, or waits for an entry of its quota. -/
def dbgmemIssue (dr : BitVec 100) (s : State) : State :=
  if guideGone s then dbgmemEnd dr 0 7 s
  else
    match guideLocal (drAddr dr) with
    | some (imem, off) =>
      let r := memAccess imem off (drBytes dr) (drWr dr) (drData dr) s
      dbgmemEnd dr r.1.1 r.1.2 r.2
    | none =>
      if guideFull s then
        (if s.jtag.busy.isSome then s
         else countStall 0 { s with jtag := { s.jtag with busy := some dr, memDone := false } })
      else
        let r := busAccess 0 (drAddr dr) (drBytes dr) (drWr dr) (drData dr) [] s
        dbgmemEnd dr r.1.1 r.1.2 r.2

/-- Update-DR of DBGMEM. -/
def dbgmemUpdate (dr : BitVec 100) (s : State) : State :=
  if !drGo dr || s.jtag.busy.isSome then s
  else if drAddr dr % drBytes dr ≠ 0 then dbgmemEnd dr 0 3 s
  else dbgmemIssue dr s

/-- An access that waits for an entry is issued once one is free. -/
def dbgmemRetry (s : State) : State :=
  match s.jtag.busy with
  | some dr => dbgmemIssue dr s
  | none => s

/-- An entry of the Guide's quota may be free again: what waits for one is issued (R169, R540). -/
def guideEntryFreed (s : State) : State := issueWaiting 0 (dbgmemRetry s)

/-! ### The commands -/

/-- nTRST low, or five TCK periods with TMS high (R535). -/
def execTapReset (s : State) : Out := .next { s with jtag := { s.jtag with ir := 1, out := [] } }

/-- IDCODE (R520). -/
def execJtagIdcode (s : State) : Out := .next (tapLoad 1 (bytesOf 4 (idcode.setWidth 64)) s)

/-- BYPASS (R520). -/
def execJtagBypass (s : State) : Out := .next (tapLoad 0xFF [0] s)

/-- EXTEST (R535 to R537). -/
def execJtagExtest (balls shift : BitVec 666) (s : State) : Out := .next (boundaryScan 0 balls shift s)

/-- SAMPLE/PRELOAD (R535). -/
def execJtagSamplePreload (balls shift : BitVec 666) (s : State) : Out := .next (boundaryScan 2 balls shift s)

/-- HIGHZ (R535, R537). -/
def execJtagHighz (s : State) : Out := .next (tapTest 4 [0] (fun t => t) s)

/-- CLAMP (R535, R537). -/
def execJtagClamp (s : State) : Out := .next (tapTest 5 [0] (fun t => t) s)

/-- CHAL (R521). -/
def execJtagChal (s : State) : Out := .next (tapChallenge s)

/-- RESP (R521). -/
def execJtagResp (pub sig : List Byte) (s : State) : Out :=
  .next (tapLoad 0x21 [] (if s.rst.phase = .inReset then s else debugResponse pub sig s))

/-- The verification of a response ends (R521). -/
def execDebugVerifyDone (s : State) : Out := .next (debugVerified s)

/-- HALT (R539). -/
def execDbgHalt (s : State) : Out := .next (dbgctl haltAct s)

/-- RESUME (R539). -/
def execDbgResume (s : State) : Out := .next (dbgctl resumeAct s)

/-- STEP (R539). -/
def execDbgStep (s : State) : Out := .next (dbgctl stepAct s)

/-- A scan of DBGMEM (R540). -/
def execDbgmemGo (dr : BitVec 100) (s : State) : Out :=
  .next (tapTest 0x31 (dbgmemCapture s) (dbgmemUpdate dr) s)

end Sys2Proof.Machine
end

