-- ==== Sys2Proof/Machine/DriveExec.lean ====
section
/-! DEFINITION. The commands of motion, LED and Lantern outputs, the converters, the Gate, the cartridges (ch. 18 to 21). -/

namespace Sys2Proof.Machine

open Sys2Proof

/-- A group's period ends and the reload takes the pairs, computing bounded high times (R422). -/
def execPwmReload (group : BitVec 4) (s : State) : Out :=
  .next (ev (Sys2Proof.Machine.pwmReload group.toNat) s)

/-- The CENTRE event of a group falls TRG_OFS after the period midpoint and triggers converters (R429). -/
def execPwmCentre (group : BitVec 4) (s : State) : Out :=
  .next (ev (Sys2Proof.Machine.pwmCentre group.toNat) s)

/-- A 64-bit write of a duty and period pair is ordered against the reload, late writes counted (R425). -/
def execPwmDpWrite (output : BitVec 6) (duty : W32) (period : W32) (s : State) : Out :=
  .next (if output.toNat < 36 then ctl (rPWM_DP output.toNat) (pwmWrite output.toNat ((period.setWidth 16 ++ duty).setWidth 64)) s else s)

/-- Clearing HOLD lets the next reload take every pair of the group together (R426). -/
def execPwmHoldClear (group : BitVec 4) (s : State) : Out :=
  .next (ctl (rPWM_CTL group.toNat) (pwmHoldWrite group.toNat false) s)

/-- Setting EN starts the group at its next reload (R428). -/
def execPwmEnable (group : BitVec 4) (s : State) : Out :=
  .next (ctl (rPWM_CTL group.toNat) (pwmEnableWrite group.toNat true) s)

/-- Clearing EN drives every output of the group low within 20 ns (R428). -/
def execPwmDisable (group : BitVec 4) (s : State) : Out :=
  .next (ctl (rPWM_CTL group.toNat) (pwmEnableWrite group.toNat false) s)

/-- The first bit of a frame leaves after the light pass and the least blanking (R431). -/
def execLanternDataStart (port : BitVec 2) (first lack : BitVec 14) (s : State) : Out :=
  .next (ev (ltnDataStart port.toNat first.toNat lack.toNat) s)

/-- A frame's last bit ends, blanking begins and a pending pair is taken (R431). -/
def execLanternBlankStart (port : BitVec 2) (s : State) : Out :=
  .next (ev (ltnBlankStart port.toNat) s)

/-- A 64-bit write of LTN_FB_n commits a base and length pair for a later frame (R435). -/
def execLtnFbCommit (port : BitVec 2) (base : BitVec 20) (npixm1 : BitVec 11) (s : State) : Out :=
  .next (ctl (rLTN_FB port.toNat) (ltnCommit port.toNat base.toNat npixm1.toNat) s)

/-- Setting EN puts the port into blanking, or refuses a bad lane rate (R437). -/
def execLtnEnable (port : BitVec 2) (s : State) : Out :=
  .next (ctl (rLTN_CTL port.toNat) (ltnEnableWrite port.toNat true) s)

/-- Clearing EN stops the port at the next BLANK_START and leaves its balls high-impedance (R437). -/
def execLtnDisable (port : BitVec 2) (s : State) : Out :=
  .next (ctl (rLTN_CTL port.toNat) (ltnEnableWrite port.toNat false) s)

/-- RSWT gives a software trigger to the regular sequence (R444). -/
def execAdcRswt (adc : BitVec 1) (s : State) : Out :=
  .next (ctl (rADC_CMD adc.toNat) (regTrigger adc.toNat) s)

/-- ISWT gives a software trigger to the injected sequence (R444). -/
def execAdcIswt (adc : BitVec 1) (s : State) : Out :=
  .next (ctl (rADC_CMD adc.toNat) (injTrigger adc.toNat) s)

/-- A conversion begins sampling at the first converter edge at least 20 ns after its trigger (R441). -/
def execAdcSamplingStart (adc : BitVec 1) (s : State) : Out :=
  .next (ev (adcSample adc.toNat) s)

/-- The approximation ends, the result is published and the next conversion or sequence begins (R440). -/
def execAdcConversionEnd (adc : BitVec 1) (uv : BitVec 32) (s : State) : Out :=
  .next (ev (adcEnd adc.toNat uv) s)

/-- Setting EN starts readying the converter (R451). -/
def execAdcEnable (adc : BitVec 1) (s : State) : Out :=
  .next (ctl (rADC_CTL adc.toNat) (adcEnableWrite adc.toNat true) s)

/-- The converter becomes ready within 10 µs of EN and READY sets (R451). -/
def execAdcReady (adc : BitVec 1) (s : State) : Out :=
  .next (ev (Sys2Proof.Machine.adcReady adc.toNat) s)

/-- Clearing EN abandons any sequence and clears RPEND (R451). -/
def execAdcDisable (adc : BitVec 1) (s : State) : Out :=
  .next (ctl (rADC_CTL adc.toNat) (adcEnableWrite adc.toNat false) s)

/-- A fast comparator input crosses its threshold and the comparator trips (R455). -/
def execComparatorTrip (cmp : BitVec 4) (uv : BitVec 32) (s : State) : Out :=
  .next (if cmp.toNat < 12 then ev (cmpTrip cmp.toNat uv.toNat) s else s)

/-- A comparator input returns past its hysteresis and leaves the tripped state (R455). -/
def execComparatorRelease (cmp : BitVec 4) (uv : BitVec 32) (s : State) : Out :=
  .next (if cmp.toNat < 12 then ev (cmpRelease cmp.toNat uv.toNat) s else s)

/-- A GTE_REL bit requests the release of a group, ignored with REL_REF if not releasable (R479). -/
def execGteRelWrite (mask : BitVec 16) (s : State) : Out :=
  .next (ctl (rGTE_REL) (relWrite (mask.setWidth 32)) s)

/-- CARTc_nPRS high for 10 µs makes the cartridge MISSING and discards ACC (R459). -/
def execCartPresenceLoss (cart : BitVec 2) (s : State) : Out :=
  .next (ev (cartLost cart.toNat) s)

/-- CARTc_nPRS held low for 50 ms starts a probe (R459). -/
def execCartPresenceSettled (cart : BitVec 2) (s : State) : Out :=
  .next (ev (cartSettled cart.toNat) s)

/-- The probe reads the ID block, checks the response, chooses a life slot and sets the state (R463). -/
def execCartProbe (cart : BitVec 2) (element : CartElement) (s : State) : Out :=
  .next (ev (Sys2Proof.Machine.cartProbe cart.toNat element) s)

/-- Every REAUTH minutes a VALID cartridge repeats the challenge and response (R464). -/
def execCartReauth (cart : BitVec 2) (element : CartElement) (s : State) : Out :=
  .next (ev (Sys2Proof.Machine.cartReauth cart.toNat element) s)

/-- Every second a VALID cartridge's weight is added to ACC (R465). -/
def execCartSample (cart : BitVec 2) (tj : Option (BitVec 16)) (fails : BitVec 3) (s : State) : Out :=
  .next (ev (Sys2Proof.Machine.cartSample cart.toNat tj fails.toNat) s)

/-- REPROBE commits ACC if VALID and then probes (R471). -/
def execCartReprobe (cart : BitVec 2) (fails : BitVec 3) (s : State) : Out :=
  .next (ctl (rLTN_CART_CMD cart.toNat) (Sys2Proof.Machine.cartReprobe cart.toNat fails.toNat) s)

/-- A write of EN starts the cartridge engine or, on clearing, commits ACC and sets OFF (R471). -/
def execCartEnable (cart : BitVec 2) (on : Bool) (fails : BitVec 3) (s : State) : Out :=
  .next (ctl (rLTN_CART_CFG cart.toNat) (Sys2Proof.Machine.cartEnable cart.toNat on fails.toNat) s)

/-- GO queues a firmware two-wire transaction, refused with DENY at 0x5A on TW0 to TW3 (R458). -/
def execTwGo (ctl : BitVec 3) (s : State) : Out :=
  .next (if ctl.toNat < 5 then Sys2Proof.Machine.ctl (rLTN_TW_CMD ctl.toNat) (Sys2Proof.Machine.twGo ctl.toNat) s else s)

/-- A two-wire transaction ends with its STOP, setting DONE, NACK or TMO (R457). -/
def execTwTransactionDone (ctl : BitVec 3) (nack tmo : Bool) (nbytes : BitVec 5) (bytes : List Byte) (s : State) : Out :=
  .next (if ctl.toNat < 5 then ev (twDone ctl.toNat nack tmo nbytes.toNat bytes) s else s)

end Sys2Proof.Machine
end

