-- ==== Sys2Proof/Machine/GalleryExec.lean ====
section
/-! DEFINITION. The commands of Gallery (ch. 14). -/

namespace Sys2Proof.Machine

open Sys2Proof

/-- A message of a train meets a node whose Gallery runs (R330, R337). -/
def galMsg (f : State → State) (s : State) : State := if galOn s then f s else s

/-- A USER message (R329, R330). -/
def userMsg (dest : Nat) (data : List Byte) (s : State) : State :=
  if msgMine dest s then rxMessage (padMsg ([0x06, BitVec.ofNat 8 dest] ++ data.take 30)) s else s

/-- A write of GAL_SETTX with GO (R331). -/
def settxWrite (src dst dest : Nat) (s : State) : State :=
  settxGo (((s.setRf rGAL_SETTX GAL_SETTX.DST_SLOT dst).setRf rGAL_SETTX GAL_SETTX.DEST dest).setRf
    rGAL_SETTX GAL_SETTX.SRC_SLOT src)

/-- A write of GAL_CTL.EN starts or stops Gallery and takes the fields latched at EN (R337). -/
def execGalEnable (on : Bool) (s : State) : Out :=
  .next (ctl (rGAL_CTL) (galEnableWrite on) s)

/-- A node receives a train section and handles it on the outbound pass, turnaround or return pass (R333). -/
def execTrainSection (port : BitVec 1) (eighths : BitVec 3) (sa : List Byte) (payload : List Byte) (fcs : BitVec 2) (s : State) : Out :=
  .next (ev (sectionArrives port.toNat eighths.toNat sa payload fcs.toNat) s)

/-- A train not fully arrived G before the processing cycle is treated as lost and sets LATE (R30). -/
def execBlockLate (s : State) : Out :=
  .next (ev (blockLateNow) s)

/-- A COMMIT message reaches a node on the outbound pass and is handed to Flowstone (R330). -/
def execMsgCommit (dest : Byte) (slot : BitVec 4) (cyc : BitVec 48) (s : State) : Out :=
  .next (ev (galMsg (commitMsg dest.toNat slot.toNat cyc.toNat)) s)

/-- A SETDATA message writes set words into a slot, or is discarded with SET_REJ (R329). -/
def execMsgSetdata (dest : Byte) (slot : BitVec 4) (word : BitVec 16) (words : List W40) (s : State) : Out :=
  .next (ev (galMsg (setdataMsg dest.toNat slot.toNat word.toNat words)) s)

/-- A SETEND message requests a STAGE of the slot (R329). -/
def execMsgSetend (dest : Byte) (slot : BitVec 4) (s : State) : Out :=
  .next (ev (galMsg (setendMsg dest.toNat slot.toNat)) s)

/-- An ASSIGN message sets STORED_ID on the node whose MAC matches (R329). -/
def execMsgAssign (mac : List Byte) (ident : Byte) (s : State) : Out :=
  .next (ev (galMsg (assignMsg mac ident.toNat)) s)

/-- An IDENT message makes the named node queue a reply, which the head queues in GAL_RXMSG (R329). -/
def execMsgIdent (pos : Byte) (s : State) : Out :=
  .next (ev (galMsg (identMsg pos.toNat)) s)

/-- A USER message is queued in GAL_RXMSG (R329). -/
def execMsgUser (dest : Byte) (data : List Byte) (s : State) : Out :=
  .next (ev (galMsg (userMsg dest.toNat data)) s)

/-- A received LINK frame gives a link delay sample and counts toward GLINK, or carries a WRAP request (R339). -/
def execLinkFrameReceive (port : BitVec 1) (eighths : BitVec 3) (payload : List Byte) (good : Bool) (s : State) : Out :=
  .next (ev (linkReceive port.toNat eighths.toNat payload good) s)

/-- A port loses GLINK after link down, two missing trains or 48 cycles without LINK frames (R340). -/
def execGlinkLoss (port : BitVec 1) (s : State) : Out :=
  .next (ev (glinkLost port.toNat) s)

/-- A write of RESTORE on the head schedules the ring restore 4 cycles ahead (R347). -/
def execGalRestore (s : State) : Out :=
  .next (ctl (rGAL_CTL) (galRestoreWrite) s)

/-- A write of STORED_ID in STORED mode makes the member derive its ID afresh at a boundary (R341). -/
def execStoredIdWrite (ident : Byte) (s : State) : Out :=
  .next (ctl (rGAL_NODE) (storedIdSet ident.toNat) s)

/-- GO queues the written message in GAL_TXMSG (R331). -/
def execGalTxmsgGo (s : State) : Out :=
  .next (ctl (rGAL_TXMSG_CTL) (txmsgGo) s)

/-- POP removes the oldest message of GAL_RXMSG (R330). -/
def execGalRxmsgPop (s : State) : Out :=
  .next (ctl (rGAL_RXMSG_CTL) (rxmsgPop) s)

/-- GO on the head starts streaming a slot's set as SETDATA and SETEND messages (R331). -/
def execGalSettxGo (src dst : BitVec 4) (dest : Byte) (s : State) : Out :=
  .next (ctl (rGAL_SETTX) (settxWrite src.toNat dst.toNat dest.toNat) s)

/-- GO starts one Clause 22 MDIO transaction (R317). -/
def execGalMdioGo (write : Bool) (phy reg : BitVec 5) (data : BitVec 16) (s : State) : Out :=
  .next (ctl (rGAL_MDIO) (mdioGo write phy.toNat reg.toNat data.toNat) s)

/-- An MDIO transaction ends and BUSY clears with any read data (R317). -/
def execMdioTransactionDone (data : BitVec 16) (s : State) : Out :=
  .next (ev (mdioDone data.toNat) s)

/-- A PHY's in-band status reports a change of link, speed or duplex (R317). -/
def execPhyStatusChange (port : BitVec 1) (up fdx : Bool) (speed : BitVec 2) (s : State) : Out :=
  .next (ev (phyChange port.toNat up fdx speed.toNat) s)

/-- An ordinary frame received on a Gallery port is switched, timestamped or dropped (R318). -/
def execEthFrameReceive (port : BitVec 1) (eighths : BitVec 3) (bytes : List Byte) (good : Bool) (s : State) : Out :=
  .next (ev (ethReceive port.toNat eighths.toNat bytes good) s)

/-- An ordinary or LINK frame waiting for a gap is sent on a Gallery port (R319). -/
def execEthFrameTransmit (port : BitVec 1) (s : State) : Out :=
  .next (ev (ethTransmit port.toNat) s)

/-- TXPOLL makes the device scan the transmit descriptor ring (R320). -/
def execEthTxpoll (s : State) : Out :=
  .next (ctl (rGAL_ETH_CTL) (txPoll) s)

end Sys2Proof.Machine
end

