-- ==== Sys2Proof/Machine/LawExec.lean ====
section
/-! DEFINITION. The instructions of the Control Law Engine and the commands around it and Echo (ch. 17). -/

namespace Sys2Proof.Machine

open Sys2Proof

/-- nop: the fields of the word that must be zero decide whether it is legal (R403, R404). -/
def lawNop (w : W32) (s : State) : State := lawIssue (w.extractLsb' 26 6).toNat (w.setWidth 26) s

/-- A write of CLE_SWAP: bits set and none clear (R400). -/
def swapRequest (lo : Nat) (mask : BitVec 16) (s : State) : State :=
  s.setReg rCLE_SWAP (s.reg rCLE_SWAP ||| (mask.setWidth 64 <<< lo))

/-- nop does nothing (R403). -/
def execCleNop (w : W32) (s : State) : Out :=
  .next (ev (lawNop w) s)

/-- end ends the run, which then publishes its pending writes together (R408). -/
def execCleEnd (f : BitVec 26) (s : State) : Out :=
  .next (ev (lawIssue 0x1 f) s)

/-- add writes vA + vB (R403). -/
def execCleAdd (f : BitVec 26) (s : State) : Out :=
  .next (ev (lawIssue 0x2 f) s)

/-- sub writes vA − vB (R403). -/
def execCleSub (f : BitVec 26) (s : State) : Out :=
  .next (ev (lawIssue 0x3 f) s)

/-- min writes the signed minimum (R403). -/
def execCleMin (f : BitVec 26) (s : State) : Out :=
  .next (ev (lawIssue 0x4 f) s)

/-- max writes the signed maximum (R403). -/
def execCleMax (f : BitVec 26) (s : State) : Out :=
  .next (ev (lawIssue 0x5 f) s)

/-- neg writes −vA (R403). -/
def execCleNeg (f : BitVec 26) (s : State) : Out :=
  .next (ev (lawIssue 0x6 f) s)

/-- mov copies vA (R403). -/
def execCleMov (f : BitVec 26) (s : State) : Out :=
  .next (ev (lawIssue 0x7 f) s)

/-- sel writes vA if vD ≥ 0, else vB (R403). -/
def execCleSel (f : BitVec 26) (s : State) : Out :=
  .next (ev (lawIssue 0x8 f) s)

/-- mul sets acc to vA × kK (R403). -/
def execCleMul (f : BitVec 26) (s : State) : Out :=
  .next (ev (lawIssue 0x10 f) s)

/-- mac adds vA × kK to acc (R403). -/
def execCleMac (f : BitVec 26) (s : State) : Out :=
  .next (ev (lawIssue 0x11 f) s)

/-- msb subtracts vA × kK from acc (R403). -/
def execCleMsb (f : BitVec 26) (s : State) : Out :=
  .next (ev (lawIssue 0x12 f) s)

/-- mulv sets acc to vA × vB (R403). -/
def execCleMulv (f : BitVec 26) (s : State) : Out :=
  .next (ev (lawIssue 0x13 f) s)

/-- macv adds vA × vB to acc (R403). -/
def execCleMacv (f : BitVec 26) (s : State) : Out :=
  .next (ev (lawIssue 0x14 f) s)

/-- msbv subtracts vA × vB from acc (R403). -/
def execCleMsbv (f : BitVec 26) (s : State) : Out :=
  .next (ev (lawIssue 0x15 f) s)

/-- ext rounds acc into vD (R403). -/
def execCleExt (f : BitVec 26) (s : State) : Out :=
  .next (ev (lawIssue 0x16 f) s)

/-- ldacc loads vA into acc exactly (R403). -/
def execCleLdacc (f : BitVec 26) (s : State) : Out :=
  .next (ev (lawIssue 0x17 f) s)

/-- ldk loads a coefficient into vD (R403). -/
def execCleLdk (f : BitVec 26) (s : State) : Out :=
  .next (ev (lawIssue 0x18 f) s)

/-- in reads an input port into vD (R407). -/
def execCleIn (f : BitVec 26) (s : State) : Out :=
  .next (ev (lawIssue 0x20 f) s)

/-- out holds a value pending for an output port until publication (R408). -/
def execCleOut (f : BitVec 26) (s : State) : Out :=
  .next (ev (lawIssue 0x21 f) s)

/-- lds reads a state word, or its pending value (R403). -/
def execCleLds (f : BitVec 26) (s : State) : Out :=
  .next (ev (lawIssue 0x22 f) s)

/-- sts holds a state word write pending until publication (R408). -/
def execCleSts (f : BitVec 26) (s : State) : Out :=
  .next (ev (lawIssue 0x23 f) s)

/-- bq computes one transposed direct form II biquad stage (R411). -/
def execCleBq (f : BitVec 26) (s : State) : Out :=
  .next (ev (lawIssue 0x28 f) s)

/-- sincos writes the cosine and sine of πθ (R403). -/
def execCleSincos (f : BitVec 26) (s : State) : Out :=
  .next (ev (lawIssue 0x29 f) s)

/-- atan2 writes atan2(vA, vB)/π (R403). -/
def execCleAtan2 (f : BitVec 26) (s : State) : Out :=
  .next (ev (lawIssue 0x2a f) s)

/-- clarke writes the alpha and beta components (R403). -/
def execCleClarke (f : BitVec 26) (s : State) : Out :=
  .next (ev (lawIssue 0x2b f) s)

/-- park rotates into the d and q frame (R403). -/
def execClePark (f : BitVec 26) (s : State) : Out :=
  .next (ev (lawIssue 0x2c f) s)

/-- ipark rotates back from the d and q frame (R403). -/
def execCleIpark (f : BitVec 26) (s : State) : Out :=
  .next (ev (lawIssue 0x2d f) s)

/-- svm writes three phase duties (R412). -/
def execCleSvm (f : BitVec 26) (s : State) : Out :=
  .next (ev (lawIssue 0x2e f) s)

/-- inj adds the Echo test signal to vA in the target slot (R417). -/
def execCleInj (f : BitVec 26) (s : State) : Out :=
  .next (ev (lawIssue 0x30 f) s)

/-- cap records vA and vB as an Echo entry at publication (R419). -/
def execCleCap (f : BitVec 26) (s : State) : Out :=
  .next (ev (lawIssue 0x31 f) s)

/-- A REQ bit requests an exchange at the slot's next boundary release (R400). -/
def execCleSwapReq (mask : BitVec 16) (s : State) : Out :=
  .next (ctl (rCLE_SWAP) (swapRequest 0 mask) s)

/-- A CMT bit requests an exchange at the next change of FLW_ACT (R400). -/
def execCleSwapCmt (mask : BitVec 16) (s : State) : Out :=
  .next (ctl (rCLE_SWAP) (swapRequest 16 mask) s)

/-- A window write of a state word takes effect at once or after the running run's publication (R413). -/
def execCleStateWrite (slot word : BitVec 4) (v : W32) (s : State) : Out :=
  .next (busCommand 0 (0x300000 + 0x380 + 0x800 * slot.toNat + 4 * word.toNat) 4 true (v.setWidth 64) [] s)

/-- GO triggers Echo, or is ignored and counted while busy (R418). -/
def execEchoGo (s : State) : Out :=
  .next (ctl (rECHO_CTL) (echoCtlWrite true false) s)

/-- ABORT ends Echo and sets DONE (R420). -/
def execEchoAbort (s : State) : Out :=
  .next (ctl (rECHO_CTL) (echoCtlWrite false true) s)

end Sys2Proof.Machine
end

