-- ==== Sys2Proof/Machine/MemoryExec.lean ====
section
/-! DEFINITION. The commands of Cavern, the host window, Siphon and the bus matrix (ch. 6 and 7). -/

namespace Sys2Proof.Machine

open Sys2Proof

/-- A matrix access to Cavern at byte offset off through window win by an identifier that is in use, after the bits of
the mask have flipped in its word (R139, R144, R149, R165). -/
def cavernCommand (ident win : Nat) (off : BitVec 23) (wide write : Bool) (v : W64) (flips : BitVec 48) (s : State) : State :=
  if !s.running ∨ 60 ≤ ident then s
  else
    busAs ident (0x10000000 + 0x1000000 * win + off.toNat) (if wide then 8 else 4) write v []
      (cavFlip (off.toNat / 8) flips s)

/-- The patrol scrubber's next read, after bits have flipped in the word it meets (R147). -/
def scrubCommand (flips : BitVec 48) (s : State) : State :=
  scrubStep (cavFlip (scrubNext s (s.rf rMEM_SCRUB_POS MEM_SCRUB_POS.WORD) 32) flips s)

/-- RDSR (R157). -/
def spiStatusRead (s : State) : State :=
  if spiReady s then { s with hwn := { s.hwn with spiOpen := true, quad := false, sends := true, sent := [spiStatus s] } } else s

/-- A command byte, and an address where the command has one, with no data: an unlisted command or an address with
non-zero bits [15:12] makes the slave ignore the transaction (R157). -/
def spiBadCommand (code : Byte) (addr : BitVec 16) (s : State) : State :=
  match spiCode code with
  | none => if spiReady s then spiBad s else s
  | some .rdsr => spiStatusRead s
  | some .read => Sys2Proof.Machine.spiRead .read addr 0 [] s
  | some .qread => Sys2Proof.Machine.spiRead .qread addr 0 [] s
  | some c => Sys2Proof.Machine.spiWrite c addr [] [] s

/-- nHCS rises (R155). -/
def spiEnd (s : State) : State :=
  if s.hwn.spiOpen then { s with hwn := { s.hwn with spiOpen := false, hbusy := false } } else s

/-- Clearing EN of channel n (R164). -/
def siphonOff (n : Nat) (s : State) : State := if s.rb (rSPH_CTL n) SPH_CTL.EN then sphDisable n s else s

/-- The channels of a mask are triggered, from the lowest (R161); Siphon then issues what its quota allows. -/
def siphonMask (m : BitVec 16) (s : State) : State :=
  sphGo (forEach ((idxs 0 16).filter fun n => m.getLsbD n) (fun n t => sphTrigger n t) s)

/-- The response of a transaction in flight returns to its master (R172). -/
def respondTo (x : TxnRef) (s : State) : State :=
  match x with
  | .matrix i => respond i.toNat s
  | .load i => guideEntryFreed (loadAnswer i.toNat s)
  | .store i => guideEntryFreed (storeAnswer i.toNat s)
  | .siphon n i => sphAnswer n.toNat i.toNat s
  | .chamber n => issueWaiting 3 (chamberReturns n.toNat s)

/-- A transaction in flight that its target has granted times out (R175). -/
def timeoutOf (x : TxnRef) (s : State) : State :=
  match x with
  | .matrix i => txnTimeout i.toNat s
  | .load i => guideEntryFreed (loadTimeout i.toNat s)
  | .store i => guideEntryFreed (storeTimeout i.toNat s)
  | .siphon n i => sphTimeout n.toNat i.toNat s
  | .chamber n => issueWaiting 3 (chamberTimeout n.toNat s)

/-- A matrix read of a Cavern slot is checked by SECDED, corrected and written back if needed (R139). -/
def execCavernRead (ident : BitVec 6) (off : BitVec 23) (wide : Bool) (flips : BitVec 48) (s : State) : Out :=
  .next (cavernCommand ident.toNat 0 off wide false 0 flips s)

/-- A 64-bit or 32-bit write stores into a Cavern word, the 32-bit form as one read-modify-write (R139). -/
def execCavernWrite (ident : BitVec 6) (off : BitVec 23) (wide : Bool) (v : W64) (flips : BitVec 48) (s : State) : Out :=
  .next (cavernCommand ident.toNat 0 off wide true v flips s)

/-- A write through the Cavern bit-set window ORs its mask into the word in one bank cycle (R149). -/
def execCavernBitSetWrite (ident : BitVec 6) (off : BitVec 23) (wide : Bool) (v : W64) (flips : BitVec 48) (s : State) : Out :=
  .next (cavernCommand ident.toNat 1 off wide true v flips s)

/-- A write through the Cavern bit-clear window clears its mask from the word in one bank cycle (R149). -/
def execCavernBitClearWrite (ident : BitVec 6) (off : BitVec 23) (wide : Bool) (v : W64) (flips : BitVec 48) (s : State) : Out :=
  .next (cavernCommand ident.toNat 2 off wide true v flips s)

/-- Every SCRUB_US microseconds the patrol scrubber reads the next powered word on an idle bank cycle (R147). -/
def execPatrolScrub (flips : BitVec 48) (s : State) : Out :=
  .next (ev (scrubCommand flips) s)

/-- A bus-matrix access reaches a host-window word at port A, with collision checking (R152). -/
def execHostPortAAccess (master : BitVec 3) (off : BitVec 14) (bytes : BitVec 4) (write : Bool) (v : W64) (coll : List (Nat × HwnAccess)) (s : State) : Out :=
  .next (busCommand master.toNat (0x200000 + off.toNat) bytes.toNat write v coll s)

/-- The READ command returns array words on one line from the given index (R157). -/
def execSpiRead (addr : BitVec 16) (count : BitVec 13) (coll : List (Nat × HwnAccess)) (s : State) : Out :=
  .next (ev (Sys2Proof.Machine.spiRead .read addr count.toNat coll) s)

/-- The QREAD command returns array words on four lines (R157). -/
def execSpiQread (addr : BitVec 16) (count : BitVec 13) (coll : List (Nat × HwnAccess)) (s : State) : Out :=
  .next (ev (Sys2Proof.Machine.spiRead .qread addr count.toNat coll) s)

/-- The WRITE command stores array words received on one line (R157). -/
def execSpiWrite (addr : BitVec 16) (words : List W32) (coll : List (Nat × HwnAccess)) (s : State) : Out :=
  .next (ev (fun t => hostPoll (Sys2Proof.Machine.spiWrite .write addr words coll t)) s)

/-- The QWRITE command stores array words received on four lines (R157). -/
def execSpiQwrite (addr : BitVec 16) (words : List W32) (coll : List (Nat × HwnAccess)) (s : State) : Out :=
  .next (ev (fun t => hostPoll (Sys2Proof.Machine.spiWrite .qwrite addr words coll t)) s)

/-- The RDSR command returns the status byte while SCK runs (R157). -/
def execSpiRdsr (s : State) : Out :=
  .next (ev (spiStatusRead) s)

/-- An unlisted command or bad address makes the slave ignore the transaction and set BADCMD (R157). -/
def execSpiBadCommand (code : Byte) (addr : BitVec 16) (s : State) : Out :=
  .next (ev (Sys2Proof.Machine.spiBadCommand code addr) s)

/-- nHCS rises, ending the SPI transaction and releasing HBUSY raised by a collision (R155). -/
def execSpiTransactionEnd (s : State) : Out :=
  .next (ev (spiEnd) s)

/-- A host read of a half word through the holding register, with an array cycle where the table gives one (R158). -/
def execParallelRead (ha : BitVec 13) (coll : Option HwnAccess) (s : State) : Out :=
  .next (ev (parRead ha coll) s)

/-- A host write of a half word through the holding register, writing the array where the table gives it (R158). -/
def execParallelWrite (ha : BitVec 13) (v : BitVec 16) (coll : Option HwnAccess) (s : State) : Out :=
  .next (ev (fun t => hostPoll (parWrite ha v coll t)) s)

/-- Setting SPH_CTL_n.EN copies SPH_DESC_n to SPH_CUR_n, clears ERR and arms the channel (R161). -/
def execSiphonEnable (channel : BitVec 4) (s : State) : Out :=
  .next (ctl (rSPH_CTL channel.toNat) (sphEnable channel.toNat) s)

/-- Clearing EN during a block stops the channel after the current element with ERR 0x5 (R164). -/
def execSiphonDisable (channel : BitVec 4) (s : State) : Out :=
  .next (ctl (rSPH_CTL channel.toNat) (siphonOff channel.toNat) s)

/-- A write of SPH_TRIG bits gives a software trigger to each named channel (R161). -/
def execSphTrig (mask : BitVec 16) (s : State) : Out :=
  .next (ctl (rSPH_TRIG) (siphonMask mask) s)

/-- A selected event triggers a channel, starting a block, latching it in PEND or dropping it (R161). -/
def execSiphonTrigger (channel : BitVec 4) (s : State) : Out :=
  .next (ev (fun t => sphGo (sphTrigger channel.toNat t)) s)

/-- An element's read returns and its write is issued, or the channel stops on an error (R162). -/
def execSiphonReadReturn (channel : BitVec 4) (s : State) : Out :=
  .next (ev (sphReturns channel.toNat false) s)

/-- An element's write is acknowledged; after the last, the block completes and the next block or DONE follows (R162). -/
def execSiphonWriteAck (channel : BitVec 4) (s : State) : Out :=
  .next (ev (sphReturns channel.toNat true) s)

/-- A master issues a transaction holding a tracking entry, after waiting for a free one if all are held (R169). -/
def execBmxTransactionIssue (ident : BitVec 6) (addr : W32) (bytes : BitVec 4) (write : Bool) (v : W64) (s : State) : Out :=
  .next (bmxIssue ident.toNat addr.toNat bytes.toNat write v [] s)

/-- A target's response returns to its master and frees the tracking entry (R172). -/
def execBmxTransactionResponse (txn : TxnRef) (s : State) : Out :=
  .next (ev (respondTo txn) s)

/-- A granted transaction gives no response within TMO_US and receives error code 0xB (R175). -/
def execBmxTimeout (txn : TxnRef) (s : State) : Out :=
  .next (ev (timeoutOf txn) s)

/-- A write of PEAK_CLR sets PEAK of a master to its current OUT (R169). -/
def execPeakClr (master : BitVec 3) (s : State) : Out :=
  .next (if master.toNat < 6 then ctl (rBMX_OUT master.toNat) (Sys2Proof.Machine.peakClr master.toNat) s else s)

end Sys2Proof.Machine
end

