-- ==== Sys2Proof/Machine/SecurityExec.lean ====
section
/-! DEFINITION. The commands of the Sump, its log, the key store, the crypto engine, tamper and alarm (ch. 22 and 23). -/

namespace Sys2Proof.Machine

open Sys2Proof

/-- The log writer takes the oldest entry and makes the five writes of its record, of which the first good ones are
answered without an error response; a LOST record takes the place that frees (R496 to R498). While a clear runs, raises
queue (R499). Nothing but a timeout can answer a write of the region with an error. -/
def logCommit (good : Nat) (s : State) : State :=
  if s.rb rSMP_LOG_STAT SMP_LOG_STAT.CLEARING then s
  else
    match s.smp.fifo with
    | [] => s
    | e :: r =>
      let q := match s.smp.lost with
        | some (a, b, n) => r ++ [.lost a b n]
        | none => r
      let w := recordBase (s.rf rSMP_LOG_STAT SMP_LOG_STAT.WR) + good % 4
      let s := { s with smp := { s.smp with fifo := q, lost := none } }
      let s := (s.setRf rSMP_LOG_STAT SMP_LOG_STAT.LEVEL q.length).setRb rSMP_LOG_STAT SMP_LOG_STAT.PEND false
      let s := commitRecord e good (touchEntries 49 (min 5 (good + 1)) s)
      if 5 ≤ good then s else errorResponse 49 (0x10000000 + 8 * w) true 0xB s

/-- The clear of the log ends (R499). -/
def logCleared (s : State) : State :=
  if s.rb rSMP_LOG_STAT SMP_LOG_STAT.CLEARING then
    let s := forEach (idxs 0 1024) (fun r t => cavPut (recordBase r) 0 (touchEntry 49 t)) s
    (s.setRf rSMP_LOG_STAT SMP_LOG_STAT.WR 0).setRb rSMP_LOG_STAT SMP_LOG_STAT.CLEARING false
  else s

/-- An operation of the crypto engine is started by a write of SEC_CE_CTL with GO (R513). -/
def ceStart (op ksel : Nat) (s : State) : State :=
  ceCtlWrite (BitVec.ofNat 32 (0x80000000 + 0x1000000 * op + 0x10000 * ksel)) s

/-- A write of SMP_ACK acknowledges classes and clears their nERR holds (R489). -/
def execSmpAck (mask : BitVec 8) (s : State) : Out :=
  .next (ctl (rSMP_ACK) (acknowledge (mask.setWidth 32)) s)

/-- Setting SMP_CTL.LOCK makes the source options read-only until chip reset (R487). -/
def execSmpLock (s : State) : Out :=
  .next (ctl (rSMP_CTL) (fun t => t.setRb rSMP_CTL SMP_CTL.LOCK true) s)

/-- The log writer takes a FIFO entry and commits one record in five writes (R496). -/
def execLogRecordCommit (good : BitVec 3) (s : State) : Out :=
  .next (ev (logCommit good.toNat) s)

/-- LOG_CLR starts clearing every record header (R499). -/
def execLogClr (s : State) : Out :=
  .next (ctl (rSMP_CTL) (Sys2Proof.Machine.logClr) s)

/-- The clear ends with the write position at record 0 (R499). -/
def execLogClearDone (s : State) : Out :=
  .next (ev (logCleared) s)

/-- A Guide write to the key store window stores staged fields or is refused (R505). -/
def execKeystoreWindowWrite (master : BitVec 3) (off : BitVec 16) (wide : Bool) (v : W64) (s : State) : Out :=
  .next (busCommand master.toNat (0x400000 + off.toNat) (if wide then 8 else 4) true v [] s)

/-- A write of a greater value raises a rollback floor as a key-store write (R507). -/
def execRollbackRaise (profile : Bool) (v : W32) (s : State) : Out :=
  .next (busCommand 0 (if profile then 0x400084 else 0x400080) 4 true (v.setWidth 64) [] s)

/-- A key-store write ends and KEYWR clears (R506). -/
def execKeystoreWriteDone (bad : Bool) (s : State) : Out :=
  .next (ev (keyWriteDone bad) s)

/-- INSTALL checks the staged licence and installs or rotates a fleet key through its marker word (R510). -/
def execSecInstall (slot : BitVec 2) (s : State) : Out :=
  .next (ctl (rSEC_ROT) (rotGo 1 slot.toNat) s)

/-- RETIRE sets a fleet slot EMPTY (R509). -/
def execSecRetire (slot : BitVec 2) (s : State) : Out :=
  .next (ctl (rSEC_ROT) (rotGo 2 slot.toNat) s)

/-- ROOT installs the staged key bytes as ROOT (R510). -/
def execSecRoot (s : State) : Out :=
  .next (ctl (rSEC_ROT) (rotGo 3 0) s)

/-- The crypto engine hashes the buffer with SHA-256 (R513). -/
def execCeSha256 (ksel : BitVec 4) (s : State) : Out :=
  .next (ctl (rSEC_CE_CTL) (ceStart 1 ksel.toNat) s)

/-- The crypto engine computes HMAC-SHA-256 with the selected key (R513). -/
def execCeHmac (ksel : BitVec 4) (s : State) : Out :=
  .next (ctl (rSEC_CE_CTL) (ceStart 2 ksel.toNat) s)

/-- The crypto engine encrypts the buffer with AES-256-GCM (R513). -/
def execCeGcmEncrypt (ksel : BitVec 4) (s : State) : Out :=
  .next (ctl (rSEC_CE_CTL) (ceStart 3 ksel.toNat) s)

/-- The crypto engine decrypts and checks the buffer with AES-256-GCM (R513). -/
def execCeGcmDecrypt (ksel : BitVec 4) (s : State) : Out :=
  .next (ctl (rSEC_CE_CTL) (ceStart 4 ksel.toNat) s)

/-- The crypto engine verifies an ECDSA P-256 signature (R513). -/
def execCeEcdsaVerify (ksel : BitVec 4) (s : State) : Out :=
  .next (ctl (rSEC_CE_CTL) (ceStart 5 ksel.toNat) s)

/-- The crypto engine fills the buffer from the random source (R513). -/
def execCeRandomFill (ksel : BitVec 4) (s : State) : Out :=
  .next (ctl (rSEC_CE_CTL) (ceStart 6 ksel.toNat) s)

/-- A crypto engine operation ends, writing RESULT and clearing BUSY (R513). -/
def execCeOperationDone (s : State) : Out :=
  .next (ev (ceDone) s)

/-- An entropy health test fails, the source sets RNG_FAIL and restarts (R514). -/
def execRngTestFailure (s : State) : Out :=
  .next (ev (rngFail) s)

/-- The 1 ms start-up test of the random source ends and output resumes (R514). -/
def execRngStartupDone (s : State) : Out :=
  .next (ev (rngStarted) s)

/-- A tamper ball holds its active level for DEB µs and violates, taking its alarm action (R515). -/
def execTamperInput (ball : BitVec 2) (level : Bool) (held : BitVec 32) (s : State) : Out :=
  .next (tamperActive ball.toNat level held.toNat s)

/-- A tamper ball leaves its active level, TLEVEL clears, the VIOL bit may be cleared and the input re-arms so that a later entry violates again (R515). -/
def execTamperInputRelease (ball : BitVec 2) (s : State) : Out :=
  .next (tamperReleased ball.toNat s)

/-- The mesh pattern returns wrong and the shield mesh violates (R515). -/
def execShieldMeshFault (s : State) : Out :=
  .next (meshFault s)

/-- Setting SEC_CTL.LOCK makes the alarm and tamper configuration read-only until chip reset (R516). -/
def execSecLock (s : State) : Out :=
  .next (ctl (rSEC_CTL) (fun t => t.setRb rSEC_CTL SEC_CTL.LOCK true) s)

/-- REOPEN clears DBG_DENY while the licence verdict is valid (R521). -/
def execSecReopen (s : State) : Out :=
  .next (ctl (rSEC_DBG) (reopen) s)

end Sys2Proof.Machine
end

