-- ==== Sys2Proof/Machine/SystemExec.lean ====
section
/-! DEFINITION. The commands of reset, boot, registers, cycles, power, Water table, the Guide's events, the roster, the timers (ch. 0 to 5). -/

namespace Sys2Proof.Machine

open Sys2Proof

/-- The first ramp of VAON releases the power-on reset, which clears the always-on domain including PWR_UPTIME and resets the whole device (R61). -/
def execPowerOnReset (vsel : BitVec 5) (s : State) : Out :=
  .next (powerOn vsel.toNat s)

/-- An nRESET low of at least 1 µs is recognised and holds the device in chip reset while nRESET stays low (R84). -/
def execPinReset (low : Bool) (s : State) : Out :=
  .next (Sys2Proof.Machine.pinReset low s)

/-- A write to RST_CTL with KEY 0xA5C3 and CHIP 1 starts a software chip reset; any other write raises the bad reset key source (R85). -/
def execSoftwareChipReset (v : W32) (s : State) : Out :=
  .next (ctl (rRST_CTL) (rstCtlWrite v) s)

/-- A correctly keyed RST_BLK write places the named block in block reset and returns its registers to their reset values (R86). -/
def execBlockReset (v : W32) (s : State) : Out :=
  .next (ctl (rRST_BLK) (rstBlkWrite v) s)

/-- The block reset hold ends at most 2 µs after it began and the block runs again (R86). -/
def execBlockResetEnd (block : BitVec 6) (s : State) : Out :=
  .next (ev (Sys2Proof.Machine.blockResetEnd block.toNat) s)

/-- Once the event-log FIFO has drained and any nERR wait has passed, within 20 µs of the raise, the Sump starts a chip reset (R491). -/
def execSumpChipReset (s : State) : Out :=
  .next (sumpReset s)

/-- At the end of every reset the boot sequencer runs its ordered sequence from BOOTSEL sampling to the Guide's release (R90). -/
def execBootSequence (bootsel hmode : Bool) (flash : Cells 8) (s : State) : Out :=
  .next (Sys2Proof.Machine.bootSequence bootsel hmode flash s)

/-- The host writes word 0 with FULL and the boot sequencer takes or refuses the chunk (R100). -/
def execHostChunkFull (nn : BitVec 16) (s : State) : Out :=
  .next (ev (fun t => hostPoll (hwnPut 0 (nn ++ 0x0002#16) t)) s)

/-- The host writes word 0 with FULL_LAST and the boot sequencer completes the image, answering DONE or REFUSED (R100). -/
def execHostChunkFullLast (nn : BitVec 16) (s : State) : Out :=
  .next (ev (fun t => hostPoll (hwnPut 0 (nn ++ 0x0012#16) t)) s)

/-- A primary write to a peripheral register with no row of its own stores its fields as their types give, after the width and offset checks (R7). -/
def execRegisterWrite (master : BitVec 3) (addr : W32) (wide : Bool) (v : W64) (s : State) : Out :=
  .next (busCommand master.toNat addr.toNat (if wide then 8 else 4) true v [] s)

/-- A read of a register that holds an RC field returns the value and clears the field in the same access (R7). -/
def execRcRead (master : BitVec 3) (addr : W32) (wide : Bool) (s : State) : Out :=
  .next (busCommand master.toNat addr.toNat (if wide then 8 else 4) false 0 [] s)

/-- A write through the bit-set window performs one atomic read-modify-write of a register (R151). -/
def execRegisterBitSetWrite (addr : W32) (wide : Bool) (v : W64) (s : State) : Out :=
  .next (busCommand 0 (addr.toNat + 0x10000000) (if wide then 8 else 4) true v [] s)

/-- A write through the bit-clear window performs one atomic read-modify-write of a register (R151). -/
def execRegisterBitClearWrite (addr : W32) (wide : Bool) (v : W64) (s : State) : Out :=
  .next (busCommand 0 (addr.toNat + 0x20000000) (if wide then 8 else 4) true v [] s)

/-- A read through an alias window is refused with an error response (R150). -/
def execAliasRead (master : BitVec 3) (addr : W32) (wide : Bool) (s : State) : Out :=
  .next (busCommand master.toNat addr.toNat (if wide then 8 else 4) false 0 [] s)

/-- Datum raises a cycle boundary every T of its timebase and releases that cycle's units (R42). -/
def execCycleBoundary (s : State) : Out :=
  .next (Sys2Proof.Machine.cycleBoundary s)

/-- The mid-cycle instant at T/2 releases the second run of double-rate CLE slots (R42). -/
def execMidCycleInstant (s : State) : Out :=
  .next (midInstant s)

/-- A released unit completes before its deadline tick, publishes its outputs, reports its slack and releases its successors (R48). -/
def execUnitCompletion (monitor : BitVec 6) (s : State) : Out :=
  .next (ev (unitComplete monitor.toNat) s)

/-- A unit's deadline tick arrives before its completion; the unit is stopped, publishes nothing and its monitor records the miss (R49). -/
def execUnitDeadlineMiss (monitor : BitVec 6) (written : BitVec 16) (s : State) : Out :=
  .next (ev (unitDeadline monitor.toNat written.toNat) s)

/-- Firmware requests that the written deadline table be checked and applied at the next boundary (R45). -/
def execDlApply (s : State) : Out :=
  .next (ctl (rDTM_CYC_CTL) (Sys2Proof.Machine.dlApply) s)

/-- A write of MIN_CLR sets MIN_SLACK of a monitor to 0x1_FFFF (R51). -/
def execMinClr (monitor : BitVec 6) (s : State) : Out :=
  .next (if monitor.toNat < 36 then ctl (rDTM_DL_MIN monitor.toNat) (minClear monitor.toNat) s else s)

/-- A write of ON to a domain powers it, waking it from OFF, RETAIN or sleep (R64). -/
def execPwrModeOn (dom : BitVec 8) (s : State) : Out :=
  .next (ctl (rPWR_DOM_CTL dom.toNat) (powerMode dom.toNat 0) s)

/-- A write of AUTO makes a domain wake and sleep around its unit's work in each cycle (R64). -/
def execPwrModeAuto (dom : BitVec 8) (s : State) : Out :=
  .next (ctl (rPWR_DOM_CTL dom.toNat) (powerMode dom.toNat 1) s)

/-- A write of RETAIN holds a memory domain's array at retention level, or is refused for protected domains (R64). -/
def execPwrModeRetain (dom : BitVec 8) (s : State) : Out :=
  .next (ctl (rPWR_DOM_CTL dom.toNat) (powerMode dom.toNat 2) s)

/-- A write of OFF switches a domain off and loses its contents, or is refused for protected domains (R64). -/
def execPwrModeOff (dom : BitVec 8) (s : State) : Out :=
  .next (ctl (rPWR_DOM_CTL dom.toNat) (powerMode dom.toNat 3) s)

/-- Setting HOLD keeps an AUTO domain powered and wakes it if it sleeps; clearing it lets it sleep (R68). -/
def execPwrHoldWrite (dom : BitVec 8) (hold : Bool) (s : State) : Out :=
  .next (ctl (rPWR_DOM_CTL dom.toNat) (powerHold dom.toNat hold) s)

/-- WAKE_LEAD before a release point the power controller switches on the AUTO domains of that release, within the switching limit (R70). -/
def execDomainWake (dom : BitVec 8) (s : State) : Out :=
  .next (ev (leadWake dom.toNat) s)

/-- A waking domain reports ON after its wake and any clearing, letting a waiting unit start (R66). -/
def execDomainWakeComplete (dom : BitVec 8) (s : State) : Out :=
  .next (if dom.toNat < 136 then ev (domainReady dom.toNat) s else s)

/-- A sleep transition ends within 200 ns and any pending mode write then takes effect (R74). -/
def execSleepTransitionEnd (dom : BitVec 8) (s : State) : Out :=
  .next (if dom.toNat < 136 then ev (domainSlept dom.toNat) s else s)

/-- The settle time after an issued code expires and the evaluation window restarts (R79). -/
def execWtbSettleEnd (s : State) : Out :=
  .next (ev (wtbSettled) s)

/-- A write of FLOOR or CEIL is checked, refused or taken, and forces the nearer bound if the current code lies outside (R77). -/
def execWtbBoundWrite (ceil : Bool) (code : BitVec 8) (s : State) : Out :=
  .next (ctl (if ceil then rWTB_CEIL else rWTB_FLOOR) (wtbBound ceil code.toNat) s)

/-- A write of WTB_TARGET makes MANUAL mode issue the clamped code at the next boundary (R78). -/
def execWtbTargetWrite (code : BitVec 8) (s : State) : Out :=
  .next (ctl (rWTB_TARGET) (wtbTarget code.toNat) s)

/-- A write of Water table MODE starts or stops the loop at the next boundary (R76). -/
def execWtbModeWrite (mode : BitVec 2) (s : State) : Out :=
  .next (ctl (rWTB_CTL) (wtbMode mode.toNat) s)

/-- An AVSBus transaction ends, updating WTB_CUR, or after its retries sets AVS_ERR and raises INTEGRITY (R82). -/
def execAvsbusTransactionDone (good : Bool) (s : State) : Out :=
  .next (ev (avsDone good) s)

/-- A Guide load in flight returns its data into the issuing bank and releases any stalled reader (R109). -/
def execGuideLoadComplete (index : BitVec 3) (s : State) : Out :=
  .next (ev (fun t => guideEntryFreed (loadEnds index.toNat false t)) s)

/-- A Guide load draws an error response, writes zero and raises an imprecise LOADERR (R120). -/
def execGuideLoadError (index : BitVec 3) (s : State) : Out :=
  .next (ev (fun t => guideEntryFreed (loadEnds index.toNat true t)) s)

/-- A posted Guide store draws an error response and is recorded in GDE_PERR and GDE_PERR_CNT (R120). -/
def execPostedStoreError (s : State) : Out :=
  .next (ev (fun t => guideEntryFreed (storeErrorEnds t)) s)

/-- After the running bank's loads drain, the Guide saves NEPC and NSTAT and enters BN at VBASE + 0x40 (R122). -/
def execNmiEntry (s : State) : Out :=
  .next (ev (nmiEnter) s)

/-- A primary write of a slot number to GDE_ROSTER_READY readies that slot (R125). -/
def execRosterReady (slot : BitVec 6) (s : State) : Out :=
  .next (ctl (rGDE_ROSTER_READY) (Sys2Proof.Machine.rosterReady slot.toNat) s)

/-- A primary write of a slot number to GDE_ROSTER_CANCEL clears the slot's pending ready (R127). -/
def execRosterCancel (slot : BitVec 6) (s : State) : Out :=
  .next (ctl (rGDE_ROSTER_CANCEL) (Sys2Proof.Machine.rosterCancel slot.toNat) s)

/-- An arbitration window closes at most 20 ns after it opened and resolves its readies and cancels (R572). -/
def execArbitrationWindowClose (s : State) : Out :=
  .next (ev (closeWindow) s)

/-- After the pre-empted bank's loads drain, the roster dispatches the slot with ENTRY, ARG and slot number (R129). -/
def execTaskDispatch (s : State) : Out :=
  .next (ev (Sys2Proof.Machine.taskDispatch) s)

/-- A write to GDE_TASK_CFG_n updates the slot for its next dispatch; clearing EN acts as a cancel (R131). -/
def execTaskCfgWrite (slot : BitVec 6) (v : W32) (s : State) : Out :=
  .next (ctl (rGDE_TASK_CFG slot.toNat) (taskCfg slot.toNat v) s)

/-- A tick finds CNT at or above PERIOD; the timer sets EXP, raises its event and reloads or stops (R134). -/
def execTimerExpiry (timer : BitVec 3) (s : State) : Out :=
  .next (ev (timerExpire timer.toNat) s)

/-- A timer in CAPTURE mode wraps from 0xFFFF_FFFF to 0 and sets OVF (R134). -/
def execTimerWrap (timer : BitVec 3) (s : State) : Out :=
  .next (ev (timerWraps timer.toNat) s)

/-- An accepted edge on the timer's TSIN pin copies CNT into TIM_CAP and raises the timer's event (R136). -/
def execTimerEdgeCapture (timer : BitVec 3) (pin : BitVec 4) (rising : Bool) (held : BitVec 32) (s : State) : Out :=
  .next (ev (timerEdge timer.toNat pin.toNat rising held.toNat) s)

end Sys2Proof.Machine
end

