-- ==== Sys2Proof/Machine/TimeExec.lean ====
section
/-! DEFINITION. The commands of Datum, Cairn and the synthesizers (ch. 15 and 16). -/

namespace Sys2Proof.Machine

open Sys2Proof

/-- The index names one of the three synthesizers (R387). -/
def forSyn (n : BitVec 2) (f : Nat → State → State) (s : State) : State := if n.toNat < 3 then f n.toNat s else s

/-- A configuration of SYNn: the fraction, the divider, then the control register (R388, R389). -/
def synConfigure (ctl : W32) (frac : BitVec 24) (div : W32) (n : Nat) (s : State) : State :=
  let s := regWrite (rSYN_FRAC n) 0 (frac.setWidth 64) s
  regWrite (rSYN_CTL n) 0 (ctl.setWidth 64) (regWrite (rSYN_DIV n) 0 (div.setWidth 64) s)

/-- GO captures DTM_SET_SEC and DTM_SET_NS for loading at the next tick (R351). -/
def execDtmSetGo (s : State) : Out :=
  .next (ctl (rDTM_SET_CTL) (setGo) s)

/-- At the next tick the timebase loads the captured value, clears TIME_VALID and signals Cairn (R351). -/
def execTimebaseSetApply (s : State) : Out :=
  .next (ev (applySet) s)

/-- A write of DTM_STEP adds a signed step pending for the next tick (R351). -/
def execDtmStepWrite (v : W64) (s : State) : Out :=
  .next (ctl (rDTM_STEP) (stepWrite v) s)

/-- At the next tick the summed step is added, TIME_VALID clears and Cairn is signalled (R351). -/
def execTimebaseStepApply (s : State) : Out :=
  .next (ev (applyStep) s)

/-- A write of DTM_ADDEND sets the per-tick advance, clamped to ±1000 ppm (R349). -/
def execDtmAddendWrite (v : W32) (s : State) : Out :=
  .next (ctl (rDTM_ADDEND) (addendWrite v) s)

/-- A read of DTM_TB_NS takes the master's snapshot of the timebase and cycle index (R350). -/
def execDtmTbNsRead (master : BitVec 3) (s : State) : Out :=
  .next (busCommand master.toNat rDTM_TB_NS 8 false 0 [] s)

/-- SET in SOFT mode sets TIME_VALID (R356). -/
def execDtmTvSet (s : State) : Out :=
  .next (ctl (rDTM_TV) (tvWrite true false) s)

/-- CLR in SOFT mode clears TIME_VALID (R356). -/
def execDtmTvClr (s : State) : Out :=
  .next (ctl (rDTM_TV) (tvWrite false true) s)

/-- A write that changes MODE loads I bumplessly, clears TIME_VALID and puts the selector in holdover (R354). -/
def execDtmModeWrite (servo : Bool) (s : State) : Out :=
  .next (ctl (rDTM_CTL) (modeWrite servo) s)

/-- A write of DTM_PTP_OFS gives one PTP-derived offset sample (R354). -/
def execDtmPtpOfsWrite (v : W64) (s : State) : Out :=
  .next (ctl (rDTM_PTP_OFS) (refSample 1 v.toInt) s)

/-- Each second of timebase, the mean of I is stored in the holdover history if the conditions held (R384). -/
def execHoldoverSecond (s : State) : Out :=
  .next (ev (holdSecond) s)

/-- An accepted edge on DTM_PPSI gives a PPS offset sample (R373). -/
def execPpsInputEdge (eighths : BitVec 3) (rising : Bool) (held : BitVec 32) (s : State) : Out :=
  .next (ev (ppsEdge eighths.toNat rising held.toNat) s)

/-- The first accepted DTM_WCLK edge after a boundary gives a WCLK offset sample (R373). -/
def execWclkInputEdge (eighths : BitVec 3) (rising : Bool) (held : BitVec 32) (s : State) : Out :=
  .next (ev (wclkEdge eighths.toNat rising held.toNat) s)

/-- DTM_PPSO rises at its grid value and falls after WIDTH (R386). -/
def execPpsoEdge (s : State) : Out :=
  .next (ev (Sys2Proof.Machine.ppsoEdge) s)

/-- DTM_FRMO rises at its grid value and falls after half its period (R386). -/
def execFrmoEdge (s : State) : Out :=
  .next (ev (Sys2Proof.Machine.frmoEdge) s)

/-- POP removes the oldest PTP timestamp entry (R361). -/
def execPtsPop (s : State) : Out :=
  .next (ctl (rDTM_PTS_CTL) (Sys2Proof.Machine.ptsPop) s)

/-- An accepted TSIN edge is stamped with the interpolated timebase (R365). -/
def execCairnPinEdge (pin : BitVec 4) (eighths : BitVec 3) (rising : Bool) (held : BitVec 32) (s : State) : Out :=
  .next (ev (cairnPin pin.toNat eighths.toNat rising held.toNat) s)

/-- Cairn commits a stamped event as one FIFO entry, or into an overrun record when full (R366). -/
def execCairnCommit (s : State) : Out :=
  .next (ev (Sys2Proof.Machine.cairnCommit) s)

/-- POP removes the oldest Cairn entry, letting a pending overrun record commit (R368). -/
def execCairnPop (s : State) : Out :=
  .next (ctl (rCRN_POP) (Sys2Proof.Machine.cairnPop) s)

/-- FLUSH empties the Cairn FIFO and discards any overrun record (R368). -/
def execCairnFlush (s : State) : Out :=
  .next (ctl (rCRN_POP) (Sys2Proof.Machine.cairnFlush) s)

/-- A write of a synthesizer's EN, NINT or PDIV is checked and starts a relock (R389). -/
def execSynConfigWrite (syn : BitVec 2) (ctl : W32) (frac : BitVec 24) (div : W32) (s : State) : Out :=
  .next (Sys2Proof.Machine.ctl (rSYN_CTL syn.toNat) (forSyn syn (synConfigure ctl frac div)) s)

/-- A synthesizer reaches lock and its outputs run (R389). -/
def execSynLock (syn : BitVec 2) (s : State) : Out :=
  .next (ev (forSyn syn Sys2Proof.Machine.synLock) s)

/-- A synthesizer loses lock, holds its outputs low and raises TIMING (R389). -/
def execSynUnlock (syn : BitVec 2) (s : State) : Out :=
  .next (ev (forSyn syn Sys2Proof.Machine.synUnlock) s)

/-- A write of STEP adds phase steps to PEND, ignored while ALIGN is set (R390). -/
def execSynStepWrite (syn : BitVec 2) (v : BitVec 16) (s : State) : Out :=
  .next (ctl (rSYN_PHASE syn.toNat) (forSyn syn (fun n => synStep n v)) s)

end Sys2Proof.Machine
end

