-- ==== Sys2Proof/Machine/Dispatch.lean ====
section
/-! DEFINITION. One arm a command: its meaning. -/

namespace Sys2Proof.Machine

open Sys2Proof

/-- The effect of a command on everything but the queue. -/
def exec (i : Instr) (s : State) : Host.Outcome State Fault Refusal :=
  match i with
  | .powerOnReset vsel => Sys2Proof.Machine.execPowerOnReset vsel s
  | .pinReset low => Sys2Proof.Machine.execPinReset low s
  | .softwareChipReset v => Sys2Proof.Machine.execSoftwareChipReset v s
  | .blockReset v => Sys2Proof.Machine.execBlockReset v s
  | .blockResetEnd block => Sys2Proof.Machine.execBlockResetEnd block s
  | .sumpChipReset => Sys2Proof.Machine.execSumpChipReset s
  | .bootSequence bootsel hmode flash => Sys2Proof.Machine.execBootSequence bootsel hmode flash s
  | .hostChunkFull nn => Sys2Proof.Machine.execHostChunkFull nn s
  | .hostChunkFullLast nn => Sys2Proof.Machine.execHostChunkFullLast nn s
  | .registerWrite master addr wide v => Sys2Proof.Machine.execRegisterWrite master addr wide v s
  | .rcRead master addr wide => Sys2Proof.Machine.execRcRead master addr wide s
  | .registerBitSetWrite addr wide v => Sys2Proof.Machine.execRegisterBitSetWrite addr wide v s
  | .registerBitClearWrite addr wide v => Sys2Proof.Machine.execRegisterBitClearWrite addr wide v s
  | .aliasRead master addr wide => Sys2Proof.Machine.execAliasRead master addr wide s
  | .cycleBoundary => Sys2Proof.Machine.execCycleBoundary s
  | .midCycleInstant => Sys2Proof.Machine.execMidCycleInstant s
  | .unitCompletion monitor => Sys2Proof.Machine.execUnitCompletion monitor s
  | .unitDeadlineMiss monitor written => Sys2Proof.Machine.execUnitDeadlineMiss monitor written s
  | .dlApply => Sys2Proof.Machine.execDlApply s
  | .minClr monitor => Sys2Proof.Machine.execMinClr monitor s
  | .pwrModeOn dom => Sys2Proof.Machine.execPwrModeOn dom s
  | .pwrModeAuto dom => Sys2Proof.Machine.execPwrModeAuto dom s
  | .pwrModeRetain dom => Sys2Proof.Machine.execPwrModeRetain dom s
  | .pwrModeOff dom => Sys2Proof.Machine.execPwrModeOff dom s
  | .pwrHoldWrite dom hold => Sys2Proof.Machine.execPwrHoldWrite dom hold s
  | .domainWake dom => Sys2Proof.Machine.execDomainWake dom s
  | .domainWakeComplete dom => Sys2Proof.Machine.execDomainWakeComplete dom s
  | .sleepTransitionEnd dom => Sys2Proof.Machine.execSleepTransitionEnd dom s
  | .wtbSettleEnd => Sys2Proof.Machine.execWtbSettleEnd s
  | .wtbBoundWrite ceil code => Sys2Proof.Machine.execWtbBoundWrite ceil code s
  | .wtbTargetWrite code => Sys2Proof.Machine.execWtbTargetWrite code s
  | .wtbModeWrite mode => Sys2Proof.Machine.execWtbModeWrite mode s
  | .avsbusTransactionDone good => Sys2Proof.Machine.execAvsbusTransactionDone good s
  | .gdeAdd gd ga gb => Sys2Proof.Machine.execGdeAdd gd ga gb s
  | .gdeSub gd ga gb => Sys2Proof.Machine.execGdeSub gd ga gb s
  | .gdeAnd gd ga gb => Sys2Proof.Machine.execGdeAnd gd ga gb s
  | .gdeOr gd ga gb => Sys2Proof.Machine.execGdeOr gd ga gb s
  | .gdeXor gd ga gb => Sys2Proof.Machine.execGdeXor gd ga gb s
  | .gdeShl gd ga gb => Sys2Proof.Machine.execGdeShl gd ga gb s
  | .gdeShr gd ga gb => Sys2Proof.Machine.execGdeShr gd ga gb s
  | .gdeSra gd ga gb => Sys2Proof.Machine.execGdeSra gd ga gb s
  | .gdeLts gd ga gb => Sys2Proof.Machine.execGdeLts gd ga gb s
  | .gdeLtu gd ga gb => Sys2Proof.Machine.execGdeLtu gd ga gb s
  | .gdeMul gd ga gb => Sys2Proof.Machine.execGdeMul gd ga gb s
  | .gdeMhs gd ga gb => Sys2Proof.Machine.execGdeMhs gd ga gb s
  | .gdeMhu gd ga gb => Sys2Proof.Machine.execGdeMhu gd ga gb s
  | .gdeDiv gd ga gb => Sys2Proof.Machine.execGdeDiv gd ga gb s
  | .gdeDivu gd ga gb => Sys2Proof.Machine.execGdeDivu gd ga gb s
  | .gdeRem gd ga gb => Sys2Proof.Machine.execGdeRem gd ga gb s
  | .gdeRemu gd ga gb => Sys2Proof.Machine.execGdeRemu gd ga gb s
  | .gdeMin gd ga gb => Sys2Proof.Machine.execGdeMin gd ga gb s
  | .gdeMax gd ga gb => Sys2Proof.Machine.execGdeMax gd ga gb s
  | .gdeClz gd ga gb => Sys2Proof.Machine.execGdeClz gd ga gb s
  | .gdeAddi gd ga imm => Sys2Proof.Machine.execGdeAddi gd ga imm s
  | .gdeLtsi gd ga imm => Sys2Proof.Machine.execGdeLtsi gd ga imm s
  | .gdeLtui gd ga imm => Sys2Proof.Machine.execGdeLtui gd ga imm s
  | .gdeAndi gd ga imm => Sys2Proof.Machine.execGdeAndi gd ga imm s
  | .gdeOri gd ga imm => Sys2Proof.Machine.execGdeOri gd ga imm s
  | .gdeXori gd ga imm => Sys2Proof.Machine.execGdeXori gd ga imm s
  | .gdeShli gd ga imm => Sys2Proof.Machine.execGdeShli gd ga imm s
  | .gdeShri gd ga imm => Sys2Proof.Machine.execGdeShri gd ga imm s
  | .gdeSrai gd ga imm => Sys2Proof.Machine.execGdeSrai gd ga imm s
  | .gdeHimm gd imm => Sys2Proof.Machine.execGdeHimm gd imm s
  | .gdePcadd gd imm => Sys2Proof.Machine.execGdePcadd gd imm s
  | .gdeLdb gd ga imm => Sys2Proof.Machine.execGdeLdb gd ga imm s
  | .gdeLdbu gd ga imm => Sys2Proof.Machine.execGdeLdbu gd ga imm s
  | .gdeLdh gd ga imm => Sys2Proof.Machine.execGdeLdh gd ga imm s
  | .gdeLdhu gd ga imm => Sys2Proof.Machine.execGdeLdhu gd ga imm s
  | .gdeLdw gd ga imm => Sys2Proof.Machine.execGdeLdw gd ga imm s
  | .gdeLdw2 gd ga imm => Sys2Proof.Machine.execGdeLdw2 gd ga imm s
  | .gdeStb gb ga imm => Sys2Proof.Machine.execGdeStb gb ga imm s
  | .gdeSth gb ga imm => Sys2Proof.Machine.execGdeSth gb ga imm s
  | .gdeStw gb ga imm => Sys2Proof.Machine.execGdeStw gb ga imm s
  | .gdeStw2 gb ga imm => Sys2Proof.Machine.execGdeStw2 gb ga imm s
  | .gdeBreq ga gb off => Sys2Proof.Machine.execGdeBreq ga gb off s
  | .gdeBrne ga gb off => Sys2Proof.Machine.execGdeBrne ga gb off s
  | .gdeBrlt ga gb off => Sys2Proof.Machine.execGdeBrlt ga gb off s
  | .gdeBrge ga gb off => Sys2Proof.Machine.execGdeBrge ga gb off s
  | .gdeBrltu ga gb off => Sys2Proof.Machine.execGdeBrltu ga gb off s
  | .gdeBrgeu ga gb off => Sys2Proof.Machine.execGdeBrgeu ga gb off s
  | .gdeJmp off => Sys2Proof.Machine.execGdeJmp off s
  | .gdeCall off => Sys2Proof.Machine.execGdeCall off s
  | .gdeJmpr gd ga imm => Sys2Proof.Machine.execGdeJmpr gd ga imm s
  | .gdeDrain gd ga gb => Sys2Proof.Machine.execGdeDrain gd ga gb s
  | .gdeExret gd ga gb => Sys2Proof.Machine.execGdeExret gd ga gb s
  | .gdeNmiret gd ga gb => Sys2Proof.Machine.execGdeNmiret gd ga gb s
  | .gdeTend gd ga gb => Sys2Proof.Machine.execGdeTend gd ga gb s
  | .gdeWait gd ga gb => Sys2Proof.Machine.execGdeWait gd ga gb s
  | .gdeMfs gd ga num => Sys2Proof.Machine.execGdeMfs gd ga num s
  | .gdeMts gd ga num => Sys2Proof.Machine.execGdeMts gd ga num s
  | .gdeTrap gd ga imm => Sys2Proof.Machine.execGdeTrap gd ga imm s
  | .gdeAddq gd imm => Sys2Proof.Machine.execGdeAddq gd imm s
  | .gdeLdq gd imm => Sys2Proof.Machine.execGdeLdq gd imm s
  | .gdeStq gb imm => Sys2Proof.Machine.execGdeStq gb imm s
  | .gdeBzq ga off => Sys2Proof.Machine.execGdeBzq ga off s
  | .gdeBnzq ga off => Sys2Proof.Machine.execGdeBnzq ga off s
  | .gdeBraq off => Sys2Proof.Machine.execGdeBraq off s
  | .gdeAddrq gd ga => Sys2Proof.Machine.execGdeAddrq gd ga s
  | .gdeSubrq gd ga => Sys2Proof.Machine.execGdeSubrq gd ga s
  | .gdeJrq ga z => Sys2Proof.Machine.execGdeJrq ga z s
  | .gdeJcq ga z => Sys2Proof.Machine.execGdeJcq ga z s
  | .gdeMovq gd z ga => Sys2Proof.Machine.execGdeMovq gd z ga s
  | .gdeLiq gd imm => Sys2Proof.Machine.execGdeLiq gd imm s
  | .gdeShlq gd amt => Sys2Proof.Machine.execGdeShlq gd amt s
  | .gdeShrq gd amt => Sys2Proof.Machine.execGdeShrq gd amt s
  | .guideLoadComplete index => Sys2Proof.Machine.execGuideLoadComplete index s
  | .guideLoadError index => Sys2Proof.Machine.execGuideLoadError index s
  | .postedStoreError => Sys2Proof.Machine.execPostedStoreError s
  | .nmiEntry => Sys2Proof.Machine.execNmiEntry s
  | .rosterReady slot => Sys2Proof.Machine.execRosterReady slot s
  | .rosterCancel slot => Sys2Proof.Machine.execRosterCancel slot s
  | .arbitrationWindowClose => Sys2Proof.Machine.execArbitrationWindowClose s
  | .taskDispatch => Sys2Proof.Machine.execTaskDispatch s
  | .taskCfgWrite slot v => Sys2Proof.Machine.execTaskCfgWrite slot v s
  | .timerExpiry timer => Sys2Proof.Machine.execTimerExpiry timer s
  | .timerWrap timer => Sys2Proof.Machine.execTimerWrap timer s
  | .timerEdgeCapture timer pin rising held => Sys2Proof.Machine.execTimerEdgeCapture timer pin rising held s
  | .cavernRead ident off wide flips => Sys2Proof.Machine.execCavernRead ident off wide flips s
  | .cavernWrite ident off wide v flips => Sys2Proof.Machine.execCavernWrite ident off wide v flips s
  | .cavernBitSetWrite ident off wide v flips => Sys2Proof.Machine.execCavernBitSetWrite ident off wide v flips s
  | .cavernBitClearWrite ident off wide v flips => Sys2Proof.Machine.execCavernBitClearWrite ident off wide v flips s
  | .patrolScrub flips => Sys2Proof.Machine.execPatrolScrub flips s
  | .hostPortAAccess master off bytes write v coll => Sys2Proof.Machine.execHostPortAAccess master off bytes write v coll s
  | .spiRead addr count coll => Sys2Proof.Machine.execSpiRead addr count coll s
  | .spiQread addr count coll => Sys2Proof.Machine.execSpiQread addr count coll s
  | .spiWrite addr words coll => Sys2Proof.Machine.execSpiWrite addr words coll s
  | .spiQwrite addr words coll => Sys2Proof.Machine.execSpiQwrite addr words coll s
  | .spiRdsr => Sys2Proof.Machine.execSpiRdsr s
  | .spiBadCommand code addr => Sys2Proof.Machine.execSpiBadCommand code addr s
  | .spiTransactionEnd => Sys2Proof.Machine.execSpiTransactionEnd s
  | .parallelRead ha coll => Sys2Proof.Machine.execParallelRead ha coll s
  | .parallelWrite ha v coll => Sys2Proof.Machine.execParallelWrite ha v coll s
  | .siphonEnable channel => Sys2Proof.Machine.execSiphonEnable channel s
  | .siphonDisable channel => Sys2Proof.Machine.execSiphonDisable channel s
  | .sphTrig mask => Sys2Proof.Machine.execSphTrig mask s
  | .siphonTrigger channel => Sys2Proof.Machine.execSiphonTrigger channel s
  | .siphonReadReturn channel => Sys2Proof.Machine.execSiphonReadReturn channel s
  | .siphonWriteAck channel => Sys2Proof.Machine.execSiphonWriteAck channel s
  | .bmxTransactionIssue ident addr bytes write v => Sys2Proof.Machine.execBmxTransactionIssue ident addr bytes write v s
  | .bmxTransactionResponse txn => Sys2Proof.Machine.execBmxTransactionResponse txn s
  | .bmxTimeout txn => Sys2Proof.Machine.execBmxTimeout txn s
  | .peakClr master => Sys2Proof.Machine.execPeakClr master s
  | .loaderWrite tile index v => Sys2Proof.Machine.execLoaderWrite tile index v s
  | .loaderCntClr tile => Sys2Proof.Machine.execLoaderCntClr tile s
  | .loaderCrcClr tile => Sys2Proof.Machine.execLoaderCrcClr tile s
  | .chamberCavernLoadReturn tile => Sys2Proof.Machine.execChamberCavernLoadReturn tile s
  | .chmNop tile bundle flip => Sys2Proof.Machine.execChmNop tile bundle flip s
  | .chmAdd tile f co => Sys2Proof.Machine.execChmAdd tile f co s
  | .chmSub tile f co => Sys2Proof.Machine.execChmSub tile f co s
  | .chmMin tile f co => Sys2Proof.Machine.execChmMin tile f co s
  | .chmMax tile f co => Sys2Proof.Machine.execChmMax tile f co s
  | .chmAbs tile f co => Sys2Proof.Machine.execChmAbs tile f co s
  | .chmNeg tile f co => Sys2Proof.Machine.execChmNeg tile f co s
  | .chmMul tile f co => Sys2Proof.Machine.execChmMul tile f co s
  | .chmAnd tile f co => Sys2Proof.Machine.execChmAnd tile f co s
  | .chmOr tile f co => Sys2Proof.Machine.execChmOr tile f co s
  | .chmXor tile f co => Sys2Proof.Machine.execChmXor tile f co s
  | .chmCmp tile f co => Sys2Proof.Machine.execChmCmp tile f co s
  | .chmTst tile f co => Sys2Proof.Machine.execChmTst tile f co s
  | .chmSel tile f co => Sys2Proof.Machine.execChmSel tile f co s
  | .chmShli tile f co => Sys2Proof.Machine.execChmShli tile f co s
  | .chmShri tile f co => Sys2Proof.Machine.execChmShri tile f co s
  | .chmLsri tile f co => Sys2Proof.Machine.execChmLsri tile f co s
  | .chmSha tile f co => Sys2Proof.Machine.execChmSha tile f co s
  | .chmMov tile f co => Sys2Proof.Machine.execChmMov tile f co s
  | .chmMovi tile f co => Sys2Proof.Machine.execChmMovi tile f co s
  | .chmNrm tile f co => Sys2Proof.Machine.execChmNrm tile f co s
  | .chmPack tile f co => Sys2Proof.Machine.execChmPack tile f co s
  | .chmUnpk tile f co => Sys2Proof.Machine.execChmUnpk tile f co s
  | .chmExt tile f co => Sys2Proof.Machine.execChmExt tile f co s
  | .chmExt4 tile f co => Sys2Proof.Machine.execChmExt4 tile f co s
  | .chmAclr tile f co => Sys2Proof.Machine.execChmAclr tile f co s
  | .chmAmov tile f co => Sys2Proof.Machine.execChmAmov tile f co s
  | .chmAadd tile f co => Sys2Proof.Machine.execChmAadd tile f co s
  | .chmAsub tile f co => Sys2Proof.Machine.execChmAsub tile f co s
  | .chmAld tile f co => Sys2Proof.Machine.execChmAld tile f co s
  | .chmAshr tile f co => Sys2Proof.Machine.execChmAshr tile f co s
  | .chmAget tile f co => Sys2Proof.Machine.execChmAget tile f co s
  | .chmAput tile f co => Sys2Proof.Machine.execChmAput tile f co s
  | .chmMset tile f co => Sys2Proof.Machine.execChmMset tile f co s
  | .chmMneg tile f co => Sys2Proof.Machine.execChmMneg tile f co s
  | .chmMacc tile f co => Sys2Proof.Machine.execChmMacc tile f co s
  | .chmMsub tile f co => Sys2Proof.Machine.execChmMsub tile f co s
  | .chmLd tile f co => Sys2Proof.Machine.execChmLd tile f co s
  | .chmSt tile f co => Sys2Proof.Machine.execChmSt tile f co s
  | .chmMtc tile f co => Sys2Proof.Machine.execChmMtc tile f co s
  | .chmMfc tile f co => Sys2Proof.Machine.execChmMfc tile f co s
  | .chmSetcg tile f co => Sys2Proof.Machine.execChmSetcg tile f co s
  | .chmEvget tile f co => Sys2Proof.Machine.execChmEvget tile f co s
  | .chmBr tile f co => Sys2Proof.Machine.execChmBr tile f co s
  | .chmRep tile f co => Sys2Proof.Machine.execChmRep tile f co s
  | .chmRepr tile f co => Sys2Proof.Machine.execChmRepr tile f co s
  | .chmEnd tile f co => Sys2Proof.Machine.execChmEnd tile f co s
  | .chmRot tile f co => Sys2Proof.Machine.execChmRot tile f co s
  | .chmLongMac tile f flip => Sys2Proof.Machine.execChmLongMac tile f flip s
  | .chmLdi tile f flip => Sys2Proof.Machine.execChmLdi tile f flip s
  | .chmCset tile f flip => Sys2Proof.Machine.execChmCset tile f flip s
  | .chmEvqFlush tile => Sys2Proof.Machine.execChmEvqFlush tile s
  | .cflXpDataWrite gain => Sys2Proof.Machine.execCflXpDataWrite gain s
  | .cflMuteWrite input mute => Sys2Proof.Machine.execCflMuteWrite input mute s
  | .flwStage slot => Sys2Proof.Machine.execFlwStage slot s
  | .flwDiscard slot => Sys2Proof.Machine.execFlwDiscard slot s
  | .setCheckDone => Sys2Proof.Machine.execSetCheckDone s
  | .flwLocalCommit slot cyc => Sys2Proof.Machine.execFlwLocalCommit slot cyc s
  | .flwChainCommit slot dest cyc => Sys2Proof.Machine.execFlwChainCommit slot dest cyc s
  | .armingStart => Sys2Proof.Machine.execArmingStart s
  | .armingDone => Sys2Proof.Machine.execArmingDone s
  | .flwSlotBaseWrite slot word => Sys2Proof.Machine.execFlwSlotBaseWrite slot word s
  | .flwMorphBaseWrite word => Sys2Proof.Machine.execFlwMorphBaseWrite word s
  | .sapEnable port => Sys2Proof.Machine.execSapEnable port s
  | .sapDisable port => Sys2Proof.Machine.execSapDisable port s
  | .sapClockArrival port => Sys2Proof.Machine.execSapClockArrival port s
  | .sapLeadEnd port => Sys2Proof.Machine.execSapLeadEnd port s
  | .sapTrailEnd port => Sys2Proof.Machine.execSapTrailEnd port s
  | .sapFrame port di => Sys2Proof.Machine.execSapFrame port di s
  | .sampleGridPoint => Sys2Proof.Machine.execSampleGridPoint s
  | .sapClockLoss port => Sys2Proof.Machine.execSapClockLoss port s
  | .sapRateError port => Sys2Proof.Machine.execSapRateError port s
  | .dmxGo port => Sys2Proof.Machine.execDmxGo port s
  | .dmxSwap port => Sys2Proof.Machine.execDmxSwap port s
  | .dmxBreakStart port => Sys2Proof.Machine.execDmxBreakStart port s
  | .dmxRxFrame port brk mark bytes framingError ago => Sys2Proof.Machine.execDmxRxFrame port brk mark bytes framingError ago s
  | .dmxRdmTimeout port => Sys2Proof.Machine.execDmxRdmTimeout port s
  | .galEnable on => Sys2Proof.Machine.execGalEnable on s
  | .trainSection port eighths sa payload fcs => Sys2Proof.Machine.execTrainSection port eighths sa payload fcs s
  | .blockLate => Sys2Proof.Machine.execBlockLate s
  | .msgCommit dest slot cyc => Sys2Proof.Machine.execMsgCommit dest slot cyc s
  | .msgSetdata dest slot word words => Sys2Proof.Machine.execMsgSetdata dest slot word words s
  | .msgSetend dest slot => Sys2Proof.Machine.execMsgSetend dest slot s
  | .msgAssign mac ident => Sys2Proof.Machine.execMsgAssign mac ident s
  | .msgIdent pos => Sys2Proof.Machine.execMsgIdent pos s
  | .msgUser dest data => Sys2Proof.Machine.execMsgUser dest data s
  | .linkFrameReceive port eighths payload good => Sys2Proof.Machine.execLinkFrameReceive port eighths payload good s
  | .glinkLoss port => Sys2Proof.Machine.execGlinkLoss port s
  | .galRestore => Sys2Proof.Machine.execGalRestore s
  | .storedIdWrite ident => Sys2Proof.Machine.execStoredIdWrite ident s
  | .galTxmsgGo => Sys2Proof.Machine.execGalTxmsgGo s
  | .galRxmsgPop => Sys2Proof.Machine.execGalRxmsgPop s
  | .galSettxGo src dst dest => Sys2Proof.Machine.execGalSettxGo src dst dest s
  | .galMdioGo write phy reg data => Sys2Proof.Machine.execGalMdioGo write phy reg data s
  | .mdioTransactionDone data => Sys2Proof.Machine.execMdioTransactionDone data s
  | .phyStatusChange port up fdx speed => Sys2Proof.Machine.execPhyStatusChange port up fdx speed s
  | .ethFrameReceive port eighths bytes good => Sys2Proof.Machine.execEthFrameReceive port eighths bytes good s
  | .ethFrameTransmit port => Sys2Proof.Machine.execEthFrameTransmit port s
  | .ethTxpoll => Sys2Proof.Machine.execEthTxpoll s
  | .dtmSetGo => Sys2Proof.Machine.execDtmSetGo s
  | .timebaseSetApply => Sys2Proof.Machine.execTimebaseSetApply s
  | .dtmStepWrite v => Sys2Proof.Machine.execDtmStepWrite v s
  | .timebaseStepApply => Sys2Proof.Machine.execTimebaseStepApply s
  | .dtmAddendWrite v => Sys2Proof.Machine.execDtmAddendWrite v s
  | .dtmTbNsRead master => Sys2Proof.Machine.execDtmTbNsRead master s
  | .dtmTvSet => Sys2Proof.Machine.execDtmTvSet s
  | .dtmTvClr => Sys2Proof.Machine.execDtmTvClr s
  | .dtmModeWrite servo => Sys2Proof.Machine.execDtmModeWrite servo s
  | .dtmPtpOfsWrite v => Sys2Proof.Machine.execDtmPtpOfsWrite v s
  | .holdoverSecond => Sys2Proof.Machine.execHoldoverSecond s
  | .ppsInputEdge eighths rising held => Sys2Proof.Machine.execPpsInputEdge eighths rising held s
  | .wclkInputEdge eighths rising held => Sys2Proof.Machine.execWclkInputEdge eighths rising held s
  | .ppsoEdge => Sys2Proof.Machine.execPpsoEdge s
  | .frmoEdge => Sys2Proof.Machine.execFrmoEdge s
  | .ptsPop => Sys2Proof.Machine.execPtsPop s
  | .cairnPinEdge pin eighths rising held => Sys2Proof.Machine.execCairnPinEdge pin eighths rising held s
  | .cairnCommit => Sys2Proof.Machine.execCairnCommit s
  | .cairnPop => Sys2Proof.Machine.execCairnPop s
  | .cairnFlush => Sys2Proof.Machine.execCairnFlush s
  | .synConfigWrite syn ctl frac div => Sys2Proof.Machine.execSynConfigWrite syn ctl frac div s
  | .synLock syn => Sys2Proof.Machine.execSynLock syn s
  | .synUnlock syn => Sys2Proof.Machine.execSynUnlock syn s
  | .synStepWrite syn v => Sys2Proof.Machine.execSynStepWrite syn v s
  | .cleNop w => Sys2Proof.Machine.execCleNop w s
  | .cleEnd f => Sys2Proof.Machine.execCleEnd f s
  | .cleAdd f => Sys2Proof.Machine.execCleAdd f s
  | .cleSub f => Sys2Proof.Machine.execCleSub f s
  | .cleMin f => Sys2Proof.Machine.execCleMin f s
  | .cleMax f => Sys2Proof.Machine.execCleMax f s
  | .cleNeg f => Sys2Proof.Machine.execCleNeg f s
  | .cleMov f => Sys2Proof.Machine.execCleMov f s
  | .cleSel f => Sys2Proof.Machine.execCleSel f s
  | .cleMul f => Sys2Proof.Machine.execCleMul f s
  | .cleMac f => Sys2Proof.Machine.execCleMac f s
  | .cleMsb f => Sys2Proof.Machine.execCleMsb f s
  | .cleMulv f => Sys2Proof.Machine.execCleMulv f s
  | .cleMacv f => Sys2Proof.Machine.execCleMacv f s
  | .cleMsbv f => Sys2Proof.Machine.execCleMsbv f s
  | .cleExt f => Sys2Proof.Machine.execCleExt f s
  | .cleLdacc f => Sys2Proof.Machine.execCleLdacc f s
  | .cleLdk f => Sys2Proof.Machine.execCleLdk f s
  | .cleIn f => Sys2Proof.Machine.execCleIn f s
  | .cleOut f => Sys2Proof.Machine.execCleOut f s
  | .cleLds f => Sys2Proof.Machine.execCleLds f s
  | .cleSts f => Sys2Proof.Machine.execCleSts f s
  | .cleBq f => Sys2Proof.Machine.execCleBq f s
  | .cleSincos f => Sys2Proof.Machine.execCleSincos f s
  | .cleAtan2 f => Sys2Proof.Machine.execCleAtan2 f s
  | .cleClarke f => Sys2Proof.Machine.execCleClarke f s
  | .clePark f => Sys2Proof.Machine.execClePark f s
  | .cleIpark f => Sys2Proof.Machine.execCleIpark f s
  | .cleSvm f => Sys2Proof.Machine.execCleSvm f s
  | .cleInj f => Sys2Proof.Machine.execCleInj f s
  | .cleCap f => Sys2Proof.Machine.execCleCap f s
  | .cleSwapReq mask => Sys2Proof.Machine.execCleSwapReq mask s
  | .cleSwapCmt mask => Sys2Proof.Machine.execCleSwapCmt mask s
  | .cleStateWrite slot word v => Sys2Proof.Machine.execCleStateWrite slot word v s
  | .echoGo => Sys2Proof.Machine.execEchoGo s
  | .echoAbort => Sys2Proof.Machine.execEchoAbort s
  | .pwmReload group => Sys2Proof.Machine.execPwmReload group s
  | .pwmCentre group => Sys2Proof.Machine.execPwmCentre group s
  | .pwmDpWrite output duty period => Sys2Proof.Machine.execPwmDpWrite output duty period s
  | .pwmHoldClear group => Sys2Proof.Machine.execPwmHoldClear group s
  | .pwmEnable group => Sys2Proof.Machine.execPwmEnable group s
  | .pwmDisable group => Sys2Proof.Machine.execPwmDisable group s
  | .lanternDataStart port first lack => Sys2Proof.Machine.execLanternDataStart port first lack s
  | .lanternBlankStart port => Sys2Proof.Machine.execLanternBlankStart port s
  | .ltnFbCommit port base npixm1 => Sys2Proof.Machine.execLtnFbCommit port base npixm1 s
  | .ltnEnable port => Sys2Proof.Machine.execLtnEnable port s
  | .ltnDisable port => Sys2Proof.Machine.execLtnDisable port s
  | .adcRswt adc => Sys2Proof.Machine.execAdcRswt adc s
  | .adcIswt adc => Sys2Proof.Machine.execAdcIswt adc s
  | .adcSamplingStart adc => Sys2Proof.Machine.execAdcSamplingStart adc s
  | .adcConversionEnd adc uv => Sys2Proof.Machine.execAdcConversionEnd adc uv s
  | .adcEnable adc => Sys2Proof.Machine.execAdcEnable adc s
  | .adcReady adc => Sys2Proof.Machine.execAdcReady adc s
  | .adcDisable adc => Sys2Proof.Machine.execAdcDisable adc s
  | .comparatorTrip cmp uv => Sys2Proof.Machine.execComparatorTrip cmp uv s
  | .comparatorRelease cmp uv => Sys2Proof.Machine.execComparatorRelease cmp uv s
  | .gteRelWrite mask => Sys2Proof.Machine.execGteRelWrite mask s
  | .cartPresenceLoss cart => Sys2Proof.Machine.execCartPresenceLoss cart s
  | .cartPresenceSettled cart => Sys2Proof.Machine.execCartPresenceSettled cart s
  | .cartProbe cart element => Sys2Proof.Machine.execCartProbe cart element s
  | .cartReauth cart element => Sys2Proof.Machine.execCartReauth cart element s
  | .cartSample cart tj fails => Sys2Proof.Machine.execCartSample cart tj fails s
  | .cartReprobe cart fails => Sys2Proof.Machine.execCartReprobe cart fails s
  | .cartEnable cart on fails => Sys2Proof.Machine.execCartEnable cart on fails s
  | .twGo ctl => Sys2Proof.Machine.execTwGo ctl s
  | .twTransactionDone ctl nack tmo nbytes bytes => Sys2Proof.Machine.execTwTransactionDone ctl nack tmo nbytes bytes s
  | .smpAck mask => Sys2Proof.Machine.execSmpAck mask s
  | .smpLock => Sys2Proof.Machine.execSmpLock s
  | .logRecordCommit good => Sys2Proof.Machine.execLogRecordCommit good s
  | .logClr => Sys2Proof.Machine.execLogClr s
  | .logClearDone => Sys2Proof.Machine.execLogClearDone s
  | .keystoreWindowWrite master off wide v => Sys2Proof.Machine.execKeystoreWindowWrite master off wide v s
  | .rollbackRaise profile v => Sys2Proof.Machine.execRollbackRaise profile v s
  | .keystoreWriteDone bad => Sys2Proof.Machine.execKeystoreWriteDone bad s
  | .secInstall slot => Sys2Proof.Machine.execSecInstall slot s
  | .secRetire slot => Sys2Proof.Machine.execSecRetire slot s
  | .secRoot => Sys2Proof.Machine.execSecRoot s
  | .ceSha256 ksel => Sys2Proof.Machine.execCeSha256 ksel s
  | .ceHmac ksel => Sys2Proof.Machine.execCeHmac ksel s
  | .ceGcmEncrypt ksel => Sys2Proof.Machine.execCeGcmEncrypt ksel s
  | .ceGcmDecrypt ksel => Sys2Proof.Machine.execCeGcmDecrypt ksel s
  | .ceEcdsaVerify ksel => Sys2Proof.Machine.execCeEcdsaVerify ksel s
  | .ceRandomFill ksel => Sys2Proof.Machine.execCeRandomFill ksel s
  | .ceOperationDone => Sys2Proof.Machine.execCeOperationDone s
  | .rngTestFailure => Sys2Proof.Machine.execRngTestFailure s
  | .rngStartupDone => Sys2Proof.Machine.execRngStartupDone s
  | .tamperInput ball level held => Sys2Proof.Machine.execTamperInput ball level held s
  | .shieldMeshFault => Sys2Proof.Machine.execShieldMeshFault s
  | .secLock => Sys2Proof.Machine.execSecLock s
  | .secReopen => Sys2Proof.Machine.execSecReopen s
  | .tapReset => Sys2Proof.Machine.execTapReset s
  | .jtagIdcode => Sys2Proof.Machine.execJtagIdcode s
  | .jtagBypass => Sys2Proof.Machine.execJtagBypass s
  | .jtagExtest balls shift => Sys2Proof.Machine.execJtagExtest balls shift s
  | .jtagSamplePreload balls shift => Sys2Proof.Machine.execJtagSamplePreload balls shift s
  | .jtagHighz => Sys2Proof.Machine.execJtagHighz s
  | .jtagClamp => Sys2Proof.Machine.execJtagClamp s
  | .jtagChal => Sys2Proof.Machine.execJtagChal s
  | .jtagResp pub sig => Sys2Proof.Machine.execJtagResp pub sig s
  | .debugVerifyDone => Sys2Proof.Machine.execDebugVerifyDone s
  | .dbgHalt => Sys2Proof.Machine.execDbgHalt s
  | .dbgResume => Sys2Proof.Machine.execDbgResume s
  | .dbgStep => Sys2Proof.Machine.execDbgStep s
  | .dbgmemGo dr => Sys2Proof.Machine.execDbgmemGo dr s
  | .gdeIllegalInstruction => Sys2Proof.Machine.execGdeIllegalInstruction s
  | .dmxTxFrameEnd port => Sys2Proof.Machine.execDmxTxFrameEnd port s
  | .tamperInputRelease ball => Sys2Proof.Machine.execTamperInputRelease ball s

end Sys2Proof.Machine
end

