-- ==== Sys2Proof/Safety.lean ====
section
/-! DEFINITION. What a safe run is, and the terms the claims speak in. -/

namespace Sys2Proof.Machine

open Sys2Proof

/-! ### Invariants -/

/-- A step of s goes on. -/
def Runs (s : State) : Prop := ∃ t, step s = .next t

/-- The register store is in its canonical form: addresses strictly rising, each entry different from what an unlisted
address reads as. -/
def regsWf (regs : Cells 64) : Bool := Tab.wf resetValue regs

/-- The memories of the Guide and the Cavern words are in their canonical forms. -/
def memWf (s : State) : Bool :=
  Tab.wf (fun _ => Config.clearedWord 8) s.gde.imem && Tab.wf (fun _ => Config.clearedWord 8) s.gde.dmem &&
    Tab.wf (fun _ => Config.clearedWord 40) s.cav.words

/-- The Guide's banks keep g0 unstored, so that it reads as zero (R106). -/
def zeroReg (s : State) : Prop := ∀ b, tget (bankOf s b).g 0 0 = 0

/-- What can act on a device held in reset: the resets, the boot sequence, the always-on tamper inputs and mesh, the
JTAG port, and an answer to a transaction in flight. -/
def actsInReset (c : Instr) : Bool :=
  match c with
  | .powerOnReset _ | .pinReset _ | .sumpChipReset | .bootSequence _ _ _ | .tamperInput _ _ _ | .tamperInputRelease _
  | .shieldMeshFault | .bmxTransactionResponse _ | .bmxTimeout _
  | .tapReset | .jtagIdcode | .jtagBypass | .jtagExtest _ _ | .jtagSamplePreload _ _ | .jtagHighz | .jtagClamp | .jtagChal
  | .jtagResp _ _ | .debugVerifyDone | .dbgHalt | .dbgResume | .dbgStep | .dbgmemGo _ => true
  | _ => false

/-! ### Firmware's writes and the block's events -/

/-- Firmware's write of the register at address a reaches its block: the Guide has been released and the block is not held
in block reset (R92, R174, R179). -/
def fwReaches (s : State) (a : Nat) : Prop := s.running = true ∧ regHeld s a = false

/-- Every register of the map outside l reads in t as in s. -/
def regsBut (l : List Nat) (s t : State) : Prop := ∀ a, a ∉ l → t.reg a = s.reg a

/-- t is s but for registers of the map within l. -/
def onlyRegs (l : List Nat) (s t : State) : Prop := t = { s with regs := t.regs } ∧ regsBut l s t

/-- t is s but for registers of the map within l and a normal acknowledge. -/
def onlyRegsAck (l : List Nat) (s t : State) : Prop :=
  t = { s with regs := t.regs, resp := ⟨0, 0⟩ } ∧ regsBut l s t

/-- A write of register a has no effect beside its fields, its block not being locked. -/
def storesOnly (s : State) (a : Nat) : Prop :=
  locked s a = false ∧ ∀ op v new u, regAct a op v new u = u.setReg a new

/-- A transaction of identifier ident to address a is issued and answered at once: its master is not held, an entry is
free for it, none of its transactions to that target awaits a response, and no posted store of the Guide waits before it
(R169, R172, R178, R201). -/
def mayAccess (s : State) (ident a : Nat) : Prop :=
  identHeld s ident = false ∧ identFree s ident = true ∧ inOrder s s.mtx.issues ident a = true ∧
    (ident = 0 → s.gde.posts = [])

/-- Master m's entry has been taken and freed, which only PEAK of its BMX_OUT shows (R169). -/
def entryUsed (m : Nat) (s : State) : State := freeEntry m (takeEntry m s)

/-- t is s but for the answer and the registers of the map within l and BMX_OUT of master m, which holds as many entries as
before. -/
def accessed (m : Nat) (l : List Nat) (data : W64) (code : Nat) (s t : State) : Prop :=
  t = { s with regs := t.regs, resp := ⟨data, code⟩ } ∧ regsBut (rBMX_OUT m :: l) s t ∧ outOf t m = outOf s m

/-- The device is out of reset (R83). -/
def awake (s : State) : Prop := s.rst.phase ≠ .inReset

/-- Every output of a Gate-guarded group is low (R473). -/
def groupDark (s : State) (g : Nat) : Prop := ∀ n ∈ pwmOutputs g, pwmHigh s n = []

/-! ### The Guide -/

/-- The Guide executes the instruction of len bytes presented to it, which reads and writes the registers l: it issues, no
load error waits at this boundary, the instruction lies in instruction memory and none of l awaits a load. -/
def guideReady (s : State) (len : Nat) (l : List (BitVec 5)) : Bool :=
  guideIssues s && (bankOf s (curBank s)).loadErr.isNone && decide ((guidePc s).toNat + len ≤ 0x40000) &&
    !l.any (loadPending s)

/-- The registers of the running bank of s with v in register gd; g0 takes nothing (R106). -/
def gWith (s : State) (gd : BitVec 5) (v : W32) : BitVec 5 → W32 :=
  fun r => if r = gd ∧ r ≠ 0 then v else gReg s r

/-- t is s but for the running bank, whose registers read as g says, whose ASTAT is a and whose program counter is pc
with bit 0 cleared: nothing else has changed, neither memory nor a register of the map nor another bank. -/
def guideResult (s t : State) (g : BitVec 5 → W32) (a : BitVec 2) (pc : W32) : Prop :=
  t = { s with gde := { s.gde with banks := t.gde.banks } } ∧
  (∀ c, c ≠ curBank s → bankOf t c = bankOf s c) ∧
  bankOf t (curBank s) =
    { bankOf s (curBank s) with g := (bankOf t (curBank s)).g, astat := a, pc := pc &&& 0xFFFFFFFE#32 } ∧
  ∀ r, gReg t r = g r

/-- ASTAT of the running bank. -/
def curAstat (s : State) : BitVec 2 := (bankOf s (curBank s)).astat

/-- An instruction of len bytes that writes v to gd and does nothing else. -/
def guideSets (i : Instr) (s : State) (len : Nat) (gd : BitVec 5) (v : W32) : Prop :=
  ∃ t, exec i s = .next t ∧ guideResult s t (gWith s gd v) (curAstat s) (guidePc s + BitVec.ofNat 32 len)

/-- The running bank enters its exception handler (R119): EPC, ECAUSE and EADDR are written, EXC is set, the program
counter is VBASE; nothing else has changed. -/
def guideVectors (s t : State) (epc : W32) (cause : W32) (addr : W32) : Prop :=
  t = { s with gde := { s.gde with banks := t.gde.banks } } ∧
  (∀ c, c ≠ curBank s → bankOf t c = bankOf s c) ∧
  bankOf t (curBank s) =
    { bankOf s (curBank s) with epc := epc, ecause := cause, eaddr := addr, exc := true, pc := s.gde.vbase }

/-- Instruction i raises ILLEGAL and does nothing else, in a bank outside BN that is not in a handler (R115, R119). -/
def guideRefuses (i : Instr) (s : State) : Prop :=
  curBank s ≠ 9 → (bankOf s (curBank s)).exc = false →
    ∃ t a, exec i s = .next t ∧ guideVectors s t (guidePc s) 1 a

/-! ### The Chambers -/

/-- The register of Chamber c a bundle's destination names: 0 to 31 d, 32 to 95 the physical q registers, 100 + i the
accumulators, 200 + k control register k (R212, R213). -/
def chmReg (c : Chamber) (k : Nat) : W88 :=
  if k < 32 then (tget c.d 0 k).setWidth 88
  else if k < 96 then (tget c.q 0 (k - 32)).setWidth 88
  else if k < 200 then tget c.a 0 (k - 100)
  else if k < 216 then (tget c.p 0 (k - 200)).setWidth 88
  else if k < 224 then (tget c.m 0 (k - 216)).setWidth 88
  else if k < 232 then (tget c.b 0 (k - 224)).setWidth 88
  else if k < 240 then (tget c.l 0 (k - 232)).setWidth 88
  else BitVec.ofNat 88 c.cg

/-- The names of a Chamber's registers: 96 data registers, 8 accumulators, 41 control registers a bundle writes. -/
def chmName (k : Nat) : Prop := k < 96 ∨ (100 ≤ k ∧ k < 108) ∨ (200 ≤ k ∧ k ≤ 240)

/-- CHMn executes bundle b: its run goes on, the bundle is fetched without an error, is legal, has no loop fault, awaits
no Cavern load and makes no Cavern access. -/
def chmGo (n : Nat) (b : W64) (s : State) : Prop :=
  let c := chmOf s n
  let e := bundleEff c b [] []
  chmRuns s n = true ∧ tget c.pf 0 (8192 * c.act + c.pc) = 0 ∧ formCauses c b e = [] ∧ fetchesPast c e = false ∧
    loopCause c e.seq = 0 ∧ waitsLoad c e = false ∧ farCount e = 0

/-- t is s but for tile n, whose registers named in wr hold the values given there and whose others are as before, whose
condition flags are z, f and o and whose program counter and loop stack are those of nx; the sticky flags named have been
set. -/
def chmAfter (n : Nat) (s t : State) (wr : List (Nat × W88)) (z f o sat wrap aov : Bool) (nx : Nat × List Loop) : Prop :=
  let c := chmOf s n
  let d := chmOf t n
  t = { s with regs := t.regs, chm := t.chm } ∧ (∀ k, k ≠ n → chmOf t k = chmOf s k) ∧
  d = { c with d := d.d, q := d.q, a := d.a, p := d.p, m := d.m, b := d.b, l := d.l, cg := d.cg, z := z, n := f, o := o
               pc := nx.1, stack := nx.2, delayed := false, wants := false } ∧
  (∀ k, chmName k → chmReg d k = ((wr.find? fun w => w.1 == k).map (·.2)).getD (chmReg c k)) ∧
  t.rb (rCHM_FLAGS n) CHM_FLAGS.SAT = (s.rb (rCHM_FLAGS n) CHM_FLAGS.SAT || sat) ∧
  t.rb (rCHM_FLAGS n) CHM_FLAGS.WRAP = (s.rb (rCHM_FLAGS n) CHM_FLAGS.WRAP || wrap) ∧
  t.rb (rCHM_FLAGS n) CHM_FLAGS.AOV = (s.rb (rCHM_FLAGS n) CHM_FLAGS.AOV || aov) ∧
  t.rb (rCHM_FLAGS n) CHM_FLAGS.GERR = s.rb (rCHM_FLAGS n) CHM_FLAGS.GERR ∧
  t.rb (rCHM_FLAGS n) CHM_FLAGS.AFLT = s.rb (rCHM_FLAGS n) CHM_FLAGS.AFLT ∧ regsBut [rCHM_FLAGS n] s t

/-- The bundle after the one at the program counter, and the loop stack: the return at the end of a repeat (R233). -/
def chmNext (c : Chamber) : Nat × List Loop := loopReturn c.pc c.stack

/-- x lies outside the signed range of w bits. -/
def outside (w : Nat) (x : Int) : Bool := decide (x < - 2 ^ (w - 1)) || decide (2 ^ (w - 1) ≤ x)

/-- x in w bits, saturated or wrapped where it lies outside (R192, R194). -/
def narrowed (w : Nat) (sat : Bool) (x : Int) : BitVec w :=
  if sat && decide (x < - 2 ^ (w - 1)) then BitVec.intMin w
  else if sat && decide (2 ^ (w - 1) ≤ x) then BitVec.intMax w
  else BitVec.ofInt w x

/-! ### The Control Law Engine -/

/-- The run of slot n is on the datapath, it issues, and the instruction of OP op with fields f is legal and not the last of
the 64 (R393, R404). -/
def lawGo (op n : Nat) (f : BitVec 26) (s : State) : Prop :=
  awake s ∧ s.cle.cur = some n ∧ cleIssues s n = true ∧ lawCause op f = 0 ∧ (cleOf s n).pc ≠ 63

/-- The number a value word holds in its format's least significant bits: F16 or F32S (R401). -/
def lawNum (h : Bool) (w : W32) : Int := if h then (w.extractLsb' 16 16).toInt else w.toInt

/-- The value word of a result, saturated to its format (R402). -/
def lawWord (h : Bool) (x : Int) : W32 := if h then narrowed 16 true x ++ 0#16 else narrowed 32 true x

/-- The accumulator holding a result, saturated to its format (R402). -/
def lawAcc (h : Bool) (x : Int) : BitVec 64 := if h then (narrowed 40 true x).signExtend 64 else narrowed 64 true x

/-- A result lies outside its format; likewise one for the accumulator. -/
def lawOver (h : Bool) (x : Int) : Bool := outside (if h then 16 else 32) x
def accOver (h : Bool) (x : Int) : Bool := outside (if h then 40 else 64) x

/-- Instruction i of slot n's run writes the results vs to working registers, acc where it is given, and holds the state
words sts pending, each saturated; SAT is set where one did not fit or sat0 says so; it meets k free values. Nothing
else changes but the instruction index. -/
def lawDoes (i : Instr) (n : Nat) (s : State) (vs : List (Nat × Int)) (acc : Option Int) (sts : List (Nat × Int))
    (sat0 : Bool) (k : Nat) : Prop :=
  ∃ t, exec i s = .next t ∧
    let x := cleOf s n
    let h := x.f16
    let y := cleOf t n
    let sat := sat0 || vs.any (fun p => lawOver h p.2) || sts.any (fun p => lawOver h p.2) || acc.any (accOver h)
    t = { s with regs := t.regs, cle := { s.cle with slots := t.cle.slots }, free := s.free + k } ∧
    (∀ m, m ≠ n → cleOf t m = cleOf s m) ∧
    y = { x with v := y.v, pc := x.pc + 1, acc := (acc.map (lawAcc h)).getD x.acc
                 states := x.states ++ sts.map fun p => (p.1, lawWord h p.2) } ∧
    (∀ j, tget y.v 0 j = ((vs.find? fun p => p.1 == j).map fun p => lawWord h p.2).getD (tget x.v 0 j)) ∧
    regsBut [rCLE_SLOT_STAT n] s t ∧
    t.reg (rCLE_SLOT_STAT n) =
      if sat then fput CLE_SLOT_STAT.SAT (s.reg (rCLE_SLOT_STAT n)) 1 else s.reg (rCLE_SLOT_STAT n)

/-- Coefficient j of the run of slot n: its number and, in F32S, the power of two that scales it (R398, R401, R414). -/
def lawCoef (s : State) (n j : Nat) : Int × Int :=
  let x := cleOf s n
  let e := if j < 8 then 8 * s.rf (rCLE_SLOT_STAT n) CLE_SLOT_STAT.REG + j else 56 + j
  let w := fun off => tget s.cle.mem (Config.clearedWord 32) (448 * n + 224 * x.bank + off + e)
  (lawNum x.f16 (w 64), if x.f16 then 0 else ((w 144).extractLsb' 0 5).toInt)

/-- The product of a value and a coefficient in the least significant bits of the accumulator, truncated toward minus
infinity (R402). -/
def lawTerm (h : Bool) (v : Int) (k : Int × Int) : Int := if h then v * k.1 else v * k.1 * 2 ^ (k.2 + 16).toNat / 2 ^ 30

/-! ### The Guide's memories -/

/-- An address of the Guide's own memories (R107). -/
def guideOwn (a : Nat) : Prop := a < 0x40000 ∨ (0x100000 ≤ a ∧ a < 0x120000)

/-- The byte at an address of the Guide's own memories. -/
def guideByte (s : State) (a : Nat) : Byte :=
  if a < 0x40000 then tget s.gde.imem 0 a else tget s.gde.dmem 0 (a - 0x100000)

/-- The little-endian word of the Guide's own memories at address a. -/
def guideWord32 (s : State) (a : Nat) : W32 :=
  guideByte s (a + 3) ++ guideByte s (a + 2) ++ guideByte s (a + 1) ++ guideByte s a

/-- t is s after a store of the n low bytes of v at address a of the Guide's own memories: those bytes hold v, every other
byte is as before, and beside them only the program counter has changed. -/
def guideStored (s t : State) (len n : Nat) (a : Nat) (v : W64) : Prop :=
  t = { s with gde := { s.gde with banks := t.gde.banks, imem := t.gde.imem, dmem := t.gde.dmem } } ∧
  (∀ c, c ≠ curBank s → bankOf t c = bankOf s c) ∧
  bankOf t (curBank s) =
    { bankOf s (curBank s) with pc := (guidePc s + BitVec.ofNat 32 len) &&& 0xFFFFFFFE#32 } ∧
  ∀ x, guideOwn x → guideByte t x =
    if a ≤ x ∧ x < a + n then (v >>> (8 * (x - a))).setWidth 8 else guideByte s x

end Sys2Proof.Machine
end

