-- ==== Sys2Proof/Certificates/Slice0/Obligations.lean ====
section
/-! DEFINITION. The statements about the model, for the provers. -/

open Sys2Proof Sys2Proof.Machine

/-- For every command c, every queue rest r and every state, step at the state with c at the front of its queue and r
behind it is exec of c at the state with the queue r. Rests on 00_scope.md. -/
def Obligations.StepRunsTheFrontCommand : Prop :=
  ∀ (c : Instr) (r : List Instr) (s : State), step { s with pending := c :: r } = exec c { s with pending := r }

/-- State.reset has an empty queue, holds in each register listed (of an array the first and the last instance) the
reset value its chapter gives, and zero in every Guide register of every bank and in ASTAT; the device is in reset.
Rests on 02_cycles_deadlines_and_handshake_timing.md, Registers, 03_power_rails_domains_and_water_table.md, Registers,
04_reset_boot_and_image_loading.md, Registers, 05_guide_core_and_roster.md, Registers,
11_confluence_mixing_routing_and_rate_bridges.md, Registers, 13_serial_audio_ports.md, Registers,
15_datum_timebase_and_cairn_timestamps.md, Registers, 16_datum_references_holdover_and_synthesis.md, Registers,
17_control_law_engine_and_echo.md, Registers, 18_motion_led_and_lantern_outputs.md, Registers,
22_sump_fault_collection_and_event_log.md, Registers, R106. -/
def Obligations.ResetRegisterValues : Prop :=
  State.reset.pending = [] ∧ State.reset.rst.phase = .inReset ∧
    (∀ b r : Nat, tget (bankOf State.reset b).g 0 r = 0 ∧ (bankOf State.reset b).astat = 0) ∧
    ∀ p ∈ ([
      (rDTM_CYC_CTL, 0x2), (rDTM_DL_MIN 0, 0x1FFFF), (rDTM_DL_MIN 35, 0x1FFFF), (rPWR_WAKE_LEAD, 0x1F4),
      (rPWR_MIN_OFF, 0x4E2), (rWTB_CEIL, 0x28), (rWTB_TARGET, 0x28), (rWTB_LOOP, 0x40008), (rWTB_SLACK,
      0x4E204E2), (rWTB_SETTLE, 0xC8), (rWTB_MON_MASK_LO, 0xFFFFFFFF), (rWTB_MON_MASK_HI, 0xF), (rRST_ID,
      0x48961000), (rGDE_STAT, 0x8), (rGDE_ROSTER_CUR, 0x8000), (rMEM_SCRUB, 0xA), (rBMX_CTL, 0x14), (rCFL_DEB,
      0x8), (rCFL_IN 0, 0x40000000), (rCFL_IN 255, 0x40000000), (rCFL_BUS 0, 0x10), (rCFL_BUS 63, 0x10),
      (rCFL_BUS_SCALE 0, 0x80000000), (rCFL_BUS_SCALE 63, 0x80000000), (rSAP_CTL 0, 0x1000000), (rSAP_CTL 7,
      0x1000000), (rDMX_CTL 0, 0x2010000), (rDMX_CTL 1, 0x2010000), (rDMX_TTIM 0, 0xC00B0), (rDMX_TTIM 1,
      0xC00B0), (rDMX_TPER 0, 0x61A8), (rDMX_TPER 1, 0x61A8), (rDMX_RTMO 0, 0xAF0), (rDMX_RTMO 1, 0xAF0),
      (rGAL_ETYPE, 0x88B5), (rGAL_NODE, 0x30), (rGAL_CYC_CTL, 0x88007D0), (rDTM_CTL, 0x2), (rDTM_ADDEND,
      0x40000000), (rDTM_SRV_THR, 0x6403E8), (rDTM_SRV_CNT, 0x104008), (rDTM_SRV_STEP, 0x2710), (rCRN_CYCDIV,
      0x1F40), (rDTM_REF_CTL, 0x190C0100), (rDTM_REF_SLOPE, 0x3E8), (rDTM_REF_IN, 0x10500), (rDTM_REF_STAT, 0x17),
      (rDTM_REF_CFG 0, 0x36400), (rDTM_REF_CFG 1, 0x3E806400), (rDTM_REF_CFG 2, 0x36400), (rDTM_REF_CFG 3,
      0x36400), (rDTM_REF_CFG 4, 0x3E806400), (rDTM_REF_CFG 5, 0x36400), (rDTM_REF_QUAL 0, 0x32001F4),
      (rDTM_REF_QUAL 5, 0x32001F4), (rDTM_PPSO_CTL, 0x186A0), (rDTM_FRMO_CTL, 0x1), (rSYN_CTL 0, 0x620000),
      (rSYN_CTL 2, 0x620000), (rSYN_FRAC 0, 0x4DD2F1), (rSYN_FRAC 2, 0x4DD2F1), (rSYN_DIV 0, 0xC000064), (rSYN_DIV
      2, 0xC000064), (rCLE_SLOT_CFG 0, 0x1D4C), (rCLE_SLOT_CFG 15, 0x1D4C), (rECHO_LEN, 0x12000), (rECHO_PRBS,
      0x10000), (rECHO_SINE, 0x1), (rECHO_SINE2, 0x1), (rPWM_CTL 0, 0x1904000), (rPWM_CTL 15, 0x1904000),
      (rPWM_TRG 0, 0xFA0000), (rPWM_TRG 15, 0xFA0000), (rPWM_DP 0, 0x4E200000000), (rPWM_DP 35, 0x4E200000000),
      (rLTN_BLANK 0, 0x9C4), (rLTN_BLANK 3, 0x9C4), (rADC_RSQ 0 0, 0xA00), (rADC_RSQ 1 3, 0xA00), (rADC_ISQ 0 0,
      0xA00), (rADC_ISQ 1 3, 0xA00), (rADC_THERM, 0x280280), (rGTE_SPK 0, 0x80000000), (rGTE_SPK 3, 0x80000000),
      (rSMP_SRC 0, 0xC0000000), (rSMP_SRC 159, 0xC0000000), (rSEC_ROT_STAT, 0xF), (rDTM_DL_FLW, 0x5DC),
      (rDTM_DL_PRE, 0x30D4), (rDTM_DL_MIX, 0x445C), (rDTM_DL_POST, 0x704E), (rDTM_DL_FREE, 0x7530), (rDTM_DL_BRG,
      0x7530), (rDTM_DL_LIT, 0x6B6C)] : List (Nat × W64)),
      State.reset.reg p.1 = p.2

/-- In State.reset the register store, the Guide's memories and the Cavern words are in their canonical forms, and g0
of every bank reads as zero. Rests on R106, 04_reset_boot_and_image_loading.md, What each reset clears. -/
def Obligations.ResetMeetsTheInvariant : Prop :=
  regsWf State.reset.regs = true ∧ memWf State.reset = true ∧ zeroReg State.reset

/-- From every state whose register store, Guide memories and Cavern words are in canonical form (indices strictly
rising, nothing stored that an unlisted index reads as) and whose g0 reads as zero in every bank, a step that goes on,
whatever the command, leads to such a state again. Rests on R106, 07_bus_matrix_and_address_map.md,
95_what_each_step_holds.md. -/
def Obligations.EveryStepKeepsTheInvariant : Prop :=
  ∀ s t : State, regsWf s.regs = true → memWf s = true → zeroReg s → step s = .next t →
    regsWf t.regs = true ∧ memWf t = true ∧ zeroReg t

/-- Whatever the command and the state, the firmware floor and the profile floor of the state that follows are at
least what they were, OTP is as it was, and the waiting commands are the same. Rests on R507, R505, R96. -/
def Obligations.NoCommandLowersAFloor : Prop :=
  ∀ (c : Instr) (s t : State), exec c s = .next t →
    s.sec.mram.fwFloor.toNat ≤ t.sec.mram.fwFloor.toNat ∧ s.sec.mram.profFloor.toNat ≤ t.sec.mram.profFloor.toNat ∧
      t.sec.otp = s.sec.otp ∧ t.pending = s.pending

/-- For every command and every state exec answers a next state; so does step. With an empty queue step answers the
state after one tick of the timebase counter clock, or the deadline miss, the boundary or the mid-cycle instant that
the tick reaches, or a Sump chip reset that is due; while the device is in reset only the time since power-on passes.
That time passes on an empty queue is the model's choice (log entry 1). Rests on 00_scope.md,
95_what_each_step_holds.md, 15_datum_timebase_and_cairn_timestamps.md, Time scale, R42, R48, R62. -/
def Obligations.EveryStepRunsAndAnEmptyQueueTicks : Prop :=
  (∀ (c : Instr) (s : State), ∃ t, exec c s = .next t) ∧ (∀ s : State, Runs s) ∧
    ∀ s : State, s.pending = [] → step s = .next (idleTick s) ∧ (s.rst.phase = .inReset → step s = .next (upTime 1 s))

/-- While the device is in reset, every command but the resets themselves, the boot sequence, the tamper inputs and
the mesh of the always-on domain, the JTAG port, and an answer to a transaction already in flight leaves the state as
it is. That no other event falls while the device is in reset is the reading of log entry 7. Rests on R83, R92, R104.
-/
def Obligations.DeviceInResetIgnoresItsCommands : Prop :=
  ∀ (c : Instr) (s : State), s.rst.phase = .inReset → actsInReset c = false → exec c s = .next s

/-- In every state in which the Guide executes the presented instruction, add, sub, and, or, xor, shl, shr, sra, lts,
ltu, mul, mhs, mhu, min and max answer a next state in which gd holds the value of R112 (g0 takes nothing), the
program counter has moved on by 4, and every other register of every bank, every register of the map and every byte of
memory is as before. Rests on R112, R106, 05_guide_core_and_roster.md, Instruction encoding. -/
def Obligations.GuideThreeRegisterResults : Prop :=
  ∀ p ∈ ([(.gdeAdd, fun a b => a + b), (.gdeSub, fun a b => a - b), (.gdeAnd, fun a b => a &&& b),
      (.gdeOr, fun a b => a ||| b), (.gdeXor, fun a b => a ^^^ b),
      (.gdeShl, fun a b => a <<< (b.toNat % 32)), (.gdeShr, fun a b => a >>> (b.toNat % 32)),
      (.gdeSra, fun a b => BitVec.ofInt 32 (a.toInt / 2 ^ (b.toNat % 32))),
      (.gdeLts, fun a b => if a.toInt < b.toInt then 1 else 0), (.gdeLtu, fun a b => if a.toNat < b.toNat then 1 else 0),
      (.gdeMul, fun a b => BitVec.ofNat 32 (a.toNat * b.toNat)),
      (.gdeMhs, fun a b => BitVec.ofInt 32 (a.toInt * b.toInt / 2 ^ 32)),
      (.gdeMhu, fun a b => BitVec.ofNat 32 (a.toNat * b.toNat / 2 ^ 32)),
      (.gdeMin, fun a b => if a.toInt ≤ b.toInt then a else b), (.gdeMax, fun a b => if a.toInt ≤ b.toInt then b else a)] :
      List ((BitVec 5 → BitVec 5 → BitVec 5 → Instr) × (W32 → W32 → W32))),
    ∀ (gd ga gb : BitVec 5) (s : State), guideReady s 4 [gd, ga, gb] = true →
      guideSets (p.1 gd ga gb) s 4 gd (p.2 (gReg s ga) (gReg s gb))

/-- In every state in which the Guide executes the instruction, div, divu, rem and remu answer a next state with the
quotient rounded toward zero or the remainder with the dividend's sign in gd; by zero div gives 0x7FFFFFFF or for a
negative dividend 0x80000000, divu 0xFFFFFFFF, rem and remu 0, and DZ is set; div of -2^31 by -1 gives 0x7FFFFFFF, rem
of the same 0, and both set DOV; otherwise ASTAT keeps its bits. Nothing else changes but the program counter. Rests
on R113, R112, 05_guide_core_and_roster.md, Instruction encoding. -/
def Obligations.GuideDivisionResults : Prop :=
  ∀ (gd ga gb : BitVec 5) (s : State), guideReady s 4 [gd, ga, gb] = true →
    let a := gReg s ga
    let b := gReg s gb
    let dz : BitVec 2 := if b = 0 then 1 else 0
    let dov : BitVec 2 := if a = 0x80000000#32 ∧ b = 0xFFFFFFFF#32 then 2 else 0
    let toNext := fun (i : Instr) (v : W32) (st : BitVec 2) =>
      ∃ t, exec i s = .next t ∧ guideResult s t (gWith s gd v) (curAstat s ||| st) (guidePc s + 4)
    toNext (.gdeDiv gd ga gb)
        (if b = 0 then (if a.toInt < 0 then 0x80000000#32 else 0x7FFFFFFF#32)
         else if a = 0x80000000#32 ∧ b = 0xFFFFFFFF#32 then 0x7FFFFFFF#32
         else BitVec.ofInt 32 (a.toInt.tdiv b.toInt)) (dz ||| dov) ∧
      toNext (.gdeDivu gd ga gb) (if b = 0 then 0xFFFFFFFF#32 else BitVec.ofNat 32 (a.toNat / b.toNat)) dz ∧
      toNext (.gdeRem gd ga gb)
        (if b = 0 ∨ (a = 0x80000000#32 ∧ b = 0xFFFFFFFF#32) then 0 else BitVec.ofInt 32 (a.toInt.tmod b.toInt))
        (dz ||| dov) ∧
      toNext (.gdeRemu gd ga gb) (if b = 0 then 0 else BitVec.ofNat 32 (a.toNat % b.toNat)) dz

/-- addi, ltsi and ltui use the sign-extended immediate, andi, ori and xori the zero-extended one, shli, shri and srai
its low five bits where bits 14 to 5 are zero; himm writes imm20 times 2^12, pcadd adds it to the instruction's
address; clz writes the number of leading zeros where gb is zero. Each writes gd, moves the program counter by 4 and
changes nothing else. A shift whose bits 14 to 5 are not zero and a clz whose gb is not zero raise ILLEGAL. addq adds
the sign-extended simm6, addrq and subrq add and subtract ga, movq copies ga where bit 6 is zero, liq loads simm6,
shlq and shrq shift by uimm5: each writes gd, moves the program counter by 2 and changes nothing else. A movq with bit
6 set raises ILLEGAL, and so does an instruction word that the tables do not list. Rests on R112, R111, R115, R106,
R114. -/
def Obligations.GuideImmediateAndShortResults : Prop :=
  (∀ (gd ga gb : BitVec 5) (imm : BitVec 15) (imm20 : BitVec 20) (s : State),
    let a := gReg s ga
    let e : W32 := imm.signExtend 32
    let z : W32 := imm.setWidth 32
    (guideReady s 4 [gd, ga] = true →
      guideSets (.gdeAddi gd ga imm) s 4 gd (a + e) ∧
      guideSets (.gdeLtsi gd ga imm) s 4 gd (if a.toInt < e.toInt then 1 else 0) ∧
      guideSets (.gdeLtui gd ga imm) s 4 gd (if a.toNat < e.toNat then 1 else 0) ∧
      guideSets (.gdeAndi gd ga imm) s 4 gd (a &&& z) ∧
      guideSets (.gdeOri gd ga imm) s 4 gd (a ||| z) ∧
      guideSets (.gdeXori gd ga imm) s 4 gd (a ^^^ z) ∧
      (imm.toNat < 32 →
        guideSets (.gdeShli gd ga imm) s 4 gd (a <<< imm.toNat) ∧
        guideSets (.gdeShri gd ga imm) s 4 gd (a >>> imm.toNat) ∧
        guideSets (.gdeSrai gd ga imm) s 4 gd (BitVec.ofInt 32 (a.toInt / 2 ^ imm.toNat))) ∧
      ∃ n, n ≤ 32 ∧ a.toNat < 2 ^ (32 - n) ∧ (n < 32 → 2 ^ (31 - n) ≤ a.toNat) ∧
        guideSets (.gdeClz gd ga 0) s 4 gd (BitVec.ofNat 32 n)) ∧
    (guideReady s 4 [gd] = true →
      guideSets (.gdeHimm gd imm20) s 4 gd (BitVec.ofNat 32 (imm20.toNat * 4096)) ∧
      guideSets (.gdePcadd gd imm20) s 4 gd (guidePc s + BitVec.ofNat 32 (imm20.toNat * 4096))) ∧
    (guideReady s 4 [] = true →
      (32 ≤ imm.toNat → guideRefuses (.gdeShli gd ga imm) s ∧ guideRefuses (.gdeShri gd ga imm) s ∧
        guideRefuses (.gdeSrai gd ga imm) s) ∧
      (gb ≠ 0 → guideRefuses (.gdeClz gd ga gb) s))) ∧
  (∀ (gd ga amt : BitVec 5) (imm : BitVec 6) (s : State),
    let d := gReg s gd
    let a := gReg s ga
    (guideReady s 2 [gd, ga] = true →
      guideSets (.gdeAddrq gd ga) s 2 gd (d + a) ∧ guideSets (.gdeSubrq gd ga) s 2 gd (d - a) ∧
        guideSets (.gdeMovq gd false ga) s 2 gd a) ∧
    (guideReady s 2 [gd] = true →
      guideSets (.gdeAddq gd imm) s 2 gd (d + imm.signExtend 32) ∧
        guideSets (.gdeLiq gd imm) s 2 gd (imm.signExtend 32) ∧
        guideSets (.gdeShlq gd amt) s 2 gd (d <<< amt.toNat) ∧
        guideSets (.gdeShrq gd amt) s 2 gd (d >>> amt.toNat)) ∧
    (guideReady s 2 [] = true → guideRefuses (.gdeMovq gd true ga) s ∧ guideRefuses .gdeIllegalInstruction s))

/-- The six compare-and-branch instructions and bzq and bnzq go to the branch's own address plus twice the offset
where the comparison holds and to the next instruction where it does not, and write no register; jmp and braq always
go; call and jcq leave the next address in g28 and jmpr in gd (a gd of g0 writes nothing), jmpr and the register jumps
going to the sum with bit 0 cleared. Nothing else changes. jrq and jcq with a non-zero low field raise ILLEGAL. Rests
on R112, R111, R114, R106, R115. -/
def Obligations.GuideBranchesAndJumps : Prop :=
  ∀ (gd ga gb z : BitVec 5) (off : BitVec 15) (off25 : BitVec 25) (off6 : BitVec 6) (off11 : BitVec 11) (s : State),
    let a := gReg s ga
    let b := gReg s gb
    let pc := guidePc s
    let goes := fun (i : Instr) (g : BitVec 5 → W32) (p : W32) =>
      ∃ t, exec i s = .next t ∧ guideResult s t g (curAstat s) p
    let br := fun (i : Instr) (c : Prop) (o : W32) (len : W32) =>
      (c → goes i (gReg s) (pc + o + o)) ∧ (¬ c → goes i (gReg s) (pc + len))
    (guideReady s 4 [ga, gb] = true →
      br (.gdeBreq ga gb off) (a = b) (off.signExtend 32) 4 ∧ br (.gdeBrne ga gb off) (a ≠ b) (off.signExtend 32) 4 ∧
      br (.gdeBrlt ga gb off) (a.toInt < b.toInt) (off.signExtend 32) 4 ∧
      br (.gdeBrge ga gb off) (b.toInt ≤ a.toInt) (off.signExtend 32) 4 ∧
      br (.gdeBrltu ga gb off) (a.toNat < b.toNat) (off.signExtend 32) 4 ∧
      br (.gdeBrgeu ga gb off) (b.toNat ≤ a.toNat) (off.signExtend 32) 4) ∧
    (guideReady s 2 [ga] = true → gReg s 0 = 0 →
      br (.gdeBzq ga off6) (a = 0) (off6.signExtend 32) 2 ∧ br (.gdeBnzq ga off6) (a ≠ 0) (off6.signExtend 32) 2) ∧
    (guideReady s 4 [] = true → goes (.gdeJmp off25) (gReg s) (pc + off25.signExtend 32 + off25.signExtend 32)) ∧
    (guideReady s 2 [] = true → goes (.gdeBraq off11) (gReg s) (pc + off11.signExtend 32 + off11.signExtend 32)) ∧
    (guideReady s 4 [28] = true →
      goes (.gdeCall off25) (gWith s 28 (pc + 4)) (pc + off25.signExtend 32 + off25.signExtend 32)) ∧
    (guideReady s 4 [gd, ga] = true → goes (.gdeJmpr gd ga off) (gWith s gd (pc + 4)) (a + off.signExtend 32)) ∧
    (guideReady s 2 [ga] = true → goes (.gdeJrq ga 0) (gReg s) a) ∧
    (guideReady s 2 [28, ga] = true → goes (.gdeJcq ga 0) (gWith s 28 (pc + 2)) a) ∧
    (guideReady s 2 [] = true → z ≠ 0 → guideRefuses (.gdeJrq ga z) s ∧ guideRefuses (.gdeJcq ga z) s)

/-- For an aligned address in the Guide's own memories, ldb, ldbu, ldh, ldhu, ldw and ldq write the byte, halfword or
word, sign- or zero-extended, to gd, and ldw2 the low word to the even gd and the high word to gd+1; the address is ga
plus the sign-extended immediate, for ldq g29 plus four times uimm6. The program counter moves on; nothing else
changes, no byte of memory. For an aligned address in the Guide's own memories, stb, sth, stw and stq write the low
byte, halfword or word of gb, and stw2 gb and gb+1 for an even gb, at ga plus the sign-extended immediate (stq: g29
plus four times uimm6), low byte at the lowest address. Every other byte of those memories, every register and
everything else is as before; the program counter moves on. In a bank outside BN that is not in a handler, every load
and store whose address is not a multiple of its width enters the handler with EPC the instruction's address, ECAUSE 3
and EADDR the access address, and changes nothing else. ldw2 with an odd or zero gd and stw2 with an odd gb raise
ILLEGAL. Rests on R112, R107, R114, R106, R119, R115. -/
def Obligations.GuideLocalLoadsAndStores : Prop :=
  (∀ (gd ga : BitVec 5) (imm : BitVec 15) (imm6 : BitVec 6) (s : State),
    let a := (gReg s ga + imm.signExtend 32).toNat
    let q := (gReg s 29 + BitVec.ofNat 32 (4 * imm6.toNat)).toNat
    let h := guideByte s (a + 1) ++ guideByte s a
    (guideReady s 4 [gd, ga] = true → guideOwn a →
      guideSets (.gdeLdb gd ga imm) s 4 gd ((guideByte s a).signExtend 32) ∧
      guideSets (.gdeLdbu gd ga imm) s 4 gd ((guideByte s a).setWidth 32) ∧
      (a % 2 = 0 →
        guideSets (.gdeLdh gd ga imm) s 4 gd (h.signExtend 32) ∧ guideSets (.gdeLdhu gd ga imm) s 4 gd (h.setWidth 32)) ∧
      (a % 4 = 0 → guideSets (.gdeLdw gd ga imm) s 4 gd (guideWord32 s a))) ∧
    (guideReady s 2 [gd, 29] = true → guideOwn q → q % 4 = 0 →
      guideSets (.gdeLdq gd imm6) s 2 gd (guideWord32 s q)) ∧
    (guideReady s 4 [gd, gd + 1, ga] = true → guideOwn a → a % 8 = 0 → gd.toNat % 2 = 0 → gd ≠ 0 →
      ∃ t, exec (.gdeLdw2 gd ga imm) s = .next t ∧
        guideResult s t (fun r => if r = gd then guideWord32 s a else if r = gd + 1 then guideWord32 s (a + 4) else gReg s r)
          (curAstat s) (guidePc s + 4))) ∧
  (∀ (gb ga : BitVec 5) (imm : BitVec 15) (imm6 : BitVec 6) (s : State),
    let a := (gReg s ga + imm.signExtend 32).toNat
    let q := (gReg s 29 + BitVec.ofNat 32 (4 * imm6.toNat)).toNat
    let v : W64 := (gReg s gb).setWidth 64
    (guideReady s 4 [gb, ga] = true → guideOwn a →
      (∃ t, exec (.gdeStb gb ga imm) s = .next t ∧ guideStored s t 4 1 a v) ∧
      (a % 2 = 0 → ∃ t, exec (.gdeSth gb ga imm) s = .next t ∧ guideStored s t 4 2 a v) ∧
      (a % 4 = 0 → ∃ t, exec (.gdeStw gb ga imm) s = .next t ∧ guideStored s t 4 4 a v)) ∧
    (guideReady s 2 [gb, 29] = true → guideOwn q → q % 4 = 0 →
      ∃ t, exec (.gdeStq gb imm6) s = .next t ∧ guideStored s t 2 4 q v) ∧
    (guideReady s 4 [gb, gb + 1, ga] = true → guideOwn a → a % 8 = 0 → gb.toNat % 2 = 0 →
      ∃ t, exec (.gdeStw2 gb ga imm) s = .next t ∧ guideStored s t 4 8 a (gReg s (gb + 1) ++ gReg s gb))) ∧
  (∀ (g ga : BitVec 5) (imm : BitVec 15) (imm6 : BitVec 6) (s : State),
    curBank s ≠ 9 → (bankOf s (curBank s)).exc = false →
    let a := gReg s ga + imm.signExtend 32
    let q := gReg s 29 + BitVec.ofNat 32 (4 * imm6.toNat)
    let traps := fun (i : Instr) (x : W32) => ∃ t, exec i s = .next t ∧ guideVectors s t (guidePc s) 3 x
    (guideReady s 4 [g, ga] = true →
      (∀ i ∈ [.gdeLdh g ga imm, .gdeLdhu g ga imm, .gdeSth g ga imm], a.toNat % 2 ≠ 0 → traps i a) ∧
      (∀ i ∈ [.gdeLdw g ga imm, .gdeStw g ga imm], a.toNat % 4 ≠ 0 → traps i a)) ∧
    (guideReady s 2 [g, 29] = true → q.toNat % 4 ≠ 0 → traps (.gdeLdq g imm6) q ∧ traps (.gdeStq g imm6) q) ∧
    (guideReady s 4 [g, g + 1, ga] = true → g.toNat % 2 = 0 → a.toNat % 8 ≠ 0 →
      (g ≠ 0 → traps (.gdeLdw2 g ga imm) a) ∧ traps (.gdeStw2 g ga imm) a) ∧
    (guideReady s 4 [] = true → g.toNat % 2 = 1 →
      guideRefuses (.gdeLdw2 g ga imm) s ∧ guideRefuses (.gdeStw2 g ga imm) s ∧ guideRefuses (.gdeLdw2 0 ga imm) s))

/-- The word of every 32-bit Guide instruction has bit 0 set and decodes to that instruction with the same operands;
the halfword of every 16-bit one has bit 0 clear and does too. Conversely a word or halfword that does not decode to
ILLEGAL is the word of the instruction it decodes to, so no two words share a meaning. Stored low byte first in
instruction memory it is the instruction at its address. Rests on R111, R112, R114, R115, R116,
05_guide_core_and_roster.md, Instruction encoding. -/
def Obligations.GuideEncodingRoundTrip : Prop :=
  (∀ (i : Instr) (w : W32), guideWord i = some w → w.getLsbD 0 = true ∧ decodeWord w = i) ∧
    (∀ (i : Instr) (h : BitVec 16), guideHalf i = some h → h.getLsbD 0 = false ∧ decodeHalf h = i) ∧
    (∀ w : W32, w.getLsbD 0 = true → decodeWord w ≠ .gdeIllegalInstruction → guideWord (decodeWord w) = some w) ∧
    (∀ h : BitVec 16, h.getLsbD 0 = false → decodeHalf h ≠ .gdeIllegalInstruction → guideHalf (decodeHalf h) = some h) ∧
    (∀ (i : Instr) (w : W32) (m : Cells 8) (a : Nat), guideWord i = some w →
      instrAt (wrBytes m a (bytesOf 4 (w.setWidth 64))) a = i) ∧
    ∀ (i : Instr) (h : BitVec 16) (m : Cells 8) (a : Nat), guideHalf i = some h →
      instrAt (wrBytes m a (bytesOf 2 (h.setWidth 64))) a = i

/-- In a bank outside BN that is not in a handler trap writes EPC with its own address, ECAUSE 5 and EADDR its sign-
extended immediate, sets EXC and continues at VBASE. exret clears EXC and continues at EPC with bit 0 cleared. Nothing
else changes. Inside a handler trap clears EXC and raises source 137; where that source resets nothing BB then
restarts at ENTRY and an instance in a task bank ends. In BN trap halts the Guide and raises the source of a fault in
NMI. A trap or exret with a register field that is not zero is ILLEGAL. When the Sump has signalled an NMI to a live
Guide outside BN whose running bank has no load in flight, the entry writes NEPC and NSTAT, makes BN the running bank
and continues at VBASE + 0x40; every register of every bank is as before. nmiret in BN makes the bank in NSTAT the
running bank, which continues at NEPC with bit 0 cleared; where NMI_PEND was set the NMI is signalled again and
NMI_PEND clears, and the roster decides again. Beside these and the fields BANK and NMI_ACT of GDE_STAT nothing
changes. Rests on R119, R121, R112, R115, R122, R123. -/
def Obligations.GuideExceptionAndNmiEntryAndReturn : Prop :=
  (∀ (gd ga gb : BitVec 5) (imm : BitVec 15) (s : State), guideReady s 4 [] = true →
    (curBank s ≠ 9 → (bankOf s (curBank s)).exc = false →
      ∃ t, exec (.gdeTrap 0 0 imm) s = .next t ∧ guideVectors s t (guidePc s) 5 (imm.signExtend 32)) ∧
    (curBank s = 8 → (bankOf s 8).exc = true →
      let u := raise srcDoubleExc (onBank 8 (fun x => { x with exc := false }) s)
      u.held 16 = false → u.running = true →
        exec (.gdeTrap 0 0 imm) s = .next (onBank 8 (fun x => { x with pc := u.rst.entry }) u)) ∧
    (curBank s < 8 → (bankOf s (curBank s)).exc = true →
      let u := raise srcDoubleExc (onBank (curBank s) (fun x => { x with exc := false }) s)
      u.held 16 = false → u.running = true → exec (.gdeTrap 0 0 imm) s = .next (endInstance u)) ∧
    (curBank s = 9 → exec (.gdeTrap 0 0 imm) s = .next (raise srcNmiFault (s.setRb rGDE_STAT GDE_STAT.HALT true))) ∧
    (∃ t, exec (.gdeExret 0 0 0) s = .next t ∧
      t = { s with gde := { s.gde with banks := t.gde.banks } } ∧ (∀ c, c ≠ curBank s → bankOf t c = bankOf s c) ∧
      bankOf t (curBank s) = { bankOf s (curBank s) with
        exc := false, pc := (bankOf s (curBank s)).epc &&& 0xFFFFFFFE#32 }) ∧
    (gd ≠ 0 ∨ ga ≠ 0 → guideRefuses (.gdeTrap gd ga imm) s) ∧
    (gd ≠ 0 ∨ ga ≠ 0 ∨ gb ≠ 0 → guideRefuses (.gdeExret gd ga gb) s)) ∧
  (∀ s : State,
    (awake s → guideLive s = true → s.gde.nmiSignal = true → bankLoads s = false → curBank s ≠ 9 →
      exec .nmiEntry s = .next (({ s with gde := { s.gde with
        nmiSignal := false, nepc := guidePc s, nstat := curBank s, decided := none, waiting := false
        banks := tset s.gde.banks Bank.init 9 { bankOf s 9 with pc := s.gde.vbase + 0x40 } } }.setRf
          rGDE_STAT GDE_STAT.BANK 9).setRf rGDE_STAT GDE_STAT.NMI_ACT 1)) ∧
    (guideReady s 4 [] = true → curBank s = 9 → s.gde.nstat ≤ 8 →
      ∃ t, exec (.gdeNmiret 0 0 0) s = .next t ∧
        t = { s with regs := t.regs, gde := { s.gde with
          banks := tset s.gde.banks Bank.init s.gde.nstat
            { bankOf s s.gde.nstat with pc := s.gde.nepc &&& 0xFFFFFFFE#32 }
          nmiSignal := s.gde.nmiSignal || s.rb rGDE_STAT GDE_STAT.NMI_PEND, decided := t.gde.decided } } ∧
        curBank t = s.gde.nstat ∧ t.rb rGDE_STAT GDE_STAT.NMI_ACT = false ∧ t.rb rGDE_STAT GDE_STAT.NMI_PEND = false ∧
        t.rb rGDE_STAT GDE_STAT.HALT = s.rb rGDE_STAT GDE_STAT.HALT ∧ t.gde.decided = outranks s ∧
        ∀ a, a ≠ rGDE_STAT → t.reg a = s.reg a))

/-- drain moves on by 4 when no load or store of the Guide is in flight and none waits in the store queue, and
otherwise stalls, leaving the state as it is. wait in BB moves on, after which the Guide issues nothing while BB is
the running bank and it waits. tend in BB, wait outside BB and nmiret outside BN raise ILLEGAL, and so does any of the
four with a register field that is not zero. Rests on R108, R130, R122, R115, R112. -/
def Obligations.GuideSystemInstructions : Prop :=
  ∀ (gd ga gb : BitVec 5) (s : State), guideReady s 4 [] = true →
    (s.gde.loads = [] → s.gde.stores = [] → s.gde.posts = [] →
      ∃ t, exec (.gdeDrain 0 0 0) s = .next t ∧ guideResult s t (gReg s) (curAstat s) (guidePc s + 4)) ∧
    (s.gde.loads ≠ [] ∨ s.gde.stores ≠ [] ∨ s.gde.posts ≠ [] → exec (.gdeDrain 0 0 0) s = .next s) ∧
    (curBank s = 8 → ∃ t u, exec (.gdeWait 0 0 0) s = .next t ∧ t = onGde (fun g => { g with waiting := true }) u ∧
      guideResult s u (gReg s) (curAstat s) (guidePc s + 4) ∧ guideIssues t = false) ∧
    (8 ≤ curBank s → guideRefuses (.gdeTend 0 0 0) s) ∧
    (curBank s ≠ 8 → guideRefuses (.gdeWait 0 0 0) s) ∧
    (curBank s ≠ 9 → guideRefuses (.gdeNmiret 0 0 0) s) ∧
    (gd ≠ 0 ∨ ga ≠ 0 ∨ gb ≠ 0 →
      ∀ i ∈ [.gdeDrain gd ga gb, .gdeTend gd ga gb, .gdeWait gd ga gb, .gdeNmiret gd ga gb], guideRefuses i s)

/-- mfs of GSTAT, EPC, ECAUSE, EADDR, VBASE, TASK and ASTAT writes the running bank's value as R117 lays it out, in BN
also NEPC and NSTAT. NEPC and NSTAT outside BN, an unlisted number, a number with bits 13 to 10 set and a ga that is
not zero raise ILLEGAL. Otherwise only gd and the program counter change. mts to EPC and ASTAT writes the running
bank's register, to VBASE an aligned address inside instruction memory, to NEPC in BN; only that register and the
program counter change. A read-only or unlisted number, a gd field other than 31 and set bits 13 to 10 raise ILLEGAL.
Rests on R117, R115, R106, R118. -/
def Obligations.GuideSystemRegisters : Prop :=
  (∀ (gd ga : BitVec 5) (num : BitVec 14) (s : State), guideReady s 4 [gd] = true →
    let b := bankOf s (curBank s)
    let reads := fun (n : Nat) (v : W32) => guideSets (.gdeMfs gd 0 (BitVec.ofNat 14 n)) s 4 gd v
    curBank s ≤ 9 → b.slot < 64 →
    reads 0 (BitVec.ofNat 32 ((if b.exc then 1 else 0) + (if curBank s = 9 then 2 else 0) + 256 * curBank s)) ∧
      reads 1 b.epc ∧ reads 2 b.ecause ∧ reads 3 b.eaddr ∧ reads 6 s.gde.vbase ∧
      reads 7 (if 8 ≤ curBank s then 0x8000 else BitVec.ofNat 32 (256 * curBank s + b.slot)) ∧
      reads 8 (b.astat.setWidth 32) ∧
      (curBank s = 9 → reads 4 s.gde.nepc ∧ reads 5 (BitVec.ofNat 32 s.gde.nstat)) ∧
      (9 ≤ num.toNat ∨ num = 4 ∨ num = 5 ∨ ga ≠ 0 → guideRefuses (.gdeMfs gd ga num) s)) ∧
  (∀ (gd ga : BitVec 5) (num : BitVec 14) (s : State), guideReady s 4 [ga] = true →
    let v := gReg s ga
    let writes := fun (n : Nat) (u : State) => ∃ t, exec (.gdeMts 31 ga (BitVec.ofNat 14 n)) s = .next t ∧
      guideResult u t (gReg s) (curAstat u) (guidePc s + 4)
    writes 1 (onBank (curBank s) (fun b => { b with epc := v }) s) ∧
      writes 8 (onBank (curBank s) (fun b => { b with astat := v.setWidth 2 }) s) ∧
      (v.toNat % 256 = 0 → v.toNat < 0x40000 → writes 6 { s with gde := { s.gde with vbase := v } }) ∧
      (curBank s = 9 → writes 4 { s with gde := { s.gde with nepc := v } }) ∧
      (num = 0 ∨ num = 2 ∨ num = 3 ∨ num = 4 ∨ num = 5 ∨ num = 7 ∨ 9 ≤ num.toNat ∨ gd ≠ 31 →
        guideRefuses (.gdeMts gd ga num) s))

/-- In every state in which the Guide executes it, an mts to VBASE whose value is not 256-byte aligned or lies outside
instruction memory raises the ILLEGAL exception at its own address; VBASE keeps its value, unless the source of a
double exception or of a fault in NMI is set to reset the Guide; and where the exception vectors, in a bank outside BN
that is not in a handler, ECAUSE is 1 and nothing outside the running bank changes. Rests on R118. -/
def Obligations.VbaseIsAlignedAndInsideInstructionMemory : Prop :=
  ∀ (ga : BitVec 5) (s : State), guideReady s 4 [ga] = true →
    (gReg s ga).toNat % 256 ≠ 0 ∨ 0x40000 ≤ (gReg s ga).toNat →
      ∃ t, exec (.gdeMts 31 ga 6) s = .next t ∧ t = takeException 1 (guidePc s) false s ∧
        (t.held 16 = false → t.gde.vbase = s.gde.vbase) ∧
        (curBank s ≠ 9 → (bankOf s (curBank s)).exc = false →
          t.gde.vbase = s.gde.vbase ∧ guideVectors s t (guidePc s) 1 (guidePc s))

/-- When the roster has decided slot n for a live Guide with no NMI signalled and no load of the running bank in
flight, and the slot is still pending above the running instance, its dispatch makes the bank of the slot's priority
the running bank, with the program counter at ENTRY, ARG in g3, n in g4, EXC clear and every other register of the
bank kept; the slot leaves the pending ones and is the running instance. Other banks and all registers but the
roster's and GDE_STAT are as before. Where a write of its PRIO has put the slot no longer above, the roster decides
again. In a task bank tend makes the running instance inactive. Where a pending slot's priority is above that of the
instance it had pre-empted, or there is none, the oldest pending slot of the highest pending priority is dispatched;
otherwise the pre-empted instance's bank, or BB, runs again with its program counter and registers as they were.
Registers of the map other than the roster's and GDE_STAT do not change. Rests on R129, R128, R126, R117, R130, R573.
-/
def Obligations.TasksDispatchAndEnd : Prop :=
  (∀ (s : State) (n : Nat), awake s → guideLive s = true → s.gde.nmiSignal = false → bankLoads s = false →
    s.gde.decided = some n → n < 64 →
    let p := taskPrio s n
    let first := n ∈ s.gde.pend ∧ ∀ x ∈ s.gde.active.head?, x.2 < p
    (¬ first → ∃ t, exec .taskDispatch s = .next t ∧
      t = { s with gde := { s.gde with decided := if curBank s = 9 then none else outranks s } }) ∧
    (first → ∃ t, exec .taskDispatch s = .next t ∧
      t = { s with regs := t.regs, gde := { s.gde with
        banks := t.gde.banks, pend := s.gde.pend.filter (fun m => m != n), active := (n, p) :: s.gde.active
        decided := none, waiting := false } } ∧
      curBank t = p ∧ (∀ c, c ≠ p → bankOf t c = bankOf s c) ∧
      bankOf t p = { bankOf s p with
        g := (bankOf t p).g, pc := (s.reg (rGDE_TASK_ENTRY n)).setWidth 32, exc := false, slot := n } ∧
      (∀ r, tget (bankOf t p).g 0 r = if r = 3 then (s.reg (rGDE_TASK_ARG n)).setWidth 32
        else if r = 4 then BitVec.ofNat 32 n else tget (bankOf s p).g 0 r) ∧
      t.rf rGDE_ROSTER_CUR GDE_ROSTER_CUR.SLOT = n ∧ t.rf rGDE_ROSTER_CUR GDE_ROSTER_CUR.PRIO = p ∧
      t.rf rGDE_ROSTER_CUR GDE_ROSTER_CUR.BG = 0 ∧
      ∀ a, a ∉ [rGDE_STAT, rGDE_ROSTER_PEND_LO, rGDE_ROSTER_PEND_HI, rGDE_ROSTER_ACT_LO, rGDE_ROSTER_ACT_HI,
        rGDE_ROSTER_CUR] → t.reg a = s.reg a)) ∧
  (∀ s : State, guideReady s 4 [] = true → curBank s < 8 →
    let rest := s.gde.active.tail
    let above := fun n => match rest with
      | [] => True
      | (_, p) :: _ => p < taskPrio s n
    ∃ t, exec (.gdeTend 0 0 0) s = .next t ∧
      (∀ n l r, s.gde.pend = l ++ n :: r → (∀ m ∈ l, taskPrio s m < taskPrio s n) → (∀ m ∈ r, taskPrio s m ≤ taskPrio s n) →
        above n → t = dispatch n { s with gde := { s.gde with active := rest, decided := none } } ∧
        t.gde.active = (n, taskPrio s n) :: rest ∧ curBank t = taskPrio s n) ∧
      ((∀ n ∈ s.gde.pend, ¬ above n) →
        t = { s with regs := t.regs, gde := { s.gde with active := rest, decided := none } } ∧
        curBank t = (match rest with
          | [] => 8
          | (_, p) :: _ => p % 16) ∧
        ∀ a, a ∉ [rGDE_STAT, rGDE_ROSTER_PEND_LO, rGDE_ROSTER_PEND_HI, rGDE_ROSTER_ACT_LO, rGDE_ROSTER_ACT_HI,
          rGDE_ROSTER_CUR] → t.reg a = s.reg a))

/-- Firmware's ready of an enabled slot and its cancel of any slot join the window, opening it; a ready of a disabled
slot does nothing. A write of GDE_TASK_CFG_n stores its fields, queues a pending slot whose PRIO changes behind the
others, and acts as a cancel where it clears EN. Nothing else changes; each is acknowledged. At the close of an open
window every cancelled slot leaves the pending ones and its readies are discarded, each counted in RACE; the other
readied slots that were not pending become pending in ascending order, and every further ready of a pending slot
counts in MERGE. Outside BN the roster decides for the oldest pending slot of the highest pending priority where that
is above the running instance's, BB ranking below all. The window is closed and empty; nothing else changes but the
registers that show the roster. Rests on R125, R127, R131, R572, R126, R128. -/
def Obligations.RosterArbitrates : Prop :=
  (∀ (slot : BitVec 6) (v : W32) (s : State),
    let n := slot.toNat
    let cfg := rGDE_TASK_CFG n
    (fwReaches s rGDE_ROSTER_READY →
      exec (.rosterReady slot) s = .next ((if s.rb cfg GDE_TASK_CFG.EN then
        { s with gde := { s.gde with windowOpen := true, readies := s.gde.readies ++ [n] } } else s).answer 0 0)) ∧
    (fwReaches s rGDE_ROSTER_CANCEL →
      exec (.rosterCancel slot) s = .next ({ s with gde := { s.gde with
        windowOpen := true, cancels := s.gde.cancels ++ [n] } }.answer 0 0)) ∧
    (fwReaches s cfg →
      ∃ t, exec (.taskCfgWrite slot v) s = .next t ∧
        t = { s with regs := t.regs, resp := ⟨0, 0⟩, gde := { s.gde with
          pend := t.gde.pend, windowOpen := t.gde.windowOpen, cancels := t.gde.cancels } } ∧
        (∀ a, a ≠ cfg → t.reg a = s.reg a) ∧
        (∀ f ∈ [GDE_TASK_CFG.EN, GDE_TASK_CFG.SRC, GDE_TASK_CFG.PRIO], t.rf cfg f = fget f (v.setWidth 64)) ∧
        t.gde.pend = (if n ∈ s.gde.pend ∧ fget GDE_TASK_CFG.PRIO (v.setWidth 64) ≠ taskPrio s n
          then s.gde.pend.filter (fun m => m != n) ++ [n] else s.gde.pend) ∧
        (if s.rb cfg GDE_TASK_CFG.EN = true ∧ fget GDE_TASK_CFG.EN (v.setWidth 64) = 0
          then t.gde.windowOpen = true ∧ t.gde.cancels = s.gde.cancels ++ [n]
          else t.gde.windowOpen = s.gde.windowOpen ∧ t.gde.cancels = s.gde.cancels))) ∧
  (∀ s : State, awake s → s.gde.windowOpen = true → (∀ n ∈ s.gde.readies, n < 64) →
    let cs := s.gde.cancels
    let rs := s.gde.readies
    let kept := s.gde.pend.filter fun n => !cs.contains n
    let new := (List.range 64).filter fun n => rs.contains n && !cs.contains n && !kept.contains n
    let pend := kept ++ new
    let merged := (rs.filter fun n => !cs.contains n).length - new.length
    let above := fun n => match s.gde.active with
      | [] => True
      | (_, p) :: _ => p < taskPrio s n
    ∃ t, exec .arbitrationWindowClose s = .next t ∧
      t = { s with regs := t.regs, gde := { s.gde with
        windowOpen := false, readies := [], cancels := [], pend := pend, decided := t.gde.decided } } ∧
      t.rf rGDE_ROSTER_RACE ⟨39, 0, .rw⟩ =
        (s.rf rGDE_ROSTER_RACE ⟨39, 0, .rw⟩ + (rs.filter fun n => cs.contains n).length) % 2 ^ 40 ∧
      t.rf rGDE_ROSTER_MERGE ⟨39, 0, .rw⟩ = (s.rf rGDE_ROSTER_MERGE ⟨39, 0, .rw⟩ + merged) % 2 ^ 40 ∧
      (curBank s = 9 → t.gde.decided = none) ∧
      (curBank s ≠ 9 → (∀ n ∈ pend, ¬ above n) → t.gde.decided = none) ∧
      (curBank s ≠ 9 → ∀ n l r, pend = l ++ n :: r → (∀ m ∈ l, taskPrio s m < taskPrio s n) →
        (∀ m ∈ r, taskPrio s m ≤ taskPrio s n) → above n → t.gde.decided = some n) ∧
      ∀ a, a ∉ [rGDE_ROSTER_RACE, rGDE_ROSTER_MERGE, rGDE_ROSTER_PEND_LO, rGDE_ROSTER_PEND_HI, rGDE_ROSTER_ACT_LO,
        rGDE_ROSTER_ACT_HI, rGDE_ROSTER_CUR] → t.reg a = s.reg a)

/-- An aligned word load outside the Guide's own memories takes an entry, moves the program counter on and waits in
flight with what the matrix answers; with 8 loads in flight, without a free entry or behind a posted store it waits,
counted once. An aligned word store there moves the program counter on: with the store queue empty and an entry free
it takes the entry and its target performs it; else it waits in the queue, counted; with 8 stores in the queue the
instruction waits. The completion of a load before which none awaits its target writes the extended value to the
registers of the bank that issued it and frees the entry; its error writes zero, keeps LOADERR for that bank and
reports the error; the oldest posted store whose error may return records its address in PERR, counts it and reports
it. A store that waits in the queue is then issued where an entry is free. Rests on R108, R109, R112, R120, R169,
R170, R172. -/
def Obligations.GuideMatrixAccessesAndTheirEnds : Prop :=
  ∀ (gd ga : BitVec 5) (imm : BitVec 15) (index : BitVec 3) (l : GLoad) (e : GStore) (s : State),
    let a := gReg s ga + imm.signExtend 32
    let i := index.toNat
    let on := setPc (guidePc s + 4) s
    let seq := fun (x : State) => { x with mtx := { x.mtx with issues := x.mtx.issues + 1 } }
    let full := 8 ≤ s.gde.loads.length ∨ identFree s 0 = false ∨ s.gde.posts ≠ []
    let v := (gReg s gd).setWidth 64
    let u := freeEntry 0 { s with gde := { s.gde with loads := s.gde.loads.eraseIdx i } }
    (guideReady s 4 [gd, ga] = true → ¬ guideOwn a.toNat → a.toNat % 4 = 0 →
      (full → s.gde.waits = false →
        exec (.gdeLdw gd ga imm) s =
          .next (({ s with gde := { s.gde with waits := true } }).bumpSat (rBMX_QSTALL 0) BMX_QSTALL.CNT)) ∧
      (full → s.gde.waits = true → exec (.gdeLdw gd ga imm) s = .next s) ∧
      (¬ full →
        let x := routeAccess 0 a.toNat 4 false 0 [] (seq (takeEntry 0 on))
        x.2.running = true → x.2.held 16 = false →
        exec (.gdeLdw gd ga imm) s = .next { x.2 with gde := { x.2.gde with
          waits := false
          loads := x.2.gde.loads ++ [⟨curBank s, gd.toNat, a.toNat, 4, false, x.1.1, x.1.2, s.mtx.issues⟩] } }) ∧
      (s.gde.posts = [] → identFree s 0 = true →
        let x := routeAccess 0 a.toNat 4 true v [] (seq (takeEntry 0 on))
        x.2.running = true → x.2.held 16 = false →
        exec (.gdeStw gd ga imm) s = .next { x.2 with gde := { x.2.gde with
          stores := x.2.gde.stores ++ [⟨a.toNat, x.1.2, true, s.mtx.issues⟩] } }) ∧
      (s.gde.posts ≠ [] ∨ identFree s 0 = false → s.gde.posts.length < 8 →
        exec (.gdeStw gd ga imm) s = .next (({ on with gde := { on.gde with
          posts := s.gde.posts ++ [(⟨a.toNat, 4, v⟩ : GPost)] } }).bumpSat (rBMX_QSTALL 0) BMX_QSTALL.CNT)) ∧
      (8 ≤ s.gde.posts.length → exec (.gdeStw gd ga imm) s = .next s)) ∧
    (awake s → s.gde.loads[i]? = some l → inOrder s l.seq 0 l.addr = true → l.bank < 10 →
      (l.code = 0 → ∃ t, exec (.guideLoadComplete index) s = .next (guideEntryFreed t) ∧
        t = { u with gde := { u.gde with banks := t.gde.banks } } ∧
        (∀ b, b ≠ l.bank → bankOf t b = bankOf s b) ∧
        bankOf t l.bank = { bankOf s l.bank with g := (bankOf t l.bank).g } ∧
        ∀ q, tget (bankOf t l.bank).g 0 q =
          if q ≠ 0 ∧ l.bytes = 8 ∧ q = l.reg + 1 then (l.data >>> 32).setWidth 32
          else if q ≠ 0 ∧ q = l.reg then extendLoad l.bytes l.signed l.data else tget (bankOf s l.bank).g 0 q) ∧
      (l.code ≠ 0 → ∃ t, exec (.guideLoadError index) s = .next (guideEntryFreed (errorResponse 0 l.addr false l.code t)) ∧
        t = { u with gde := { u.gde with banks := t.gde.banks } } ∧
        (∀ b, b ≠ l.bank → bankOf t b = bankOf s b) ∧
        bankOf t l.bank = { bankOf s l.bank with
          g := (bankOf t l.bank).g, loadErr := some (BitVec.ofNat 32 l.addr) } ∧
        ∀ q, tget (bankOf t l.bank).g 0 q =
          if q ≠ 0 ∧ (q = l.reg ∨ (l.bytes = 8 ∧ q = l.reg + 1)) then 0 else tget (bankOf s l.bank).g 0 q)) ∧
    (awake s → s.gde.stores[i]? = some e → e.code ≠ 0 → inOrder s e.seq 0 e.addr = true → e.live = true →
      (∀ x ∈ s.gde.stores.take i, x.code = 0 ∨ inOrder s x.seq 0 x.addr = false) →
      exec .postedStoreError s = .next (guideEntryFreed (errorResponse 0 e.addr true e.code
        (((freeEntry 0 { s with gde := { s.gde with stores := s.gde.stores.eraseIdx i } }).setReg rGDE_PERR
          (BitVec.ofNat 64 e.addr)).bumpSat rGDE_PERR_CNT GDE_PERR_CNT.CNT)))) ∧
    (s.jtag.busy = none → s.txns = [] →
      (s.gde.posts = [] → guideEntryFreed s = s) ∧
      (∀ p, s.gde.posts = [p] → identFree s 0 = true → s.held 16 = false →
        let x := routeAccess 0 p.addr p.bytes true p.data [] (seq (takeEntry 0 { s with gde := { s.gde with posts := [] } }))
        x.2.running = true → x.2.held 16 = false → x.2.txns = [] → x.2.gde.posts = [] →
        guideEntryFreed s = { x.2 with gde := { x.2.gde with
          stores := x.2.gde.stores ++ [⟨p.addr, x.1.2, true, s.mtx.issues⟩] } }))

/-- For a register without an effect of its own, of a block that is neither locked nor held, a write of its width by a
master with a path and a free entry is acknowledged. Primary: RW and RWL fields take the value, W1C bits clear and W1S
bits set where it has ones. Bit-set: RW takes old OR mask, W1C clears, W1S sets. Bit-clear: RW takes old AND NOT mask,
W1C and W1S keep. RO, WO and RC fields, reserved bits, every other register and everything else keep. Rests on R4, R6,
R7, R8, R151, R169. -/
def Obligations.RegisterWriteStoresByFieldType : Prop :=
  ∀ (m : BitVec 3) (addr : W32) (wide : Bool) (v : W64) (s : State) (d : RegDesc),
    let a := addr.toNat
    let w : W64 := if wide then v else v &&& 0xFFFFFFFF#64
    s.running = true → regAt a = some d → d.wide = wide → a < 0x40190000 → storesOnly s a → regHeld s a = false →
    inCeBuf a = false → a ≠ rCFL_XP_DATA →
    let goes := fun (c : Instr) (n : Nat) (rw w1c w1s : W64 → W64) =>
      ∃ t, exec c s = .next t ∧ accessed n [a] 0 0 s t ∧
        (∀ f ∈ d.flds, ∀ k, f.lo ≤ k → k ≤ f.hi → (t.reg a).getLsbD k =
          match f.ty with
          | .rw | .rwl => (rw (s.reg a)).getLsbD k
          | .w1c => (w1c (s.reg a)).getLsbD k
          | .w1s => (w1s (s.reg a)).getLsbD k
          | _ => (s.reg a).getLsbD k) ∧
        ∀ k, (∀ f ∈ d.flds, ¬ (f.lo ≤ k ∧ k ≤ f.hi)) → (t.reg a).getLsbD k = (s.reg a).getLsbD k
    (m.toNat < 2 → mayAccess s (firstIdent m.toNat) a →
      goes (.registerWrite m addr wide v) m.toNat (fun _ => w) (fun o => o &&& ~~~ w) (fun o => o ||| w)) ∧
    (mayAccess s 0 (a + 0x10000000) →
      goes (.registerBitSetWrite addr wide v) 0 (fun o => o ||| w) (fun o => o &&& ~~~ w) (fun o => o ||| w)) ∧
    (mayAccess s 0 (a + 0x20000000) →
      goes (.registerBitClearWrite addr wide v) 0 (fun o => o &&& ~~~ w) (fun o => o) (fun o => o))

/-- For a register whose value no other part of the state shows, a read of its width by a master with a path and a
free entry answers what the register holds, and afterwards its RC fields are zero, its other bits and every other
register as before. Rests on R7, R4. -/
def Obligations.ReadOfAnRcFieldClearsIt : Prop :=
  ∀ (m : BitVec 3) (addr : W32) (s : State) (d : RegDesc),
    let a := addr.toNat
    s.running = true → m.toNat < 2 → mayAccess s (firstIdent m.toNat) a → regAt a = some d → a < 0x40190000 → regHeld s a = false →
    inCeBuf a = false → regView (takeEntry m.toNat s) a = s.reg a → a ∉ [rDTM_TB_NS, rDTM_TB_SEC, rDTM_CYCLE] →
    a ≠ rBMX_OUT m.toNat →
      ∃ t, exec (.rcRead m addr d.wide) s = .next t ∧ accessed m.toNat [a] (s.reg a) 0 s t ∧
        (∀ f ∈ d.flds, ∀ k, f.lo ≤ k → k ≤ f.hi →
          (t.reg a).getLsbD k = (if f.ty = .rc then false else (s.reg a).getLsbD k)) ∧
        ∀ k, (∀ f ∈ d.flds, ¬ (f.lo ≤ k ∧ k ≤ f.hi)) → (t.reg a).getLsbD k = (s.reg a).getLsbD k

/-- For every address of the alias windows of Cavern and of the peripheral registers and every master with a path to
them and a free entry, a read answers a code that is not 0 and no data, 5 where its width and address are those of a
word or register; the state changes only by the matrix's entry and its report of the error, whose source lies in class
BUS. Rests on R150. -/
def Obligations.AliasReadIsNotPerformed : Prop :=
  ∀ (m : BitVec 3) (addr : W32) (wide : Bool) (s : State) (r : Region) (off win : Nat),
    let n := if wide then 8 else 4
    s.running = true → m.toNat < 6 → mayAccess s (firstIdent m.toNat) addr.toNat → regionOf addr.toNat = some (r, off) →
    hasPath m.toNat r false = true → (r = .cavern win ∨ r = .periph win) → win ≠ 0 →
      ∃ code, code ≠ 0 ∧ (off % n = 0 → r = .cavern win → code = 5) ∧
        (∀ d, r = .periph win → regAt (periphBase + off) = some d → d.wide = wide → code = 5) ∧
        classOf srcBusAccess = 7 ∧ errorSource code = some srcBusAccess ∧
        exec (.aliasRead m addr wide) s =
          .next ((errorResponse (firstIdent m.toNat) addr.toNat false code (entryUsed m.toNat s)).answer 0 code)

/-- A 32-bit write by the Guide to an address in no region draws code 1, to an address of the register space that no
register covers code 4. BMX_ERR_CNT counts it; where VALID is clear the address, code, write flag, identifier and
master are logged and VALID set, otherwise OVR is set and the log kept; then the Sump source of the code is raised
with the address in DETAIL. Beside that and the entry nothing changes. An error response to the log writer raises no
source. Rests on R174, R176, R498, R5. -/
def Obligations.ErrorResponseIsCountedLoggedAndReported : Prop :=
  ∀ (addr : W32) (v : W64) (s : State), s.running = true → mayAccess s 0 addr.toNat →
    let a := addr.toNat
    let u := entryUsed 0 s
    (∀ (c w : Nat) (wr : Bool) (x : State),
      ∃ y, errorResponse 49 w wr c x = y ∧ onlyRegs [rBMX_ERR_CNT, rBMX_ERR_ADDR, rBMX_ERR_INFO] x y ∧
        y.rf rBMX_ERR_CNT ⟨39, 0, .rw⟩ = (x.rf rBMX_ERR_CNT ⟨39, 0, .rw⟩ + 1) % 2 ^ 40 ∧
        y.rb rBMX_ERR_INFO BMX_ERR_INFO.VALID = true ∧
        (x.rb rBMX_ERR_INFO BMX_ERR_INFO.VALID = true →
          y.rb rBMX_ERR_INFO BMX_ERR_INFO.OVR = true ∧ y.reg rBMX_ERR_ADDR = x.reg rBMX_ERR_ADDR ∧
          y.rf rBMX_ERR_INFO BMX_ERR_INFO.CODE = x.rf rBMX_ERR_INFO BMX_ERR_INFO.CODE) ∧
        (x.rb rBMX_ERR_INFO BMX_ERR_INFO.VALID = false → w < 2 ^ 32 → c < 16 →
          y.rf rBMX_ERR_ADDR BMX_ERR_ADDR.ADDR = w ∧ y.rf rBMX_ERR_INFO BMX_ERR_INFO.CODE = c ∧
          y.rb rBMX_ERR_INFO BMX_ERR_INFO.WR = wr ∧ y.rf rBMX_ERR_INFO BMX_ERR_INFO.ID = 49 ∧
          y.rf rBMX_ERR_INFO BMX_ERR_INFO.MASTER = 3)) ∧
    (∀ c, (c = 1 ∧ regionOf a = none) ∨ (c = 4 ∧ 0x40000000 ≤ a ∧ a < 0x40190000 ∧ regHit a 4 = .inl 4) →
      exec (.registerWrite 0 addr false v) s = .next ((errorResponse 0 a true c u).answer 0 c))

/-- For a word with no flipped bit in a powered half and a transaction with a free entry: a 64-bit read answers the 40
bits sign-extended, a 32-bit one bits 31 to 0, or bits 39 to 32 sign-extended; a write stores the bits its width
covers, bit-set ORs and bit-clear clears the mask's; every other word is as before. A misaligned access draws 3, a
write to the event log 5, an access to an unpowered half 6, a write by master 5 and an alias write by a master other
than 0 and 3 draw 2; no word then changes. Rests on R139, R149, R145, R148, R67, R174, R169. -/
def Obligations.CavernAccesses : Prop :=
  ∀ (ident : BitVec 6) (off : BitVec 23) (wide : Bool) (v : W64) (s : State),
    let m := masterOf ident.toNat
    let w := off.toNat / 8
    let n := if wide then 8 else 4
    let o := tget s.cav.words 0 w
    let x := o.signExtend 64
    let lane : W40 := if wide then 0xFFFFFFFFFF#40 else if off.toNat % 8 = 0 then 0xFFFFFFFF#40 else 0xFF00000000#40
    let val : W40 := lane &&& (if wide ∨ off.toNat % 8 = 0 then v.setWidth 40 else v.setWidth 40 <<< 32)
    let a := fun win => 0x10000000 + 0x1000000 * win + off.toNat
    let stores := fun (c : Instr) (y : W40) => ∃ t, exec c s = .next t ∧
      t = { s with regs := t.regs, resp := ⟨0, 0⟩, cav := t.cav } ∧ regsBut [rBMX_OUT m] s t ∧ outOf t m = outOf s m ∧
      ∀ k, tget t.cav.words 0 k = (if k = w then y else tget s.cav.words 0 k) ∧ tget t.cav.flips 0 k = tget s.cav.flips 0 k
    let fails := fun (c : Instr) (win : Nat) (wr : Bool) (code : Nat) => ∃ u, exec c s = .next
        ((errorResponse ident.toNat (a win) wr code u).answer 0 code) ∧
      u = { s with regs := u.regs, cav := u.cav } ∧ regsBut [rBMX_OUT m] s u ∧
      ∀ k, tget u.cav.words 0 k = tget s.cav.words 0 k ∧ tget u.cav.flips 0 k = tget s.cav.flips 0 k
    let rd := Instr.cavernRead ident off wide 0
    let wr := Instr.cavernWrite ident off wide v 0
    s.running = true → ident.toNat < 60 → (∀ win, win < 3 → mayAccess s ident.toNat (a win)) → tget s.cav.flips 0 w = 0 →
    (off.toNat % n ≠ 0 → fails rd 0 false 3 ∧ (m ≠ 5 → fails wr 0 true 3)) ∧
    (m = 5 → fails wr 0 true 2) ∧
    (m ≠ 0 → m ≠ 3 → fails (.cavernBitSetWrite ident off wide v 0) 1 true 2 ∧
      fails (.cavernBitClearWrite ident off wide v 0) 2 true 2) ∧
    (off.toNat % n = 0 →
      (s.domOn (cavDomain w) = false → fails rd 0 false 6) ∧
      (m ≠ 5 → 1044480 ≤ w → fails wr 0 true 5) ∧
      (s.domOn (cavDomain w) = true →
        (∃ t, exec rd s = .next t ∧ t = { s with regs := t.regs, cav := t.cav, resp :=
            ⟨if wide then x else if off.toNat % 8 = 0 then x &&& 0xFFFFFFFF#64 else x >>> 32, 0⟩ } ∧
          regsBut [rBMX_OUT m] s t ∧ outOf t m = outOf s m ∧
          ∀ k, tget t.cav.words 0 k = tget s.cav.words 0 k ∧ tget t.cav.flips 0 k = tget s.cav.flips 0 k) ∧
        (m ≠ 5 → w < 1044480 → stores wr ((o &&& ~~~ lane) ||| val)) ∧
        (m = 0 ∨ m = 3 → w < 1044480 → stores (.cavernBitSetWrite ident off wide v 0) (o ||| val) ∧
          stores (.cavernBitClearWrite ident off wide v 0) (o &&& ~~~ val))))

/-- When one bit of a powered word has flipped, a read of it answers the stored word, writes it back without the flip,
counts it in CE_CNT, sets CE, records the word and raises the correctable-error source; with two flipped bits it
answers code 8, the word keeps, UE_CNT counts, UE is set, the word is recorded and the uncorrectable-error source
raised. The patrol scrubber reads the word at its position in the same way and advances to the next; with SCRUB_EN
clear it does nothing. Rests on R144, R145, R147. -/
def Obligations.CavernErrorsAreCorrectedOrReported : Prop :=
  ∀ (off : BitVec 23) (flips : BitVec 48) (s : State),
    let w := off.toNat / 8
    let n := onesBelow flips 48
    let raised := fun (ue : Bool) (z : State) =>
      if ue then raiseD srcCavernUe (BitVec.ofNat 32 w) (((z.bumpWrap rMEM_UE_CNT).setRf rMEM_STAT MEM_STAT.UE 1).setRf
        rMEM_UE_ADDR MEM_UE_ADDR.WORD w)
      else raiseD srcCavernCe (BitVec.ofNat 32 w) (((z.bumpWrap rMEM_CE_CNT).setRf rMEM_STAT MEM_STAT.CE 1).setRf
        rMEM_CE_ADDR MEM_CE_ADDR.WORD w)
    let healed := fun (z : State) => { z with cav := {
      words := tset s.cav.words 0 w (tget s.cav.words 0 w), flips := tdel (tset s.cav.flips 0 w flips) w } }
    let bad := fun (z : State) => { z with cav := { s.cav with flips := tset s.cav.flips 0 w flips } }
    tget s.cav.flips 0 w = 0 → s.domOn (cavDomain w) = true → off.toNat % 8 = 0 →
    (s.running = true → mayAccess s 0 (0x10000000 + off.toNat) →
      (n = 1 → exec (.cavernRead 0 off true flips) s = .next ((freeEntry 0 (raised false (healed (takeEntry 0 s)))).answer
        ((tget s.cav.words 0 w).signExtend 64) 0)) ∧
      (n = 2 → exec (.cavernRead 0 off true flips) s = .next ((errorResponse 0 (0x10000000 + off.toNat) false 8
        (freeEntry 0 (raised true (bad (takeEntry 0 s))))).answer 0 8))) ∧
    (awake s → s.rf rMEM_SCRUB_POS MEM_SCRUB_POS.WORD = w →
      (s.rb rMEM_CTL MEM_CTL.SCRUB_EN = true →
        let next := fun (z : State) => .next (z.setRf rMEM_SCRUB_POS MEM_SCRUB_POS.WORD ((w + 1) % 1048576))
        (n = 0 → exec (.patrolScrub flips) s = next (bad s)) ∧
        (n = 1 → exec (.patrolScrub flips) s = next (raised false (healed s))) ∧
        (n = 2 → exec (.patrolScrub flips) s = next (raised true (bad s)))) ∧
      (s.rb rMEM_CTL MEM_CTL.SCRUB_EN = false → exec (.patrolScrub flips) s = .next (bad s)))

/-- A recognised nRESET low, a keyed RST_CTL write with CHIP set and the Sump's chip reset leave the device in reset
with the cause and source recorded: every register outside the always-on domain at its reset value, the always-on ones
kept, memories cleared but the event-log words, key store and OTP kept. nRESET high only shows the level. Any other
RST_CTL write raises the bad-key source. The Sump's chip reset starts once every record is committed and nERR, where
the source drives it, has been low for 10 µs, or 20 µs after the raise; before that nothing happens. The power-on
reset also clears the always-on domain, takes the alarm configuration from OTP and samples the regulator strap. Rests
on R61, R83, R84, R85, R87, R105, R491, R516. -/
def Obligations.ResetsStartTheDeviceAgain : Prop :=
  ∀ (v : W32) (vsel : BitVec 5) (n : Nat) (s : State),
    let keeps := fun (x : State) (t : State) => t = { State.reset with
      pending := s.pending, free := s.free, resp := x.resp, regs := t.regs
      rst := { State.reset.rst with pinLow := x.rst.pinLow, upTicks := s.rst.upTicks }, cav := t.cav
      sec := { State.reset.sec with
        otp := s.sec.otp, mram := s.sec.mram, eraseMark := s.sec.eraseMark, debDown := s.sec.debDown
        lastFail := s.sec.lastFail, lateAlarm := s.sec.lateAlarm } }
    let chip := fun (cause src : Nat) (x t : State) => keeps x t ∧
      t.rf rRST_CAUSE RST_CAUSE.CAUSE = cause ∧ t.rf rRST_CAUSE RST_CAUSE.SRC = src ∧
      (∀ a, a ≠ rRST_CAUSE →
        t.reg a = (if ∃ r ∈ alwaysOnRegs, r.1 ≤ a ∧ a ≤ r.2 then s.reg a else resetValue a)) ∧
      ∀ w, tget t.cav.words 0 w = (if 1044480 ≤ w then tget s.cav.words 0 w else 0)
    (s.rst.pinLow = false → ∃ t, exec (.pinReset true) s = .next t ∧
      chip 1 0 { s with rst := { s.rst with pinLow := true } } t) ∧
    (s.rst.pinLow = true → exec (.pinReset true) s = .next s) ∧
    exec (.pinReset false) s = .next { s with rst := { s.rst with pinLow := false } } ∧
    (s.running = true →
      ((v >>> 16) = 0xA5C3 → v.getLsbD 0 = true →
        ∃ t, exec (.softwareChipReset v) s = .next t ∧ chip 2 0 { s with resp := ⟨0, 0⟩ } t) ∧
      ((v >>> 16) ≠ 0xA5C3 ∨ v.getLsbD 0 = false →
        exec (.softwareChipReset v) s = .next ((raise srcBadKey s).answer 0 0))) ∧
    (∀ tk, n < 256 → s.smp.chipWait = some (n, tk) →
      let due := (s.smp.fifo = [] ∧ s.smp.lost = none ∧
          (s.rb (rSMP_SRC n) SMP_SRC.NERR = true → nErrLow s = true ∧ s.smp.nerrAt + 2500 ≤ s.dtm.ticks)) ∨
        tk + 5000 ≤ s.dtm.ticks
      (due → ∃ t, exec .sumpChipReset s = .next t ∧ chip 3 n s t) ∧ (¬ due → exec .sumpChipReset s = .next s)) ∧
    (s.smp.chipWait = none → exec .sumpChipReset s = .next s) ∧
    ∃ t, exec (.powerOnReset vsel) s = .next t ∧
      t = { State.reset with
        pending := s.pending, free := s.free, resp := s.resp, regs := t.regs
        rst := { State.reset.rst with pinLow := s.rst.pinLow }
        sec := { State.reset.sec with otp := s.sec.otp, mram := s.sec.mram, eraseMark := s.sec.eraseMark } } ∧
      t.rf rPWR_STAT PWR_STAT.VSEL = vsel.toNat ∧
      (∀ a, a ≠ rPWR_STAT → (∀ p ∈ s.sec.otp.almDefault, p.1 ≠ a) → t.reg a = resetValue a) ∧
      (s.sec.otp.almDefault.Pairwise (fun p q => p.1 ≠ q.1) →
        ∀ p ∈ s.sec.otp.almDefault, p.1 ≠ rPWR_STAT → t.reg p.1 = p.2)

/-- With the key and a block index below 36 the write holds the block: its bit of RST_BLK_STAT is set and each of its
registers reads its reset value, but for what belongs to the Gate or to production: the comparator settings and levels
and the production codes of the converters, the cartridge maps, HMODE of the host window. The block's own state is
that of a reset, but for its memories: a Chamber's, the CLE's and the Echo buffer, the Guide's, the host array;
transactions in flight are kept so that their responses are discarded, those that wait for an entry are dropped, and a
debug access that waits at the Guide completes with code 7. A run of one of its units in progress is stopped.
Everything else is as before. A block already held is not reset again; a bad key or index raises the bad-key source.
At the end of the hold the bit clears, the Guide starts at ENTRY, and nothing else changes. Rests on R85, R86, R87,
R178, R247, R474, R476, R540. -/
def Obligations.BlockResetHoldsAndClearsItsBlock : Prop :=
  ∀ (v : W32) (block : BitVec 6) (s : State),
    let i := v.toNat % 64
    let k := block.toNat
    let kept := fun (a : Nat) => (i = 22 ∧ ∃ c, c < 4 ∧ a = rLTN_CART_MAP c) ∨
      (i = 23 ∧ ((rADC_TCAL 0 ≤ a ∧ a < rADC_TCAL 6) ∨ (rADC_CMP 0 ≤ a ∧ a < rADC_CMP_CNT 0))) ∨ (i = 33 ∧ a = rHWN_STAT)
    let lost := fun (u : Nat) => (i < 16 ∧ u = i) ∨ (i = 17 ∧ (u = 32 ∨ u = 34)) ∨ (i = 18 ∧ u = 33) ∨
      (i = 20 ∧ 16 ≤ u ∧ u < 32) ∨ (i = 22 ∧ u = 35)
    (s.running = true →
      ((v >>> 16) = 0xA5C3 → i < 36 →
        (s.held i = true → exec (.blockReset v) s = .next (s.answer 0 0)) ∧
        (s.held i = false → ∃ t, exec (.blockReset v) s = .next t ∧ t.held i = true ∧
          (∀ j, j < 36 → j ≠ i → t.held j = s.held j) ∧
          (∀ a, (regAt a).isSome = true → regBlock a = some i → ¬ kept a → t.reg a = resetValue a) ∧
          (∀ a, a ≠ rRST_BLK_STAT → regBlock a ≠ some i ∨ (kept a ∧ i ≠ 33) → t.reg a = s.reg a) ∧
          (i = 33 → t.reg rHWN_STAT = fput HWN_STAT.HMODE (resetValue rHWN_STAT) (s.rf rHWN_STAT HWN_STAT.HMODE)) ∧
          (∀ u, unitOf t u = if lost u ∧ unitOf s u ≠ .idle then .blocked else unitOf s u) ∧
          t = { s with
            regs := t.regs, resp := ⟨0, 0⟩, cyc := { s.cyc with units := t.cyc.units }
            txns := s.txns.filter fun x => x.issued || identBlock x.ident != some i
            chm := if i < 16 then tset s.chm Chamber.init i { Chamber.init with
                x := (chmOf s i).x, y := (chmOf s i).y, xf := (chmOf s i).xf, yf := (chmOf s i).yf
                pf := (chmOf s i).pf, prog := (chmOf s i).prog
                acc := (chmOf s i).acc.map fun a => { a with dest := none, code := 0, dead := true } } else s.chm
            gde := if i = 16 then { Gde.init with
                imem := s.gde.imem, dmem := s.gde.dmem
                loads := s.gde.loads.map fun l => { l with bank := 10, reg := 0 }
                stores := s.gde.stores.map fun e => { e with live := false } } else s.gde
            jtag := if i = 16 ∧ s.jtag.busy.isSome = true then
                { s.jtag with busy := none, memCode := 7, memDone := true } else s.jtag
            cfl := if i = 17 then Cfl.init else s.cfl
            flw := if i = 18 then Flw.init else s.flw
            gal := if i = 19 then Gal.init else s.gal
            cle := if i = 20 then { Cle.init with mem := s.cle.mem, slots := t.cle.slots } else s.cle
            echo := if i = 20 then { Echo.init with buf := s.echo.buf } else s.echo
            pwm := if i = 21 then Pwm.init else s.pwm
            ltn := if i = 22 then [] else s.ltn, cart := if i = 22 then [] else s.cart, tw := if i = 22 then [] else s.tw
            adc := if i = 23 then [] else s.adc
            sap := if 24 ≤ i ∧ i < 32 then tset s.sap Sap.init (i - 24) Sap.init else s.sap
            sph := if i = 32 then t.sph else s.sph
            hwn := if i = 33 then { Hwn.init with arr := s.hwn.arr, hbusy := false } else s.hwn
            dmx := if i = 34 then [] else s.dmx, tim := if i = 35 then [] else s.tim } ∧
          (i = 20 → ∀ n, cleOf t n = { CleSlot.init with
            bank := (cleOf s n).bank, st := (cleOf s n).st, outs := (cleOf s n).outs }) ∧
          (i = 32 → ∀ n, n < 16 → tget t.sph SphCh.init n = { SphCh.init with
            flight := (tget s.sph SphCh.init n).flight.map fun e => { e with dead := true } }))) ∧
      ((v >>> 16) ≠ 0xA5C3 ∨ 36 ≤ i → exec (.blockReset v) s = .next ((raise srcBadKey s).answer 0 0))) ∧
    (awake s → s.held k = true → ∃ t, exec (.blockResetEnd block) s = .next t ∧ t.held k = false ∧
      (∀ j, j < 36 → j ≠ k → t.held j = s.held j) ∧ onlyRegs [rRST_BLK_STAT] { s with gde := t.gde } t ∧
      (k ≠ 16 → t.gde = s.gde) ∧
      (k = 16 → t.gde = { s.gde with banks := t.gde.banks } ∧ (∀ b, b ≠ 8 → bankOf t b = bankOf s b) ∧
        bankOf t 8 = { bankOf s 8 with pc := s.rst.entry })) ∧
    (awake s → s.held k = false → exec (.blockResetEnd block) s = .next s)

/-- Out of a reset with nRESET high, no alarm latched and no erase to finish: with BOOTSEL high the sequencer waits
for chunk 0 from the host, SLOT reads 2, word 0 holds the ready handshake and word 11 the unreleased report. With
BOOTSEL low it boots the preferred slot, or the other where a trial has failed or the preferred one is refused: BB
starts at ENTRY, BOOT_VER holds VERSION, SLOT names the slot, the Gate is locked, the device runs and word 11 reports
1. Where both are refused it waits for the host. While nRESET is low, or without a reset, nothing happens. While the
boot sequencer waits for the host, FULL with the expected chunk number takes its bytes from word 16 on, when the
length is a multiple of 8 from 8 to 16,320 and the image does not grow beyond its header's length, and the handshake
asks for the next chunk. FULL_LAST of a complete firmware image that passes every check releases the Guide at its
ENTRY; one that fails is refused with its code. A wrong number leaves the image as it is and repeats the handshake; a
wrong length is refused with code 5, and chunk 0 is expected. Rests on R88, R90, R92, R98, R99, R103, R100, R97. -/
def Obligations.BootReleasesTheGuide : Prop :=
  (∀ (hmode : Bool) (flash : Cells 8) (s : State),
    let d := chooseDir flash
    let img := fun (b : Bool) => flashAt flash (if b then d.slotB else d.slotA)
    let code := fun (b : Bool) => imageCode (img b) false d.slotLen s
    let ran := d.trial && (s.rb rRST_TRIAL RST_TRIAL.ARMED || s.rb rRST_TRIAL RST_TRIAL.FAILED)
    let first := if ran then !d.preferB else d.preferB
    let waits := fun (c : Instr) => ∃ t, exec c s = .next t ∧ t.rst.phase = .hostWait ∧ t.rst.chunk = 0 ∧
      t.rst.hostImage = [] ∧ t.rf rRST_BOOT_STAT RST_BOOT_STAT.SLOT = 2 ∧ hwnWord t 0 = 1 ∧ hwnWord t 10 = 0 ∧
      hwnWord t 11 = 2 ∧ t.hwn.hbusy = false
    let boots := fun (c : Instr) (b : Bool) => ∃ t, exec c s = .next t ∧ t.rst.phase = .running ∧
      (bankOf t 8).pc = BitVec.ofNat 32 (imgNat (img b) 0x18 4) ∧
      t.rf rRST_BOOT_VER RST_BOOT_VER.VERSION = imgNat (img b) 0x10 4 ∧
      t.rf rRST_BOOT_STAT RST_BOOT_STAT.SLOT = (if b then 1 else 0) ∧ t.rb rGTE_STAT GTE_STAT.LOCK = true ∧
      hwnWord t 8 = 0x4B425054 ∧ hwnWord t 11 = 1 ∧ t.hwn.hbusy = false
    (s.rst.phase ≠ .inReset ∨ s.rst.pinLow = true →
      ∀ b : Bool, exec (.bootSequence b hmode flash) s = .next s) ∧
    (s.rst.phase = .inReset → s.rst.pinLow = false → s.sec.lateAlarm = [] → s.sec.eraseMark = none →
      waits (.bootSequence true hmode flash) ∧
      (let low := .bootSequence false hmode flash
       if code first = 0 then boots low first else if code (!first) = 0 then boots low (!first) else waits low))) ∧
  (∀ (nn : BitVec 16) (s : State), s.rst.phase = .hostWait →
    let len := (hwnWord s 1).toNat
    let d := ((idxs 16 ((len + 3) / 4)).flatMap fun w => bytesOf 4 ((hwnWord s w).setWidth 64)).take len
    let image := s.rst.hostImage ++ d
    let f := hostImg image
    let good := len ≠ 0 ∧ len ≤ 16320 ∧ len % 8 = 0
    (nn.toNat = s.rst.chunk % 65536 → good → (128 ≤ image.length → image.length ≤ imgNat f 0x14 4) →
      ∃ t, exec (.hostChunkFull nn) s = .next t ∧
        t = { s with hwn := t.hwn, rst := { s.rst with hostImage := image, chunk := s.rst.chunk + 1 } } ∧
        hwnWord t 0 = BitVec.ofNat 32 ((s.rst.chunk + 1) % 65536 * 65536 + 1)) ∧
    (nn.toNat ≠ s.rst.chunk % 65536 → ∀ c ∈ [Instr.hostChunkFull nn, .hostChunkFullLast nn],
      ∃ t, exec c s = .next t ∧ t = { s with hwn := t.hwn } ∧
        hwnWord t 0 = BitVec.ofNat 32 (s.rst.chunk % 65536 * 65536 + 1)) ∧
    (nn.toNat = s.rst.chunk % 65536 → ¬ good → s.rst.needProfile = false →
      ∀ c ∈ [Instr.hostChunkFull nn, .hostChunkFullLast nn],
      ∃ t, exec c s = .next t ∧ t = { s with hwn := t.hwn, rst := { s.rst with chunk := 0, hostImage := [] } } ∧
        hwnWord t 0 = BitVec.ofNat 32 (5 * 256 + 4)) ∧
    (nn.toNat = s.rst.chunk % 65536 → good → s.rst.needProfile = false → 128 ≤ image.length →
      imgNat f 0x14 4 = image.length → ¬ (imgNat f 0 4 = 0x494F424D ∧ imgNat f 6 2 = 2) →
      s.sec.lateAlarm = [] → let refused := imageCode f false s.rst.slotLen s
      ∃ t, exec (.hostChunkFullLast nn) s = .next t ∧
        if refused = 0 then t.rst.phase = .running ∧ (bankOf t 8).pc = BitVec.ofNat 32 (imgNat f 0x18 4) ∧
          hwnWord t 0 = 3 ∧ hwnWord t 11 = 1
        else t = { s with hwn := t.hwn, rst := { s.rst with chunk := 0, hostImage := [] } } ∧
          hwnWord t 0 = BitVec.ofNat 32 (refused * 256 + 4)))

/-- In every state out of reset the boundary is executed: the mid-cycle instant comes first where it has not passed,
what is still in progress misses, the earliest first, the LOCAL blocks enter the alignment ring and the gain ramps
move on; then the next cycle is the current one, its start the first tick that reaches the boundary, and no instant of
it is past. Then follow in this order a family change, the commit with the deadline table and the timers, the blocks,
the CLE's configurations and the releases, the L-domain's where the cycle index is a multiple of L. A family that
waits comes into effect and ends the active set. The mid-cycle instant is executed in every state out of reset: one
already past does nothing; with no unit in progress, no set or step pending and no double-rate slot it is marked past
at its tick and raises its events. Rests on R41, R42, R44, R45, R48, R287, R393, R394, R397, R400. -/
def Obligations.CycleBoundaryAndMidInstant : Prop :=
  ∀ s : State, awake s →
    let m := midCycle s
    let e := stepXr (ringFill (missAll m))
    let k := cyclesTb e e.cyc.next
    let b := cycleStart s
    let f := familyChange b
    let u := f.setRf rDTM_CYC_CTL DTM_CYC_CTL.FAM f.cyc.fam
    let l := decide (u.cyc.idx % nL u = 0)
    let r := commitStep u
    let ended := b.rb rFLW_ACT FLW_ACT.VALID && !f.rb rFLW_ACT FLW_ACT.VALID
    exec .midCycleInstant s = .next m ∧
    exec .cycleBoundary s = .next (releaseAll l ((idxs 0 16).map (cleRegion b))
      (cleBoundary (r.1 || ended) (boundaryBlocks l r.2))) ∧
    b.cyc.idx = e.cyc.next ∧ b.cyc.next = e.cyc.next + 1 ∧ b.cyc.midDone = false ∧ b.cyc.start = b.dtm.ticks ∧
    b.cyc.grid = 0 ∧ k.1 ≤ b.dtm.tb * k.2 ∧ e.dtm.ticks ≤ b.dtm.ticks ∧
    (firstMiss (boundaryTick m + 1) m = none → missAll m = m) ∧
    (∀ v, firstMiss (boundaryTick m + 1) m = some v → missAll m = missUntil 71 (boundaryTick m + 1) (unitLate v m)) ∧
    ((∀ v, unitOf m v = .idle) → missAll m = m) ∧
    (b.cyc.famNext = none → f = b) ∧
    (b.cyc.famNext = some b.cyc.fam → f = { b with cyc := { b.cyc with famNext := none } }) ∧
    (∀ g, b.cyc.famNext = some g → g < 4 → g ≠ b.cyc.fam →
      f.cyc.fam = g ∧ f.cyc.famNext = none ∧ f.rf rCFL_CFG CFL_CFG.RATE = g ∧ f.rb rFLW_ACT FLW_ACT.VALID = false ∧
      f.rst.lit = false ∧ f.flw.commit = none) ∧
    (s.dtm.setPend = none → s.dtm.stepPend = none →
      (s.cyc.midDone = true → m = s) ∧
      (s.cyc.midDone = false → (∀ v, unitOf s v = .idle) → (∀ n, n < 16 → (cleOf s n).on = false ∨ (cleOf s n).double = false) →
        let h := cyclesTb s (2 * s.cyc.next - 1)
        let y := advanceTo h.1 (2 * h.2) (leadPass (midTick s) s)
        h.1 ≤ 2 * h.2 * y.dtm.tb ∧
        m = adcEvent 2 (cycleEvent 2 (cleNext (cleMid 0 { y with cyc := { y.cyc with midDone := true, mid := y.dtm.ticks } })))))

/-- The bridge and light passes and the mix and Flowstone passes and a finished Chamber, running and not past their
deadline tick, publish; their monitor holds the slack as LAST_SLACK, and as MIN_SLACK where it is less, and no miss is
remembered. A unit that misses does so at its deadline tick, or at the boundary that comes before it: it is stopped
with its outputs held, its flag is set, its miss counter counts, LAST_SLACK reads the miss value, its TIMING source is
raised with the cycle index and the miss is remembered; Chambers whose words a Flowstone pass left unwritten are
blocked. The unit is then idle, its successors are released and its domains may sleep. A mid-cycle instant that comes
before the miss falls first. A completion after the deadline tick is a miss, after a free number of words for a
Flowstone pass; a CLE run ends at its end instruction, not here. A unit that is not in progress, and a Chamber whose
run has not ended, are left alone. Rests on R42, R44, R48, R49, R51, R79, R202, R291. -/
def Obligations.UnitsCompleteOrMiss : Prop :=
  ∀ (monitor : BitVec 6) (written : BitVec 16) (s : State), awake s →
    let u := monitor.toNat
    let k := written.toNat
    let free := fun (x : State) => if u = 33 then (stageChms x 3).filter (chmDue x) else []
    let reports := fun (v : Nat) (p m : State) =>
      m = { p with regs := m.regs, wtb := m.wtb, cyc := { p.cyc with missed := tset p.cyc.missed false u false } } ∧
      m.rf (rDTM_DL_SLACK u) DTM_DL_SLACK.LAST_SLACK = v % 2 ^ 18 ∧
      m.rf (rDTM_DL_MIN u) DTM_DL_MIN.MIN_SLACK =
        (if slackInt v < slackInt (p.rf (rDTM_DL_MIN u) DTM_DL_MIN.MIN_SLACK) then v % 2 ^ 18
         else p.rf (rDTM_DL_MIN u) DTM_DL_MIN.MIN_SLACK) ∧
      regsBut [rDTM_DL_SLACK u, rDTM_DL_MIN u] p m
    let published := if u < 16 then exchangeOut u s else if u = 32 then mixComplete s else if u = 33 then flwComplete s
      else if u = 34 then brgComplete s else lightComplete s
    let ends := unitOf s u = .running ∧ ¬ (16 ≤ u ∧ u < 32) ∧ (u < 16 → chmDone s u = true)
    u < 36 →
    (∀ v, ends → slackOf s u = some v → v < 2 ^ 17 →
      ∃ m, exec (.unitCompletion monitor) s = .next (autoSleep u (successors u (free s) (setUnit u .idle m))) ∧
        reports v published m) ∧
    (unitOf s u ≠ .idle →
      let b := waitTicks (min (baseTick s u + deadlineOf s u) (boundaryTick s) - s.dtm.ticks) s
      let x := unitStop u k b
      ∃ y z, unitMiss u k s = autoSleep u (successors u (free b) (setUnit u .idle
          (if u = 33 then forEach (z.flw.late.filter fun n => stageOf z n != 0) (fun n t => setUnit n .blocked t) z else z))) ∧
        onlyRegs [rDTM_MISS_FLAG_LO, rDTM_MISS_FLAG_HI, rDTM_DL_MISS u, rDTM_DL_SLACK u, rDTM_DL_MIN u] x y ∧
        (u < 32 → y.rbit rDTM_MISS_FLAG_LO u = true) ∧ (32 ≤ u → y.rbit rDTM_MISS_FLAG_HI (u - 32) = true) ∧
        y.rf (rDTM_DL_MISS u) DTM_DL_MISS.CNT = (x.rf (rDTM_DL_MISS u) DTM_DL_MISS.CNT + 1) % 2 ^ 40 ∧
        y.rf (rDTM_DL_SLACK u) DTM_DL_SLACK.LAST_SLACK = 0x20000 ∧
        let w := raiseD u (BitVec.ofNat 32 y.cyc.idx) y
        z = { w with wtb := z.wtb, cyc := { w.cyc with missed := tset w.cyc.missed false u true } }) ∧
    (unitOf s u ≠ .idle → s.dtm.setPend = none → s.dtm.stepPend = none →
      if s.cyc.midDone = true ∨ min (baseTick s u + deadlineOf s u) (boundaryTick s) < midTick s then
        exec (.unitDeadlineMiss monitor written) s = .next (unitMiss u k s)
      else
        let t := midCycle s
        exec (.unitDeadlineMiss monitor written) s = .next (if baseTick t u = baseTick s u then unitMiss u k t else t)) ∧
    (ends → slackOf s u = none →
      exec (.unitCompletion monitor) s =
        .next (if u = 33 then unitMiss 33 (s.freeVal 16).toNat s.tick1 else unitMiss u 0 s)) ∧
    (¬ ends → exec (.unitCompletion monitor) s = .next s) ∧
    (unitOf s u = .idle → exec (.unitDeadlineMiss monitor written) s = .next s)

/-- Firmware's MIN_CLR of a monitor writes 0x1FFFF to its MIN_SLACK and nothing else; one of no monitor has no effect.
DL_APPLY sets DL_PENDING and nothing else. The commit step of the boundary ends with the table step and the program
swaps that are ready; with DL_PENDING clear the table step does nothing, else DL_PENDING clears and the table in the
registers and the stage word come into effect where the table is ordered, leaves the mix its time and ends in the
cycle; otherwise DL_CFG_ERR is set, the configuration source is raised and the table in effect keeps. Rests on R45,
R51. -/
def Obligations.MonitorAndTableWrites : Prop :=
  ∀ (monitor : BitVec 6) (s : State), s.running = true →
    (monitor.toNat < 36 → ∃ t, exec (.minClr monitor) s = .next t ∧ onlyRegsAck [rDTM_DL_MIN monitor.toNat] s t ∧
      t.rf (rDTM_DL_MIN monitor.toNat) DTM_DL_MIN.MIN_SLACK = 0x1FFFF) ∧
    (36 ≤ monitor.toNat → exec (.minClr monitor) s = .next s) ∧
    (∃ t, exec .dlApply s = .next t ∧ onlyRegsAck [rDTM_CYC_STAT] s t ∧ t.rb rDTM_CYC_STAT DTM_CYC_STAT.DL_PENDING = true ∧
      t.rb rDTM_CYC_STAT DTM_CYC_STAT.DL_CFG_ERR = s.rb rDTM_CYC_STAT DTM_CYC_STAT.DL_CFG_ERR) ∧
    (∃ x, (commitStep s).2 = forEach (idxs 0 16) swapReady (tableApply x)) ∧
    (s.rb rDTM_CYC_STAT DTM_CYC_STAT.DL_PENDING = false → tableApply s = s) ∧
    (s.rb rDTM_CYC_STAT DTM_CYC_STAT.DL_PENDING = true →
      let d := fun i => s.rf (rDTM_DL_FLW + 4 * i) DTM_DL_FLW.TICKS
      let last := if s.cyc.fam < 2 then 30750 else 33513
      let ok := d 0 < d 1 ∧ d 1 < d 2 ∧ d 2 < d 3 ∧ (∀ i, i < 7 → d i ≤ last) ∧
        d 1 + (if spc s = 6 then 4500 else 2250) ≤ d 2
      (ok → ∃ t, tableApply s = t ∧
        t = { s with regs := t.regs, cyc := { s.cyc with
          dl := [d 0, d 1, d 2, d 3, d 4, d 5, d 6], stage := (s.reg rDTM_CHM_STAGE).setWidth 32 } } ∧
        regsBut [rDTM_CYC_STAT] s t ∧ t.rb rDTM_CYC_STAT DTM_CYC_STAT.DL_PENDING = false) ∧
      (¬ ok → tableApply s = raise srcDeadlineCfg ((s.setRf rDTM_CYC_STAT DTM_CYC_STAT.DL_PENDING 0).setRf
        rDTM_CYC_STAT DTM_CYC_STAT.DL_CFG_ERR 1)))

/-- For a domain that neither wakes nor is in the sleep transition: ON, and AUTO of a domain it does not act on, store
the mode and begin the wake of a domain that is not powered; AUTO of a domain it acts on stores the mode and wakes it
only under HOLD; RETAIN takes a memory domain through the sleep transition to retention, unless it is there; OFF, and
RETAIN of a domain without an array, take a domain that is not off through the sleep transition to off, with what it
held lost: a Cavern bank reads zero then, and no other bank changes. During a transition the mode is stored and waits.
RETAIN and OFF of domains 131, 132 and 111 are refused: nothing changes and the refused-power source is raised. HOLD
is stored; setting it wakes a domain whose mode in effect is AUTO. A wake begins with STATE reading waking: with no
other switch-on waiting, the domain is switched on at once where fewer than 8 domains were within the 25 ticks (100
ns) before, else its switch-on waits; during the sleep transition the wake is remembered; a domain that is powered or
wakes already stays as it is. Rests on R64, R65, R68, R70, R74. -/
def Obligations.PowerModeWrites : Prop :=
  ∀ (dom : BitVec 8) (hold : Bool) (s : State), s.running = true → dom.toNat < 136 →
    let n := dom.toNat
    let ctl := rPWR_DOM_CTL n
    let stat := rPWR_DOM_STAT n
    let d := tget s.pwr Dom.init n
    let state := s.rf stat PWR_DOM_STAT.STATE
    let busy := d.sleeping = true ∨ state = 1
    let prot := n = 131 ∨ n = 132 ∨ n = 111
    let toNext := fun (c : Instr) (t : State) => exec c s = .next (t.answer 0 0)
    let waits := fun (m : Nat) =>
      { s.setRf ctl PWR_DOM_CTL.MODE m with pwr := tset s.pwr Dom.init n { d with pendMode := some m } }
    let takes := fun (m : Nat) =>
      { s.setRf ctl PWR_DOM_CTL.MODE m with pwr := tset s.pwr Dom.init n { d with mode := m } }
    let sleeps := fun (m st : Nat) (t : State) => { t.setRf stat PWR_DOM_STAT.STATE st with
      pwr := tset s.pwr Dom.init n { d with mode := m, sleeping := true, wakeReq := false } }
    (prot → toNext (.pwrModeRetain dom) (raise srcRefusedPower s) ∧ toNext (.pwrModeOff dom) (raise srcRefusedPower s)) ∧
    (busy → toNext (.pwrModeOn dom) (waits 0) ∧ toNext (.pwrModeAuto dom) (waits 1) ∧
      (¬ prot → toNext (.pwrModeRetain dom) (waits 2) ∧ toNext (.pwrModeOff dom) (waits 3))) ∧
    (¬ busy →
      toNext (.pwrModeOn dom) (domWake n (takes 0)) ∧
      (autoDomain n = false ∨ s.rb ctl PWR_DOM_CTL.HOLD = true → toNext (.pwrModeAuto dom) (domWake n (takes 1))) ∧
      (autoDomain n = true → s.rb ctl PWR_DOM_CTL.HOLD = false → toNext (.pwrModeAuto dom) (takes 1)) ∧
      (¬ prot → memDomain n = true →
        (state = 2 → toNext (.pwrModeRetain dom) (takes 2)) ∧
        (state ≠ 2 → toNext (.pwrModeRetain dom) (sleeps 2 2 (takes 2)))) ∧
      ∀ p ∈ [(Instr.pwrModeOff dom, 3), (.pwrModeRetain dom, 2)], ¬ prot → (p.2 = 2 → memDomain n = false) →
        (state = 3 → toNext p.1 (takes p.2)) ∧
        (state ≠ 3 → toNext p.1 (sleeps p.2 3 (loseDomain n (takes p.2))))) ∧
    (let h := s.setRf ctl PWR_DOM_CTL.HOLD (if hold then 1 else 0)
     let auto := d.mode = 1 ∧ autoDomain n = true
     (hold = true ∧ auto → toNext (.pwrHoldWrite dom hold) (domWake n h)) ∧
     (¬ (hold = true ∧ auto) → toNext (.pwrHoldWrite dom hold) h)) ∧
    (let now := s.dtm.ticks
     let recent := s.switched.filter fun x => decide (now < x + 25)
     let wakes := fun (wait : Bool) => { s.setRf stat PWR_DOM_STAT.STATE 1 with
       pwr := tset s.pwr Dom.init n { d with queued := wait } }
     (d.sleeping = true → domWake n s = { s with pwr := tset s.pwr Dom.init n { d with wakeReq := true } }) ∧
     (d.sleeping = false → state < 2 → domWake n s = s) ∧
     (d.sleeping = false → 2 ≤ state → (∀ p ∈ s.pwr, p.2.queued = false) →
       (recent.length < 8 → domWake n s = { wakes false with switched := (now :: s.switched).take 8 }) ∧
       (8 ≤ recent.length → domWake n s = wakes true))) ∧
    ∀ w, 80 ≤ n → n < 112 → tget (loseDomain n s).cav.words 0 w =
      (if (n - 80) * 32768 ≤ w ∧ w < (n - 79) * 32768 then 0 else tget s.cav.words 0 w)

/-- A domain whose mode in effect is AUTO, that is off or at retention, whose next release point releases its unit and
lies at most WAKE_LEAD ticks ahead, begins to wake, after the lower domains of which the same holds, in ascending
order; any other domain is left alone. The release point is the boundary, or the mid-cycle instant still to come where
an enabled CLE slot runs at double rate and the domain is the CLE's; a unit is a Chamber in a stage, the mix pass or
an enabled CLE slot. A domain that wakes and has been switched on reports ON at the end of its wake and a mode that
waits takes effect; when a sleep transition ends the domain is at rest, a mode that waits takes effect, and a wake
that was called for follows unless the mode in effect is RETAIN or OFF; then the units that waited for the domain go
on. A domain in no such transition changes nothing but those units. Rests on R44, R66, R69, R70, R73, R74. -/
def Obligations.DomainsWakeAndSleep : Prop :=
  ∀ (dom : BitVec 8) (s : State), awake s → dom.toNat < 136 →
    let n := dom.toNat
    let stat := fun (k : Nat) => rPWR_DOM_STAT k
    let d := tget s.pwr Dom.init n
    let doubled := (List.range 16).any fun k => (cleOf s k).on && (cleOf s k).double
    let point := fun (k : Nat) => if (k = 123 ∨ k = 124) ∧ s.cyc.midDone = false ∧ doubled then midTick s else boundaryTick s
    let releases := fun (k : Nat) => if k < 80 then stageOf s (k / 5) ≠ 0 else
      (112 ≤ k ∧ k < 116) ∨ (116 ≤ k ∧ ∃ j, j < 16 ∧ (cleOf s j).on = true)
    let leads := fun (k : Nat) => (tget s.pwr Dom.init k).mode = 1 ∧ autoDomain k = true ∧
      2 ≤ s.rf (stat k) PWR_DOM_STAT.STATE ∧ releases k ∧
      point k ≤ s.dtm.ticks + s.rf rPWR_WAKE_LEAD PWR_WAKE_LEAD.TICKS
    let rest := fun (x : Dom) => { s with pwr := tset s.pwr Dom.init n x }
    let calm := { d with sleeping := false, wakeReq := false, pendMode := none }
    let go := forEach ((idxs 0 36).filter fun u => (unitDomains u).contains n) startWaiting
    (leads n → ∃ ks, ks.Pairwise (· < ·) ∧ (∀ k, k ∈ ks ↔ k ≤ n ∧ leads k) ∧
      exec (.domainWake dom) s = .next (forEach ks domWake s)) ∧
    (¬ leads n → exec (.domainWake dom) s = .next s) ∧
    (s.rf (stat n) PWR_DOM_STAT.STATE = 1 → d.sleeping = false → d.queued = false →
      let on := (rest { d with pendMode := none }).setRf (stat n) PWR_DOM_STAT.STATE 0
      (d.pendMode = none → n ≠ 135 → exec (.domainWakeComplete dom) s = .next (go on)) ∧
      (∀ m, d.pendMode = some m → n ≠ 135 → exec (.domainWakeComplete dom) s = .next (go (applyMode n m on)))) ∧
    (s.rf (stat n) PWR_DOM_STAT.STATE ≠ 1 ∨ d.sleeping = true ∨ d.queued = true →
      exec (.domainWakeComplete dom) s = .next (go s)) ∧
    (d.sleeping = true →
      (∀ m, d.pendMode = some m → exec (.sleepTransitionEnd dom) s = .next (go
        (let t := applyMode n m (rest calm)
         if d.wakeReq = true ∧ (tget t.pwr Dom.init n).mode < 2 then domWake n t else t))) ∧
      (d.pendMode = none → exec (.sleepTransitionEnd dom) s = .next (go
        (if d.wakeReq = true ∧ d.mode < 2 then domWake n (rest calm) else rest calm)))) ∧
    (d.sleeping = false → exec (.sleepTransitionEnd dom) s = .next (go s)) ∧
    ∀ u, unitOf s u ≠ .waking → startWaiting u s = s

/-- A FLOOR or CEIL write beyond code 180, crossing the other bound or outside the VID range is refused: BOUND_ERR is
set and the bound source raised; a good one is stored, and a code in force outside the bounds is forced at the
boundary. TARGET and MODE are stored and wait for the boundary. The end of the settle time, where no transaction is
left, restarts the window; before it nothing changes. An AVSBus transaction that is acknowledged puts its code in
WTB_CUR; one that fails is tried again up to three times while a mode other than OFF is in effect, and then its code
waits to be tried again, AVS_ERR is set and the failure raised; in OFF nothing is sent again. Without a transaction
nothing changes. Rests on R76, R77, R78, R79, R80, R82. -/
def Obligations.WaterTableCommands : Prop :=
  ∀ (ceil good : Bool) (code : BitVec 8) (mode : BitVec 2) (s : State),
    let c := code.toNat
    let floor := s.rf rWTB_FLOOR WTB_FLOOR.CODE
    let top := s.rf rWTB_CEIL WTB_CEIL.CODE
    let base := s.rf rWTB_VID_BASE WTB_VID_BASE.CODE
    let lo := if ceil then floor else c
    let hi := if ceil then c else top
    let bad := 180 < c ∨ hi < lo ∨ (s.rb rWTB_CTL WTB_CTL.IFACE = true ∧ (lo < base ∨ base + 63 < hi))
    let onW := fun (t : State) (f : Wtb → Wtb) => { t with wtb := f t.wtb }
    let settled := s.wtb.settling = true ∧ s.wtb.avs = none ∧ s.wtb.settleAt ≤ s.dtm.ticks
    (s.running = true →
      (bad → exec (.wtbBoundWrite ceil code) s =
        .next ((raise srcWtbBound (s.setRf rWTB_STAT WTB_STAT.BOUND_ERR 1)).answer 0 0)) ∧
      (¬ bad → ∃ t, exec (.wtbBoundWrite ceil code) s = .next t ∧
        t = { s with regs := t.regs, resp := ⟨0, 0⟩, wtb := { s.wtb with
          forced := s.wtb.forced || decide (s.wtb.code < lo ∨ hi < s.wtb.code) } } ∧
        t.rf rWTB_FLOOR WTB_FLOOR.CODE = lo ∧ t.rf rWTB_CEIL WTB_CEIL.CODE = hi ∧
        regsBut [rWTB_FLOOR, rWTB_CEIL] s t) ∧
      exec (.wtbTargetWrite code) s =
        .next ((onW (s.setRf rWTB_TARGET WTB_TARGET.CODE c) (fun w => { w with manual := true })).answer 0 0) ∧
      exec (.wtbModeWrite mode) s = .next ((onW (s.setRf rWTB_CTL WTB_CTL.MODE mode.toNat)
        (fun w => { w with restart := true, manual := w.manual || mode == 1 })).answer 0 0)) ∧
    (awake s →
      (settled → exec .wtbSettleEnd s = .next (onW s (fun w => { w with settling := false, restart := true }))) ∧
      (¬ settled → exec .wtbSettleEnd s = .next s) ∧
      (∀ x, s.wtb.avs = some x →
        exec (.avsbusTransactionDone true) s = .next (onW ((s.setRf rWTB_CUR WTB_CUR.CODE x.code).setRf rWTB_CUR WTB_CUR.VALID 1)
          (fun w => { w with avs := none, code := x.code, issued := true })) ∧
        (s.wtb.mode = 0 → exec (.avsbusTransactionDone false) s =
          .next (onW s (fun w => { w with avs := none, settling := false }))) ∧
        (s.wtb.mode ≠ 0 → x.fails < 3 → exec (.avsbusTransactionDone false) s =
          .next (onW s (fun w => { w with avs := some { x with fails := x.fails + 1 } }))) ∧
        (s.wtb.mode ≠ 0 → 3 ≤ x.fails → exec (.avsbusTransactionDone false) s = .next (raise srcAvsFailure
          (onW (s.setRf rWTB_STAT WTB_STAT.AVS_ERR 1) (fun w => { w with
            avs := none, settling := false, again := some x.code }))))) ∧
      (s.wtb.avs = none → exec (.avsbusTransactionDone good) s = .next s))

/-- A tick that finds a live timer with CNT at or above its period sets EXP and raises the timer's event: ONESHOT
stops with CNT at the period and MODE OFF, PERIODIC restarts from 0 with the period taken from TIM_PERIOD. An expiry
found earlier only raises its event; below the period nothing is due and nothing changes. In CAPTURE the wrap, at
0xFFFF_FFFF, sets CNT to 0 and OVF. An edge on the pin of TSEL, to a new level held for TICKS, is accepted in a
powered block that is not held: one that EDGE selects copies CNT into CAP in CAPTURE, sets CAPF, and CAP_OVR where
CAPF was still set, and raises the event; another is noted only. Any other edge changes nothing. Rests on R134, R135,
R136, R137. -/
def Obligations.TimersExpireWrapAndCapture : Prop :=
  ∀ (timer : BitVec 3) (pin : BitVec 4) (rising : Bool) (held : BitVec 32) (s : State), awake s →
    let n := timer.toNat
    let x := tget s.tim Timer.init n
    let mode := timMode s n
    let put := fun (y : Timer) (t : State) => { t with tim := tset t.tim Timer.init n y }
    let e := s.rf (rTIM_DEB n) TIM_DEB.EDGE
    let cnt := s.rf (rTIM_CNT n) TIM_CNT.CNT
    let full := timLive s n = true ∧ mode ≠ 3 ∧ x.period.toNat ≤ cnt
    let accepted := s.domOn 135 = true ∧ s.held 35 = false ∧ s.rf (rTIM_CTL n) TIM_CTL.TSEL = pin.toNat ∧
      s.rf (rTIM_DEB n) TIM_DEB.TICKS ≤ held.toNat ∧ x.level ≠ rising
    let selected := timLive s n = true ∧ mode = 3 ∧ (if rising then e % 2 = 1 else 2 ≤ e)
    let edge := exec (.timerEdgeCapture timer pin rising held) s
    (x.due = 0 → full →
      (mode = 1 → exec (.timerExpiry timer) s = .next (timerEvent n (put x (((s.setRf (rTIM_STAT n) TIM_STAT.EXP 1).setRf
        (rTIM_CNT n) TIM_CNT.CNT x.period.toNat).setRf (rTIM_CTL n) TIM_CTL.MODE 0)))) ∧
      (mode = 2 → exec (.timerExpiry timer) s = .next (timerEvent n
        (put { x with period := BitVec.ofNat 32 (s.rf (rTIM_PERIOD n) TIM_PERIOD.PERIOD) }
          ((s.setRf (rTIM_STAT n) TIM_STAT.EXP 1).setRf (rTIM_CNT n) TIM_CNT.CNT 0))))) ∧
    (0 < x.due → exec (.timerExpiry timer) s = .next (timerEvent n (put { x with due := x.due - 1 } s))) ∧
    (x.due = 0 → ¬ full → exec (.timerExpiry timer) s = .next s) ∧
    (timLive s n = true → mode = 3 → cnt = 0xFFFFFFFF → exec (.timerWrap timer) s =
      .next ((s.setRf (rTIM_CNT n) TIM_CNT.CNT 0).setRf (rTIM_STAT n) TIM_STAT.OVF 1)) ∧
    (¬ (timLive s n = true ∧ mode = 3 ∧ cnt = 0xFFFFFFFF) → exec (.timerWrap timer) s = .next s) ∧
    (accepted → selected → edge = .next (timerEvent n (put { x with level := rising }
      (((if s.rb (rTIM_STAT n) TIM_STAT.CAPF then s.setRf (rTIM_STAT n) TIM_STAT.CAP_OVR 1 else s).setRf
        (rTIM_CAP n) TIM_CAP.CAP cnt).setRf (rTIM_STAT n) TIM_STAT.CAPF 1)))) ∧
    (accepted → ¬ selected → edge = .next (put { x with level := rising } s)) ∧
    (¬ accepted → edge = .next s)

/-- Port A: an aligned access of a powered array reads or stores one or two words; misaligned or of another width it
draws 3, unpowered 6, held 7. SPI: READ and QREAD send the words from the address on, wrapping, a doorbell word
showing its register; WRITE and QWRITE store theirs; a write to a doorbell sets or clears its bits; RDSR sends the
status bits; an unlisted command, or a command with a bad address, sets BADCMD and is ignored; the end of the
transaction releases HBUSY; while the slave is not ready nothing happens. Of two colliding writes the later value
stays; the collision is counted and shown. Parallel, while that bus is selected: the even half is read with the word
and its other half held, or its write held; the odd half directly after the even half of the same word is the held
half, or writes the whole word; in any other case it reads the array, or keeps the word's lower half; a doorbell takes
0 for a lower half not written. Everything else keeps; after a host write the boot sequencer looks at word 0. Rests on
R152, R154, R155, R156, R157, R158, R174. -/
def Obligations.HostPortsReadAndWriteTheArray : Prop :=
  ∀ (master : BitVec 3) (off : BitVec 14) (code : Byte) (a16 : BitVec 16) (n : BitVec 13) (ha : BitVec 13) (wide wr : Bool)
    (v av : W32) (v64 : W64) (half v16 : BitVec 16) (ws : List W32) (s : State),
    let m := master.toNat
    let w := fun k => tget s.hwn.arr 0 k
    let db := s.rb rHWN_CTL HWN_CTL.DB_EN
    let acc := fun (b : BitVec 4) (x : Bool) => exec (.hostPortAAccess master off b x v64 []) s
    let bytes : BitVec 4 := if wide then 8 else 4
    let h := off.toNat / 4
    let refuses := fun (b : BitVec 4) (x : Bool) (c : Nat) => acc b x = .next
      ((errorResponse (firstIdent m) (0x200000 + off.toNat) x c (entryUsed m s)).answer 0 c)
    let hw := fun (f : Hwn → Hwn) => { s with hwn := f s.hwn }
    let shown := fun k => if db = true ∧ k = 2 then (s.reg rHWN_DB_IN).setWidth 32
      else if db = true ∧ k = 3 then (s.reg rHWN_DB_OUT).setWidth 32 else w k
    let wrote := fun (q : Bool) (t : State) =>
      { t with hwn := { t.hwn with spiOpen := true, quad := q, sends := false, sent := [] } }
    let bad : State := { s.setRf rHWN_STAT HWN_STAT.BADCMD 1 with hwn := { s.hwn with spiOpen := true, sends := false } }
    let ring := fun (x : W32) =>
      let r := s.setRf rHWN_DB_IN HWN_DB_IN.DB (s.rf rHWN_DB_IN HWN_DB_IN.DB ||| x.toNat)
      if x = 0 then r else doorbellEvent r
    let a := a16.toNat
    let word := ha.toNat / 2
    let reading := [(Instr.spiRead a16 n [], false), (.spiQread a16 n [], true)]
    let writing := [(Instr.spiWrite a16 ws [], false), (.spiQwrite a16 ws [], true)]
    let done := fun (t : State) => { t with hwn := { t.hwn with hold := none, sent := [] } }
    -- port A
    (s.running = true → m < 2 → mayAccess s (firstIdent m) (0x200000 + off.toNat) →
      (off.toNat % bytes.toNat ≠ 0 → refuses bytes wr 3) ∧
      (∀ b, b ≠ 4 → b ≠ 8 → refuses b wr 3) ∧
      (off.toNat % bytes.toNat = 0 → s.domOn 133 = false → refuses bytes wr 6) ∧
      (off.toNat % bytes.toNat = 0 → s.domOn 133 = true → s.held 33 = true → refuses bytes wr 7) ∧
      (off.toNat % bytes.toNat = 0 → s.domOn 133 = true → s.held 33 = false →
        (db = false ∨ ¬ (h = 2 ∨ h = 3)) →
        (∃ t, acc bytes true = .next t ∧
          t = { s with regs := t.regs, resp := ⟨0, 0⟩, hwn := { s.hwn with arr := t.hwn.arr } } ∧
          regsBut [rBMX_OUT m] s t ∧ outOf t m = outOf s m ∧
          ∀ k, tget t.hwn.arr 0 k = if k = h then v64.setWidth 32
            else if wide = true ∧ k = h + 1 then (v64 >>> 32).setWidth 32 else w k) ∧
        ∃ t, acc bytes false = .next t ∧
          accessed m [] (if wide then (w (h + 1) ++ w h) else (w h).setWidth 64) 0 s t) ∧
      (off.toNat % bytes.toNat = 0 → s.domOn 133 = true → s.held 33 = false → db = true → h = 2 ∨ h = 3 →
        ∃ t, acc bytes wr = .next t ∧ accessed m [] 0 0 s t)) ∧
    (awake s →
      -- SPI
      (spiReady s = false →
        (∀ p ∈ reading, exec p.1 s = .next s) ∧ (∀ p ∈ writing, exec p.1 s = .next (hostPoll s)) ∧
        exec .spiRdsr s = .next s ∧ exec (.spiBadCommand code a16) s = .next s) ∧
      (spiReady s = true →
        (code ∉ [0x0B, 0x6B, 0x02, 0x32, 0x05] → exec (.spiBadCommand code a16) s = .next bad) ∧
        (4096 ≤ a → (∀ p ∈ reading, exec p.1 s = .next bad) ∧ (∀ p ∈ writing, exec p.1 s = .next (hostPoll bad)) ∧
          ∀ c ∈ [(0x0B : Byte), 0x6B, 0x02, 0x32], exec (.spiBadCommand c a16) s = .next bad) ∧
        (∃ x : W32, exec .spiRdsr s = .next (hw fun q => { q with spiOpen := true, quad := false, sends := true, sent := [x] }) ∧
          (x.getLsbD 0 = s.hwn.hbusy) ∧ (x.getLsbD 1 = decide (s.rf rHWN_DB_OUT HWN_DB_OUT.DB ≠ 0)) ∧
          x.getLsbD 2 = db ∧ ∀ k, 3 ≤ k → x.getLsbD k = false) ∧
        (a < 4096 → s.domOn 133 = true →
          (∀ p ∈ reading, exec p.1 s = .next (hw fun q => { q with
            spiOpen := true, quad := p.2, sends := true
            sent := (List.range n.toNat).map fun i => shown ((a + i) % 4096) })) ∧
          (db = false → ws.length ≤ 4096 → ∀ p ∈ writing,
            ∃ t, exec p.1 s = .next (hostPoll t) ∧
              t = wrote p.2 (hw fun q => { q with arr := t.hwn.arr }) ∧
              ∀ k, tget t.hwn.arr 0 k = if k < 4096 then (ws[(k + 4096 - a) % 4096]?).getD (w k) else w k) ∧
          (db = false → let later := !s.arbFirst
            ∃ t, exec (.spiWrite a16 [v] [(0, ⟨true, av⟩)]) s = .next (hostPoll t) ∧
              t = wrote false { s with regs := t.regs, free := s.free + 1, hwn := { s.hwn with
                arr := t.hwn.arr, hbusy := s.hwn.hbusy || later, busyOff := t.hwn.busyOff } } ∧
              (∀ k, tget t.hwn.arr 0 k = if k = a then (if later then v else av) else w k) ∧
              t.rf rHWN_COLL_ADDR HWN_COLL_ADDR.WORD = a ∧
              t.rb rHWN_STAT (if later then HWN_STAT.COLL_B else HWN_STAT.COLL_A) = true ∧
              regsBut [rHWN_COLL_CNT, rHWN_COLL_ADDR, rHWN_STAT] s t)) ∧
        (db = true →
          exec (.spiWrite 2 [v] []) s = .next (hostPoll (wrote false (ring v))) ∧
          exec (.spiWrite 3 [v] []) s = .next (hostPoll (wrote false
            (s.setReg rHWN_DB_OUT (s.reg rHWN_DB_OUT &&& ~~~ (v.setWidth 64))))))) ∧
      (s.hwn.spiOpen = true →
        exec .spiTransactionEnd s = .next (hw fun q => { q with spiOpen := false, hbusy := false })) ∧
      (s.hwn.spiOpen = false → exec .spiTransactionEnd s = .next s) ∧
      -- the parallel bus
      (parReady s = false → exec (.parallelRead ha none) s = .next s ∧ exec (.parallelWrite ha v16 none) s = .next (hostPoll s)) ∧
      (parReady s = true → ha.getLsbD 0 = false →
        exec (.parallelWrite ha v16 none) s = .next (hostPoll (hw fun q => { q with hold := some ⟨word, false, v16⟩, sent := [] }))) ∧
      (parReady s = true → s.domOn 133 = true → db = false ∨ ¬ (word = 2 ∨ word = 3) →
        let reads := fun (x : BitVec 16) (keep : Option Hold16) => exec (.parallelRead ha none) s =
          .next (hw fun q => { q with hold := keep, sent := [x.setWidth 32] })
        let writes := fun (low : BitVec 16) => ∃ t, exec (.parallelWrite ha v16 none) s = .next (hostPoll t) ∧
          t = done (hw fun q => { q with arr := t.hwn.arr }) ∧
          ∀ k, tget t.hwn.arr 0 k = if k = word then v16 ++ low else w k
        (ha.getLsbD 0 = false → reads ((w word).setWidth 16) (some ⟨word, true, (w word >>> 16).setWidth 16⟩)) ∧
        (ha.getLsbD 0 = true →
          (s.hwn.hold = some ⟨word, true, half⟩ → reads half none) ∧
          ((∀ x, s.hwn.hold ≠ some ⟨word, true, x⟩) → reads ((w word >>> 16).setWidth 16) none) ∧
          (s.hwn.hold = some ⟨word, false, half⟩ → writes half) ∧
          ((∀ x, s.hwn.hold ≠ some ⟨word, false, x⟩) → writes ((w word).setWidth 16)))) ∧
      (parReady s = true → db = true → ha = 5 →
        (s.hwn.hold = some ⟨2, false, half⟩ →
          exec (.parallelWrite ha v16 none) s = .next (hostPoll (done (ring (v16 ++ half))))) ∧
        ((∀ x, s.hwn.hold ≠ some ⟨2, false, x⟩) →
          exec (.parallelWrite ha v16 none) s = .next (hostPoll (done (ring (v16 ++ (0 : BitVec 16))))))))

/-- Setting EN copies SPH_DESC to SPH_CUR, clears ERR and arms; clearing it stops a running block, at once with no
element in progress, else after those. A trigger is ignored by an unarmed channel, sets PEND while a block runs, is
counted as dropped while PEND is set. Otherwise it reads the descriptor, given an entry and powered words without
flips: a valid one becomes the block in progress, BUSY set and SPH_LEFT showing all of it; an invalid one stops the
channel with ERR 4, done event and Sump source. After each command Siphon issues what it can: the channels take turns,
each the write of its next element once that is read, or else the next read; with nothing to issue the state keeps. A
read's response is kept to be written; a write's moves on, and the last completes the block: BLK, the event if IRQ
asks for it, NEXT or DONE, and a latched trigger's start. A failed read or write stops the channel with its ERR and
the done event; the last element in progress after EN was cleared stops it with ERR 5 and no event; a stopped
channel's response is discarded. Rests on R159, R160, R161, R162, R163, R164, R169. -/
def Obligations.SiphonStartsAndMovesItsBlocks : Prop :=
  ∀ (ch : BitVec 4) (mask : BitVec 16) (s : State),
    let n := ch.toNat
    let ctlR := rSPH_CTL n
    let stat := rSPH_STAT n
    let c := sphOf s n
    let en := s.rb ctlR SPH_CTL.EN
    let busy := s.rb stat SPH_STAT.BUSY
    let pend := s.rb stat SPH_STAT.PEND
    let chan := fun (x : SphCh) (t : State) => { t with sph := tset t.sph SphCh.init n x }
    let stopped := fun (err : Nat) (t u : State) => u = { t with regs := u.regs, sph := u.sph } ∧
      (∀ k, k ≠ n → sphOf u k = sphOf t k) ∧
      sphOf u n = { sphOf t n with
        ready := [], flight := (sphOf t n).flight.map (fun e => { e with dead := true }), waits := false, stopping := false } ∧
      u.rb ctlR SPH_CTL.EN = false ∧ u.rb stat SPH_STAT.PEND = false ∧ u.rb stat SPH_STAT.BUSY = false ∧
      u.rf stat SPH_STAT.ERR = err ∧ u.rf ctlR SPH_CTL.TRIG = t.rf ctlR SPH_CTL.TRIG ∧
      u.rb stat SPH_STAT.DONE = t.rb stat SPH_STAT.DONE ∧ u.rb stat SPH_STAT.BLK = t.rb stat SPH_STAT.BLK ∧
      regsBut [ctlR, stat] t u
    let idle := fun (x : SphCh) => x.ready = [] ∧ ∀ e ∈ x.flight, e.dead = true
    (fwReaches s ctlR →
      (en = false → ∃ t, exec (.siphonEnable ch) s = .next t ∧ onlyRegsAck [ctlR, stat, rSPH_CUR n] s t ∧
        t.rb ctlR SPH_CTL.EN = true ∧ t.rf ctlR SPH_CTL.TRIG = s.rf ctlR SPH_CTL.TRIG ∧ t.rf stat SPH_STAT.ERR = 0 ∧
        t.rb stat SPH_STAT.BUSY = busy ∧ t.rf (rSPH_CUR n) SPH_CUR.ADDR = s.rf (rSPH_DESC n) SPH_DESC.ADDR) ∧
      (en = true → exec (.siphonEnable ch) s = .next (s.answer 0 0)) ∧
      (en = false → exec (.siphonDisable ch) s = .next (s.answer 0 0)) ∧
      (en = true → busy = false → exec (.siphonDisable ch) s = .next ((s.setRf ctlR SPH_CTL.EN 0).answer 0 0)) ∧
      (en = true → busy = true → ¬ idle c → exec (.siphonDisable ch) s =
        .next ((chan { c with stopping := true } (s.setRf ctlR SPH_CTL.EN 0)).answer 0 0)) ∧
      (en = true → busy = true → idle c → ∃ u, stopped 5 s u ∧ exec (.siphonDisable ch) s = .next (u.answer 0 0))) ∧
    (fwReaches s rSPH_TRIG →
      exec (.sphTrig mask) s = .next ((sphGo (forEach ((idxs 0 16).filter fun k => mask.getLsbD k) sphTrigger s)).answer 0 0) ∧
      ∀ t, exec (.siphonTrigger ch) s = .next t → exec (.sphTrig (1#16 <<< n)) s = .next (t.answer 0 0)) ∧
    (awake s →
      (en = false → exec (.siphonTrigger ch) s = .next (sphGo s)) ∧
      (en = true → busy = true → pend = false → exec (.siphonTrigger ch) s = .next (sphGo (s.setRf stat SPH_STAT.PEND 1))) ∧
      (en = true → busy = true → pend = true →
        exec (.siphonTrigger ch) s = .next (sphGo (s.bumpSat (rSPH_TDROP n) SPH_TDROP.CNT))) ∧
      (en = true → busy = false →
        let d := s.rf (rSPH_CUR n) SPH_CUR.ADDR * 64
        let w := (d - 0x10000000) / 8
        let wd := fun i => tget s.cav.words 0 (w + i)
        let x := fun i lo k => ((wd i).extractLsb' lo k).toNat
        let z := fun i lo => ((wd i).extractLsb' lo 16).toInt
        let y := fun i => ((wd i).extractLsb' 0 32).toInt
        let sz : Nat := if x 6 0 2 = 1 then 8 else 4
        let valid := (∀ i < 8, x i 32 8 = 0) ∧ x 6 4 28 = 0 ∧ x 6 0 2 < 2 ∧ x 2 0 16 ≠ 0 ∧ x 0 0 32 % sz = 0 ∧
          x 1 0 32 % sz = 0 ∧ z 3 0 % sz = 0 ∧ z 3 16 % sz = 0 ∧ y 4 % sz = 0 ∧ y 5 % sz = 0 ∧
          (x 6 3 1 = 1 ∨ x 7 0 32 % 64 = 0)
        (d < 0x10000000 ∨ 0x10800000 ≤ d → ∃ u, stopped 4 s u ∧
          exec (.siphonTrigger ch) s = .next (sphGo (raise srcSphDesc (rosterEvent 0x1C u)))) ∧
        (0x10000000 ≤ d → d < 0x10800000 → identFree s (8 + n) = true →
          (∀ i < 8, s.domOn (cavDomain (w + i)) = true ∧ tget s.cav.flips 0 (w + i) = 0) →
          (¬ valid → ∃ v u, onlyRegs [rBMX_OUT 1] s v ∧ outOf v 1 = outOf s 1 ∧ stopped 4 v u ∧
            exec (.siphonTrigger ch) s = .next (sphGo (raise srcSphDesc (rosterEvent 0x1C u)))) ∧
          (valid → ∃ t, exec (.siphonTrigger ch) s = .next (sphGo t) ∧ t = { s with regs := t.regs, sph := t.sph } ∧
            (∀ k, k ≠ n → sphOf t k = sphOf s k) ∧
            sphOf t n = { src := x 0 0 32, dst := x 1 0 32, xcnt := x 2 0 16, ycnt := max 1 (x 2 16 16), sxinc := z 3 0
                          dxinc := z 3 16, syinc := y 4, dyinc := y 5, wide := decide (x 6 0 2 = 1)
                          irq := decide (x 6 2 1 = 1), last := decide (x 6 3 1 = 1), next := x 7 0 32
                          rnext := 0, wnext := 0, acked := 0, ready := [], flight := c.flight, waits := false
                          stopping := false } ∧
            t.reg stat = (s.setRf stat SPH_STAT.BUSY 1).reg stat ∧ t.rf (rSPH_LEFT n) SPH_LEFT.XLEFT = x 2 0 16 ∧
            t.rf (rSPH_LEFT n) SPH_LEFT.YLEFT = max 1 (x 2 16 16) ∧ outOf t 1 = outOf s 1 ∧
            regsBut [stat, rSPH_LEFT n, rBMX_OUT 1] s t))) ∧
      -- what Siphon issues
      (busy = false → sphNext s n = none) ∧
      (busy = true →
        (∀ v pre post, c.ready = pre ++ (c.wnext, v) :: post → (∀ e ∈ pre, e.1 ≠ c.wnext) → sphNext s n = some (c.wnext, true, v)) ∧
        ((∀ e ∈ c.ready, e.1 ≠ c.wnext) → sphNext s n =
          if c.rnext < c.xcnt * c.ycnt ∧ c.stopping = false then some (c.rnext, false, 0) else none)) ∧
      ((∀ k, k < 16 → sphNext s k = none) → sphGo s = s) ∧
      (∀ (e : Nat) (wr : Bool) (v : W64) (j fuel : Nat), s.held 32 = false → s.running = true → identFree s 8 = true →
        j < 16 → n = (s.mtx.sphTurn + 1 + j) % 16 → sphNext s n = some (e, wr, v) →
        (∀ i < j, sphNext s ((s.mtx.sphTurn + 1 + i) % 16) = none) →
        let b : Int := if wr then c.dst else c.src
        let dx := if wr then c.dxinc else c.sxinc
        let dy := if wr then c.dyinc else c.syinc
        let a := (BitVec.ofInt 32 (b + dy * (e / c.xcnt : Nat) + dx * (e % c.xcnt : Nat))).toNat
        let c' := if wr then { c with ready := c.ready.filter (fun x => x.1 != e), wnext := e + 1, waits := false }
          else { c with rnext := e + 1, waits := false }
        let r := routeAccess 1 a (if c.wide then 8 else 4) wr v [] (takeEntry 1
          { chan c' s with mtx := { s.mtx with sphTurn := n, issues := s.mtx.issues + 1 } })
        r.2.running = true → r.2.held 32 = false → r.2.rb stat SPH_STAT.BUSY = true →
        sphFill (fuel + 1) s = sphFill fuel (chan { sphOf r.2 n with
          flight := (sphOf r.2 n).flight ++ [⟨e, a, wr, r.1.1, r.1.2, s.mtx.issues, false, false⟩] } r.2)) ∧
      sphGo s = sphFill 17 s ∧
      -- what a response does
      ∀ p ∈ [(Instr.siphonReadReturn ch, false), (.siphonWriteAck ch, true)],
        let g := sphGo s
        let k := sphOf g n
        ((∀ e ∈ k.flight, e.write ≠ p.2) → exec p.1 s = .next g) ∧
        ∀ pre e post, k.flight = pre ++ e :: post → (∀ x ∈ pre, x.write ≠ p.2) → e.write = p.2 →
          (inOrder g e.seq (8 + n) e.addr = false → exec p.1 s = .next g) ∧
          (inOrder g e.seq (8 + n) e.addr = true →
            let k' := { k with flight := pre ++ post }
            let f := chan k' (if e.early then g else freeEntry 1 g)
            let q := if e.code = 0 then f else errorResponse (8 + n) e.addr e.write e.code f
            let left := { k' with acked := k.acked + 1 }
            let last := k.xcnt * k.ycnt ≤ k.acked + 1
            (e.dead = true ∨ q.held 32 = true ∨ q.running = false → exec p.1 s = .next (sphGo q)) ∧
            (e.dead = false → q.held 32 = false → q.running = true →
              (e.code ≠ 0 → ∃ u, stopped (if p.2 = true then 2 else if e.code = 8 then 3 else 1) q u ∧
                exec p.1 s = .next (sphGo (rosterEvent 0x1C u))) ∧
              (e.code = 0 → p.2 = false →
                exec p.1 s = .next (sphGo (chan { k' with ready := k.ready ++ [(e.elem, e.data)] } f))) ∧
              (e.code = 0 → p.2 = true →
                (k.stopping = true → idle k' → ∃ t u, t = { f with regs := t.regs, sph := t.sph } ∧ regsBut [rSPH_LEFT n] f t ∧
                  stopped 5 t u ∧ exec p.1 s = .next (sphGo u)) ∧
                (k.stopping = false ∨ ¬ idle k' → ¬ last → ∃ t, exec p.1 s = .next (sphGo t) ∧
                  t = { f with regs := t.regs, sph := t.sph } ∧ (∀ i, i ≠ n → sphOf t i = sphOf g i) ∧ sphOf t n = left ∧
                  t.rf (rSPH_LEFT n) SPH_LEFT.XLEFT = (k.xcnt - (k.acked + 1) % k.xcnt) % 65536 ∧
                  t.rf (rSPH_LEFT n) SPH_LEFT.YLEFT = (k.ycnt - (k.acked + 1) / k.xcnt) % 65536 ∧
                  regsBut [rSPH_LEFT n] f t) ∧
                (k.stopping = false ∨ ¬ idle k' → last → ∃ t,
                  (let u := if k.irq then rosterEvent 0x1C t else t
                   exec p.1 s = .next (sphGo
                     (if u.rb stat SPH_STAT.PEND then sphStart n (u.setRf stat SPH_STAT.PEND 0) else u))) ∧
                  t = { f with regs := t.regs, sph := t.sph } ∧ (∀ i, i ≠ n → sphOf t i = sphOf g i) ∧ sphOf t n = left ∧
                  t.rb stat SPH_STAT.BUSY = false ∧ t.rb stat SPH_STAT.BLK = true ∧
                  (k.last = true → t.rb ctlR SPH_CTL.EN = false ∧ t.rb stat SPH_STAT.DONE = true ∧
                    t.rb stat SPH_STAT.PEND = false ∧ regsBut [rSPH_LEFT n, stat, ctlR] f t) ∧
                  (k.last = false → t.rf (rSPH_CUR n) SPH_CUR.ADDR = k.next / 64 % 2 ^ 26 ∧
                    t.rb stat SPH_STAT.PEND = f.rb stat SPH_STAT.PEND ∧ regsBut [rSPH_LEFT n, stat, rSPH_CUR n] f t))))))

/-- An issue by a master that is not held, with an entry free for its identifier and, for the Guide's first, no store
posted before it, takes an entry and the target performs it; else it waits and is counted; a held master issues
nothing. The response to a transaction listed by the matrix that no earlier one with its identifier and target
precedes takes it off the list, frees its entry, gives its data and code to a master that is not held, lets a waiting
one of that master issue, and reports an error code. The timeout of one its target has granted does the same with code
0xB, or with the lower code of an error it had drawn; one refused before a grant does not time out. A transaction that
may not be answered is left alone. The response to a Guide load is that load's completion or error, the response to a
Chamber's access that Chamber's load return. PEAK_CLR sets PEAK to OUT. Rests on R165, R169, R172, R174, R175, R178.
-/
def Obligations.MatrixTransactionsAreIssuedAndAnswered : Prop :=
  ∀ (ident : BitVec 6) (addr : W32) (bytes : BitVec 4) (wr : Bool) (v : W64) (index : BitVec 7) (place : BitVec 3)
    (tile : BitVec 4) (m3 : BitVec 3) (s : State),
    let id := ident.toNat
    let m := masterOf id
    let new : Txn := ⟨m, id, addr.toNat, bytes.toNat, wr, v, 0, false, [], 0, false⟩
    let u := { s with txns := s.txns ++ [new] }
    let i := index.toNat
    let resp := Instr.bmxTransactionResponse (.matrix index)
    let late := Instr.bmxTimeout (.matrix index)
    let free := identFree s id = true ∧ (id = 0 → s.gde.posts = [])
    (s.running = true → id < 60 →
      (identHeld s id = true → exec (.bmxTransactionIssue ident addr bytes wr v) s = .next s) ∧
      (identHeld s id = false → ¬ free → exec (.bmxTransactionIssue ident addr bytes wr v) s =
        .next (u.bumpSat (rBMX_QSTALL m) BMX_QSTALL.CNT)) ∧
      (identHeld s id = false → free →
        let r := routeAccess m addr.toNat bytes.toNat wr v [] (takeTurn id
          { takeEntry m u with mtx := { s.mtx with issues := s.mtx.issues + 1 } })
        let y := fun (x : Txn) => { x with data := r.1.1, code := r.1.2, issued := true, seq := s.mtx.issues }
        r.2.running = true →
        exec (.bmxTransactionIssue ident addr bytes wr v) s =
          .next { r.2 with txns := r.2.txns.modify s.txns.length y })) ∧
    (s.running = true → m3.toNat < 6 → exec (.peakClr m3) s =
      .next ((s.setRf (rBMX_OUT m3.toNat) BMX_OUT.PEAK (outOf s m3.toNat)).answer 0 0)) ∧
    (awake s →
      (∀ x, s.txns[i]? = some x →
        let first := x.issued = true ∧ inOrder s x.seq x.ident x.addr = true
        let f : State := { s with txns := s.txns.eraseIdx i }
        let f' := if x.early then f else f.setRf (rBMX_OUT x.master) BMX_OUT.OUT (outOf s x.master - 1)
        let goes := fun (d : W64) (c : Nat) => issueWaiting x.master (if identHeld s x.ident = true then f' else f'.answer d c)
        let ends := fun (d : W64) (c : Nat) =>
          if c = 0 then goes d 0 else errorResponse x.ident x.addr x.write c (goes 0 c)
        (first →
          exec resp s = .next (ends (if x.write then 0 else x.data) x.code) ∧
          (x.code = 1 ∨ x.code = 2 ∨ x.code = 0xA → exec late s = .next s) ∧
          (¬ (x.code = 1 ∨ x.code = 2 ∨ x.code = 0xA) →
            exec late s = .next (ends 0 (if x.code = 0 then 0xB else x.code)))) ∧
        (x.issued = true → inOrder s x.seq x.ident x.addr = false → exec resp s = .next s) ∧
        (x.issued = false → exec late s = .next s ∧
          (identFree s x.ident = false ∨ identHeld s x.ident = true → exec resp s = .next s))) ∧
      (s.txns[i]? = none → exec resp s = .next s ∧ exec late s = .next s) ∧
      (∀ l, s.gde.loads[place.toNat]? = some l → exec (.bmxTransactionResponse (.load place)) s =
        exec (if l.code = 0 then .guideLoadComplete place else .guideLoadError place) s) ∧
      (∀ t, exec (.chamberCavernLoadReturn tile) s = .next t →
        exec (.bmxTransactionResponse (.chamber tile)) s = .next (issueWaiting 3 t)) ∧
      ((∀ y ∈ s.txns, y.master = m → y.issued = true) → (m = 0 → s.gde.posts = []) → issueWaiting m s = s))

/-- In either slot of a bundle that executes, beside a nop: add, sub, min, max, abs, neg, mul, shli, shri and sha
compute exactly over the word or over each F16 lane, mul, shri and right shifts round in the mode given, and the
result saturates (SAT) or wraps (WRAP) with O set where it does not fit; Z and N follow the result. and, or, xor and
lsri set Z and N and clear O; cmp and tst set the flags alone; sel, mov, movi, nrm and unpk write without flags; pack
rounds at bit 17 and narrows both values. Every other register, memory and tile is as before, and the program goes on
to the next bundle. Beside any slot without a memory access the result is written as well. Rests on R208, R209, R212,
R217, R218, R186, R193, R194, R227, R233. -/
def Obligations.ChamberDataInstructionResults : Prop :=
  ∀ (tile : BitVec 4) (f : BitVec 25) (other : BitVec 31) (inB : Bool) (s : State),
    let n := tile.toNat
    let c := chmOf s n
    let co : CoSlot := ⟨inB, other, none⟩
    let alone : CoSlot := ⟨inB, 0, none⟩
    let dd := bf f 18 7
    let a := rdReg c (bf f 11 7)
    let b := rdReg c (bf f 4 7)
    let fl := f.getLsbD 3
    let sat := f.getLsbD 2
    let h := if bf f 0 2 = 0 then c.rnd.getLsbD c.cg else decide (bf f 0 2 = 2)
    let k := bf f 5 6
    let round := fun (x : Int) (k : Nat) => if k = 0 then x else if h then (x + 2 ^ (k - 1)) / 2 ^ k else x / 2 ^ k
    let lim : Int := if fl then 16 else 40
    let amt : Int := max (- lim) (min lim (b.extractLsb' 0 7).toInt)
    let word := fun (g : Int → Int → Int) => if fl
      then packF (narrowed 16 sat (g (laneF a 0) (laneF b 0))) (narrowed 16 sat (g (laneF a 1) (laneF b 1)))
      else narrowed 40 sat (g a.toInt b.toInt)
    let over1 := fun (g : Int → Int → Int) => if fl
      then outside 16 (g (laneF a 0) (laneF b 0)) || outside 16 (g (laneF a 1) (laneF b 1))
      else outside 40 (g a.toInt b.toInt)
    let p0 := round a.toInt 17
    let p1 := round b.toInt 17
    let packed : W40 := packF (narrowed 16 sat p0) (narrowed 16 sat p1)
    let goes := fun (op : BitVec 6) => chmGo n (shortBundle op f alone) s
    let writes := fun (i : CoSlot → Instr) (op : BitVec 6) (v : W40) (z ng o ov : Bool) =>
      (goes op → ∃ t, exec (i alone) s = .next t ∧ chmAfter n s t [(regName c dd, v.setWidth 88)] z ng o (ov && sat) (ov && !sat)
        false (chmNext c)) ∧
      (chmGo n (shortBundle op f co) s → (shortEff c other).mem = [] →
        ∃ t, exec (i co) s = .next t ∧ t = { s with regs := t.regs, chm := t.chm } ∧
          chmReg (chmOf t n) (regName c dd) = v.setWidth 88)
    (∀ p ∈ [(Instr.chmAdd tile f, 0x01#6, fun x y => x + y), (.chmSub tile f, 0x02, fun x y => x - y),
        (.chmMin tile f, 0x03, min), (.chmMax tile f, 0x04, max), (.chmAbs tile f, 0x05, fun x _ => max x (- x)),
        (.chmNeg tile f, 0x06, fun x _ => - x), (.chmMul tile f, 0x07, fun x y => round (x * y) (if fl then 15 else 32)),
        (.chmShli tile f, 0x10, fun x _ => x * 2 ^ k), (.chmShri tile f, 0x11, fun x _ => round x k),
        (.chmSha tile f, 0x13, fun x _ => if 0 ≤ amt then x * 2 ^ amt.toNat else round x (- amt).toNat)],
      writes p.1 p.2.1 (word p.2.2) (word p.2.2 == 0) ((word p.2.2).getLsbD 39) (over1 p.2.2) (over1 p.2.2)) ∧
    (∀ p ∈ [(Instr.chmAnd tile f, 0x08#6, a &&& b), (.chmOr tile f, 0x09, a ||| b), (.chmXor tile f, 0x0A, a ^^^ b),
        (.chmLsri tile f, 0x12, a >>> k)],
      writes p.1 p.2.1 p.2.2 (p.2.2 == 0) (p.2.2.getLsbD 39) false false) ∧
    (∀ p ∈ [(Instr.chmSel tile f, 0x0D#6, if condHolds c (bf f 0 3) then a else b), (.chmMov tile f, 0x18, a),
        (.chmMovi tile f, 0x19, (f.extractLsb' 0 18).signExtend 40),
        (.chmUnpk tile f, 0x1C, BitVec.ofInt 40 (laneF a (k % 2) * 2 ^ 17))],
      writes p.1 p.2.1 p.2.2 c.z c.n c.o false) ∧
    (∃ q : Nat, q ≤ 39 ∧ (∀ j, 39 - q ≤ j → j ≤ 39 → a.getLsbD j = a.getLsbD 39) ∧
      (q < 39 → a.getLsbD (38 - q) ≠ a.getLsbD 39) ∧
      writes (.chmNrm tile f) 0x1A (BitVec.ofNat 40 q) c.z c.n c.o false) ∧
    writes (.chmPack tile f) 0x1B packed (packed == 0) (packed.getLsbD 39) (outside 16 p0 || outside 16 p1)
      (outside 16 p0 || outside 16 p1) ∧
    (goes 0x0B → ∃ t, exec (.chmCmp tile f alone) s = .next t ∧
      chmAfter n s t [] (a == b) (decide (a.toInt < b.toInt)) false false false false (chmNext c)) ∧
    (goes 0x0C → ∃ t, exec (.chmTst tile f alone) s = .next t ∧
      chmAfter n s t [] (a == 0) (decide (a.toInt < 0)) false false false false (chmNext c))

/-- In a bundle that executes, beside a nop: ext and ext4 extract accumulators scaled by 2^K4, rounded and narrowed,
with their flags; aclr, amov, aadd, asub, ald, ashr, aget and aput write their accumulator, lane or part. mset, mneg,
macc and msub, and a long MAC of registers, form the four products of their sharing pattern and deliver each to its
accumulator, or their sum to one, set, negated, added or subtracted. A sum that does not fit saturates and sets SAT,
or wraps and sets AOV. Everything else is as before. Rests on R187, R188, R190, R191, R192, R194, R219, R220, R224,
R225. -/
def Obligations.ChamberAccumulatorAndMacResults : Prop :=
  ∀ (tile : BitVec 4) (f : BitVec 25) (lf : BitVec 58) (inB : Bool) (s : State),
    let n := tile.toNat
    let c := chmOf s n
    let co : CoSlot := ⟨inB, 0, none⟩
    let an := bf f 22 3
    let u := rdAcc c an
    let w := rdAcc c (bf f 19 3)
    let r := bf f 12 7
    let d := rdReg c r
    let k := bf f 8 4
    let fl := f.getLsbD 3
    let sat := f.getLsbD 2
    let h := if bf f 0 2 = 0 then c.rnd.getLsbD c.cg else decide (bf f 0 2 = 2)
    let round := fun (x : Int) (k : Nat) => if k = 0 then x else if h then (x + 2 ^ (k - 1)) / 2 ^ k else x / 2 ^ k
    let ext := fun (v : W88) => if fl
      then packF (narrowed 16 sat (round (laneA v 0 * 2 ^ k) 15)) (narrowed 16 sat (round (laneA v 1 * 2 ^ k) 15))
      else narrowed 40 sat (round (v.toInt * 2 ^ k) 32)
    let extOver := fun (v : W88) => if fl
      then outside 16 (round (laneA v 0 * 2 ^ k) 15) || outside 16 (round (laneA v 1 * 2 ^ k) 15)
      else outside 40 (round (v.toInt * 2 ^ k) 32)
    let lanes := fun (fl sat : Bool) (x x0 x1 : Int) => if fl then packA (narrowed 44 sat x0) (narrowed 44 sat x1) else narrowed 88 sat x
    let lanesOver := fun (fl : Bool) (x x0 x1 : Int) => if fl then outside 44 x0 || outside 44 x1 else outside 88 x
    let goes := fun (op : BitVec 6) (f : BitVec 25) => chmGo n (shortBundle op f co) s
    let sets := fun (i : Instr) (op : BitVec 6) (v : W88) (ov : Bool) => goes op f → ∃ t, exec i s = .next t ∧
      chmAfter n s t [(100 + an, v)] c.z c.n c.o (ov && sat) false (ov && !sat) (chmNext c)
    let q0 := extOver (rdAcc c an) || extOver (rdAcc c (an + 1)) || extOver (rdAcc c (an + 2)) || extOver (rdAcc c (an + 3))
    let four := fun (x y : Nat → W40) (pat i : Nat) =>
      if pat = 0 then (x 0, y i) else if pat = 1 then (x i, y 0) else (x (i / 2), y (i % 2))
    let quad := fun (i : Instr) (runs : Prop) (x y : Nat → W40) (pat acc aop : Nat) (sum fl sat : Bool) =>
      let pr := fun j => (four x y pat j).1.toInt * (four x y pat j).2.toInt
      let ln := fun l j => laneF (four x y pat j).1 l * laneF (four x y pat j).2 l
      let op := fun (o : Int) (p : Int) => if aop = 0 then p else if aop = 1 then - p else if aop = 2 then o + p else o - p
      let one := fun (m : Nat) (p p0 p1 : Int) =>
        let o := rdAcc c m
        ((100 + m, lanes fl sat (op o.toInt p) (op (laneA o 0) p0) (op (laneA o 1) p1)),
          lanesOver fl (op o.toInt p) (op (laneA o 0) p0) (op (laneA o 1) p1))
      let all := fun (g : Nat → Int) => g 0 + g 1 + g 2 + g 3
      let rs := if sum then [one acc (all pr) (all (ln 0)) (all (ln 1))]
        else (List.range 4).map fun j => one (acc + j) (pr j) (ln 0 j) (ln 1 j)
      let ov := rs.any (·.2)
      runs → ∃ t, exec i s = .next t ∧
        chmAfter n s t (rs.map (·.1)) c.z c.n c.o (ov && sat) false (ov && !sat) (chmNext c)
    (goes 0x28 f → ∃ t, exec (.chmExt tile f co) s = .next t ∧
      chmAfter n s t [(regName c r, (ext u).setWidth 88)] (ext u == 0) ((ext u).getLsbD 39) (extOver u) (extOver u && sat)
        (extOver u && !sat) false (chmNext c)) ∧
    (goes 0x29 f → ∃ t, exec (.chmExt4 tile f co) s = .next t ∧
      chmAfter n s t ((List.range 4).map fun i => (regName c (r + i), (ext (rdAcc c (an + i))).setWidth 88)) c.z c.n q0 (q0 && sat)
        (q0 && !sat) false (chmNext c)) ∧
    sets (.chmAclr tile f co) 0x2A 0 false ∧
    sets (.chmAmov tile f co) 0x2B w false ∧
    (let x := lanes fl sat (u.toInt + w.toInt) (laneA u 0 + laneA w 0) (laneA u 1 + laneA w 1)
     sets (.chmAadd tile f co) 0x2C x (lanesOver fl (u.toInt + w.toInt) (laneA u 0 + laneA w 0) (laneA u 1 + laneA w 1))) ∧
    (let x := lanes fl sat (u.toInt - w.toInt) (laneA u 0 - laneA w 0) (laneA u 1 - laneA w 1)
     sets (.chmAsub tile f co) 0x2D x (lanesOver fl (u.toInt - w.toInt) (laneA u 0 - laneA w 0) (laneA u 1 - laneA w 1))) ∧
    sets (.chmAld tile f co) 0x2E
      (lanes fl false (d.toInt * 2 ^ 32) (laneF d 0 * 2 ^ 15) (laneF d 1 * 2 ^ 15)) false ∧
    sets (.chmAshr tile f co) 0x2F (lanes fl false (round u.toInt k) (round (laneA u 0) k) (round (laneA u 1) k)) false ∧
    (goes 0x30 f → ∃ t v, exec (.chmAget tile f co) s = .next t ∧
      chmAfter n s t [(regName c r, v)] c.z c.n c.o false false false (chmNext c) ∧
      (k = 0 → v = (u.extractLsb' 0 40).setWidth 88) ∧ (k = 1 → v = (u.extractLsb' 40 40).setWidth 88) ∧
      (k = 2 → v = ((u.extractLsb' 80 8).signExtend 40).setWidth 88)) ∧
    (goes 0x31 f → ∃ t v, exec (.chmAput tile f co) s = .next t ∧
      chmAfter n s t [(100 + an, v)] c.z c.n c.o false false false (chmNext c) ∧
      v.extractLsb' 0 40 = (if k = 0 then d else u.extractLsb' 0 40) ∧
      v.extractLsb' 40 40 = (if k = 1 then d else u.extractLsb' 40 40) ∧
      v.extractLsb' 80 8 = (if k = 2 then d.setWidth 8 else u.extractLsb' 80 8)) ∧
    (∀ p ∈ [(Instr.chmMset tile f co, 0#2), (.chmMneg tile f co, 1), (.chmMacc tile f co, 2), (.chmMsub tile f co, 3)],
      quad p.1 (goes 0x34 (f.extractLsb' 5 20 ++ p.2 ++ f.setWidth 3)) (fun i => rdReg c (bf f 16 7 + i))
        (fun i => rdReg c (bf f 9 7 + i)) (bf f 23 2) (bf f 6 3) p.2.toNat (f.getLsbD 5) (f.getLsbD 2) (f.getLsbD 1)) ∧
    (bf lf 0 32 = 0 → lf.getLsbD 47 = false → lf.getLsbD 39 = false →
      quad (.chmLongMac tile lf none) (chmGo n (0#2 ++ 1#4 ++ lf) s) (fun i => rdReg c (bf lf 40 7 + i))
        (fun i => rdReg c (bf lf 32 7 + i)) (bf lf 56 2) (bf lf 48 3) (bf lf 51 2) (lf.getLsbD 53) (lf.getLsbD 55) (lf.getLsbD 54))

/-- In a bundle that executes, beside a nop: ld writes the word, or two, of X or Y its pointer gives, and st stores
there, with the pointer updated by its mode, circular or linear; every other word is as before; a sub-bank that a
matrix access delays counts in CHM_STALL. mtc and cset write a control register at its width and mfc reads it, setcg
sets the group, ldi writes its immediate, evget takes the oldest event record or sets Z. br goes to its target and
leaves the repeats that do not contain it; rep and repr open a repeat, repr of 0 skips it; the end of the top repeat
returns to its start until its passes are done; rot moves the rotation base; end ends the run. Everything else is as
before. Rests on R196, R198, R210, R213, R214, R215, R221, R222, R233, R234, R237. -/
def Obligations.ChamberMemoryControlAndSequencer : Prop :=
  ∀ (tile : BitVec 4) (f : BitVec 25) (lf : BitVec 58) (inB : Bool) (s : State),
    let n := tile.toNat
    let c := chmOf s n
    let co : CoSlot := ⟨inB, 0, none⟩
    let goes := fun (op : BitVec 6) (f : BitVec 25) => chmGo n (shortBundle op f co) s
    let longGoes := fun (op : BitVec 4) => chmGo n (0#2 ++ op ++ lf) s
    let plain := fun (t : State) (wr : List (Nat × W88)) => chmAfter n s t wr c.z c.n c.o false false false (chmNext c)
    let jumps := fun (i : Instr) (pc : Nat) (st : List Loop) =>
      ∃ t, exec i s = .next t ∧ chmAfter n s t [] c.z c.n c.o false false false (pc, st)
    let dr := bf f 18 7
    let d := rdReg c dr
    let kp := bf f 14 4
    let p := tget c.p 0 kp
    let am := bf f 9 2
    let m := (tget c.m 0 (bf f 11 3)).toInt
    let at1 := if am = 2 then ptrMod c kp p m else p
    let at2 := ptrMod c kp at1 1
    let upd : List (Nat × W88) := if am = 1 then [(200 + kp, (ptrMod c kp p m).setWidth 88)]
      else if am = 3 then [(200 + kp, (ptrMod c kp p 1).setWidth 88)] else []
    let two := f.getLsbD 8
    let clean := fun (v : BitVec 24) => ptrNear v = true ∧
      (if ptrSpace v = 0 then tget c.xf 0 (ptrIndex v) else tget c.yf 0 (ptrIndex v)) = 0
    let word := fun (v : BitVec 24) => if ptrSpace v = 0 then tget c.x 0 (ptrIndex v) else tget c.y 0 (ptrIndex v)
    let met := fun (v : BitVec 24) => c.met.contains (2 * ptrSpace v + ptrIndex v % 2)
    let s' := if met at1 = true ∨ (two = true ∧ met at2 = true)
      then setChm n { c with met := [] } (s.bumpSat (rCHM_STALL n) CHM_STALL.XYC) else s
    let moved := fun (t : State) (wr : List (Nat × W88)) => chmAfter n s' t wr c.z c.n c.o false false false (chmNext c)
    let fits := clean at1 ∧ (two = true → clean at2 ∧ ptrIndex at2 % 2 ≠ ptrIndex at1 % 2)
    let ctlWord := fun (k : Nat) (v : W40) => if k < 16 then (v.setWidth 24).setWidth 88
      else if k < 40 then (v.setWidth 20).setWidth 88 else (v.setWidth 3).setWidth 88
    let k6 := bf f 12 6
    let tgt := bf f 0 13
    (∀ (k : Nat) (v : BitVec 24) (amt : Int), let q := ptrMod c k v amt
      let len := (tget c.l 0 k).toNat
      let base := (tget c.b 0 k).toNat
      ptrSpace q = ptrSpace v ∧
      (8 ≤ k ∨ len = 0 → ((ptrIndex q : Int) - (ptrIndex v + amt)) % 2 ^ 20 = 0) ∧
      (k < 8 → len ≠ 0 → base + len ≤ 2 ^ 20 → base ≤ ptrIndex q ∧ ptrIndex q < base + len ∧
        ((ptrIndex q : Int) - (ptrIndex v + amt)) % len = 0)) ∧
    (goes 0x20 f → fits → ∃ t, exec (.chmLd tile f co) s = .next t ∧ moved t ((regName c dr, (word at1).setWidth 88) ::
      (if two then [(regName c (dr + 1), (word at2).setWidth 88)] else []) ++ upd)) ∧
    (goes 0x21 f → fits → ∃ t u, exec (.chmSt tile f co) s = .next t ∧ moved u upd ∧
      t = setChm n { chmOf u n with x := (chmOf t n).x, y := (chmOf t n).y, xf := (chmOf t n).xf, yf := (chmOf t n).yf } u ∧
      ∀ sp i, let stored := if two = true ∧ sp = ptrSpace at2 ∧ i = ptrIndex at2 then some (rdReg c (dr + 1))
          else if sp = ptrSpace at1 ∧ i = ptrIndex at1 then some d else none
        (sp = 0 → tget (chmOf t n).x 0 i = stored.getD (tget c.x 0 i)) ∧
        (sp = 1 → tget (chmOf t n).y 0 i = stored.getD (tget c.y 0 i))) ∧
    (goes 0x38 f → ∃ t, exec (.chmMtc tile f co) s = .next t ∧ plain t [(200 + k6, ctlWord k6 d)]) ∧
    (longGoes 3 → ∃ t, exec (.chmCset tile lf none) s = .next t ∧ plain t [(200 + bf lf 52 6, BitVec.ofNat 88 (bf lf 0 24))]) ∧
    (longGoes 2 → ∃ t, exec (.chmLdi tile lf none) s = .next t ∧
      plain t [(regName c (bf lf 51 7), (lf.extractLsb' 0 40).setWidth 88)]) ∧
    (goes 0x39 f → ∃ t v, exec (.chmMfc tile f co) s = .next t ∧ plain t [(regName c dr, v)] ∧
      (k6 < 16 → v = (tget c.p 0 k6).setWidth 88) ∧
      (16 ≤ k6 → k6 < 24 → v = ((tget c.m 0 (k6 - 16)).signExtend 40).setWidth 88) ∧
      (24 ≤ k6 → k6 < 32 → v = (tget c.b 0 (k6 - 24)).setWidth 88) ∧
      (32 ≤ k6 → k6 < 40 → v = (tget c.l 0 (k6 - 32)).setWidth 88) ∧
      (k6 = 40 → v = (BitVec.ofNat 40 c.cg).setWidth 88) ∧ (k6 = 41 → v = (BitVec.ofNat 40 c.rb).setWidth 88)) ∧
    (goes 0x3A f → ∃ t, exec (.chmSetcg tile f co) s = .next t ∧ plain t [(240, BitVec.ofNat 88 (bf f 0 3))]) ∧
    (goes 0x3B f →
      (c.evq = [] → ∃ t, exec (.chmEvget tile f co) s = .next t ∧
        chmAfter n s t [(regName c dr, 0)] true c.n c.o false false false (chmNext c)) ∧
      (∀ e r, c.evq = e :: r → ∃ u, exec (.chmEvget tile f co) s = .next (setChm n { chmOf u n with evq := r } u) ∧
        chmAfter n s u [(regName c dr, e.setWidth 88)] false c.n c.o false false false (chmNext c))) ∧
    (goes 0x3C f →
      (condHolds c (bf f 22 3) = true → jumps (.chmBr tile f co) tgt
        (c.stack.dropWhile fun t => !(decide (t.start ≤ tgt) && decide (tgt ≤ t.last)))) ∧
      (condHolds c (bf f 22 3) = false → jumps (.chmBr tile f co) (chmNext c).1 (chmNext c).2)) ∧
    (goes 0x3D f → jumps (.chmRep tile f co) (c.pc + 1) (⟨c.pc + 1, tgt, bf f 13 12 + 1⟩ :: c.stack)) ∧
    (goes 0x3E f →
      (d.toNat % 65536 = 0 → jumps (.chmRepr tile f co) (tgt + 1) c.stack) ∧
      (d.toNat % 65536 ≠ 0 → jumps (.chmRepr tile f co) (c.pc + 1) (⟨c.pc + 1, tgt, d.toNat % 65536⟩ :: c.stack))) ∧
    (goes 0x3F (0#3 ++ f.setWidth 22) → exec (.chmEnd tile f co) s = .next (setChm n { c with ended := true, delayed := false, wants := false } s)) ∧
    (goes 0x3F (1#3 ++ f.setWidth 22) → exec (.chmRot tile f co) s = .next (setChm n { c with
      rb := (c.rb + bf f 16 6) % 64, pc := (chmNext c).1, stack := (chmNext c).2, delayed := false, wants := false } s)) ∧
    ((∀ t ∈ c.stack, t.last ≠ c.pc) → chmNext c = (c.pc + 1, c.stack)) ∧
    (∀ t r, c.stack = t :: r → t.last = c.pc →
      (1 < t.left → chmNext c = (t.start, { t with left := t.left - 1 } :: r)) ∧
      (t.left ≤ 1 → chmNext c = chmNext { c with stack := r })) ∧
    (∀ q, 32 ≤ q → q < 96 → ((regName c q : Int) - 32 - (q - 32 - c.rb)) % 64 = 0 ∧ 32 ≤ regName c q ∧ regName c q < 96)

/-- A bundle of nops changes the program counter alone. An illegal bundle, FORM 2 or 3 or the cleared bundle among
them, stops the run, sets ILL with its lowest cause and its index and raises the PROGRAM source; a loop fault does so
in CHM_LOOP_STAT. A bundle whose register awaits a Cavern load waits, counted once. A Cavern load takes a gateway
entry and goes into flight with what Cavern answers, or waits, counted once, where none is free for the Chamber; when
the oldest access returns, none of its Chamber issued before it, it frees the entry and writes its destination, or
zero with GERR and the error reported; a bank swap that waited for the last store is then made. A loader write of a
powered Chamber stores a bundle of the shadow bank with clean check bits, adds it to the CRC and counts it; CNT_CLR
and CRC_CLR clear their registers, FLUSH empties the event queue. Rests on R201, R203, R204, R205, R206, R209, R211,
R229, R230, R236, R240, R247. -/
def Obligations.ChamberBundlesLoaderAndCavernAccesses : Prop :=
  ∀ (tile : BitVec 4) (f : BitVec 25) (b v : W64) (index : BitVec 13) (inB : Bool) (s : State),
    let n := tile.toNat
    let c := chmOf s n
    let e := bundleEff c b [] []
    let detail := BitVec.ofNat 32 (n + c.pc * 2 ^ 16)
    let fetched := chmRuns s n = true ∧ tget c.pf 0 (8192 * c.act + c.pc) = 0
    let halted := setChm n { c with stopped := true }
    let delays := fun (w : Bool) => setChm n { c with delayed := true, wants := w }
      (if c.delayed then s else s.bumpSat (rCHM_STALL n) CHM_STALL.GWC)
    let illegal := fun (k : Nat) => ∃ t, exec (.chmNop tile b none) s = .next (raiseD srcChmIllegal detail t) ∧
      t = { halted s with regs := t.regs } ∧ regsBut [rCHM_EXC n] s t ∧ t.rb (rCHM_EXC n) CHM_EXC.ILL = true ∧
      t.rf (rCHM_EXC n) CHM_EXC.CAUSE = k ∧ (c.pc < 8192 → t.rf (rCHM_EXC n) CHM_EXC.BUNDLE = c.pc)
    (chmGo n 0x4000000000000000 s → ∃ t, exec (.chmNop tile 0x4000000000000000 none) s = .next t ∧
      chmAfter n s t [] c.z c.n c.o false false false (chmNext c)) ∧
    (fetched →
      (formCauses c b e ≠ [] → ∃ k ∈ formCauses c b e, (∀ x ∈ formCauses c b e, k ≤ x) ∧ illegal k) ∧
      (formCauses c b e = [] → waitsLoad c e = true → exec (.chmNop tile b none) s =
        .next (if c.delayed then s else delays c.wants)) ∧
      (formCauses c b e = [] → waitsLoad c e = false → fetchesPast c e = true → illegal 6) ∧
      (formCauses c b e = [] → waitsLoad c e = false → fetchesPast c e = false → loopCause c e.seq ≠ 0 →
        ∃ t, exec (.chmNop tile b none) s = .next (raiseD srcChmLoop detail t) ∧
          t = { halted s with regs := t.regs } ∧ regsBut [rCHM_LOOP_STAT n] s t ∧
          t.rb (rCHM_LOOP_STAT n) CHM_LOOP_STAT.LFLT = true ∧
          t.rf (rCHM_LOOP_STAT n) CHM_LOOP_STAT.LCAUSE = loopCause c e.seq ∧
          (c.pc < 8192 → t.rf (rCHM_LOOP_STAT n) CHM_LOOP_STAT.LBUNDLE = c.pc))) ∧
    (2 ≤ bf b 62 2 → 1 ∈ formCauses c b e) ∧ 1 ∈ formCauses c 0 (bundleEff c 0 [] []) ∧
    (∀ (x : BitVec 31), bf x 25 6 ∈ [0x0E, 0x0F, 0x14, 0x1D, 0x22, 0x32, 0x35, 0x37] → 1 ∈ shortCauses x) ∧
    (let lb := shortBundle 0x20 f ⟨inB, 0, none⟩
     let le := bundleEff c lb [] []
     let p := tget c.p 0 (bf f 14 4)
     let w := p.toNat % 2 ^ 20
     fetched → formCauses c lb le = [] → waitsLoad c le = false → fetchesPast c le = false →
     p.toNat / 2 ^ 20 = 2 → f.getLsbD 8 = false → bf f 9 2 = 0 → tget s.cav.flips 0 w = 0 → s.domOn (cavDomain w) = true →
       (gatewayFree s n 1 = true → exec (.chmLd tile f ⟨inB, 0, none⟩) s = .next (setChm n { c with
         pc := (chmNext c).1, stack := (chmNext c).2, delayed := false, wants := false
         acc := c.acc ++ [⟨some (regName c (bf f 18 7)), p, tget s.cav.words 0 w, 0, s.mtx.issues, false⟩] }
         { takeEntry 3 s with mtx := { s.mtx with issues := s.mtx.issues + 1, gwTurn := n } })) ∧
       (gatewayFree s n 1 = false → exec (.chmLd tile f ⟨inB, 0, none⟩) s = .next (delays (decide (chmOut s n < 4))))) ∧
    (awake s → ∀ x r, c.acc = x :: r → inOrder s x.seq (32 + n) 0x10000000 = true → x.dest.all (fun d => decide (d < 96)) = true →
      ∃ t, exec (.chamberCavernLoadReturn tile) s = .next (swapReady n (if x.code = 0 then t
          else errorResponse (32 + n) (0x10000000 + 8 * (x.ptr.toNat % 2 ^ 20)) x.dest.isNone x.code t)) ∧
        t = { s with regs := t.regs, chm := t.chm } ∧
        (∀ k, k ≠ n → chmOf t k = chmOf s k) ∧
        chmOf t n = { c with acc := r, d := (chmOf t n).d, q := (chmOf t n).q } ∧
        (∀ k, k < 96 → chmReg (chmOf t n) k =
          if x.dest = some k then (if x.code = 0 then x.data.setWidth 88 else 0) else chmReg c k) ∧
        (x.code = 0 → t.regs = (freeEntry 3 s).regs) ∧
        (x.code ≠ 0 → t.rb (rCHM_FLAGS n) CHM_FLAGS.GERR = true ∧ t.rf (rCHM_GERR_ADDR n) CHM_GERR_ADDR.PTR = x.ptr.toNat ∧
          regsBut [rCHM_FLAGS n, rCHM_GERR_ADDR n] (freeEntry 3 s) t)) ∧
    (awake s → (c.acc = [] ∨ ∃ x r, c.acc = x :: r ∧ inOrder s x.seq (32 + n) 0x10000000 = false) →
      exec (.chamberCavernLoadReturn tile) s = .next (swapReady n s)) ∧
    (c.swapPend = false ∨ (∃ x ∈ c.acc, x.dest = none ∧ x.dead = false) → swapReady n s = s) ∧
    (c.swapPend = true → (∀ x ∈ c.acc, x.dest ≠ none ∨ x.dead = true) → swapReady n s = startWaiting n (chmSwap n s)) ∧
    (s.running = true → mayAccess s 0 (0x1040000 + 0x80000 * n + 8 * index.toNat) → s.domOn (5 * n + 4) = true → s.held n = false →
      ∃ t, exec (.loaderWrite tile index v) s = .next t ∧
        t = { s with regs := t.regs, chm := t.chm, resp := ⟨0, 0⟩ } ∧ (∀ k, k ≠ n → chmOf t k = chmOf s k) ∧
        chmOf t n = { c with prog := (chmOf t n).prog, pf := (chmOf t n).pf } ∧
        (∀ k, tget (chmOf t n).prog 0 k = if k = 8192 * (1 - c.act) + index.toNat then v else tget c.prog 0 k) ∧
        (∀ k, tget (chmOf t n).pf 0 k = if k = 8192 * (1 - c.act) + index.toNat then 0 else tget c.pf 0 k) ∧
        (t.reg (rCHM_LDR_CRC n)).setWidth 32 =
          ~~~ crcBytes (~~~ ((s.reg (rCHM_LDR_CRC n)).setWidth 32 : W32)) (bytesOf 8 v) ∧
        t.reg (rCHM_LDR_CNT n) = (s.bumpSat (rCHM_LDR_CNT n) CHM_LDR_CNT.CNT).reg (rCHM_LDR_CNT n) ∧
        regsBut [rCHM_LDR_CRC n, rCHM_LDR_CNT n, rBMX_OUT 0] s t ∧ outOf t 0 = outOf s 0) ∧
    (fwReaches s (rCHM_LDR_CTL n) →
      exec (.loaderCntClr tile) s = .next ((s.setReg (rCHM_LDR_CNT n) 0).answer 0 0) ∧
      exec (.loaderCrcClr tile) s = .next ((s.setReg (rCHM_LDR_CRC n) 0).answer 0 0) ∧
      exec (.chmEvqFlush tile) s = .next ((setChm n { c with evq := [] } s).answer 0 0))

/-- On a slot not in use STAGE sets CHECKING and queues the check, DISCARD and a new base set EMPTY; on one in use
they, and a morph base while a commit pends or a ramp runs, set CMD_ERR alone. The check at the queue's head gives
STAGED, or FAILED with the first failed check of R278 and its source. A commit is recorded in FLW_LAST with the lowest
reason that applies, counted when BUSY, and becomes pending when accepted; the head sends a chain commit and takes
part in it where DEST names it, ignoring a repeat of the pending one; another node sets CMD_ERR. Arming begins with
ARMING set, and ends with the words read again as shadow, or a mismatch where the length or the check word does not
hold. A crosspoint gain waits for the next pass and MUTE is stored. Rests on R33, R34, R263, R268, R274, R275, R277,
R278, R281, R282, R283, R288. -/
def Obligations.FlowstoneSlotsCommitsAndConfluenceWrites : Prop :=
  ∀ (slot : BitVec 4) (cyc : BitVec 48) (dest input : BitVec 8) (word : BitVec 20) (mute : Bool) (gain : W32) (s : State),
    let k := slot.toNat
    let stat := rFLW_SLOT_STAT k
    let used := s.rb stat FLW_SLOT_STAT.INUSE
    let err := (s.setRf rFLW_STAT FLW_STAT.CMD_ERR 1).answer 0 0
    let stats := (List.range 16).map rFLW_SLOT_STAT
    let slotIs := fun (st f : Nat) (t : State) => t.rf stat FLW_SLOT_STAT.STATE = st ∧ t.rf stat FLW_SLOT_STAT.FAIL = f ∧
      t.rb stat FLW_SLOT_STAT.INUSE = used
    let onFlw := fun (f : Flw → Flw) (t : State) => { t with flw := f t.flw }
    let c := cyc.toNat
    let late := c < 2 ∨ (if s.cyc.fam < 2 then (c - 2) * 125000 * 2 ^ 28 < s.dtm.tb
      else (c - 2) * 1000000000 * 2 ^ 28 < s.dtm.tb * 7350)
    let st := s.rf stat FLW_SLOT_STAT.STATE
    let fl := s.rf stat FLW_SLOT_STAT.FAIL
    let reason := if late then 1 else if s.timeValid = false then 2 else if st = 3 ∧ (fl = 3 ∨ fl = 4) then 3
      else if st ≠ 2 then 4 else if s.flw.commit.isSome then 5 else 0
    let base := s.rf (rFLW_SLOT_BASE k) FLW_SLOT_BASE.WORD
    let w := fun i => tget s.cav.words 0 (base + i)
    let n := ((w 1).extractLsb' 0 14).toNat
    let ws := (List.range n).map w
    let readable := identFree s 48 = true ∧ ∀ i < max n 2, base + i < 1048576 ∧ s.domOn (cavDomain (base + i)) = true ∧ tget s.cav.flips 0 (base + i) = 0
    let key := 64 * s.rf rCFL_XP_ADDR CFL_XP_ADDR.INPUT + s.rf rCFL_XP_ADDR CFL_XP_ADDR.BUS
    (fwReaches s rFLW_CMD →
      (used = true → ∀ i ∈ [Instr.flwStage slot, .flwDiscard slot, .flwSlotBaseWrite slot word], exec i s = .next err) ∧
      (used = false →
        (∃ t, exec (.flwStage slot) s = .next t ∧ slotIs 1 0 t ∧ regsBut [stat] s t ∧
          t = (onFlw (fun q => { q with queue := if k ∈ q.queue then q.queue else q.queue ++ [k] })
            { s with regs := t.regs }).answer 0 0) ∧
        (∃ t, exec (.flwDiscard slot) s = .next t ∧ slotIs 0 0 t ∧ regsBut [stat] s t ∧
          t = (onFlw (fun q => { q with queue := q.queue.filter fun j => j != k }) { s with regs := t.regs }).answer 0 0) ∧
        ∃ t, exec (.flwSlotBaseWrite slot word) s = .next t ∧ slotIs 0 0 t ∧ regsBut [stat, rFLW_SLOT_BASE k] s t ∧
          t.rf (rFLW_SLOT_BASE k) FLW_SLOT_BASE.WORD = word.toNat ∧
          t = (onFlw (fun q => { q with queue := q.queue.filter fun j => j != k }) { s with regs := t.regs }).answer 0 0) ∧
      (let busy := s.rb rFLW_STAT FLW_STAT.PENDING = true ∨ s.flw.xr ≠ [] ∨ s.flw.morphs ≠ []
       (busy → exec (.flwMorphBaseWrite word) s = .next err) ∧
       (¬ busy → exec (.flwMorphBaseWrite word) s =
         .next ((s.setRf rFLW_MORPH_BASE FLW_MORPH_BASE.WORD word.toNat).answer 0 0))) ∧
      (∃ t, exec (.flwLocalCommit slot cyc) s = .next t ∧ t.rb rFLW_LAST FLW_LAST.VALID = true ∧
        t.rf rFLW_LAST FLW_LAST.REASON = reason ∧ t.rf rFLW_LAST FLW_LAST.SLOT = k ∧ t.rf rFLW_LAST FLW_LAST.C = c ∧
        (reason ≠ 0 → reason ≠ 5 → onlyRegsAck [rFLW_LAST] s t) ∧
        (reason = 5 → onlyRegsAck [rFLW_LAST, rFLW_BUSY_CNT] s t ∧
          t.reg rFLW_BUSY_CNT = (s.bumpSat rFLW_BUSY_CNT FLW_BUSY_CNT.CNT).reg rFLW_BUSY_CNT) ∧
        (reason = 0 → t = (onFlw (fun q => { q with commit := some ⟨k, c, .waiting, [], none⟩ })
            { s with regs := t.regs, rst := { s.rst with joined := true, lit := true } }).answer 0 0 ∧
          t.rb rFLW_STAT FLW_STAT.PENDING = true ∧ t.rb stat FLW_SLOT_STAT.INUSE = true ∧
          t.rf stat FLW_SLOT_STAT.STATE = 2 ∧ regsBut (rFLW_LAST :: rFLW_STAT :: stats) s t)) ∧
      (isHead s = false → exec (.flwChainCommit slot dest cyc) s = .next err) ∧
      (isHead s = true →
        let u := { s with gal := { s.gal with commits := s.gal.commits ++
          [padMsg ([0x01, dest, slot.setWidth 8] ++ natBe 6 c)] } }
        let mine := dest = 255 ∨ (dest ≠ 0 ∧ dest.toNat = nodeId s)
        let again := ∃ x, s.flw.commit = some x ∧ x.slot = k ∧ x.c = c
        (mine → ¬ again → exec (.flwChainCommit slot dest cyc) s = exec (.flwLocalCommit slot cyc) u) ∧
        (¬ mine ∨ again → exec (.flwChainCommit slot dest cyc) s = .next (u.answer 0 0)))) ∧
    (awake s → readable →
      (∀ r, s.rb rFLW_STAT FLW_STAT.ARMING = false → s.flw.queue = k :: r →
        let f := if 1044480 < base + max n 2 then 5
          else if (w 0).setWidth 32 ≠ 0x464C5354#32 ∨ n < 1489 ∨ 10240 < n ∨ ((w 3).extractLsb' 0 2).toNat ≠ s.cyc.fam then 1
          else if setLayoutOk (nInputs s) (nBuses s) ws = false then 2 else if setCrcOk ws = false then 3 else 0
        ∃ t, exec .setCheckDone s =
            .next (if f = 0 then t else raise (if f = 3 then srcSetCheck else srcSetLayout) t) ∧
          t = onFlw (fun q => { q with queue := r }) { s with regs := t.regs } ∧ slotIs (if f = 0 then 2 else 3) f t ∧
          outOf t 3 = outOf s 3 ∧ regsBut [stat, rBMX_OUT 3] s t) ∧
      (∀ c1 sh sw, s.flw.commit = some ⟨k, c1, .busy, sh, sw⟩ →
        ∃ t, exec .armingDone s = .next t ∧ t.rb rFLW_STAT FLW_STAT.ARMING = false ∧
          regsBut [rFLW_STAT, rBMX_OUT 3] s t ∧
          t = onFlw (fun q => { q with commit := some (if 1489 ≤ n ∧ n ≤ 10240 ∧ setCrcOk ws = true then ⟨k, c1, .done, ws, sw⟩
            else ⟨k, c1, .mismatch, sh, sw⟩) }) { s with regs := t.regs })) ∧
    (awake s →
      (∀ x, s.flw.commit = some x → x.arm = .waiting → exec .armingStart s =
        .next (onFlw (fun q => { q with commit := some { x with arm := .busy } }) (s.setRf rFLW_STAT FLW_STAT.ARMING 1))) ∧
      (s.flw.commit = none → exec .armingStart s = .next s ∧ exec .armingDone s = .next s) ∧
      (s.rb rFLW_STAT FLW_STAT.ARMING = true ∨ s.flw.queue = [] → exec .setCheckDone s = .next s)) ∧
    (fwReaches s rCFL_XP_DATA →
      (∃ t, exec (.cflXpDataWrite gain) s = .next t ∧
        t = { s with cfl := { s.cfl with xpPend := t.cfl.xpPend }, resp := ⟨0, 0⟩ } ∧
        ∀ d j, tget t.cfl.xpPend d j = if j = key then gain else tget s.cfl.xpPend d j) ∧
      exec (.cflMuteWrite input mute) s =
        .next ((s.setRf (rCFL_IN input.toNat) CFL_IN.MUTE (if mute then 1 else 0)).answer 0 0))

/-- Setting EN of an idle port takes a valid configuration and enters LEAD or WAIT_CLK, and refuses an invalid one
with CFG_ERR and its source; clearing it parks the port from WAIT_CLK, begins the trail from LEAD and the ramp from
RUN. Clocks bring LEAD; the lead's end waits for the boundary; the trail's end parks the port, or starts it again. A
frame's words are the first WLEN of SLOTW bits, most significant first. One of a direct port enters the block under
its ramp and records its offset; one of a buffered port enters its buffer. Outside RUN zeros are sent, in RUN the
output under its ramp, and the trail begins when the ramp of a stop ends; a slot not enabled sends zero or nothing.
The reader of a buffer discards one frame at 30 or more, takes the oldest, or repeats its last below 3, and counts a
slip outside the lead. A clock fault sets its flag, raises its source and waits for clocks, the inputs holding their
last frame. A held port, and one whose master clock source does not run, begins no frame. At a grid point every port
is served once. Rests on R296, R297, R300, R301, R302, R303, R305, R307, R308, R309. -/
def Obligations.SerialAudioPortsStartFrameSlipAndStop : Prop :=
  ∀ (port : BitVec 3) (di : List Bool) (s : State),
    let n := port.toNat
    let ctlR := rSAP_CTL n
    let stat := rSAP_STAT n
    let st := s.rf stat SAP_STAT.STATE
    let x := sapOf s n
    let en := s.rb ctlR SAP_CTL.EN
    let u := s.setRf ctlR SAP_CTL.EN 1
    let off := s.setRf ctlR SAP_CTL.EN 0
    let f := fun (r : Nat) (fl : Fld) => u.rf r fl
    let fmt := f (rSAP_FMT n) SAP_FMT.FMT
    let slots := if fmt = 2 then f (rSAP_FMT n) SAP_FMT.SLOTS + 1 else 2
    let sw := if f (rSAP_FMT n) SAP_FMT.SLOTW = 0 then 32 else if f (rSAP_FMT n) SAP_FMT.SLOTW = 1 then 24 else 16
    let wl := if f (rSAP_FMT n) SAP_FMT.WLEN = 0 then 24 else if f (rSAP_FMT n) SAP_FMT.WLEN = 1 then 16 else 32
    let src := f (rSAP_CLK n) SAP_CLK.SRC
    let mode := f ctlR SAP_CTL.MODE
    let master := u.rb ctlR SAP_CTL.MASTER
    let invalid := mode = 3 ∨ fmt = 3 ∨ f (rSAP_FMT n) SAP_FMT.WLEN = 3 ∨ f (rSAP_FMT n) SAP_FMT.SLOTW = 3 ∨
      (fmt = 2 ∧ f (rSAP_FMT n) SAP_FMT.SLOTS = 0) ∨ 4 < src ∨ sw < wl ∨
      (master = true ∧ (24576000 < sampleHz s * slots * sw ∨ (mode = 0 ∧ 2 < src) ∨ (mode = 2 ∧ src < 3)))
    let reg32 := fun (t : State) a => (t.reg a).setWidth 32
    let began := fun (t : State) => ({ Sap.init with
      ctl := reg32 t ctlR, fmt := reg32 t (rSAP_FMT n), clk := reg32 t (rSAP_CLK n), slot := reg32 t (rSAP_SLOT n)
      left := min 4096 (max 16 (t.rf ctlR SAP_CTL.LEAD)) } : Sap)
    let takes := fun (q : Nat) (y : Sap) (t : State) => ({ t with sap := tset t.sap Sap.init n y }).setRf stat SAP_STAT.STATE q
    let keeps := fun (y : Sap) (t : State) => { t with sap := tset t.sap Sap.init n y }
    let parked := { Sap.init with ctl := x.ctl, parked := true }
    let lead := min 4096 (max 16 (fget SAP_CTL.LEAD (x.ctl.setWidth 64)))
    let direct := fget SAP_CTL.MODE (x.ctl.setWidth 64) = 0 ∧ fget SAP_CTL.MASTER (x.ctl.setWidth 64) = 1
    let zeros : List W40 := List.replicate 16 0
    let heard := frameIn x ((List.range 16).map (lineWord x.fmt di))
    let syn := fget SAP_CLK.SRC (x.clk.setWidth 64)
    let clocked := fget SAP_CTL.MASTER (x.ctl.setWidth 64) = 1 → syn ≤ 2 →
      s.rb (rSYN_CTL syn) SYN_CTL.EN = true ∧ s.rb (rSYN_STAT syn) SYN_STAT.LOCK = true
    let put := fun (b : List (List W40)) (f : List W40) => (if 32 ≤ b.length then b.tail else b) ++ [f]
    (fwReaches s ctlR →
      (st ≠ 0 → exec (.sapEnable port) s = .next (u.answer 0 0)) ∧
      (st = 0 → invalid → exec (.sapEnable port) s = .next ((raiseD srcSapCfg (BitVec.ofNat 32 n)
        ((u.setRf stat SAP_STAT.STATE 0).setRf stat SAP_STAT.CFG_ERR 1)).answer 0 0)) ∧
      (st = 0 → ¬ invalid → exec (.sapEnable port) s =
        .next ((takes (if master then 2 else 1) (began u) u).answer 0 0)) ∧
      (en = false → exec (.sapDisable port) s = .next (s.answer 0 0)) ∧
      (en = true →
        (st = 0 ∨ 4 ≤ st → exec (.sapDisable port) s = .next (off.answer 0 0)) ∧
        (st = 1 → exec (.sapDisable port) s = .next ((takes 0 parked off).answer 0 0)) ∧
        (st = 2 → exec (.sapDisable port) s =
          .next ((takes 4 { x with left := lead, stopping := false, outJ := 0 } off).answer 0 0)) ∧
        (st = 3 → exec (.sapDisable port) s = .next ((keeps { x with stopping := true } off).answer 0 0)))) ∧
    (awake s → s.held (24 + n) = false →
      (st = 1 → exec (.sapClockArrival port) s = .next (takes 2 { x with
        left := lead, leadDone := false, outJ := 0, inBuf := [], outBuf := [], inOn := false
        outOn := false, inLast := [], outLast := [] } s)) ∧
      (st ≠ 1 → exec (.sapClockArrival port) s = .next s) ∧
      (st = 2 → x.left = 0 → exec (.sapLeadEnd port) s = .next (keeps { x with leadDone := true } s)) ∧
      (st ≠ 2 ∨ x.left ≠ 0 → exec (.sapLeadEnd port) s = .next s) ∧
      (st = 4 → x.left = 0 → en = false → exec (.sapTrailEnd port) s = .next (takes 0 parked s)) ∧
      (st = 4 → x.left = 0 → en = true → ¬ invalid → ∃ t, exec (.sapTrailEnd port) s = .next t ∧
        t = { s with regs := t.regs, sap := t.sap } ∧ sapOf t n = began s ∧ (∀ k, k ≠ n → sapOf t k = sapOf s k) ∧
        regsBut [stat] s t ∧ t.rf stat SAP_STAT.STATE = if s.rb ctlR SAP_CTL.MASTER then 2 else 1) ∧
      (st ≠ 4 ∨ x.left ≠ 0 → exec (.sapTrailEnd port) s = .next s) ∧
      (st < 2 → ∀ i ∈ [Instr.sapClockLoss port, .sapRateError port, .sapFrame port di], exec i s = .next s) ∧
      (2 ≤ st → ∀ p ∈ [(Instr.sapClockLoss port, SAP_STAT.CLK_LOSS), (.sapRateError port, SAP_STAT.RATE_ERR)],
        let r := raise (srcSapClock n) (s.setRf stat p.2 1)
        exec p.1 s = .next (if r.rb ctlR SAP_CTL.EN then takes 1 { x with
            fault := if sapState r n = 3 then 1 else x.fault
            cap := if direct then x.cap ++ List.replicate (min (spc r) r.cyc.grid - x.cap.length) (frameScale x.inJ x.hold) else x.cap
            outJ := 0, left := 0, leadDone := false, stopping := false, tx := [], bits := [] } r
          else takes 0 parked r)) ∧
      (2 ≤ st → ¬ clocked → exec (.sapFrame port di) s = .next s) ∧
      (2 ≤ st → clocked →
        let x1 := { x with edge := s.dtm.ticks }
        let at1 := s.setRf (rSAP_PHASE n) SAP_PHASE.PHASE (lowBits 32 (gridOffset s))
        let q := if x.cap.length < spc s ∧ x.fault = 0 then capture n heard (keeps x1 at1) else keeps x1 at1
        let b1 := { x1 with inBuf := put x.inBuf heard }
        (direct → exec (.sapFrame port di) s = .next (emit n (outFrame n x.cap.length q) q)) ∧
        (¬ direct → x.outOn = false → x.outBuf.length < 16 → exec (.sapFrame port di) s = .next (emit n [] (keeps b1 s))) ∧
        (¬ direct → x.outOn = true ∨ 16 ≤ x.outBuf.length →
          let r := elastic x.outBuf x.outLast
          exec (.sapFrame port di) s = .next (emit n r.1 (slip n r.2.2 false
            (keeps { b1 with outOn := true, outBuf := r.2.1, outLast := r.1 }
              (s.setRf (rSAP_FILL n) SAP_FILL.OUT x.outBuf.length))))))) ∧
    (awake s → s.held (24 + n) = true → ∀ i ∈ [Instr.sapClockArrival port, .sapClockLoss port, .sapRateError port,
      .sapFrame port di], exec i s = .next s) ∧
    -- the parts of a frame
    (∀ (fmt : W32) (k i : Nat), i < sapWlen fmt → k * sapSlotW fmt + sapWlen fmt ≤ di.length →
      (lineWord fmt di k).getLsbD (sapWlen fmt - 1 - i) = di.getD (k * sapSlotW fmt + i) false) ∧
    (∀ (ws : List W32) (k : Nat), k < 16 → (frameIn x ws)[k]? = some
      (if k < sapSlots x.fmt ∧ x.slot.getLsbD k = true then wordToS40 (sapWlen x.fmt) (ws.getD k 0) else 0)) ∧
    (∀ f, let v := if x.fault = 0 then f else x.hold
      let j := if x.fault = 1 then x.inJ else if x.fault = 0 ∧ st = 3 ∧ x.stopping = false then min 32 (x.inJ + 1) else x.inJ - 1
      capture n f s = keeps { x with
        cap := x.cap ++ [v.map (scaleJ j)], hold := v, inJ := j, fault := if x.fault = 2 ∧ j = 0 then 0 else x.fault } s) ∧
    (∀ f, (st ≠ 3 → emit n f s = sendFrame n zeros (keeps { x with left := x.left - 1 } s)) ∧
      (st = 3 →
        let j := if x.stopping = false ∧ f ≠ [] ∧ outputsMute s = false then min 32 (x.outJ + 1) else x.outJ - 1
        let u' := sendFrame n ((List.range 16).map fun k => scaleJ j (f.getD k 0)) (keeps { x with outJ := j } s)
        emit n f s = if x.stopping = true ∧ j = 0
          then takes 4 { sapOf u' n with left := lead, stopping := false, outJ := 0 } u' else u')) ∧
    (∀ f, let g := gateFrame n 0 f s
      let z := sapOf g.2 n
      let ws := (List.range (sapSlots z.fmt)).map fun k =>
        if z.slot.getLsbD (16 + k) then
          let r := s40ToWord (sapWlen z.fmt) (fget SAP_CTL.RND (z.ctl.setWidth 64) == 1) (g.1.getD k 0)
          (some r.1, r.2)
        else (if fget SAP_CTL.HIZ (z.ctl.setWidth 64) = 1 then none else some 0, false)
      let y := keeps { z with
        tx := ws.map (·.1), bits := ws.flatMap (fun w => slotLine z.fmt w.1), carry := z.bits.getLastD (some false) } g.2
      sendFrame n f s = (if ws.any (·.2) then y.setRf stat SAP_STAT.SAT 1 else y) ∧
      ((∀ c < 4, recBits s (80 + 4 * c) 0 7 / 16 ≠ n) → f.length ≤ 16 → g = (f, s))) ∧
    (∀ (b : List (List W40)) (l : List W40),
      (30 ≤ b.length → elastic b l = (b.getD 1 zeros, b.drop 2, 1)) ∧
      (3 ≤ b.length → b.length < 30 → elastic b l = (b.headD zeros, b.tail, 0)) ∧
      (b.length < 3 → elastic b l = (l, b, 2))) ∧
    (∀ kind input, let v := slip n kind input s
      (kind = 0 ∨ st = 2 → v = s) ∧
      ((kind = 1 ∨ kind = 2) → st ≠ 2 → fget SAP_CTL.MODE (x.ctl.setWidth 64) ≠ 0 →
        onlyRegs [rSAP_SLIP n, stat] s v ∧ v.rf (rSAP_SLIP n) SAP_SLIP.CNT = (s.rf (rSAP_SLIP n) SAP_SLIP.CNT + 1) % 2 ^ 40 ∧
        v.rb stat (if input then (if kind = 1 then SAP_STAT.IN_DROP else SAP_STAT.IN_REP)
          else if kind = 1 then SAP_STAT.OUT_DROP else SAP_STAT.OUT_REP) = true)) ∧
    (awake s → exec .sampleGridPoint s = .next (let t := forEach (idxs 0 8) sapGrid s
      { t with cyc := { t.cyc with grid := t.cyc.grid + 1 } })) ∧
    (st < 2 ∨ s.held (24 + n) = true ∨ direct → sapGrid n s = if x.fault = 0 then s else capture n x.hold s) ∧
    (2 ≤ st → s.held (24 + n) = false → ¬ direct →
      let o := { x with outBuf := put x.outBuf (if st = 3 then outFrame n s.cyc.grid s else []) }
      (x.inOn = false → x.inBuf.length < 16 → sapGrid n s = capture n zeros (keeps o s)) ∧
      (x.inOn = true ∨ 16 ≤ x.inBuf.length →
        let r := elastic x.inBuf x.inLast
        sapGrid n s = capture n r.1 (slip n r.2.2 true
          (keeps { o with inOn := true, inBuf := r.2.1, inLast := r.1, off := fillOffset s (2 ^ 16) x.inBuf.length x.edge }
            ((s.setRf (rSAP_FILL n) SAP_FILL.IN x.inBuf.length).setRf (rSAP_PHASE n) SAP_PHASE.PHASE
              (lowBits 32 (fillOffset s 2 x.inBuf.length x.edge))))))) ∧
    (∀ (w : Nat) (v : W40), (w = 16 ∨ w = 24 ∨ w = 32) → wordToS40 w (s40ToWord w false v).1 =
      if 2 ^ 32 - 2 ^ (33 - w) < v.toInt then BitVec.ofInt 40 (2 ^ 32 - 2 ^ (33 - w))
      else if v.toInt < - 2 ^ 32 then BitVec.ofInt 40 (- 2 ^ 32) else (v >>> (33 - w)) <<< (33 - w))

/-- GO requests a frame in ONCE, and as a responder only while a request is at most 2,000 us old, a late one setting
RDM_LATE, and no earlier than 176 us after it; SWAP waits for the break. A break that is due takes SWAP and the
settings, break, mark and gaps no shorter than their least, and the bytes of the buffer or of the light store (all
zero behind start code 0 while the chain keeps its outputs dark), and sets TX_BUSY; the frame's end clears it and
turns an RDM controller to receive. A frame that begins with a break of 88 us and a mark of 8 us, or without a break
where a response is awaited, is published whole, to the light store too where RXLS asks for it, with its length and
one more RX_SEQ, and raises the DMX event; no response in time sets RDM_TMO. In an unpowered or held block nothing
moves. Echo's GO takes the parameters and sets BUSY with IDX 0, or is counted while it runs; ABORT ends a run with
DONE and no injection. Rests on R311, R312, R313, R314, R315, R418, R420. -/
def Obligations.DmxFramesAndEchoTriggers : Prop :=
  ∀ (port : BitVec 1) (brk mark ago : BitVec 32) (bytes : List Byte) (s : State),
    let d := port.toNat
    let x := dmxOf s d
    let ctlR := rDMX_CTL d
    let stat := rDMX_STAT d
    let mode := s.rf ctlR DMX_CTL.MODE
    let rdm := s.rf ctlR DMX_CTL.RDM
    let live := s.domOn 135 = true
    let gone := s.domOn 135 = false ∨ s.held 34 = true
    let keeps := fun (y : Dmx) (t : State) => { t with dmx := tset t.dmx Dmx.init d y }
    let next := fun (i : Instr) (t : State) => exec i s = .next t
    let due := ((mode = 1 ∧ x.await = false) ∨ (mode = 2 ∧ x.go = true)) ∧ x.after ≤ s.dtm.ticks
    let plain := s.rf ctlR DMX_CTL.NOBRK = 0
    let us := fun (least a : Nat) (f : Fld) => 250 * max least (s.rf a f)
    let starts := (22000 ≤ brk.toNat ∧ 2000 ≤ mark.toNat) ∨ (x.await = true ∧ brk = 0)
    let len := if s.rf ctlR DMX_CTL.TX_LEN = 0 ∨ 513 < s.rf ctlR DMX_CTL.TX_LEN then 513 else s.rf ctlR DMX_CTL.TX_LEN
    let src := s.rb ctlR DMX_CTL.SRC
    let light := fun k => s.rf (rCFL_LS (s.rf (rDMX_LS d) DMX_LS.TXBASE + k - 1)) CFL_LS.VALUE
    (fwReaches s ctlR → live →
      (mode ≠ 2 → next (.dmxGo port) (s.answer 0 0)) ∧
      (mode = 2 → rdm ≠ 2 → next (.dmxGo port) ((keeps { x with go := true } s).answer 0 0)) ∧
      (mode = 2 → rdm = 2 →
        (x.request = none → next (.dmxGo port) (s.answer 0 0)) ∧
        ∀ t0, x.request = some t0 →
          (s.dtm.ticks - t0 ≤ 500000 → next (.dmxGo port)
            ((keeps { x with go := true, request := none, after := t0 + 44000 } s).answer 0 0)) ∧
          (500000 < s.dtm.ticks - t0 → next (.dmxGo port)
            (((keeps { x with request := none } s).setRf stat DMX_STAT.RDM_LATE 1).answer 0 0)))) ∧
    (fwReaches s ctlR → ¬ live → next (.dmxGo port) (s.answer 0 0)) ∧
    (fwReaches s ctlR → next (.dmxSwap port) ((keeps { x with swap := true } s).answer 0 0)) ∧
    (awake s → live → s.held 34 = false →
      (s.rb stat DMX_STAT.TX_BUSY = true ∨ ¬ due → next (.dmxBreakStart port) s) ∧
      (s.rb stat DMX_STAT.TX_BUSY = false → due → ∃ t y, next (.dmxBreakStart port) t ∧
        t = { keeps y s with regs := t.regs, free := s.free + 1 } ∧ t.rb stat DMX_STAT.TX_BUSY = true ∧
        y = { x with
          swap := false, go := false, ctl := (s.reg ctlR).setWidth 32, de := true, used := y.used, tx := y.tx
          began := s.dtm.ticks, brk := if plain then us 92 (rDMX_TTIM d) DMX_TTIM.BRK else 0
          mab := if plain then us 12 (rDMX_TTIM d) DMX_TTIM.MAB else 0, gap := us 0 (rDMX_TPER d) DMX_TPER.IST
          after := if mode = 1 then s.dtm.ticks + us 1204 (rDMX_TPER d) DMX_TPER.PER else 0 } ∧
        regsBut (stat :: if x.swap then (List.range 129).map (rDMX_TXD d) else []) s t ∧ y.tx.length = len ∧
        (x.swap = false → y.used = x.used) ∧
        (x.swap = true → (∀ k < 513, tget y.used 0 k = (s.reg (rDMX_TXD d (k / 4)) >>> (8 * (k % 4))).setWidth 8 ∧
          (t.reg (rDMX_TXD d (k / 4)) >>> (8 * (k % 4))).setWidth 8 = tget x.used 0 k)) ∧
        (chainDark s = true → tget y.used 0 0 = 0 → y.tx = List.replicate len 0) ∧
        ∀ k < len, chainDark s = false ∨ tget y.used 0 0 ≠ 0 →
          (k = 0 ∨ src = false → y.tx[k]? = some (tget y.used 0 k)) ∧
          (k ≠ 0 → src = true → s.rf (rDMX_LS d) DMX_LS.TXBASE + k - 1 < 4096 →
            y.tx[k]? = some (BitVec.ofNat 8 (min 255 ((light k + 128) / 256))))) ∧
      (s.rb stat DMX_STAT.TX_BUSY = false → next (.dmxTxFrameEnd port) s) ∧
      (s.rb stat DMX_STAT.TX_BUSY = true →
        let m := fget DMX_CTL.MODE (x.ctl.setWidth 64)
        let r := fget DMX_CTL.RDM (x.ctl.setWidth 64)
        next (.dmxTxFrameEnd port) ((keeps { x with tx := [], await := decide (m = 2 ∧ r = 1), de := decide (r ≠ 2 ∧ ¬ (m = 2 ∧ r = 1)) } s).setRf
          stat DMX_STAT.TX_BUSY 0)) ∧
      (x.await = true → next (.dmxRdmTimeout port) ((keeps { x with await := false } s).setRf stat DMX_STAT.RDM_TMO 1)) ∧
      (x.await = false → next (.dmxRdmTimeout port) s) ∧
      (¬ starts → ∀ fe, next (.dmxRxFrame port brk mark bytes fe ago) s) ∧
      (∀ fe, starts → bytes.length ≤ 513 → ∃ t,
        next (.dmxRxFrame port brk mark bytes fe ago) (rosterEvent 0x1D t) ∧ t.rf stat DMX_STAT.RX_LEN = bytes.length ∧
        t.rf stat DMX_STAT.RX_SEQ = (s.rf stat DMX_STAT.RX_SEQ + 1) % 65536 ∧
        t.rb stat DMX_STAT.FE = (s.rb stat DMX_STAT.FE || fe) ∧ regsBut (stat :: (List.range 129).map (rDMX_RXD d) ++ (List.range 4096).map rCFL_LS) s t ∧
        (let rx := s.rf (rDMX_LS d) DMX_LS.RXBASE
         ∀ j < 4096, t.reg (rCFL_LS j) = (if s.rb ctlR DMX_CTL.RXLS = true ∧ rx ≤ j ∧ j + 1 < rx + bytes.length
           then s.setRf (rCFL_LS j) CFL_LS.VALUE ((bytes.getD (j + 1 - rx) 0).toNat * 257) else s).reg (rCFL_LS j)) ∧
        t = { keeps (dmxOf t d) s with regs := t.regs, free := t.free } ∧
        dmxOf t d = { x with await := false, request :=
          if rdm = 2 ∧ bytes.headD 0 = 0xCC then some (s.dtm.ticks - ago.toNat) else x.request } ∧
        ∀ k b, bytes[k]? = some b → (t.reg (rDMX_RXD d (k / 4)) >>> (8 * (k % 4))).setWidth 8 = b)) ∧
    (awake s → gone → ∀ i ∈ [Instr.dmxBreakStart port, .dmxTxFrameEnd port, .dmxRdmTimeout port,
      .dmxRxFrame port brk mark bytes false ago], next i s) ∧
    (fwReaches s rECHO_CTL →
      let busy := s.rb rECHO_STAT ECHO_STAT.BUSY
      let w := fun a => (s.reg a).setWidth 32
      (busy = true →
        next .echoGo ((s.bumpSat rECHO_CNT ECHO_CNT.TRIG_IGN).answer 0 0) ∧
        ∃ t, next .echoAbort t ∧ t = { s with regs := t.regs, cle := t.cle, resp := ⟨0, 0⟩ } ∧
          t.rb rECHO_STAT ECHO_STAT.BUSY = false ∧ t.rb rECHO_STAT ECHO_STAT.DONE = true ∧
          t.rf rECHO_STAT ECHO_STAT.IDX = s.rf rECHO_STAT ECHO_STAT.IDX ∧ t.reg rECHO_X = 0 ∧
          regsBut [rECHO_STAT, rECHO_X] s t ∧ ∀ k, cleOf t k =
            if k = echoSlot s then { cleOf s k with echoCap := false } else cleOf s k) ∧
      (busy = false →
        next .echoAbort (s.answer 0 0) ∧
        ∃ t, next .echoGo t ∧ t = { s with regs := t.regs, echo := t.echo, resp := ⟨0, 0⟩ } ∧
          t.rb rECHO_STAT ECHO_STAT.BUSY = true ∧ t.rf rECHO_STAT ECHO_STAT.IDX = 0 ∧ regsBut [rECHO_STAT] s t ∧
          t.echo = { t.echo with buf := s.echo.buf, ctl := w rECHO_CTL, amp := w rECHO_AMP, dph0 := w rECHO_DPH0
                                 len := w rECHO_LEN, prbs := w rECHO_PRBS, sine := w rECHO_SINE, sine2 := w rECHO_SINE2
                                 pre := w rECHO_PRE, n := 0, bit := false, phi := 0, dph := w rECHO_DPH0, step := 0, inStep := 0
                                 dec := 0, last := 0, f16 := (cleOf s (s.rf rECHO_CTL ECHO_CTL.SLOT)).f16 } ∧ t.echo.lfsr ≠ 0))

/-- A write of EN that changes it latches the fields and forgets the chain's standing. A section is ignored where the
port carries no trains or it is malformed; else a bad FCS is counted, and a member forwards an outbound section
downstream, written by its pass, the tail turns it around, and a returning one goes upstream; one that is not valid
goes on as it came, with its FCS. A pass writes the granted slots that are empty and no others. A train due, and those
of its light blocks, that have not come whole 2.0 us before the next cycle are late, and lost once. COMMIT, SETDATA,
SETEND, ASSIGN, IDENT and USER messages for the node do what R329 says, those for others nothing. A valid LINK frame
is noted, gives a delay sample where it answers one of the port's, and joins the two distinct cycles that establish
GLINK, or standby; another is ignored. A link that a condition of R340 ends clears GLINK and raises its source; the
tail of a ring then asks for WRAP. RESTORE is scheduled four cycles ahead; a member in STORED mode derives its ID
afresh when STORED_ID is set. Rests on R17, R30, R329, R330, R333, R335, R338, R339, R340, R341, R345, R347. -/
def Obligations.GalleryChainCommands : Prop :=
  ∀ (port : BitVec 1) (e8 : BitVec 3) (sa p data mac : List Byte) (fcs : BitVec 2) (good : Bool) (dest ident pos : Byte)
    (slot : BitVec 4) (cyc : BitVec 48) (word : BitVec 16) (ws : List W40) (s : State),
    let n := port.toNat
    let g := fun (f : Gal → Gal) (t : State) => { t with gal := f t.gal }
    let putPort := fun (k : Nat) (q : GalPort) (t : State) => g (fun x => { x with ports := tset x.ports GalPort.init k q }) t
    let role := fun (t : State) => t.rf rGAL_NODE GAL_NODE.ROLE
    let mine := dest = 255 ∨ (dest ≠ 0 ∧ dest.toNat = s.rf rGAL_NODE GAL_NODE.ID)
    let started := [rGAL_CTL, rGAL_NODE, rGAL_WRAP, rGAL_SETTX, rGAL_CYC_STAT, rGAL_PORT_STAT 0, rGAL_PORT_STAT 1, rGAL_LDLY 0,
      rGAL_LDLY 1]
    let fresh := fun (t : State) => t.rf rGAL_NODE GAL_NODE.ID = 0 ∧ t.rf rGAL_NODE GAL_NODE.ROLE = 3 ∧
      t.rb rGAL_NODE GAL_NODE.WRAP = false ∧ t.gal.trains = [] ∧ t.gal.commits = [] ∧ t.gal.settx = none ∧
      t.gal.txq = s.gal.txq ∧ t.gal.rxq = s.gal.rxq ∧ t.gal.first = none ∧ t.gal.relays = [] ∧
      ∀ k < 2, glink t k = false ∧ standby t k = false ∧ (galPort t k).links = [] ∧ t.reg (rGAL_LDLY k) = 0
    let pb := fun o => (p.getD o 0).toNat
    let sec := pb 1
    let send := fun (k : Nat) (pay : List Byte) (ok : Bool) (t : State) => if trainPort t k then
      putPort k { galPort t k with
        sent := (galPort t k).sent ++ [(daTrain ++ sa ++ natBe 2 t.gal.etype ++ pay, ok)]
        train := if sec = 0 then some t.dtm.ticks else (galPort t k).train } t else t
    let well := trainPort s n = true ∧ pb 0 = 0x11 ∧ sec ≤ 12 ∧ p.length = secLen sec ∧ role s ≠ 3
    let ret := decide (128 ≤ pb 2)
    let far := decide (pb 2 / 64 % 2 = 1)
    let up := if far then 1 else 0
    let x := sectionTrain s n sec fcs.toNat p
    let sect := exec (.trainSection port e8 sa p fcs) s
    let due := trainDue s (s.cyc.idx + 1)
    let at' := boundaryTick s
    let judged := fun (f : GalTrain → GalTrain) (k : Nat) (u : State) => if inTime u at' k then u else
      let tr := tget u.gal.trains GalTrain.init k
      let v := fun (y : GalTrain) => (g (fun q => { q with trains := tset q.trains GalTrain.init k y }) u).setRf rGAL_STAT GAL_STAT.LATE 1
      if (f tr).counted then v (f tr) else raise srcGalLost ((v { f tr with counted := true }).bumpWrap rGAL_LOSTCNT)
    (fwReaches s rGAL_CTL → ∀ on,
      (s.rb rGAL_CTL GAL_CTL.EN = on → exec (.galEnable on) s = .next (s.answer 0 0)) ∧
      (s.rb rGAL_CTL GAL_CTL.EN ≠ on → ∃ t, exec (.galEnable on) s = .next t ∧
        t = { s with regs := t.regs, gal := t.gal, cyc := { s.cyc with famNext := t.cyc.famNext }, resp := ⟨0, 0⟩ } ∧
        regsBut started s t ∧ fresh t ∧ t.rb rGAL_CTL GAL_CTL.EN = on ∧
        (on = true → t.gal.ctl = (t.reg rGAL_CTL).setWidth 32 ∧ t.gal.etype = (s.reg rGAL_ETYPE).toNat % 65536 ∧
          t.gal.port0 = (s.reg (rGAL_PORT 0)).setWidth 32 ∧ t.gal.port1 = (s.reg (rGAL_PORT 1)).setWidth 32 ∧
          t.gal.mac = natBe 2 ((s.reg rGAL_MAC_HI).toNat % 65536) ++ natBe 4 ((s.reg rGAL_MAC_LO).toNat % 2 ^ 32))) ∧
      (isHead s = true → wrapped s = true → s.gal.restore = none →
        exec .galRestore s = .next ((g (fun q => { q with restore := some (s.cyc.idx + 4) }) s).answer 0 0)) ∧
      (isHead s = false ∨ wrapped s = false ∨ s.gal.restore ≠ none → exec .galRestore s = .next (s.answer 0 0)) ∧
      (let u := s.setRf rGAL_NODE GAL_NODE.STORED_ID ident.toNat
       exec (.storedIdWrite ident) s = .next ((if headCfg u = false ∧ s.gal.idmode = some false
         then g (fun q => { q with derive := true }) u else u).answer 0 0))) ∧
    -- sections
    (awake s → ¬ well → sect = .next s) ∧
    (well →
      let s1 := if fcs = 0 then s else if fcs = 2 then s.bumpSat (rGAL_FCS n) GAL_FCS.STOMP
        else raise srcGalFcs (s.bumpSat (rGAL_FCS n) GAL_FCS.BAD)
      let s2 := if x.2 then g (fun q => { q with curTrain := tset q.curTrain 0 n x.1 }) s1 else s1
      let s3 := if sec = 0 then putPort n { galPort s2 n with got := some s2.dtm.ticks } s2 else s2
      let a := if x.2 then s3 else trainInvalid n x.1 s3
      (fcs ≠ 0 → x.2 = false) ∧
      (isHead s1 = false → isHead a = false →
        (ret = false ∧ n ≠ up ∨ ret = true ∧ n = up ∨ abandoned sec x.1 far a = true → sect = .next a) ∧
        (ret = true → n ≠ up → abandoned sec x.1 far a = false →
          let r := inbound sec x.1 p a
          sect = .next (if x.2 then send up r.1 true r.2 else send up p (decide (fcs = 0)) (sectionCame false false sec x.1 a))) ∧
        (ret = false → n = up → abandoned sec x.1 far a = false →
          (x.2 = false → sect = .next (if role a = 2
            then send up (turned (sectionCame false false sec x.1 a) sec p) (decide (fcs = 0)) (sectionCame false false sec x.1 a)
            else send (1 - up) p (decide (fcs = 0)) a)) ∧
          (x.2 = true →
            let b := if wrongFam sec p a then foreignTrain x.1 a else a
            let r := outbound n e8.toNat sec x.1 p b
            let q := inbound sec x.1 (turned r.2 sec r.1) r.2
            sect = .next (if role a = 2 then send up q.1 true q.2 else send (1 - up) r.1 true r.2)))) ∧
      (isHead s1 = true → isHead a = true → n = 1 ∨ x.2 = false ∨ sa = s1.gal.mac →
        sect = .next (if ret = true ∧ (if far then n = 0 ∧ wrapped a = true else n = 1)
          then headReturn sec x.1 far x.2 p a else a)) ∧
      (isHead s1 = true → n = 0 → x.2 = true → sa ≠ s1.gal.mac → ret = true → far = false →
        let c := headConflict s1
        let d := g (fun q => { q with curTrain := tset q.curTrain 0 n x.1 }) c
        let e := if sec = 0 then putPort n { galPort d n with got := some d.dtm.ticks } d else d
        sect = .next e)) ∧
    (∀ (k i : Nat) (b : List Byte) (r : List (Nat × List Byte)), talkInto s k [] p = (p, 0) ∧
      (csGet p i = 0 → talkInto s k ((i, b) :: r) p = talkInto s k r (slotPut s k i 1 b p)) ∧
      (csGet p i ≠ 0 → talkInto s k ((i, b) :: r) p = ((talkInto s k r p).1, (talkInto s k r p).2 + 1))) ∧
    -- late trains
    (awake s → s.dtm.ticks + 500 < at' ∨ galOn s = false ∨ trainExpected s due = false → exec .blockLate s = .next s) ∧
    (galOn s = true → at' ≤ s.dtm.ticks + 500 → trainExpected s due = true →
      exec .blockLate s = .next (forEach (lightTrains s due) (judged fun y => { y with lightLate := true })
        (judged (fun y => { y with late := true }) due s)) ∧
      (inTime s at' due = false → ∃ t, judged (fun y => { y with late := true }) due s = t ∧
        t.rb rGAL_STAT GAL_STAT.LATE = true)) ∧
    -- messages
    (galOn s = true →
      (¬ mine → ∀ i ∈ [Instr.msgCommit dest slot cyc, .msgSetdata dest slot word ws, .msgSetend dest slot, .msgUser dest data],
        exec i s = .next s) ∧
      (mine → s.held 18 = false →
        (∀ x, s.flw.commit = some x → x.slot = slot.toNat → x.c = cyc.toNat → exec (.msgCommit dest slot cyc) s = .next s) ∧
        ((∀ x, s.flw.commit = some x → x.slot ≠ slot.toNat ∨ x.c ≠ cyc.toNat) → ∃ t, exec (.msgCommit dest slot cyc) s = .next t ∧
          exec (.flwLocalCommit slot cyc) s = .next (t.answer 0 0)) ∧
        (∃ t, exec (.msgSetend dest slot) s = .next t ∧ exec (.flwStage slot) s = .next (t.answer 0 0))) ∧
      (mine →
        (slotInUse s slot.toNat = true → exec (.msgSetdata dest slot word ws) s = .next (s.setRf rGAL_STAT GAL_STAT.SET_REJ 1)) ∧
        (slotInUse s slot.toNat = false → identFree s 27 = true →
          let stat := rFLW_SLOT_STAT slot.toNat
          let e := if word = 0 then { (s.setRf stat FLW_SLOT_STAT.STATE 0).setRf stat FLW_SLOT_STAT.FAIL 0 with
            flw := { s.flw with queue := s.flw.queue.filter fun j => j != slot.toNat } } else s
          let w0 := s.rf (rFLW_SLOT_BASE slot.toNat) FLW_SLOT_BASE.WORD + word.toNat
          (∀ i < ws.length, w0 + i < 1044480 ∧ s.domOn (cavDomain (w0 + i)) = true) →
          ∃ t, exec (.msgSetdata dest slot word ws) s = .next t ∧ t = { e with regs := t.regs, cav := t.cav } ∧
            regsBut [rBMX_OUT 2] e t ∧
            ∀ k, tget t.cav.words 0 k = (if w0 ≤ k then ws[k - w0]?.getD (tget s.cav.words 0 k) else tget s.cav.words 0 k)) ∧
        (s.gal.rxq.length < 16 → ∃ t, exec (.msgUser dest data) s = .next (rosterEvent 0x1A t) ∧
          t = g (fun q => { q with rxq := s.gal.rxq ++ [padMsg ([0x06, dest] ++ data.take 30)] }) { s with regs := t.regs } ∧
          t.rf rGAL_RXMSG_CTL GAL_RXMSG_CTL.LEVEL = s.gal.rxq.length + 1) ∧
        (16 ≤ s.gal.rxq.length → exec (.msgUser dest data) s = .next (s.bumpSat rGAL_RXMSG_CTL GAL_RXMSG_CTL.DROP))) ∧
      (mac = s.gal.mac → exec (.msgAssign mac ident) s = .next (let u := s.setRf rGAL_NODE GAL_NODE.STORED_ID ident.toNat
        if headCfg u = false ∧ s.gal.idmode = some false then g (fun q => { q with derive := true }) u else u)) ∧
      (mac ≠ s.gal.mac → exec (.msgAssign mac ident) s = .next s) ∧
      (role s = 0 ∨ s.rf rGAL_NODE GAL_NODE.POS ≠ pos.toNat ∨ 16 ≤ s.gal.txq.length → exec (.msgIdent pos) s = .next s) ∧
      (role s ≠ 0 → s.rf rGAL_NODE GAL_NODE.POS = pos.toNat → s.gal.txq.length < 16 → ∃ t, exec (.msgIdent pos) s = .next t ∧
        t = g (fun q => { q with txq := s.gal.txq ++ [padMsg ([0x05, BitVec.ofNat 8 (nodeId s)] ++ s.gal.mac ++
          [pos, BitVec.ofNat 8 (s.rf rGAL_NODE GAL_NODE.STORED_ID), 0x48, 0x96, 0x10])] }) { s with regs := t.regs } ∧
        t.rf rGAL_TXMSG_CTL GAL_TXMSG_CTL.LEVEL = s.gal.txq.length + 1)) ∧
    (awake s → galOn s = false → ∀ i ∈ [Instr.msgCommit dest slot cyc, .msgSetdata dest slot word ws, .msgSetend dest slot,
      .msgAssign mac ident, .msgIdent pos, .msgUser dest data, .glinkLoss port], exec i s = .next s) ∧
    -- links
    (galOn s = true →
      let q := galPort s n
      let fails := match q.got with
        | some t0 => t0 + 2 * (if s.cyc.fam < 2 then 31250 else 34014) + 500 < s.dtm.ticks
        | none => q.heard.getD 0 + 48 ≤ s.cyc.idx
      (glink s n = false ∨ ¬ fails → exec (.glinkLoss port) s = .next s) ∧
      (glink s n = true → fails →
        let r := raise (srcGlinkLoss n) (putPort n { q with links := [], train := none, got := none, badTrain := none }
          (s.setRf (rGAL_PORT_STAT n) GAL_PORT_STAT.GLINK 0))
        let asks := n = 0 ∧ headCfg r = false ∧ (galPort r 1).closure = true ∧ standby r 1 = true ∧ wrapped r = false
        (asks → exec (.glinkLoss port) s = .next (linkSend 1 true r)) ∧
        (¬ asks → exec (.glinkLoss port) s = .next r))) ∧
    (let q := galPort s n
     let hears := galLive s n = true ∧ portMgmt s n = false ∧ good = true ∧ pb 0 = 0x12 ∧ pb 1 = 0 ∧ p.length = 48
     let closure : Bool := if n = 0 then ringCfg s else decide (pb 9 / 64 = 0 ∧ pb 9 / 32 % 2 = 0)
     let a2 := rxStamp s n (edgeTime e8.toNat s)
     let echo := timeOf p 22
     let known := stamps s = true ∧ echo ≠ 0 ∧ ∃ y ∈ q.txs, y.2 = echo ∧ s.cyc.idx ≤ y.1 + 64
     let noted := fun (l : List Int) =>
       let q' := { q with
         links := ((beNat ((p.drop 4).take 4)) :: q.links).take 8, heard := some s.cyc.idx, closure := closure
         samples := l, echo := if stamps s then some (timeOf p 10, a2) else q.echo }
       let u := putPort n q' s
       let v := if l = [] then u else
         u.setReg (rGAL_LDLY n) (BitVec.ofNat 64 (2 ^ 31 + (max 0 (l.sum / (l.length : Int) / 2 ^ 24)).toNat % 2 ^ 31))
       let w := if closure = true ∧ n = 0 ∧ s.gal.wrapReq = false ∧ pb 9 / 8 % 2 = 1 ∧ wrapped s = false
         then g (fun y => { y with wrapReq := true }) v else v
       exec (.linkFrameReceive port e8 p good) s = .next (linkCheck n closure w)
     (awake s → ¬ hears → exec (.linkFrameReceive port e8 p good) s = .next s) ∧
     (hears → known → noted (let l := q.samples ++ [((a2 : Int) - echo * 2 ^ 12 - ((timeOf p 10 : Int) - timeOf p 34) * 2 ^ 12) / 2]
       l.drop (l.length - 16))) ∧
     (hears → ¬ known → noted (q.samples.drop (q.samples.length - 16))) ∧
     ∀ c : Bool,
       let may := (∃ y r, q.links = y :: r ∧ ∃ z ∈ r, z ≠ y) ∧ phyGig s n = true ∧ portMgmt s n = false
       let stat := rGAL_PORT_STAT n
       let portTo := fun (st gl : Nat) => (s.setRf stat GAL_PORT_STAT.STANDBY st).setRf stat GAL_PORT_STAT.GLINK gl
       (¬ may → linkCheck n c s = s) ∧
       (may → c = true → linkCheck n c s = if wrapped s then portTo 0 1 else portTo 1 0) ∧
       (may → c = false → glink s n = true → linkCheck n c s = s) ∧
       (may → c = false → glink s n = false → linkCheck n c s =
         if wrapped s then s.setRf stat GAL_PORT_STAT.STANDBY 1 else portTo 0 1))

/-- GO queues the written message or sets TXFULL, POP removes the oldest received one, SETTX of the head begins to
stream with the LEN it reads. MDIO's GO stores its fields and starts one transaction, unless one runs; its end clears
BUSY with the data of a read. A PHY's report is shown, and a port not at gigabit full duplex has no link. A bad or
long frame is dropped and counted; one for another address joins the queue of the other port, where that has link at
full duplex and is not standby; one for this node, where it is no event message, fills the next receive buffer the
device owns and gives it back; a group address does both. A gap sends a LINK frame that is due, else the oldest queued
frame, where it fits: on a port that carries trains between the end of the last and 1.0 us before the next. TXPOLL
queues the frame of an owned descriptor and gives it back. Cavern is reached with an entry free. Rests on R317, R318,
R319, R320, R321, R330, R331, R340. -/
def Obligations.GalleryQueuesManagementAndFrames : Prop :=
  ∀ (port : BitVec 1) (e8 : BitVec 3) (f : List Byte) (good wr up fdx : Bool) (phy reg : BitVec 5) (d16 : BitVec 16)
    (speed : BitVec 2) (src dst : BitVec 4) (dest : Byte) (s : State),
    let n := port.toNat
    let g := fun (h : Gal → Gal) (t : State) => { t with gal := h t.gal }
    let setPortTo := fun (k : Nat) (q : GalPort) (t : State) => g (fun x => { x with ports := tset x.ports GalPort.init k q }) t
    let busy := s.rb rGAL_MDIO GAL_MDIO.BUSY
    let rxR := rGAL_RXMSG_CTL :: rGAL_TXMSG_CTL :: (List.range 8).map rGAL_RXMSG
    let word := fun k => tget s.cav.words 0 k
    let clean := fun k => k < 1044480 ∧ s.domOn (cavDomain k) = true ∧ tget s.cav.flips 0 k = 0
    let gal2 := [rBMX_OUT 2]
    (fwReaches s rGAL_CTL →
      (s.gal.txq.length < 16 → ∃ t, exec .galTxmsgGo s = .next t ∧ regsBut rxR s t ∧
        t.rf rGAL_TXMSG_CTL GAL_TXMSG_CTL.LEVEL = s.gal.txq.length + 1 ∧
        t = (g (fun q => { q with txq := q.txq ++ [(List.range 8).flatMap fun w => natBe 4 ((s.reg (rGAL_TXMSG w)).toNat % 2 ^ 32)] })
          { s with regs := t.regs }).answer 0 0) ∧
      (16 ≤ s.gal.txq.length → exec .galTxmsgGo s = .next ((s.setRf rGAL_STAT GAL_STAT.TXFULL 1).answer 0 0)) ∧
      (s.gal.rxq.length ≤ 16 → ∃ t, exec .galRxmsgPop s = .next t ∧ regsBut rxR s t ∧
        t = (g (fun q => { q with rxq := q.rxq.tail }) { s with regs := t.regs }).answer 0 0 ∧
        t.rf rGAL_RXMSG_CTL GAL_RXMSG_CTL.LEVEL = s.gal.rxq.length - 1 ∧
        ∀ w < 8, t.reg (rGAL_RXMSG w) = BitVec.ofNat 64 (beNat (((s.gal.rxq.tail.headD []).drop (4 * w)).take 4))) ∧
      (let b := s.rf (rFLW_SLOT_BASE src.toNat) FLW_SLOT_BASE.WORD
       let u := ((s.setRf rGAL_SETTX GAL_SETTX.DST_SLOT dst.toNat).setRf rGAL_SETTX GAL_SETTX.DEST dest.toNat).setRf
         rGAL_SETTX GAL_SETTX.SRC_SLOT src.toNat
       (isHead s = false ∨ s.rb rGAL_SETTX GAL_SETTX.BUSY = true → exec (.galSettxGo src dst dest) s = .next (u.answer 0 0)) ∧
       (isHead s = true → s.rb rGAL_SETTX GAL_SETTX.BUSY = false → clean (b + 1) → identFree s 28 = true →
         ∃ t, exec (.galSettxGo src dst dest) s = .next t ∧ regsBut (rGAL_SETTX :: gal2) s t ∧
           t.rb rGAL_SETTX GAL_SETTX.BUSY = true ∧ t.rf rGAL_SETTX GAL_SETTX.SRC_SLOT = src.toNat ∧
           t = (g (fun q => { q with settx := some (dst.toNat, dest.toNat, b, (word (b + 1)).toNat % 2 ^ 14, 0) })
             { s with regs := t.regs }).answer 0 0)) ∧
      (let u := (((s.setRf rGAL_MDIO GAL_MDIO.WR (if wr then 1 else 0)).setRf rGAL_MDIO GAL_MDIO.PHYAD phy.toNat).setRf
         rGAL_MDIO GAL_MDIO.REGAD reg.toNat).setRf rGAL_MDIO GAL_MDIO.DATA d16.toNat
       (busy = true → exec (.galMdioGo wr phy reg d16) s = .next (u.answer 0 0)) ∧
       (busy = false → exec (.galMdioGo wr phy reg d16) s =
         .next ((g (fun q => { q with mdio := some wr, mdc := true }) (u.setRf rGAL_MDIO GAL_MDIO.BUSY 1)).answer 0 0))) ∧
      (galOn s = false ∨ s.rb rGAL_ETH_CTL GAL_ETH_CTL.TXEN = false ∨ s.rf rGAL_ETH_TX GAL_ETH_TX.LEN = 0 →
        exec .ethTxpoll s = .next (s.answer 0 0)) ∧
      (let w := s.rf rGAL_ETH_TX GAL_ETH_TX.BASE
       let a := (word w).toNat % 2 ^ 32
       let b := (a - 0x10000000) / 8
       let d1 := (word (w + 1)).toNat
       let len := d1 % 65536
       let q := galPort s 0
       ethPort s 0 = true → s.rb rGAL_ETH_CTL GAL_ETH_CTL.TXEN = true → s.rf rGAL_ETH_TX GAL_ETH_TX.LEN = 1 → s.gal.txIdx = 0 →
       identFree s 24 = true → 0x10000000 ≤ a → a % 8 = 0 → clean w → clean (w + 1) → (∀ i < (len + 3) / 4, clean (b + i)) → (word (w + 1)).getLsbD 16 = true → d1 / 2 ^ 18 % 4 = 1 →
       len ≤ 1518 → (q.queue.map fun e => e.bytes.length).sum + len ≤ 16384 →
         ∃ t l, exec .ethTxpoll s = .next t ∧ regsBut gal2 s t ∧
           t = (setPortTo 0 { q with queue := q.queue ++ [⟨l, true, none, 0⟩] } { s with regs := t.regs, cav := t.cav }).answer 0 0 ∧
           l.length = len ∧ (∀ k < len, l[k]? = some ((word (b + k / 4) >>> (8 * (k % 4))).setWidth 8)) ∧
           ∀ k, tget t.cav.words 0 k = if k = w + 1 then BitVec.ofNat 40 (len + 2 ^ 18) else word k)) ∧
    (awake s →
      (s.gal.mdio = none → exec (.mdioTransactionDone d16) s = .next s) ∧
      (∀ w, s.gal.mdio = some w → let u := g (fun q => { q with mdio := none }) (s.setRf rGAL_MDIO GAL_MDIO.BUSY 0)
        exec (.mdioTransactionDone d16) s = .next (if w then u else u.setRf rGAL_MDIO GAL_MDIO.DATA d16.toNat)) ∧
      (let stat := rGAL_PORT_STAT n
       let u := ((s.setRf stat GAL_PORT_STAT.PHY_UP (if up then 1 else 0)).setRf stat GAL_PORT_STAT.FDX (if fdx then 1 else 0)).setRf
         stat GAL_PORT_STAT.SPEED speed.toNat
       let v := if glink s n = true then glinkDrop n u else u
       (up = true ∧ fdx = true ∧ speed = 2 → exec (.phyStatusChange port up fdx speed) s = .next u) ∧
       (¬ (up = true ∧ fdx = true ∧ speed = 2) → exec (.phyStatusChange port up fdx speed) s =
         .next ((setPortTo n { galPort v n with links := [], heard := none } v).setRf stat GAL_PORT_STAT.STANDBY 0)))) ∧
    (awake s → galLive s n = false ∨ isGallery s f = true → exec (.ethFrameReceive port e8 f good) s = .next s) ∧
    (galLive s n = true → isGallery s f = false →
      let drop := .next (s.bumpSat rGAL_ETH_DROP GAL_ETH_DROP.CNT)
      let own := f.take 6 = s.gal.mac
      (1518 < f.length ∨ good = false → exec (.ethFrameReceive port e8 f good) s = drop) ∧
      (f.length ≤ 1518 → ptpFind s f = none →
        (¬ own → (f.getD 0 0).toNat % 2 = 1 → f.take 6 ≠ daTrain → f.take 6 ≠ daLink →
          exec (.ethFrameReceive port e8 f true) s = .next (ethQueue (1 - n) ⟨f, false, none, n⟩ (hostReceive n f s)).2) ∧
        (¬ own → (f.getD 0 0).toNat % 2 = 0 → let q := galPort s (1 - n)
          (ethPort s (1 - n) = false → exec (.ethFrameReceive port e8 f true) s = .next s) ∧
          (ethPort s (1 - n) = true → (q.queue.map fun e => e.bytes.length).sum + f.length ≤ 16384 →
            exec (.ethFrameReceive port e8 f true) s =
              .next (setPortTo (1 - n) { q with queue := q.queue ++ [⟨f, false, none, n⟩] } s)) ∧
          (ethPort s (1 - n) = true → 16384 < (q.queue.map fun e => e.bytes.length).sum + f.length →
            exec (.ethFrameReceive port e8 f true) s = drop)) ∧
        (own → s.rb rGAL_ETH_CTL GAL_ETH_CTL.RXEN = false → exec (.ethFrameReceive port e8 f true) s = drop) ∧
        (let len := s.rf rGAL_ETH_RX GAL_ETH_RX.LEN
         let i := s.gal.rxIdx % len
         let w := s.rf rGAL_ETH_RX GAL_ETH_RX.BASE + 2 * i
         let a := (word w).toNat % 2 ^ 32
         let b := (a - 0x10000000) / 8
         let m := (f.length + 3) / 4
         own → s.rb rGAL_ETH_CTL GAL_ETH_CTL.RXEN = true → 0 < len →
         identFree s 24 = true → 0x10000000 ≤ a → a % 8 = 0 → clean w → clean (w + 1) → (∀ k < m, clean (b + k)) →
         w + 1 < b ∨ b + m ≤ w → (word (w + 1)).getLsbD 16 = true →
           ∃ t, exec (.ethFrameReceive port e8 f true) s = .next t ∧ regsBut gal2 s t ∧
             t = g (fun q => { q with rxIdx := (i + 1) % len }) { s with regs := t.regs, cav := t.cav } ∧
             ∀ k, tget t.cav.words 0 k = if b ≤ k ∧ k < b + m then (ofBytes ((f.drop (4 * (k - b))).take 4)).setWidth 40
               else if k = w + 1 then BitVec.ofNat 40 (f.length + 2 ^ (18 + n)) else word k))) ∧
    (awake s → galLive s n = false → exec (.ethFrameTransmit port) s = .next s) ∧
    (galLive s n = true → let q := galPort s n
      let fits := fun (len : Nat) => ∀ t0, q.train = some t0 → t0 + 27756 ≤ s.dtm.ticks ∧
        s.dtm.ticks + 2 * (len + 24) + 250 ≤ t0 + (if s.cyc.fam < 2 then 31250 else 34014)
      (q.linkDue = false → q.queue = [] → exec (.ethFrameTransmit port) s = .next s) ∧
      (∀ e r, q.linkDue = false → q.queue = e :: r →
        (ethPort s n = false ∨ ¬ fits e.bytes.length → exec (.ethFrameTransmit port) s = .next s) ∧
        (ethPort s n = true → fits e.bytes.length →
          let b := ptpLeave n (txStamp s n s.dtm.tb) e (setPortTo n { q with queue := r } s)
          exec (.ethFrameTransmit port) s = .next (setPortTo n { galPort b.2 n with
            sent := (galPort b.2 n).sent ++ [(b.1, true)] } b.2) ∧
          (ptpFind s e.bytes = none → b = (e.bytes, setPortTo n { q with queue := r } s)))) ∧
      (q.linkDue = true → ¬ fits 62 → exec (.ethFrameTransmit port) s = .next s) ∧
      (q.linkDue = true → fits 62 → ∃ t, exec (.ethFrameTransmit port) s = .next t ∧
        t = setPortTo n { q with linkDue := false, sent := (galPort t n).sent, txs := (galPort t n).txs } s ∧
        (galPort t n).sent = q.sent ++ [(daLink ++ s.gal.mac ++ natBe 2 s.gal.etype ++ linkPayload s n false, true)]))

/-- GO captures seconds, nanoseconds and fraction; steps written add up. At the next tick a set loads its value and a
step adds to the advance, never below zero; STEPPED sets, TIME_VALID clears, alignment stops, Cairn source 21 signals,
the next boundary is the first multiple of T at or after the new value, and the pulse outputs' next grid points are.
ADDEND is clamped to ±1000 ppm with ADD_CLAMP and its source, and ignored in SERVO mode. SET and CLR of DTM_TV act in
SOFT mode; a change signals source 22, a loss sets TV_LOST, drops a pending commit and raises the source. A change of
mode sets I to ADDEND − 2^30, clears TIME_VALID and the history, and selects nothing in holdover. A sample is the
written offset, or the nearest grid value minus the edge's local time rounded down; an edge counts where its pin then
holds two ticks. A read of DTM_TB_NS takes the master's snapshot. A second whose cycles have passed stores its mean
where it qualifies. An edge of DTM_PPSO or DTM_FRMO is made where one is due: the rise at the first grid point not yet
made, where EN is set, the fall at the end of the high phase. POP shows the next timestamp. Rests on R348, R349, R350,
R351, R354, R356, R361, R365, R372, R373, R384, R386. -/
def Obligations.DatumSetsStepsModesAndSamples : Prop :=
  ∀ (v : W64) (a held : W32) (srv rising : Bool) (m e8 : BitVec 3) (s : State),
    let dtm := fun (f : Dtm → Dtm) (t : State) => { t with dtm := f t.dtm }
    let next := fun (i : Instr) (t : State) => exec i s = .next t
    let stat := rDTM_STAT
    let mode := s.rb rDTM_CTL DTM_CTL.MODE
    let add := (s.reg rDTM_ADDEND).toNat
    let stamped := fun (n : Nat) (lv tv : Bool) (tb : Nat) (c : Crn) =>
      if s.rbit rCRN_CTL n && s.domOn 122 then { c with pend := c.pend ++ [⟨tb, n, lv, tv⟩] } else c
    let hz := sampleHz s
    -- q / (2 ^ 28 · pd) ns is a point of the grid of period pn / pd ns and offset ofs · 0.5 ns
    let isPoint := fun (pn pd : Nat) (ofs q : Int) => ∃ k : Int, q = k * (pn * 2 ^ 28 : Nat) + ofs * 2 ^ 27 * pd
    let frame := max 1 (s.rf rDTM_FRMO_CTL DTM_FRMO_CTL.FDIV) * 1000000000
    let pOfs := sfget DTM_PPSO_OFS.OFS (s.reg rDTM_PPSO_OFS)
    let fOfs := sfget DTM_FRMO_OFS.OFS (s.reg rDTM_FRMO_OFS)
    let moved := fun (pn pd : Nat) (ofs : Int) (tb : Nat) (x y : Pulse) =>
      y = { x with since := tb, fall := tb + (x.fall - s.dtm.tb), off := y.off } ∧
      ∃ q : Int, isPoint pn pd ofs q ∧ (tb * pd : Nat) ≤ q ∧ q < (tb * pd + pn * 2 ^ 28 : Nat) ∧
        q ≤ (y.off * pd : Nat) ∧ (y.off * pd : Nat) < q + pd
    let jumpedTo := fun (i : Instr) (tb : Nat) (p : Option Nat) (q : Option Int) =>
      (∃ t, next i t ∧ t.dtm.tb = tb ∧ t.dtm.setPend = p ∧ t.dtm.stepPend = q ∧ t.dtm.ticks = s.dtm.ticks + 1 ∧
        t.timeValid = false ∧ t.rb stat DTM_STAT.STEPPED = true ∧ t.rb stat DTM_STAT.SET_PEND =
          (if i = .timebaseSetApply then false else s.rb stat DTM_STAT.SET_PEND) ∧
        (s.timeValid = true → t.rb stat DTM_STAT.TV_LOST = true ∧ t.flw.commit = none)) ∧
      (s.timeValid = false → ∃ t, next i t ∧ t = { s with
          regs := t.regs, tim := t.tim, dtm := t.dtm, pwr := t.pwr, switched := t.switched
          cyc := { s.cyc with next := t.cyc.next, midDone := t.cyc.midDone }
          rst := { s.rst with upTicks := (s.rst.upTicks + 1) % 250 }
          hwn := { s.hwn with hbusy := t.hwn.hbusy, busyOff := t.hwn.busyOff } } ∧
        (let T := if s.cyc.fam < 2 then 125000 * 2 ^ 28 * 7350 else 1000000000 * 2 ^ 28
         let b := t.cyc.next * T
         tb * 7350 ≤ b ∧ (b < tb * 7350 + T) ∧ t.cyc.midDone = decide (2 * b < 2 * tb * 7350 + T)) ∧
        t.dtm = { s.dtm with tb := tb, ticks := s.dtm.ticks + 1, setPend := p, stepPend := q, lockN := 0, unlockN := 0
                             syn := t.dtm.syn, refs := t.dtm.refs, ppso := t.dtm.ppso, frmo := t.dtm.frmo
                             crn := stamped 21 false false tb s.dtm.crn } ∧
        moved 1000000000 1 pOfs tb s.dtm.ppso t.dtm.ppso ∧ moved frame hz fOfs tb s.dtm.frmo t.dtm.frmo ∧
        t.dtm.refs = s.dtm.refs.map (fun x => (x.1, { x.2 with cut := true, w0 := none })) ∧
        (∀ n < 3, tget t.dtm.syn Syn.init n = { tget s.dtm.syn Syn.init n with near := 0, stopped := true } ∧
          t.rb (rSYN_STAT n) SYN_STAT.ALIGNED = false) ∧
        regsBut (stat :: rPWR_UPTIME :: (List.range 3).map rSYN_STAT ++ (List.range 8).map rTIM_CNT ++
          (List.range 8).map rTIM_STAT ++ (List.range 8).map rTIM_CTL) s t ∧
        t.reg rPWR_UPTIME = s.reg rPWR_UPTIME + BitVec.ofNat 64 ((s.rst.upTicks + 1) / 250))
    let taken := fun (n : Nat) (th : Int) (t : State) =>
      let r := tget t.dtm.refs Ref.init n
      let far := match r.theta with
        | some o => decide (r.cut = false ∧ (s.rf (rDTM_REF_QUAL n) DTM_REF_QUAL.PTOL : Int) * 65536 < (th - o).natAbs)
        | none => false
      let first := t.dtm.piNext && s.rf rDTM_REF_STAT DTM_REF_STAT.SEL == n
      let r1 : Ref := { r with
        theta := some th, fresh := r.fresh + 1, age := 0, hit := r.hit || far, wn := r.wn + 1, cut := false }
      dtm (fun x => { x with
        refs := tset x.refs Ref.init n r1
        pi := if first then th * 65536 else x.pi, piNext := if first then false else x.piNext }) t
    let wanted := fun (code : Nat) => (code = 2 ∧ rising = false) ∨ ((code = 1 ∨ code = 3) ∧ rising = true)
    let at8 : Int := (s.dtm.tb + add * e8.toNat / 8 : Nat)
    let pedge := s.rf rDTM_REF_IN DTM_REF_IN.PEDGE
    let wedge := s.rf rDTM_REF_IN DTM_REF_IN.WEDGE
    (s.running = true →
      (∃ t x, next .dtmSetGo t ∧ t = { s with regs := t.regs, dtm := { s.dtm with setPend := some x }, resp := ⟨0, 0⟩ } ∧
        t.rb stat DTM_STAT.SET_PEND = true ∧ onlyRegs [stat] { s with dtm := t.dtm, resp := ⟨0, 0⟩ } t ∧
        x / 2 ^ 28 / 1000000000 = (s.reg rDTM_SET_SEC).toNat % 2 ^ 48 ∧
        x / 2 ^ 28 % 1000000000 = min 999999999 ((s.reg rDTM_SET_NS).toNat / 2 ^ 16 % 2 ^ 32) ∧
        x / 2 ^ 12 % 2 ^ 16 = (s.reg rDTM_SET_NS).toNat % 2 ^ 16 ∧ x % 2 ^ 12 = 0) ∧
      next (.dtmStepWrite v) ((dtm (fun x => { x with stepPend := some (s.dtm.stepPend.getD 0 + v.toInt) }) s).answer 0 0) ∧
      (mode = true → ∀ i ∈ [Instr.dtmAddendWrite a, .dtmTvSet, .dtmTvClr], next i (s.answer 0 0)) ∧
      (mode = false →
        (0x3FEF9DB2 ≤ a.toNat → a.toNat ≤ 0x4010624E →
          next (.dtmAddendWrite a) ((s.setReg rDTM_ADDEND (a.setWidth 64)).answer 0 0)) ∧
        (∀ lim : W64, (a.toNat < 0x3FEF9DB2 ∧ lim = 0x3FEF9DB2) ∨ (0x4010624E < a.toNat ∧ lim = 0x4010624E) →
          next (.dtmAddendWrite a)
            ((raise srcAddend ((s.setReg rDTM_ADDEND lim).setRf stat DTM_STAT.ADD_CLAMP 1)).answer 0 0)) ∧
        (s.timeValid = true → next .dtmTvSet (s.answer 0 0) ∧ ∃ u, next .dtmTvClr ((raise srcTimeLoss u).answer 0 0) ∧
          u = { s with regs := u.regs, dtm := { s.dtm with crn := stamped 22 false false s.dtm.tb s.dtm.crn }, flw := u.flw } ∧
          u.timeValid = false ∧ u.rb stat DTM_STAT.TV_LOST = true ∧
          (s.flw.commit = none → u.flw = s.flw ∧ regsBut [stat] s u) ∧
          (∀ c, s.flw.commit = some c → u.rb rFLW_STAT FLW_STAT.TIME_DROP = true ∧
            u.rb rFLW_STAT FLW_STAT.PENDING = false ∧ u.rb rFLW_STAT FLW_STAT.ARMING = false ∧
            u.flw = { s.flw with commit := none, undo := none, dropped := u.flw.dropped } ∧
            (c.swap = none → u.flw.dropped = s.flw.dropped) ∧
            (∀ w x, c.swap = some w → s.flw.undo = some x → u.flw.dropped = some ⟨w, c.slot, x⟩))) ∧
        (s.timeValid = false → next .dtmTvClr (s.answer 0 0) ∧ ∃ t, next .dtmTvSet t ∧ t.timeValid = true ∧ regsBut [stat] s t ∧
          t = { s with regs := t.regs, dtm := { s.dtm with crn := stamped 22 true true s.dtm.tb s.dtm.crn }, resp := ⟨0, 0⟩
                       cyc := { s.cyc with timeMute := isMember s } })) ∧
      (srv = mode → next (.dtmModeWrite srv) (s.answer 0 0)) ∧
      (srv ≠ mode → ∃ t, next (.dtmModeWrite srv) t ∧ t.rb rDTM_CTL DTM_CTL.MODE = srv ∧ t.timeValid = false ∧
        t.rf rDTM_SRV_INT DTM_SRV_INT.I = (add + 2 ^ 32 - 2 ^ 30) % 2 ^ 32 ∧ t.rf rDTM_REF_STAT DTM_REF_STAT.SEL = 7 ∧
        t.rb rDTM_REF_STAT DTM_REF_STAT.HOLD = true ∧ t.dtm.hist = [] ∧ t.reg rDTM_HOLD_N = 0 ∧
        (s.timeValid = false → t = { s with regs := t.regs, dtm := t.dtm, resp := ⟨0, 0⟩ } ∧
          regsBut [rDTM_CTL, rDTM_SRV_INT, rDTM_REF_STAT, rDTM_HOLD, rDTM_HOLD_N] s t ∧
          t.dtm = { s.dtm with hist := [], secSum := 0, secN := 0, secOk := false, pi := 0, piNext := false, holdN := 0
                               lockN := 0, unlockN := 0 })) ∧
      (s.domOn 119 = true → next (.dtmPtpOfsWrite v) ((taken 1 v.toInt s).answer 0 0)) ∧
      (s.domOn 119 = false → next (.dtmPtpOfsWrite v) (s.answer 0 0)) ∧
      (m.toNat < 2 → mayAccess s (firstIdent m.toNat) rDTM_TB_NS → ∃ t, next (.dtmTbNsRead m) t ∧ outOf t m.toNat = outOf s m.toNat ∧
        t = { s with regs := t.regs, resp := ⟨BitVec.ofNat 64 (s.dtm.tb / 2 ^ 12 % (1000000000 * 2 ^ 16)), 0⟩
                     dtm := { s.dtm with snaps := tset s.dtm.snaps (0, 0) m.toNat (s.dtm.tb,
                       if s.cyc.fam < 2 then s.dtm.tb / (125000 * 2 ^ 28) else s.dtm.tb * 147 / (20000000 * 2 ^ 28)) } } ∧
        regsBut [rBMX_OUT m.toNat] s t) ∧
      ∃ t, next .ptsPop t ∧ t = { s with regs := t.regs, dtm := { s.dtm with pts := s.dtm.pts.tail }, resp := ⟨0, 0⟩ } ∧
        regsBut [rDTM_PTS_CTL, rDTM_PTS_ID, rDTM_PTS_SEC, rDTM_PTS_NS] s t ∧
        t.rf rDTM_PTS_CTL DTM_PTS_CTL.LEVEL = (s.dtm.pts.length - 1) % 32 ∧
        t.rf rDTM_PTS_CTL DTM_PTS_CTL.DROP = s.rf rDTM_PTS_CTL DTM_PTS_CTL.DROP ∧
        (s.dtm.pts.tail = [] → t.reg rDTM_PTS_ID = 0) ∧
        ∀ e l, s.dtm.pts.tail = e :: l → t.rb rDTM_PTS_ID DTM_PTS_ID.VALID = true ∧ t.rb rDTM_PTS_ID DTM_PTS_ID.DIR = e.tx ∧
          t.rf rDTM_PTS_ID DTM_PTS_ID.SEQID = e.seqId % 2 ^ 16 ∧ t.rf rDTM_PTS_ID DTM_PTS_ID.DOMAIN = e.domain % 256 ∧
          t.rf rDTM_PTS_ID DTM_PTS_ID.MSG = e.msg % 16 ∧ t.rf rDTM_PTS_ID DTM_PTS_ID.PORT = e.port % 4 ∧
          t.reg rDTM_PTS_SEC = BitVec.ofNat 64 (e.stamp / (1000000000 * 2 ^ 28)) ∧
          t.reg rDTM_PTS_NS = BitVec.ofNat 64 (e.stamp / 2 ^ 12 % (1000000000 * 2 ^ 16))) ∧
    (awake s →
      (s.dtm.setPend = none → next .timebaseSetApply s) ∧
      (∀ x, s.dtm.setPend = some x → jumpedTo .timebaseSetApply x none s.dtm.stepPend) ∧
      (s.dtm.stepPend = none → next .timebaseStepApply s) ∧
      (∀ d, s.dtm.stepPend = some d → jumpedTo .timebaseStepApply ((s.dtm.tb + add : Int) + d * 2 ^ 12).toNat s.dtm.setPend none) ∧
      (¬ wanted pedge ∨ held.toNat < 2 ∨ s.domOn 119 = false → next (.ppsInputEdge e8 rising held) s) ∧
      (¬ wanted wedge ∨ held.toNat < 2 ∨ s.dtm.wclk = true → next (.wclkInputEdge e8 rising held) s) ∧
      (s.domOn 119 = false → wanted wedge → 2 ≤ held.toNat → s.dtm.wclk = false →
        next (.wclkInputEdge e8 rising held) (dtm (fun x => { x with wclk := true }) s)) ∧
      (s.domOn 119 = true → 2 ≤ held.toNat →
        (wanted pedge → ∃ k : Int,
          let d := k * (1000000000 * 2 ^ 28) + sfget DTM_REF_INOFS_P.OFS (s.reg rDTM_REF_INOFS_P) * 2 ^ 27 - at8
          2 * d.natAbs ≤ 1000000000 * 2 ^ 28 ∧ next (.ppsInputEdge e8 rising held) (taken 4 (d / 2 ^ 12) s)) ∧
        (wanted wedge → s.dtm.wclk = false → ∃ k : Int,
          let fs := sampleHz s
          let p : Int := (max 1 (s.rf rDTM_REF_IN DTM_REF_IN.WDIV) * 1000000000 * 2 ^ 28 : Nat)
          let d : Int := k * p + (sfget DTM_REF_INOFS_W.OFS (s.reg rDTM_REF_INOFS_W) * 2 ^ 27 - at8) * fs
          2 * d.natAbs ≤ p ∧
            next (.wclkInputEdge e8 rising held) (taken 2 (d / (2 ^ 12 * fs : Nat)) (dtm (fun x => { x with wclk := true }) s)))) ∧
      (s.dtm.secN < (if s.cyc.fam < 2 then 8000 else 7350) → next .holdoverSecond s) ∧
      ((if s.cyc.fam < 2 then 8000 else 7350) ≤ s.dtm.secN → ∃ t, next .holdoverSecond t ∧ regsBut [rDTM_HOLD, rDTM_HOLD_N] s t ∧
        t.reg rDTM_HOLD_N = BitVec.ofNat 64 t.dtm.hist.length ∧
        t.reg rDTM_HOLD = BitVec.ofNat 64 (lowBits 32 (holdValue t)) ∧
        t = { s with regs := t.regs, dtm := { s.dtm with secSum := 0, secN := 0, secOk := true, hist := t.dtm.hist } } ∧
        t.dtm.hist = if s.dtm.secOk = true ∧ s.domOn 119 = true
          then (Frac.norm ⟨s.dtm.secSum, s.dtm.secN⟩ :: s.dtm.hist).take 1000 else s.dtm.hist) ∧
      (s.dtm.ppso.high = true → next .ppsoEdge (if s.dtm.ppso.fall < s.dtm.tb + add
        then dtm (fun x => { x with ppso := { x.ppso with high := false } }) s else s)) ∧
      (s.dtm.frmo.high = true → next .frmoEdge (if s.dtm.frmo.fall < s.dtm.tb + add
        then dtm (fun x => { x with frmo := { x.frmo with high := false } }) s else s)) ∧
      (s.dtm.ppso.high = false → ∃ p : Nat, isPoint 1000000000 1 pOfs p ∧ s.dtm.ppso.since ≤ p ∧
        p < s.dtm.ppso.since + 1000000000 * 2 ^ 28 ∧
        next .ppsoEdge (if s.rb rDTM_PPSO_CTL DTM_PPSO_CTL.EN = true ∧ p < s.dtm.tb + add then
          dtm (fun x => { x with
            crn := stamped 20 false s.timeValid s.dtm.tb x.crn
            ppso := { x.ppso with
              high := true, since := max (s.dtm.tb + 1) (p + 1), driven := true
              fall := p + min 999999 (max 1 (s.rf rDTM_PPSO_CTL DTM_PPSO_CTL.WIDTH)) * 1000 * 2 ^ 28 } }) s
          else s)) ∧
      (s.dtm.frmo.high = false → ∃ p : Nat, isPoint frame hz fOfs p ∧ s.dtm.frmo.since * hz ≤ p ∧
        p < s.dtm.frmo.since * hz + frame * 2 ^ 28 ∧
        next .frmoEdge (if s.rb rDTM_FRMO_CTL DTM_FRMO_CTL.EN = true ∧ p < (s.dtm.tb + add) * hz then
          dtm (fun x => { x with frmo := { x.frmo with
            high := true, since := max (s.dtm.tb + 1) (p / hz + 1), driven := true, fall := p / hz + frame / hz * 2 ^ 27 } }) s
          else s)))

/-- An edge of the selected kind, held for GLITCH ticks, is stamped with the interpolated timebase where its source is
enabled; one within 64 ns of the last is counted only. A commit takes the least timestamp, ties by source: it enters
the FIFO with the next SEQ and readies the roster, joins an overrun record, or, when the FIFO is full, starts one with
OVERRUN and its source, CRN_LOST counting it. POP removes the oldest and lets a pending record commit; FLUSH discards
entries, stamped events and the record. The entry registers show the oldest entry. With domain 122 not powered nothing
happens. Rests on R364, R365, R366, R367, R368, R369. -/
def Obligations.CairnStampsCommitsAndPops : Prop :=
  ∀ (pin : BitVec 4) (e8 : BitVec 3) (rising : Bool) (held : W32) (s : State),
    let c := s.dtm.crn
    let next := fun (i : Instr) (t : State) => exec i s = .next t
    let crn := fun (x : Crn) (t : State) => { t with dtm := { t.dtm with crn := x } }
    let on := s.domOn 122 = true
    let k := pin.toNat
    let edge := s.rf (rCRN_PIN k) CRN_PIN.EDGE
    let wanted := (edge = 3 ∨ (edge = 1 ∧ rising = true) ∨ (edge = 2 ∧ rising = false)) ∧
      s.rf (rCRN_PIN k) CRN_PIN.GLITCH ≤ held.toNat
    let t8 := s.dtm.tb + (s.reg rDTM_ADDEND).toNat * e8.toNat / 8
    -- the eighth of a tick of 4 ns in which the edge fell
    let at8 := 8 * s.dtm.ticks + e8.toNat
    let close := ∃ p ∈ c.lastEdge, p.1 = k ∧ at8 < p.2 + 128
    let entRegs := rCRN_STAT :: List.range' rCRN_ENT_HDR (rCRN_ENT_LNS + 1 - rCRN_ENT_HDR)
    let secOf := fun (x : Nat) => BitVec.ofNat 64 (x / (1000000000 * 2 ^ 28))
    let nsOf := fun (x : Nat) => BitVec.ofNat 64 (x / 2 ^ 12 % (1000000000 * 2 ^ 16))
    let shows := fun (t : State) =>
      t.rf rCRN_STAT CRN_STAT.LEVEL = t.dtm.crn.fifo.length % 256 ∧ t.rb rCRN_STAT CRN_STAT.PEND = t.dtm.crn.overrun.isSome ∧
      (t.dtm.crn.fifo = [] → ∀ r ∈ entRegs.tail, t.reg r = 0) ∧
      ∀ e l, t.dtm.crn.fifo = e :: l → t.rb rCRN_ENT_HDR CRN_ENT_HDR.VALID = true ∧
        t.rf rCRN_ENT_HDR CRN_ENT_HDR.SEQ = e.seq % 2 ^ 16 ∧ t.rf rCRN_ENT_HDR CRN_ENT_HDR.SRC = e.src % 32 ∧
        t.rb rCRN_ENT_HDR CRN_ENT_HDR.LEVEL = e.level ∧ t.rb rCRN_ENT_HDR CRN_ENT_HDR.TV = e.tv ∧
        t.rf rCRN_ENT_HDR CRN_ENT_HDR.KIND = (if e.overrun.isSome then 1 else 0) ∧
        t.rf rCRN_ENT_HDR CRN_ENT_HDR.COUNT = ((e.overrun.map (·.2)).getD 0) % 2 ^ 32 ∧
        t.reg rCRN_ENT_SEC = secOf e.stamp ∧ t.reg rCRN_ENT_NS = nsOf e.stamp ∧
        t.reg rCRN_ENT_LSEC = ((e.overrun.map fun p => secOf p.1).getD 0) ∧
        t.reg rCRN_ENT_LNS = ((e.overrun.map fun p => nsOf p.1).getD 0)
    let put := fun (e : CrnEntry) (x : Crn) => { x with
      fifo := x.fifo ++ [{ e with seq := x.seq }], seq := (x.seq + 1) % 65536 }
    (awake s →
      (¬ wanted ∨ ¬ on → next (.cairnPinEdge pin e8 rising held) s) ∧
      (on → wanted → close → next (.cairnPinEdge pin e8 rising held) (s.bumpSat rCRN_FAST_CNT CRN_FAST_CNT.CNT)) ∧
      (on → wanted → ¬ close → ∃ x, next (.cairnPinEdge pin e8 rising held) (crn x s) ∧
        x = { c with lastEdge := x.lastEdge, pend := c.pend ++ if s.rbit rCRN_CTL k then [⟨t8, k, rising, s.timeValid⟩] else [] } ∧
        (k, at8) ∈ x.lastEdge ∧ ∀ p, p.1 ≠ k → (p ∈ x.lastEdge ↔ p ∈ c.lastEdge)) ∧
      (¬ on ∨ c.pend = [] → next .cairnCommit s) ∧
      (on → ∀ e ∈ c.pend, (∀ f ∈ c.pend, e.stamp < f.stamp ∨ (e.stamp = f.stamp ∧ e.src < f.src) ∨ f = e) →
        let rest := { c with pend := c.pend.erase e }
        (c.overrun = none → c.fifo.length < 64 → ∃ t, next .cairnCommit t ∧ shows t ∧
          t.dtm.crn = put ⟨e.stamp, e.src, e.level, e.tv, 0, none⟩ rest ∧
          ∃ u, u = rosterEvent 0x18 (crn t.dtm.crn s) ∧ t = { u with regs := t.regs } ∧ regsBut entRegs u t) ∧
        (∀ first tv last n, c.overrun = some (first, tv, last, n) → ∃ t, next .cairnCommit t ∧ shows t ∧
          t = { s with regs := t.regs, dtm := { s.dtm with crn :=
            { rest with overrun := some (first, tv, e.stamp, min (n + 1) (2 ^ 32 - 1)) } } } ∧
          regsBut (rCRN_LOST :: entRegs) s t ∧
          t.rf rCRN_LOST ⟨39, 0, .rw⟩ = (s.rf rCRN_LOST ⟨39, 0, .rw⟩ + 1) % 2 ^ 40) ∧
        (c.overrun = none → 64 ≤ c.fifo.length →
          let u := ((crn { rest with overrun := some (e.stamp, e.tv, e.stamp, 1) } s).bumpWrap rCRN_LOST).setRf
            rCRN_STAT CRN_STAT.OVERRUN 1
          next .cairnCommit (showCairn (raise srcCairnOverrun u))))) ∧
    (s.running = true →
      (¬ on → next .cairnPop (s.answer 0 0) ∧ next .cairnFlush (s.answer 0 0)) ∧
      (on →
        (∃ t, next .cairnFlush t ∧ shows t ∧ regsBut entRegs s t ∧
          t = { s with regs := t.regs, resp := ⟨0, 0⟩
                       dtm := { s.dtm with crn := { c with fifo := [], overrun := none, pend := [] } } }) ∧
        (c.overrun = none ∨ 64 ≤ c.fifo.tail.length → ∃ t, next .cairnPop t ∧ shows t ∧ regsBut entRegs s t ∧
          t = { s with regs := t.regs, resp := ⟨0, 0⟩, dtm := { s.dtm with crn := { c with fifo := c.fifo.tail } } }) ∧
        (∀ first tv last n, c.overrun = some (first, tv, last, n) → c.fifo.tail.length < 64 → ∃ t, next .cairnPop t ∧ shows t ∧
          t.dtm.crn = put ⟨first, 0, false, tv, 0, some (last, n)⟩ { c with fifo := c.fifo.tail, overrun := none } ∧
          ∃ u, u = rosterEvent 0x18 (crn t.dtm.crn s) ∧ t = { u with regs := t.regs, resp := ⟨0, 0⟩ } ∧ regsBut entRegs u t)))

/-- A configuration writes fraction, divider and control in turn; what stays within R388's limits at each write is
stored and its divider value taken; a change of EN, NINT or PDIV clears LOCK and ALIGNED. A write that leaves the
limits sets CFG_ERR and raises the source, the configuration kept. LOCK sets while EN is set; a loss clears LOCK and
ALIGNED, sets UNLOCK and raises the source. A write of STEP adds its signed value to PEND, and is ignored while ALIGN
is set; there is no fourth synthesizer; a sum that PEND cannot hold is a free value (the model's choice, log entry 3).
Rests on R388, R389, R390, R391. -/
def Obligations.SynthesizersCheckRelockAndStep : Prop :=
  ∀ (syn : BitVec 2) (cv div : W32) (frac : BitVec 24) (v : BitVec 16) (s : State),
    let n := syn.toNat
    let next := fun (i : Instr) (t : State) => exec i s = .next t
    let w : W64 := cv.setWidth 64
    let dv : W64 := div.setWidth 64
    let ok := fun (nint pdiv fr odiv : Nat) => 16 ≤ nint ∧ nint ≤ 255 ∧ 8 ≤ odiv ∧ odiv ≤ 1023 ∧
      2400000000 * (pdiv + 1) * 2 ^ 24 * 1000 ≤ 25000000 * (nint * 2 ^ 24 + fr) * 999 ∧
      25000000 * (nint * 2 ^ 24 + fr) * 1001 ≤ 3200000000 * (pdiv + 1) * 2 ^ 24 * 1000
    let nint := s.rf (rSYN_CTL n) SYN_CTL.NINT
    let pdiv := s.rf (rSYN_CTL n) SYN_CTL.PDIV
    let odiv := s.rf (rSYN_DIV n) SYN_DIV.ODIV
    let stat := rSYN_STAT n
    let pend := (BitVec.ofNat 16 (s.rf (rSYN_PHASE n) SYN_PHASE.PEND)).toInt + v.toInt
    let ctls := [SYN_CTL.NINT, SYN_CTL.PDIV, SYN_CTL.ALIGN, SYN_CTL.TRACK, SYN_CTL.EN]
    (3 ≤ n →
      (s.running = true → next (.synConfigWrite syn cv frac div) (s.answer 0 0) ∧ next (.synStepWrite syn v) (s.answer 0 0)) ∧
      (awake s → next (.synLock syn) s ∧ next (.synUnlock syn) s)) ∧
    (n < 3 → s.running = true →
      (ok nint pdiv frac.toNat odiv → ok nint pdiv frac.toNat (fget SYN_DIV.ODIV dv) →
        ok (fget SYN_CTL.NINT w) (fget SYN_CTL.PDIV w) frac.toNat (fget SYN_DIV.ODIV dv) →
        ∃ t, next (.synConfigWrite syn cv frac div) t ∧ t = { s with regs := t.regs, dtm := { s.dtm with syn := t.dtm.syn }, resp := ⟨0, 0⟩ } ∧
          regsBut [rSYN_CTL n, rSYN_FRAC n, rSYN_DIV n, stat] s t ∧
          (∀ f ∈ ctls, t.rf (rSYN_CTL n) f = fget f w) ∧
          t.rf (rSYN_FRAC n) SYN_FRAC.FRAC = frac.toNat ∧ t.rf (rSYN_DIV n) SYN_DIV.ODIV = fget SYN_DIV.ODIV dv ∧
          t.rf (rSYN_DIV n) SYN_DIV.ADIV = fget SYN_DIV.ADIV dv ∧ (∀ k, k ≠ n → tget t.dtm.syn Syn.init k = tget s.dtm.syn Syn.init k) ∧
          (tget t.dtm.syn Syn.init n).divider =
            (fget SYN_CTL.NINT w * 2 ^ 24 + frac.toNat) * (s.reg rDTM_ADDEND).toNat / 2 ^ 30 ∧
          (fget SYN_CTL.ALIGN w = 0 →
            (tget t.dtm.syn Syn.init n).near = 0 ∧ (tget t.dtm.syn Syn.init n).stopped = false) ∧
          ((∃ f ∈ [SYN_CTL.EN, SYN_CTL.NINT, SYN_CTL.PDIV], s.rf (rSYN_CTL n) f ≠ fget f w) →
            t.rb stat SYN_STAT.LOCK = false ∧ t.rb stat SYN_STAT.ALIGNED = false) ∧
          ((∀ f ∈ [SYN_CTL.EN, SYN_CTL.NINT, SYN_CTL.PDIV], s.rf (rSYN_CTL n) f = fget f w) → t.reg stat = s.reg stat)) ∧
      (∃ c d : W64, (∀ f ∈ ctls, fget f c = fget f w) ∧ (∀ f ∈ [SYN_DIV.ODIV, SYN_DIV.ADIV], fget f d = fget f dv) ∧
        next (.synConfigWrite syn cv frac div) ((synCtlWrite n c (synDivWrite n d (synFracWrite n frac.toNat s))).answer 0 0)) ∧
      (∀ (x : State) (y : W64),
        let refused := raise srcSynCfg (x.setRf stat SYN_STAT.CFG_ERR 1)
        let old := fun (r : Nat) (f : Fld) => x.rf r f
        (¬ ok (old (rSYN_CTL n) SYN_CTL.NINT) (old (rSYN_CTL n) SYN_CTL.PDIV) frac.toNat (old (rSYN_DIV n) SYN_DIV.ODIV) →
          synFracWrite n frac.toNat x = refused) ∧
        (¬ ok (old (rSYN_CTL n) SYN_CTL.NINT) (old (rSYN_CTL n) SYN_CTL.PDIV) (old (rSYN_FRAC n) SYN_FRAC.FRAC)
          (fget SYN_DIV.ODIV y) → synDivWrite n y x = refused) ∧
        (¬ ok (fget SYN_CTL.NINT y) (fget SYN_CTL.PDIV y) (old (rSYN_FRAC n) SYN_FRAC.FRAC)
          (old (rSYN_DIV n) SYN_DIV.ODIV) → synCtlWrite n y x = refused)) ∧
      (s.rb (rSYN_CTL n) SYN_CTL.ALIGN = true → next (.synStepWrite syn v) (s.answer 0 0)) ∧
      (s.rb (rSYN_CTL n) SYN_CTL.ALIGN = false →
        (- 2 ^ 15 ≤ pend → pend < 2 ^ 15 → next (.synStepWrite syn v)
          ((s.setRf (rSYN_PHASE n) SYN_PHASE.PEND (pend % 2 ^ 16).toNat).answer 0 0)) ∧
        (pend < - 2 ^ 15 ∨ 2 ^ 15 ≤ pend → ∃ x : BitVec 16, next (.synStepWrite syn v)
          ((({ s with free := s.free + 1 }).setRf (rSYN_PHASE n) SYN_PHASE.PEND x.toNat).answer 0 0)))) ∧
    (n < 3 → awake s →
      (s.rb (rSYN_CTL n) SYN_CTL.EN = true → next (.synLock syn) (s.setRf stat SYN_STAT.LOCK 1)) ∧
      (s.rb (rSYN_CTL n) SYN_CTL.EN = false → next (.synLock syn) s) ∧
      (s.rb stat SYN_STAT.LOCK = false → next (.synUnlock syn) s) ∧
      (s.rb stat SYN_STAT.LOCK = true → ∃ u, next (.synUnlock syn) (raise (46 + n) u) ∧ onlyRegs [stat] s u ∧
        u.rb stat SYN_STAT.LOCK = false ∧ u.rb stat SYN_STAT.ALIGNED = false ∧ u.rb stat SYN_STAT.UNLOCK = true))

/-- For a legal law instruction of the run on the datapath: add, sub, min, max, neg, mov and sel; mul, mac, msb and
their register forms with exact products truncated to acc; ext and ldk rounded by RM or the slot's RND; ldacc exact;
lds the pending or published state word; sts held pending; bq the biquad of R411; clarke, park and ipark rounded half-
up from exact sums; svm the three duties of R412; inj adds Echo's signal. sincos and atan2 write values within R405's
bound of the model's series (log entry 28). A result outside its format saturates and sets SAT. Other registers, acc,
state words and everything else keep; the index moves on by one. Rests on R401, R402, R403, R405, R411, R412, R417. -/
def Obligations.ControlLawInstructionResults : Prop :=
  ∀ (f : BitVec 26) (n : Nat) (s : State),
    let x := cleOf s n
    let h := x.f16
    let d := (f.extractLsb' 22 4).toNat
    let a := (f.extractLsb' 18 4).toNat
    let b := (f.extractLsb' 14 4).toNat
    let k := (f.extractLsb' 9 5).toNat
    let rm := (f.extractLsb' 7 2).toNat
    let v := fun i => lawNum h (tget x.v 0 i)
    let acc := x.acc.toInt
    let g := if h then 15 else 17
    let fr := if h then 15 else 31
    let up := fun (y : Int) (m : Nat) => (y + 2 ^ (m - 1)) / 2 ^ m
    let half := rm = 2 ∨ (rm = 0 ∧ cfgOf CLE_SLOT_CFG.RND x.cfg = 1)
    let kp := lawTerm h (v a) (lawCoef s n k)
    let vp := if h then v a * v b else v a * v b / 2 ^ 14
    let st := fun i => lawNum h (((x.states.reverse.find? fun p => p.1 == i).map (·.2)).getD (tget x.st 0 i))
    let go := fun op => lawGo op n f s
    let sets := fun (i : Instr) (r : Int) => lawDoes i n s [(d, r)] none [] false 0
    let sums := fun (i : Instr) (r : Int) => lawDoes i n s [] (some r) [] false 0
    let near := if h then 2 else 513
    (go 0x02 → sets (.cleAdd f) (v a + v b)) ∧
    (go 0x03 → sets (.cleSub f) (v a - v b)) ∧
    (go 0x04 → sets (.cleMin f) (if v a ≤ v b then v a else v b)) ∧
    (go 0x05 → sets (.cleMax f) (if v a ≤ v b then v b else v a)) ∧
    (go 0x06 → sets (.cleNeg f) (- v a)) ∧
    (go 0x07 → sets (.cleMov f) (v a)) ∧
    (go 0x08 → sets (.cleSel f) (if 0 ≤ v d then v a else v b)) ∧
    (go 0x10 → sums (.cleMul f) kp) ∧
    (go 0x11 → sums (.cleMac f) (acc + kp)) ∧
    (go 0x12 → sums (.cleMsb f) (acc - kp)) ∧
    (go 0x13 → sums (.cleMulv f) vp) ∧
    (go 0x14 → sums (.cleMacv f) (acc + vp)) ∧
    (go 0x15 → sums (.cleMsbv f) (acc - vp)) ∧
    (go 0x16 → sets (.cleExt f) (if half then up acc g else acc / 2 ^ g)) ∧
    (go 0x17 → sums (.cleLdacc f) (v a * 2 ^ g)) ∧
    (go 0x18 → sets (.cleLdk f)
      (let c := (lawCoef s n k).1 * 2 ^ ((lawCoef s n k).2 + 16).toNat
       if half then (c + 2 ^ 15) / 2 ^ 16 else c / 2 ^ 16)) ∧
    (go 0x22 → sets (.cleLds f) (st b)) ∧
    (go 0x23 → lawDoes (.cleSts f) n s [] none [(b, v a)] false 0) ∧
    (go 0x28 →
      let t := fun (y : Int) (j : Nat) => lawTerm h y (lawCoef s n (k + j))
      let fit := fun (y : Int) => clampS (if h then 40 else 64) y
      let s0 := t (v a) 0 + st b * 2 ^ g
      let y := up (fit s0) g
      let z := clampS (if h then 16 else 32) y
      let s1 := t (v a) 1 - t z 3
      let s2 := fit s1 + st (b + 1) * 2 ^ g
      let s3 := t (v a) 2 - t z 4
      lawDoes (.cleBq f) n s [(d, y)] none [(b, up (fit s2) g), (b + 1, up (fit s3) g)]
        (accOver h s0 || accOver h s1 || accOver h s2 || accOver h s3) 0) ∧
    (go 0x29 →
      let c := lawCoef s n k
      let w := fxCosSin (if h then v a * c.1 * 2 ^ 30 else v a * c.1 * 2 ^ (c.2 + 16).toNat / 2 ^ 18)
      ∃ p q : Int, lawDoes (.cleSincos f) n s [(d, p), (d + 1, q)] none [] false 1 ∧
        (p - up w.1 (60 - fr)).natAbs ≤ near ∧ (q - up w.2 (60 - fr)).natAbs ≤ near) ∧
    (go 0x2A →
      (v a = 0 → v b = 0 → sets (.cleAtan2 f) 0) ∧
      (v a ≠ 0 ∨ v b ≠ 0 → ∃ p : Int, lawDoes (.cleAtan2 f) n s [(d, p)] none [] false 1 ∧
        (p - up (fxAtan2 (v a) (v b)) (60 - fr)).natAbs ≤ near)) ∧
    (go 0x2B → lawDoes (.cleClarke f) n s [(d, v a), (d + 1, up ((v a + 2 * v b) * 1239850262) 31)] none [] false 0) ∧
    (go 0x2C → lawDoes (.clePark f) n s [(d, up (v a * v b + v (a + 1) * v (b + 1)) fr),
      (d + 1, up (v (a + 1) * v b - v a * v (b + 1)) fr)] none [] false 0) ∧
    (go 0x2D → lawDoes (.cleIpark f) n s [(d, up (v a * v b - v (a + 1) * v (b + 1)) fr),
      (d + 1, up (v a * v (b + 1) + v (a + 1) * v b) fr)] none [] false 0) ∧
    (go 0x2E →
      let does := fun (r : Int) (m : Nat) =>
        -- twice each voltage, in units of 2^-32 of a least significant bit
        let va := v a * 2 ^ 33
        let vb := - (v a * 2 ^ 32) + 1859775393 * r * 4
        let vc := - (v a * 2 ^ 32) - 1859775393 * r * 4
        let mid := (max va (max vb vc) + min va (min vb vc)) / 2
        let duty := fun (y : Int) => up (2 ^ (fr - 1) * 2 ^ 33 + y - mid) 33
        let low := fun (y : Int) => max 0 (duty y)
        lawDoes (.cleSvm f) n s [(d, low va), (d + 1, low vb), (d + 2, low vc)] none []
          (decide (duty va < 0 ∨ duty vb < 0 ∨ duty vc < 0)) m
      (a < 15 → does (v (a + 1)) 0) ∧ (a = 15 → ∃ r : W32, does (lawNum h r) 1)) ∧
    (go 0x30 →
      (x.inj = none → sets (.cleInj f) (v a)) ∧
      (∀ w, x.inj = some w → sets (.cleInj f) (v a + lawNum h w)))

/-- With no run on the datapath, or one that cannot issue, nothing happens. nop only moves on; the last of the 64 ends
the run after its effect; in reads the control store as released, a converter result or a slot's output; out and cap
hold their values pending. A run's end within its deadline publishes state words, outputs, control store words and
duties, the last write of each winning and a negative duty as 0, reports its slack and leaves the datapath; a late one
misses and publishes nothing. The run then gone, waiting window writes take effect and the next run takes the
datapath. An unlisted OP, a nonzero unused field or RM 3, an index past its end and a wrong port are illegal with
their causes: ILL, CAUSE and INDEX are set, the source is raised, the run leaves. CLE_SWAP bits set only. A window
write of a state word takes effect at once, or waits while the slot has a run; it draws code 6 while the domain is
unpowered and 7 while the block is held. Rests on R393, R398, R400, R403, R404, R406, R407, R408, R409, R410, R413,
R419. -/
def Obligations.ControlLawRunsPortsAndEnds : Prop :=
  ∀ (f : BitVec 26) (n : Nat) (w32 : W32) (mask : BitVec 16) (slot word : BitVec 4) (s : State),
    let x := cleOf s n
    let h := x.f16
    let d := (f.extractLsb' 22 4).toNat
    let a := (f.extractLsb' 18 4).toNat
    let b := (f.extractLsb' 14 4).toNat
    let k := (f.extractLsb' 9 5).toNat
    let rm := (f.extractLsb' 7 2).toNat
    let port := (f.extractLsb' 4 10).toNat
    let stat := rCLE_SLOT_STAT n
    let cs := fun (y : CleSlot) => { s with cle := { s.cle with slots := tset s.cle.slots CleSlot.init n y } }
    let here := awake s ∧ s.cle.cur = some n ∧ cleIssues s n = true
    let laws : List (Nat × Nat × Instr) := [(0x01, 0x3FFFFFF, .cleEnd f), (0x02, 0x3FFF, .cleAdd f), (0x03, 0x3FFF, .cleSub f),
      (0x04, 0x3FFF, .cleMin f), (0x05, 0x3FFF, .cleMax f), (0x06, 0x3FFFF, .cleNeg f), (0x07, 0x3FFFF, .cleMov f),
      (0x08, 0x3FFF, .cleSel f), (0x10, 0x3C3C1FF, .cleMul f), (0x11, 0x3C3C1FF, .cleMac f), (0x12, 0x3C3C1FF, .cleMsb f),
      (0x13, 0x3C03FFF, .cleMulv f), (0x14, 0x3C03FFF, .cleMacv f), (0x15, 0x3C03FFF, .cleMsbv f), (0x16, 0x3FFE7F, .cleExt f),
      (0x17, 0x3C3FFFF, .cleLdacc f), (0x18, 0x3FC07F, .cleLdk f), (0x20, 0x3FC00F, .cleIn f), (0x21, 0x3C3C00F, .cleOut f),
      (0x22, 0x3C3FFF, .cleLds f), (0x23, 0x3C03FFF, .cleSts f), (0x28, 0x1FF, .cleBq f), (0x29, 0x3C1FF, .cleSincos f),
      (0x2A, 0x3FFF, .cleAtan2 f), (0x2B, 0x3FFF, .cleClarke f), (0x2C, 0x3FFF, .clePark f), (0x2D, 0x3FFF, .cleIpark f),
      (0x2E, 0x3FFFF, .cleSvm f), (0x30, 0x3FFFF, .cleInj f), (0x31, 0x3C03FFF, .cleCap f)]
    let stops := fun (i : Instr) (c : Nat) => ∃ u, exec i s = .next (cleLeave n (raise srcCleIllegal u)) ∧ onlyRegs [stat] s u ∧
      u.rb stat CLE_SLOT_STAT.ILL = true ∧ u.rf stat CLE_SLOT_STAT.CAUSE = c ∧ u.rf stat CLE_SLOT_STAT.INDEX = x.pc % 64
    let badIndex := fun op => (op ∈ [0x10, 0x11, 0x12, 0x18, 0x28, 0x29] ∧ 24 ≤ k) ∨ (op = 0x28 ∧ (19 < k ∨ b = 15)) ∨
      (op ∈ [0x29, 0x2B, 0x2C, 0x2D] ∧ d = 15) ∨ (op ∈ [0x2C, 0x2D] ∧ (a = 15 ∨ b = 15)) ∨ (op = 0x2E ∧ 13 < d)
    let inPort := port < 0x100 ∨ (0x140 ≤ port ∧ port < 0x180) ∨ (0x200 ≤ port ∧ port < 0x208) ∨ (0x210 ≤ port ∧ port < 0x230)
    let outPort := port < 0x104 ∨ (0x300 ≤ port ∧ port < 0x324)
    let result := fun r => lawNum h (BitVec.ofNat 32 (s.rf r ADC_RRES.CODE * 2 ^ 19))
    let u := setUnit (16 + n) .idle s
    let p := clePublish n u
    let last := fun (l : List (Nat × W32)) i => (l.reverse.find? fun q => q.1 == i).map (·.2)
    (lawGo 0 n 0 s → lawDoes (.cleNop 0) n s [] none [] false 0) ∧
    (here → x.pc = 63 → exec (.cleNop 0) s = exec (.cleEnd 0) s) ∧
    (lawGo 0x20 n f s →
      (port < 0x100 → lawDoes (.cleIn f) n s [(d, lawNum h (tget x.cs 0 port))] none [] false 0) ∧
      (0x140 ≤ port → port < 0x180 →
        lawDoes (.cleIn f) n s [(d, lawNum h (tget (cleOf s ((port - 0x140) / 4)).outs 0 (port % 4)))] none [] false 0) ∧
      (0x200 ≤ port → port < 0x208 →
        lawDoes (.cleIn f) n s [(d, result (rADC_IRES ((port - 0x200) / 4) (port % 4)))] none [] false 0) ∧
      (0x210 ≤ port → port < 0x230 →
        lawDoes (.cleIn f) n s [(d, result (rADC_RRES ((port - 0x210) / 16) (port % 16)))] none [] false 0)) ∧
    (lawGo 0x21 n f s → exec (.cleOut f) s =
      .next (cs { x with ports := x.ports ++ [(port, tget x.v 0 a)], pc := x.pc + 1 })) ∧
    (lawGo 0x31 n f s → exec (.cleCap f) s = .next (cs { x with
      cap := if x.inj.isSome then some (tget x.v 0 a, tget x.v 0 b) else x.cap, pc := x.pc + 1 })) ∧
    (here → x.pc = 63 → ∀ l ∈ laws, l.1 ≠ 1 → lawCause l.1 f = 0 → ∃ t, exec l.2.2 (cs { x with pc := 62 }) = .next t ∧
      exec l.2.2 s = exec (.cleEnd 0) t) ∧
    (awake s → s.cle.cur = none ∨ (s.cle.cur = some n ∧ cleIssues s n = false) →
      exec (.cleNop w32) s = .next s ∧ ∀ l ∈ laws, exec l.2.2 s = .next s) ∧
    (here →
      ((slackOf u (16 + n) = none → exec (.cleEnd 0) s =
          .next (autoSleep (16 + n) (cleLeave n (echoRunOver n false (monitorMiss (16 + n) u))))) ∧
        (∀ v, slackOf u (16 + n) = some v → v < 2 ^ 17 →
          ∃ m, exec (.cleEnd 0) s = .next (autoSleep (16 + n) m) ∧
            m = { cleLeave n p with regs := m.regs, wtb := m.wtb, cyc := m.cyc } ∧
            m.cyc = { p.cyc with missed := tset p.cyc.missed false (16 + n) false } ∧
            regsBut [rDTM_DL_SLACK (16 + n), rDTM_DL_MIN (16 + n)] p m ∧
            m.rf (rDTM_DL_SLACK (16 + n)) DTM_DL_SLACK.LAST_SLACK = v ∧
            m.rf (rDTM_DL_MIN (16 + n)) DTM_DL_MIN.MIN_SLACK =
              (if slackInt v < slackInt (p.rf (rDTM_DL_MIN (16 + n)) DTM_DL_MIN.MIN_SLACK) then v
               else p.rf (rDTM_DL_MIN (16 + n)) DTM_DL_MIN.MIN_SLACK))) ∧
      (∀ l ∈ laws, let c := lawCause l.1 f
        (f.toNat &&& l.2.1 ≠ 0 ∨ (l.1 ∈ [0x16, 0x18] ∧ rm = 3) → c = 2 ∧ stops l.2.2 2) ∧
        (f.toNat &&& l.2.1 = 0 → ¬ (l.1 ∈ [0x16, 0x18] ∧ rm = 3) →
          (badIndex l.1 → c = 3 ∧ stops l.2.2 3) ∧
          (¬ badIndex l.1 →
            ((l.1 = 0x20 ∧ ¬ inPort) ∨ (l.1 = 0x21 ∧ ¬ outPort) → c = 4 ∧ stops l.2.2 4) ∧
            (¬ ((l.1 = 0x20 ∧ ¬ inPort) ∨ (l.1 = 0x21 ∧ ¬ outPort)) → c = 0)))) ∧
      ((w32.extractLsb' 26 6).toNat ∉ 0 :: laws.map (·.1) → stops (.cleNop w32) 1)) ∧
    (x.echoCap = false → x.inj = none → (∀ q ∈ x.ports, q.1 < 0x104 ∨ (0x300 ≤ q.1 ∧ q.1 < 0x324)) →
      (∀ i, tget (cleOf p n).st 0 i = ((last x.states i).getD (tget x.st 0 i))) ∧
      (∀ i < 4, tget (cleOf p n).outs 0 i = ((last x.ports (0x100 + i)).getD (tget x.outs 0 i))) ∧
      (∀ i v, last x.ports i = some v → i < 256 → p.rf (rCFL_CS i) CFL_CS.VALUE = v.toNat) ∧
      (∀ i, last x.ports i = none → i < 256 → p.reg (rCFL_CS i) = s.reg (rCFL_CS i)) ∧
      (∀ i v, last x.ports (0x300 + i) = some v → i < 36 → p.rf (rPWM_DP i) PWM_DP.DUTY = (if v.msb then 0 else v.toNat) ∧
        p.reg (rCLE_DUTY i) = (if v.msb then 0 else v.setWidth 64)) ∧
      (∀ i, last x.ports (0x300 + i) = none → i < 36 → p.reg (rPWM_DP i) = s.reg (rPWM_DP i) ∧ p.reg (rCLE_DUTY i) = s.reg (rCLE_DUTY i))) ∧
    (let t := cleLeave n s
     t = { s with cle := t.cle } ∧ (cleOf t n).live = false ∧ (cleOf t n).fw = [] ∧ t.cle.mem = s.cle.mem ∧ t.cle.cur ≠ some n ∧
     (∀ i, tget (cleOf t n).st 0 i = ((last x.fw i).getD (tget x.st 0 i))) ∧ (∀ m, m ≠ n → cleOf t m = cleOf s m) ∧
     (s.cle.cur = some n → s.cle.susp = none → ∀ m r, s.cle.queue = m :: r → m ≠ n → t.cle.cur = some m) ∧
     (∀ m, s.cle.cur = some n → s.cle.susp = some m → m ≠ n → s.cle.queue = [] → t.cle.cur = some m ∧ t.cle.susp = none)) ∧
    (fwReaches s rCLE_SWAP → ∀ p ∈ [(Instr.cleSwapReq mask, 0), (.cleSwapCmt mask, 16)], ∃ t, exec p.1 s = .next t ∧
      onlyRegsAck [rCLE_SWAP] s t ∧ ∀ i, t.rbit rCLE_SWAP i = (s.rbit rCLE_SWAP i || (decide (p.2 ≤ i) && mask.getLsbD (i - p.2)))) ∧
    (let a := 0x300380 + 0x800 * slot.toNat + 4 * word.toNat
     s.running = true → mayAccess s 0 a →
     (s.domOn 124 = false → exec (.cleStateWrite slot word w32) s =
       .next ((errorResponse 0 a true 6 (entryUsed 0 s)).answer 0 6)) ∧
     (s.domOn 124 = true → s.held 20 = true → exec (.cleStateWrite slot word w32) s =
       .next ((errorResponse 0 a true 7 (entryUsed 0 s)).answer 0 7)) ∧
     (s.domOn 124 = true → s.held 20 = false →
      let y := cleOf s slot.toNat
      let z := if y.live then { y with fw := y.fw ++ [(word.toNat, w32)] } else { y with st := tset y.st 0 word.toNat w32 }
      ∃ t, exec (.cleStateWrite slot word w32) s = .next t ∧ outOf t 0 = outOf s 0 ∧ regsBut [rBMX_OUT 0] s t ∧
        t = { s with regs := t.regs, resp := ⟨0, 0⟩
                     cle := { s.cle with slots := tset s.cle.slots CleSlot.init slot.toNat z } }))

/-- A pair write replaces the pair and counts as late within LATE_WIN of a reload of a running group without HOLD. A
reload falls at the end of a period, with SYNC also at the cycle's restart, which cuts a period short and sets
RESYNC_CUT; where it is not due nothing happens. It takes the period and each high time, cut to zero or full by MINPW
and bounded by the Gate, raises START, and keeps the pairs under HOLD; CENTRE triggers converters once in a period,
TRG_OFS after its middle. Clearing EN or a trip leaves every output low. A Lantern frame's data may leave after the
light pass and BLANK_MIN; its words carry sequence, port and length, TIME_VALID, colours from the light latch or
Cavern through the Gate, and their CRC-32, inverted after an underrun, which is counted and raised, or a read error,
which is counted. When its last bit has left, blanking begins and a pending pair is taken, or refused; a port whose EN
is clear stops. A commit waits, late in blanking. EN takes a pending pair, and refuses a lane rate above 400 MHz.
Rests on R423, R425, R426, R428, R429, R431, R432, R433, R434, R435, R437, R478. -/
def Obligations.PwmGroupsAndLanternPorts : Prop :=
  ∀ (group : BitVec 4) (output : BitVec 6) (duty period : W32) (port : BitVec 2) (first lack : BitVec 14)
    (base : BitVec 20) (npix : BitVec 11) (s : State),
    let g := group.toNat
    let o := output.toNat
    let go := pwmGroup o
    let ctlR := rPWM_CTL g
    let stat := rPWM_STAT g
    let en := s.rb ctlR PWM_CTL.EN
    let sync := s.rb ctlR PWM_CTL.SYNC = true
    let lead := if g < 4 then 6 * g else 20 + g
    let w := tget s.pwm PwmGrp.init g
    let now := s.dtm.ticks
    let runs := en = true ∧ s.domOn (pwmDomain g) = true ∧ s.held 21 = false
    let ticks := max 16 (s.rf (rPWM_CUR lead) PWM_CUR.PERIOD)
    -- the tick of this cycle's restart
    let rs := s.cyc.start + s.rf (rPWM_PHASE g) PWM_PHASE.PHASE % (if s.cyc.fam < 2 then 31250 else 34013)
    let cut := ∃ t0, w.reload = some t0 ∧ sync ∧ t0 < rs ∧ rs ≤ now ∧ rs < t0 + ticks
    let due := (w.reload = none ∧ (sync → w.since ≤ rs ∧ rs ≤ now)) ∨
      ∃ t0, w.reload = some t0 ∧ ((sync ∧ t0 < rs ∧ rs ≤ now) ∨ t0 + ticks ≤ now)
    let next := fun (i : Instr) (t : State) => exec i s = .next t
    let n := port.toNat
    let x := ltnOf s n
    let lstat := rLTN_STAT n
    let lctl := rLTN_CTL n
    let len := s.rb lctl LTN_CTL.EN
    let lan := fun (y : Ltn) (t : State) => { t with ltn := tset t.ltn Ltn.init n y }
    -- the pair that waits is taken
    let take := fun (t : State) =>
      match x.pend with
      | none => t
      | some p =>
        if p.1 + 2 * (p.2 + 1) ≤ 1044480 ∧ p.2 < 2048 then
          lan { ltnOf t n with pair := p, pend := none } (t.setRf lstat LTN_STAT.PEND 0)
        else raise srcLtnFb ((lan { ltnOf t n with pend := none } (t.setRf lstat LTN_STAT.PEND 0)).setRf lstat LTN_STAT.CFG_ERR 1)
    (fwReaches s ctlR →
      next (.pwmHoldClear group) ((s.setRf ctlR PWM_CTL.HOLD 0).answer 0 0) ∧
      (en = true → next (.pwmEnable group) ((s.setRf ctlR PWM_CTL.EN 1).answer 0 0)) ∧
      (en = false → next (.pwmDisable group) ((s.setRf ctlR PWM_CTL.EN 0).answer 0 0)) ∧
      (en = false → next (.pwmEnable group) ({ s.setRf ctlR PWM_CTL.EN 1 with
        pwm := tset s.pwm PwmGrp.init g ⟨none, s.dtm.ticks, false⟩ }.answer 0 0)) ∧
      (en = true → ∃ t, next (.pwmDisable group) t ∧ groupDark t g ∧
        t = { s with regs := t.regs, pwm := tset s.pwm PwmGrp.init g PwmGrp.init, resp := ⟨0, 0⟩ } ∧
        regsBut ([ctlR, stat, rGTE_LED_PWR] ++ (pwmOutputs g).map rPWM_CUR) s t ∧ t.rb ctlR PWM_CTL.EN = false ∧
        t.rb stat PWM_STAT.RUN = false ∧ ∀ k ∈ pwmOutputs g, t.reg (rPWM_CUR k) = 0)) ∧
    (36 ≤ o → next (.pwmDpWrite output duty period) s) ∧
    (o < 36 → fwReaches s (rPWM_DP o) →
      let late := s.rb (rPWM_STAT go) PWM_STAT.RUN = true ∧ s.rb (rPWM_CTL go) PWM_CTL.HOLD = false ∧
        ∃ t0, (tget s.pwm PwmGrp.init go).reload = some t0 ∧ s.dtm.ticks - t0 ≤ s.rf (rPWM_TRG go) PWM_TRG.LATE_WIN
      ∃ t, next (.pwmDpWrite output duty period) t ∧ t.rf (rPWM_DP o) PWM_DP.DUTY = duty.toNat ∧
        t.rf (rPWM_DP o) PWM_DP.PERIOD = period.toNat % 65536 ∧
        (¬ late → onlyRegsAck [rPWM_DP o] s t) ∧
        (late → onlyRegsAck [rPWM_DP o, rPWM_STAT go] s t ∧ t.rb (rPWM_STAT go) PWM_STAT.DUTY_LATE = true ∧
          t.rf (rPWM_STAT go) PWM_STAT.LATE_CNT = min 65535 (s.rf (rPWM_STAT go) PWM_STAT.LATE_CNT + 1))) ∧
    (g < 16 → tripped s g = true ∨ s.rb stat PWM_STAT.RUN = false → groupDark s g) ∧
    (awake s →
      (let centre := runs ∧ s.rb stat PWM_STAT.RUN = true ∧ w.centred = false ∧
         ∃ t0, w.reload = some t0 ∧ t0 + ticks / 2 + min (s.rf (rPWM_TRG g) PWM_TRG.TRG_OFS) (ticks / 2 - 1) ≤ now
       (centre → next (.pwmCentre group)
         (adcEvent (0x20 + g) { s with pwm := tset s.pwm PwmGrp.init g { w with centred := true } })) ∧
       (¬ centre → next (.pwmCentre group) s)) ∧
      (¬ runs ∨ ¬ due → next (.pwmReload group) s) ∧
      (runs → due →
        let r := releaseAtReload g s
        let hold := s.rb ctlR PWM_CTL.HOLD
        let p := max 16 (s.rf (rPWM_DP lead) PWM_DP.PERIOD)
        let minpw := s.rf ctlR PWM_CTL.MINPW
        let high := fun k =>
          let d := (BitVec.ofNat 32 (s.rf (rPWM_DP k) PWM_DP.DUTY)).toInt
          let h0 := (max 0 d).toNat * p * 32 / 2 ^ 31
          let h := if h0 < minpw then 0 else h0
          if p * 32 - minpw < h then p * 32 else h
        ∃ t, next (.pwmReload group) (adcEvent (0x10 + g) t) ∧
          t = { s with regs := t.regs, gte := r.gte, pwm := tset s.pwm PwmGrp.init g ⟨some now, w.since, false⟩ } ∧
          t.rbit rGTE_TRIP g = r.rbit rGTE_TRIP g ∧ t.rb stat PWM_STAT.RUN = true ∧
          (t.rb stat PWM_STAT.RESYNC_CUT = true ↔ s.rb stat PWM_STAT.RESYNC_CUT = true ∨ cut) ∧
          (hold = true → regsBut [stat, rGTE_TRIP] s t) ∧
          (hold = false →
            regsBut ([stat, rGTE_TRIP, rGTE_LED_PWR] ++ (if g < 4 then [] else [rGTE_LIM]) ++ (pwmOutputs g).map rPWM_CUR) s t ∧
            (g < 4 → minpw ≤ p * 32 → ∀ k ∈ [6 * g, 6 * g + 2, 6 * g + 4], t.rf (rPWM_CUR k) PWM_CUR.PERIOD = p ∧
              t.rf (rPWM_CUR k) PWM_CUR.HT = high k ∧ t.rb (rPWM_CUR k) PWM_CUR.GCLAMP = false ∧
              t.reg (rPWM_CUR (k + 1)) = s.reg (rPWM_CUR (k + 1))) ∧
            (4 ≤ g → minpw ≤ p * 32 → let k := 20 + g
              let b := gateBound (g - 4) (high k) p r
              t.rf (rPWM_CUR k) PWM_CUR.PERIOD = p ∧ t.rf (rPWM_CUR k) PWM_CUR.HT = b.1 ∧ b.1 ≤ high k ∧
              t.rb (rPWM_CUR k) PWM_CUR.GCLAMP = decide (b.1 < high k) ∧ t.rbit rGTE_LIM (g - 4) = b.2))) ∧
      (let mayStart := x.started = true ∧ x.sending = false ∧ s.domOn (129 + n / 2) = true ∧ unitOf s 35 = .idle ∧
         ∀ t0, x.blankAt = some t0 → t0 + max 64 (s.rf (rLTN_BLANK n) LTN_BLANK.BLANK_MIN) ≤ now
       (¬ mayStart → next (.lanternDataStart port first lack) s) ∧
       (mayStart →
        let cnt := 4 * (x.framePair.2 + 1)
        let inMap := fun i => ∃ f c b, x.map = some (f, c, b) ∧ f ≤ i ∧ i < f + c
        let at4 := fun i => x.framePair.1 + 2 * (i / 4) + i % 4 / 2
        let free := identFree s (56 + n) = true
        (∃ t, next (.lanternDataStart port first lack) t ∧ (ltnOf t n).started = false ∧ (ltnOf t n).sending = true ∧
          (ltnOf t n).sentAt = now ∧ t.rb lstat LTN_STAT.BLANK = false ∧
          (free → (∃ i < cnt, ¬ inMap i ∧ at4 i < 1048576 ∧ s.domOn (cavDomain (at4 i)) = false) →
            t.rb lstat LTN_STAT.STOMP = true ∧
            t.rf (rLTN_ERR_CNT n) LTN_ERR_CNT.RDERR = min 65535 (s.rf (rLTN_ERR_CNT n) LTN_ERR_CNT.RDERR + 1))) ∧
        (free →
        (∀ i < cnt, ¬ inMap i → at4 i < 1048576 ∧ s.domOn (cavDomain (at4 i)) = true ∧ tget s.cav.flips 0 (at4 i) = 0) →
        let stored := fun i => (tget s.cav.words (Config.clearedWord 40) (at4 i)).extractLsb' (16 * (i % 2)) 16
        let colour := fun i =>
          (match x.map with
            | some (f, c, _) => if f ≤ i ∧ i < f + c then tget x.latch 0 (i - f) else stored i
            | none => stored i : BitVec 16)
        let late := fun i => first.toNat ≤ i ∧ i < first.toNat + lack.toNat
        let body := [BitVec.ofNat 16 x.seq, BitVec.ofNat 16 (n * 4096 + x.framePair.2), if x.tv then 0x8000#16 else 0#16] ++
          (List.range cnt).map fun i => if late i then 0#16 else gateColour n (colour i) s
        let crc := crc32 (body.flatMap fun (w : BitVec 16) => [(w >>> 8).setWidth 8, w.setWidth 8])
        let frame := fun (c : W32) => [0xD13A#16] ++ body ++ [(c >>> 16).setWidth 16, c.setWidth 16]
        let under := ∃ i < cnt, late i
        (¬ under → ∃ t, next (.lanternDataStart port first lack) t ∧ regsBut [rBMX_OUT 5, lstat] s t ∧
          outOf t 5 = outOf s 5 ∧ t.rb lstat LTN_STAT.BLANK = false ∧ t.rb lstat LTN_STAT.STOMP = s.rb lstat LTN_STAT.STOMP ∧
          t = { lan { x with started := false, sending := true, sent := frame crc, sentAt := now } s with regs := t.regs }) ∧
        (under → ∃ u,
          let r := raise (49 + n) u
          next (.lanternDataStart port first lack)
            ((lan { ltnOf r n with started := false, sending := true, sent := frame (~~~ crc), sentAt := now } r).setRf
              lstat LTN_STAT.BLANK 0) ∧
          onlyRegs [rBMX_OUT 5, lstat, rLTN_ERR_CNT n] s u ∧ u.rb lstat LTN_STAT.STOMP = true ∧
          u.rf (rLTN_ERR_CNT n) LTN_ERR_CNT.UNDER = min 65535 (s.rf (rLTN_ERR_CNT n) LTN_ERR_CNT.UNDER + 1))))) ∧
      (let left := x.sending = true ∧ (Frac.ofNat (8 * x.sent.length * 250000000)).le
         (((synHz s (s.rf lctl LTN_CTL.SRC)).mul (Frac.quot 1 (s.rf lctl LTN_CTL.DIV + 1))).mul (Frac.ofNat (now - x.sentAt))) = true
       (¬ left → next (.lanternBlankStart port) s) ∧
       (left →
        let v := take (lan { x with sending := false, blankAt := some now } s)
        next (.lanternBlankStart port) (if len = true then v.setRf lstat LTN_STAT.BLANK 1
          else lan { ltnOf v n with on := false, started := false } v)))) ∧
    (fwReaches s lctl →
      (∃ t, next (.ltnFbCommit port base npix) t ∧ t.rf (rLTN_FB n) LTN_FB.BASE = base.toNat ∧
        t.rf (rLTN_FB n) LTN_FB.NPIXM1 = npix.toNat ∧ t.rb lstat LTN_STAT.PEND = true ∧
        t.rb lstat LTN_STAT.COMMIT_LATE = (s.rb lstat LTN_STAT.COMMIT_LATE || s.rb lstat LTN_STAT.BLANK) ∧
        regsBut [rLTN_FB n, lstat] s t ∧
        t = { lan { x with pend := some (base.toNat, npix.toNat) } s with regs := t.regs, resp := ⟨0, 0⟩ }) ∧
      (len = true → next (.ltnEnable port) ((s.setRf lctl LTN_CTL.EN 1).answer 0 0)) ∧
      (len = false →
        let src := s.rf lctl LTN_CTL.SRC
        let u := s.setRf lctl LTN_CTL.EN 1
        let bad := src = 3 ∨
          ((synHz s src).mul (Frac.quot 1 (s.rf lctl LTN_CTL.DIV + 1))).le (Frac.ofNat 400000000) = false
        (bad → next (.ltnEnable port) ((raise srcLtnCfg (u.setRf lstat LTN_STAT.CFG_ERR 1)).answer 0 0)) ∧
        (¬ bad → let v := take u
          let w1 := lan { ltnOf v n with on := true } v
          next (.ltnEnable port) ((if x.sending = true then w1 else w1.setRf lstat LTN_STAT.BLANK 1).answer 0 0))) ∧
      (let u := s.setRf lctl LTN_CTL.EN 0
       (len = false ∨ x.sending = true → next (.ltnDisable port) (u.answer 0 0)) ∧
       (len = true → x.sending = false → next (.ltnDisable port)
         (((lan { x with on := false, started := false } u).setRf lstat LTN_STAT.BLANK 0).answer 0 0))))

/-- A converter not enabled, not ready or not powered ignores triggers. Otherwise a regular trigger starts its
sequence, is latched or is dropped and counted, and an injected one starts, suspends a regular sequence or is dropped.
Sampling begins at the first converter edge at least 20 ns after the trigger. A conversion's end, not before its
sample time and approximation have passed, publishes the code of the input's voltage and the sequence count in its
slot's result, 0 with CH_ERR and one report for a reserved channel, checks a sensor against HOT, and goes on with the
next slot, the suspended sequence, the latched trigger or idle. EN readies a converter; clearing it abandons any
sequence. A comparator whose input is beyond its threshold trips: it counts, trips its group and raises its source; it
leaves that state where the input has returned by its hysteresis; LOCK_N trips within 1 s lock the group out. A
GTE_REL bit requests a releasable group's release, else sets REL_REF, and a reload carries it out. Rests on R440,
R443, R445, R446, R447, R449, R451, R453, R455, R478, R479, R480. -/
def Obligations.ConvertersComparatorsAndGateReleases : Prop :=
  ∀ (adc : BitVec 1) (uv : W32) (cmp : BitVec 4) (mask : BitVec 16) (s : State),
    let i := adc.toNat
    let a := adcOf s i
    let next := fun (c : Instr) (t : State) => exec c s = .next t
    let ctlR := rADC_CTL i
    let stat := rADC_STAT i
    let put := fun (y : Adc) (t : State) => { t with adc := tset t.adc Adc.init i y }
    let live := s.rb ctlR ADC_CTL.EN = true ∧ s.rb stat ADC_STAT.READY = true ∧ s.domOn (125 + i) = true ∧ s.held 23 = false
    let ib := s.rb stat ADC_STAT.IBUSY
    let rb := s.rb stat ADC_STAT.RBUSY
    let rslots := (List.range (s.rf ctlR ADC_CTL.RLENM1 + 1)).map fun j => (s.rf (rADC_RSQ i j) ADC_RSQ.CH, s.rf (rADC_RSQ i j) ADC_RSQ.ST)
    let islots := (List.range (s.rf ctlR ADC_CTL.ILENM1 + 1)).map fun j => (s.rf (rADC_ISQ i j) ADC_ISQ.CH, s.rf (rADC_ISQ i j) ADC_ISQ.ST)
    let now := s.dtm.ticks
    -- the first edge of the converter clock, 5 ticks, at least 20 ns from now
    let edge := (now + 9) / 5 * 5
    let regular := fun (sam : Bool) (t : Nat) (y : Adc) => ({ y with
      rslots := rslots, rnext := 0, rtag := (y.rtag + 1) % 256, rerr := false, conv := some ⟨false, 0, sam, t⟩ } : Adc)
    let injected := { a with
      islots := islots, itag := (a.itag + 1) % 256, ierr := false, conv := some ⟨true, 0, false, edge⟩ }
    let k := cmp.toNat
    let g := recBits s (8 + k) 20 4
    -- the threshold and the hysteresis of comparator k, and its input, in units of 1 µV / 1024
    let thr := s.rf (rADC_CMP k) ADC_CMP.THR * 1600000
    let hyst := ([0, 10000, 20000, 40000].getD (s.rf (rADC_CMP k) ADC_CMP.HYS) 0) * 1024
    let v := uv.toNat * 1024
    let below := s.rb (rADC_CMP k) ADC_CMP.POL = true
    let beyond := (below ∧ v < thr) ∨ (¬ below ∧ thr < v)
    let back := (below ∧ thr + hyst ≤ v) ∨ (¬ below ∧ v + hyst ≤ thr)
    (fwReaches s ctlR →
      (¬ live → next (.adcRswt adc) (s.answer 0 0) ∧ next (.adcIswt adc) (s.answer 0 0)) ∧
      (live →
        (s.rb stat ADC_STAT.RPEND = true → next (.adcRswt adc) ((s.bumpSat (rADC_DROP i) ADC_DROP.RDROP).answer 0 0)) ∧
        (s.rb stat ADC_STAT.RPEND = false → rb = true ∨ ib = true →
          next (.adcRswt adc) ((s.setRf stat ADC_STAT.RPEND 1).answer 0 0)) ∧
        (s.rb stat ADC_STAT.RPEND = false → rb = false → ib = false →
          next (.adcRswt adc) (((put (regular false edge a) s).setRf stat ADC_STAT.RBUSY 1).answer 0 0)) ∧
        (ib = true → next (.adcIswt adc) ((s.bumpSat (rADC_DROP i) ADC_DROP.IDROP).answer 0 0)) ∧
        (ib = false → rb = false → next (.adcIswt adc) (((put injected s).setRf stat ADC_STAT.IBUSY 1).answer 0 0)) ∧
        (ib = false → rb = true → next (.adcIswt adc) (((put injected ((s.setRf stat ADC_STAT.RSUSP 1).bumpSat
          (rADC_ABORT i) ADC_ABORT.CNT)).setRf stat ADC_STAT.IBUSY 1).answer 0 0))) ∧
      (s.rb ctlR ADC_CTL.EN = false → next (.adcEnable adc) ((put Adc.init (s.setRf ctlR ADC_CTL.EN 1)).answer 0 0) ∧
        next (.adcDisable adc) ((s.setRf ctlR ADC_CTL.EN 0).answer 0 0)) ∧
      (s.rb ctlR ADC_CTL.EN = true → next (.adcEnable adc) ((s.setRf ctlR ADC_CTL.EN 1).answer 0 0) ∧
        ∃ t, next (.adcDisable adc) t ∧ t = { put { a with conv := none } s with regs := t.regs, resp := ⟨0, 0⟩ } ∧
          regsBut [ctlR, stat] s t ∧ t.rb ctlR ADC_CTL.EN = false ∧
          (∀ f ∈ [ADC_STAT.READY, ADC_STAT.RPEND, ADC_STAT.RSUSP, ADC_STAT.IBUSY, ADC_STAT.RBUSY], t.rb stat f = false) ∧
          t.rb stat ADC_STAT.CH_ERR = s.rb stat ADC_STAT.CH_ERR)) ∧
    (awake s →
      (s.rb ctlR ADC_CTL.EN = true → s.held 23 = false → next (.adcReady adc) (s.setRf stat ADC_STAT.READY 1)) ∧
      (s.rb ctlR ADC_CTL.EN = false ∨ s.held 23 = true → next (.adcReady adc) s) ∧
      (a.conv = none ∨ ¬ live → next (.adcSamplingStart adc) s ∧ next (.adcConversionEnd adc uv) s) ∧
      (∀ c, a.conv = some c → c.slot < 16 → live →
        let slots := if c.inj then a.islots else a.rslots
        -- the edge that ends the approximation: the sample time, at least 4 cycles, and 15 cycles
        let e := c.start + 5 * max 4 (slots.getD c.slot (0, 0)).2 + 75
        (c.start ≤ now → next (.adcSamplingStart adc) (put { a with conv := some { c with sampling := true } } s)) ∧
        (now < c.start → next (.adcSamplingStart adc) s) ∧
        (c.sampling = false ∨ now < e → next (.adcConversionEnd adc uv) s) ∧
        (c.sampling = true → e ≤ now →
          let ch := (slots.getD c.slot (0, 0)).1
          let res := if c.inj then rADC_IRES i c.slot else rADC_RRES i c.slot
          let fin := fun (t : State) => if c.slot + 1 < slots.length
            then put { adcOf t i with conv := some { c with slot := c.slot + 1, sampling := true, start := e } } t
            else adcNext i e (t.setRf stat (if c.inj then ADC_STAT.IBUSY else ADC_STAT.RBUSY) 0)
          let y := fun (bad : Bool) => if c.inj then { a with ierr := a.ierr || bad }
            else { a with rerr := a.rerr || bad, rnext := c.slot + 1 }
          let code := min 4095 (uv.toNat * 4096 / (if 22 ≤ ch ∧ ch ≤ 24 then 3200000 else 1600000))
          let d : Int := (code : Int) - s.rf (rADC_TCAL (ch - 16)) ADC_TCAL.CODE
          let hot : Int := s.rf rADC_THERM ADC_THERM.HOT
          let hys : Int := s.rf rADC_THERM ADC_THERM.HYS
          ∃ u, u = { put (y (decide (25 ≤ ch))) s with regs := u.regs } ∧ regsBut [res, stat] s u ∧
            u.rf res ADC_RRES.TAG = (if c.inj then a.itag else a.rtag) % 256 ∧
            u.rf res ADC_RRES.CODE = (if ch < 25 then code else 0) ∧
            (ch < 25 → u.reg stat = s.reg stat) ∧ (25 ≤ ch → u.rb stat ADC_STAT.CH_ERR = true) ∧
            (ch < 16 ∨ (21 < ch ∧ ch < 25) ∨ (25 ≤ ch ∧ (if c.inj then a.ierr else a.rerr) = true) →
              next (.adcConversionEnd adc uv) (fin u)) ∧
            (25 ≤ ch → (if c.inj then a.ierr else a.rerr) = false →
              next (.adcConversionEnd adc uv) (fin (raise srcAdcChannel u))) ∧
            (16 ≤ ch → ch ≤ 21 → let q := ch - 16
              (s.rbit rADC_TSTAT q = false → d < hot → next (.adcConversionEnd adc uv) (fin u)) ∧
              (s.rbit rADC_TSTAT q = false → hot ≤ d → next (.adcConversionEnd adc uv)
                (fin (raise (114 + q) ((u.setBit rADC_TSTAT q true).setBit rADC_TSTAT (8 + q) true)))) ∧
              (s.rbit rADC_TSTAT q = true → hot - hys ≤ d → next (.adcConversionEnd adc uv) (fin u)) ∧
              (s.rbit rADC_TSTAT q = true → d < hot - hys →
                next (.adcConversionEnd adc uv) (fin (u.setBit rADC_TSTAT q false)))))) ∧
      (12 ≤ k → next (.comparatorTrip cmp uv) s ∧ next (.comparatorRelease cmp uv) s) ∧
      (k < 12 → s.rb (rADC_CMP k) ADC_CMP.EN = false ∨ s.rbit rADC_CMP_STAT k = true ∨ ¬ beyond →
        next (.comparatorTrip cmp uv) s) ∧
      (k < 12 → s.rb (rADC_CMP k) ADC_CMP.EN = true → s.rbit rADC_CMP_STAT k = false → beyond → ∃ u,
        next (.comparatorTrip cmp uv) (raise (88 + k) (tripGroup g false u)) ∧
        onlyRegs [rADC_CMP_STAT, rADC_CMP_CNT k, rGTE_TRIPL] s u ∧ u.rbit rADC_CMP_STAT k = true ∧
        u.rbit rGTE_TRIPL (16 + k) = true ∧
        u.rf (rADC_CMP_CNT k) ADC_CMP_CNT.CNT = min 65535 (s.rf (rADC_CMP_CNT k) ADC_CMP_CNT.CNT + 1)) ∧
      (k < 12 → back → next (.comparatorRelease cmp uv) (s.setBit rADC_CMP_STAT k false)) ∧
      (k < 12 → ¬ back → next (.comparatorRelease cmp uv) s)) ∧
    (s.rb stat ADC_STAT.RSUSP = true → ∀ e, adcNext i e s =
      put { a with conv := some ⟨false, a.rnext, true, e⟩ } (s.setRf stat ADC_STAT.RSUSP 0)) ∧
    (s.rb stat ADC_STAT.RSUSP = false → s.rb stat ADC_STAT.RPEND = true → ∀ e, ∃ t, adcNext i e s = t ∧
      t = { put (regular true e a) s with regs := t.regs } ∧ regsBut [stat] s t ∧ t.rb stat ADC_STAT.RPEND = false ∧
      t.rb stat ADC_STAT.RBUSY = true) ∧
    (s.rb stat ADC_STAT.RSUSP = false → s.rb stat ADC_STAT.RPEND = false → ∀ e, adcNext i e s = put { a with conv := none } s) ∧
    (let now := (s.reg rPWR_UPTIME).toNat
     let ts := ((gateGrp s g).trips.filter fun t => decide (now < t + 1000000)) ++ [now]
     let lockN := recBits s 108 16 8
     ∃ u, u = { s with regs := u.regs, gte := { s.gte with grp := tset s.gte.grp GateGrp.init g ⟨ts, false, (gateGrp s g).manual⟩ } } ∧
       regsBut [rGTE_TRIP, rGTE_TRIPL] s u ∧ tripped u g = true ∧ u.rbit rGTE_TRIPL g = true ∧
       (lockN = 0 ∨ ts.length < lockN ∨ lockedOut s g = true → tripGroup g false s = u ∧ lockedOut u g = lockedOut s g) ∧
       (lockN ≠ 0 → lockN ≤ ts.length → lockedOut s g = false → tripGroup g false s = raise srcLockout u ∧ lockedOut u g = true)) ∧
    (s.running = true →
      let ok := fun q => tripped s q = true ∧ releasable s q = true ∧ lockedOut s q = false ∧ (q < 4 → axisHolds s q = false)
      ∃ t, next (.gteRelWrite mask) t ∧ t = { s with regs := t.regs, gte := { s.gte with grp := t.gte.grp }, resp := ⟨0, 0⟩ } ∧
        regsBut [rGTE_TRIPL] s t ∧
        (t.rb rGTE_TRIPL GTE_TRIPL.REL_REF = true ↔
          s.rb rGTE_TRIPL GTE_TRIPL.REL_REF = true ∨ ∃ q < 16, mask.getLsbD q = true ∧ ¬ ok q) ∧
        ∀ q < 16, (mask.getLsbD q = true → ok q → gateGrp t q = { gateGrp s q with release := true }) ∧
          (mask.getLsbD q = false ∨ ¬ ok q → gateGrp t q = gateGrp s q)) ∧
    (∀ q < 16, let r := releaseAtReload q s
      let may := tripped s q = true ∧ lockedOut s q = false ∧ releasable s q = true ∧
        (autoRelease s q = true ∨ (gateGrp s q).release = true)
      (¬ may → r = s) ∧ (may → tripped r q = false ∧ regsBut [rGTE_TRIP] s r ∧
        (∀ m, m ≠ q → r.rbit rGTE_TRIP m = s.rbit rGTE_TRIP m) ∧
        r = { s with regs := r.regs, gte := { s.gte with grp := tset s.gte.grp GateGrp.init q { gateGrp s q with release := false, manual := false } } }))

/-- Removal makes a cartridge MISSING and discards a VALID one's ACC with LOST; settled presence makes it PROBING. A
probe with three failed attempts makes it FAULT; a wrong ID block, no random source or a response of another key makes
it UNKNOWN with its CAUSE, AUTH_FAIL counted and the source raised; a right one makes it VALID with the record of the
valid slot of greater SEQ, EXPIRED where EH has reached RATED. Re-authentication, REAUTH minutes after the last check,
keeps it or discards. A sample, once in each second, adds W[i][t] to ACC; the 60th commits: EH and ACC into the other
slot's record, valid by its CRC, SEQ + 1, or WFAIL after four failures. REPROBE and EN commit first. GO starts a
transaction, sets DENY for 0x5A on TW0 to TW3, and is ignored while BUSY; its end stores the bytes read and sets DONE.
Rests on R457, R458, R459, R460, R463, R464, R465, R466, R467, R468, R470, R471. -/
def Obligations.CartridgesProbeAccountAndCommit : Prop :=
  ∀ (cart : BitVec 2) (e : CartElement) (tj : Option (BitVec 16)) (f3 twc : BitVec 3) (on nack tmo : Bool) (nb : BitVec 5)
    (bytes : List Byte) (s : State),
    let c := cart.toNat
    let x := cartOf s c
    let stat := rLTN_CART_STAT c
    let cnt := rLTN_CART_CNT c
    let accR := rLTN_CART_ACC c
    let st := s.rf stat LTN_CART_STAT.STATE
    let en := s.rb (rLTN_CART_CFG c) LTN_CART_CFG.EN
    let live := en = true ∧ s.domOn 135 = true ∧ s.held 22 = false
    let next := fun (i : Instr) (t : State) => exec i s = .next t
    let put := fun (y : Cart) (t : State) => { t with cart := tset t.cart Cart.init c y }
    let fails := f3.toNat
    let num := fun (l : List Byte) o k => beNat ((l.drop o).take k)
    let retry := fun (k : Nat) (t : State) => t.rf cnt LTN_CART_CNT.RETRY = min 255 (s.rf cnt LTN_CART_CNT.RETRY + k)
    let rng := s.domOn 134 = true ∧ s.rb rSEC_STAT SEC_STAT.RNG_FAIL = false
    let keyOf := fun (id : List Byte) => hmac (rootKey s) ((id.drop 8).take 8 ++ (id.drop 6).take 2)
    let nonce := natBe 16 (s.freeVal 128).toNat
    let right := fun (id : List Byte) => hmac e.key (nonce ++ id) == hmac (keyOf id) (nonce ++ id)
    let idRegs := [rLTN_CART_SER_HI c, rLTN_CART_SER_LO c, rLTN_CART_INFO c, rLTN_CART_TYPE c] ++ (List.range 128).map (rLTN_CART_W c)
    let lost := fun (u : State) => u.reg accR = 0 ∧ u.rb stat LTN_CART_STAT.LOST = true
    let unknown := fun (cause : Nat) (i : Instr) (v : State) (k : Nat) (regs : List Nat) (extra : State → Prop) => ∃ u,
      next i (raise (121 + c) u) ∧ u = { v with regs := u.regs, free := s.free + k } ∧ regsBut (stat :: cnt :: regs) s u ∧
      u.rf stat LTN_CART_STAT.STATE = 4 ∧ u.rf stat LTN_CART_STAT.CAUSE = cause ∧ u.rb stat LTN_CART_STAT.CART_OK = false ∧
      u.rf cnt LTN_CART_CNT.AUTH_FAIL = min 65535 (s.rf cnt LTN_CART_CNT.AUTH_FAIL + 1) ∧ extra u
    let faulty := fun (i : Instr) (regs : List Nat) (extra : State → Prop) => ∃ u, next i (raise (59 + c) u) ∧
      onlyRegs (stat :: cnt :: regs) s u ∧ u.rf stat LTN_CART_STAT.STATE = 5 ∧ u.rf stat LTN_CART_STAT.CAUSE = 3 ∧
      u.rb stat LTN_CART_STAT.CART_OK = false ∧ retry 2 u ∧ extra u
    let goodId := num e.id 0 4 = 0x4B435431 ∧ num e.id 4 1 = 1 ∧ num e.id 0x10 4 ≠ 0
    let r := if lifeOk e.lifeA = true ∧ (lifeOk e.lifeB = false ∨ num e.lifeB 0 4 ≤ num e.lifeA 0 4) then e.lifeA else e.lifeB
    let rated := num e.id 0x10 4 * 14745600
    let expired := s.rb stat LTN_CART_STAT.EXPIRED
    let up := (s.reg rPWR_UPTIME).toNat
    let minutes := s.rf (rLTN_CART_CFG c) LTN_CART_CFG.REAUTH
    let due := minutes ≠ 0 ∧ x.authAt + 60000000 * minutes ≤ up
    let k := twc.toNat
    let tws := rLTN_TW_STAT k
    (∀ q < 8, let t := setCartState c q s
      onlyRegs [stat] s t ∧ t.rf stat LTN_CART_STAT.STATE = q ∧
      (q ≠ 3 → t.rb stat LTN_CART_STAT.EXPIRED = false ∧ t.rb stat LTN_CART_STAT.CART_OK = false) ∧
      (q = 3 → t.rb stat LTN_CART_STAT.CART_OK =
        !(t.rb stat LTN_CART_STAT.EXPIRED && s.rb (rLTN_CART_MAP c) LTN_CART_MAP.EXP_DARK))) ∧
    (awake s →
      (let u := put { x with absent := true } s
       (st = 0 → next (.cartPresenceLoss cart) u) ∧ (st ≠ 0 → st ≠ 3 → next (.cartPresenceLoss cart) (setCartState c 1 u)) ∧
       (st = 3 → next (.cartPresenceLoss cart) (setCartState c 1 ((u.setReg accR 0).setRf stat LTN_CART_STAT.LOST 1)))) ∧
      (let u := put { x with absent := false } s
       (st = 1 → live → next (.cartPresenceSettled cart) (setCartState c 2 u)) ∧
       (st ≠ 1 ∨ ¬ live → next (.cartPresenceSettled cart) u)) ∧
      (st ≠ 2 ∨ ¬ live → next (.cartProbe cart e) s) ∧
      (st = 2 → live →
        let y := { x with id := e.id }
        (3 ≤ e.fails → faulty (.cartProbe cart e) [] fun _ => True) ∧
        (e.fails < 3 →
          (¬ goodId → unknown 1 (.cartProbe cart e) (put y s) 0 idRegs (retry e.fails)) ∧
          (goodId → ¬ rng → unknown 4 (.cartProbe cart e) (put y s) 0 idRegs (retry e.fails)) ∧
          (goodId → rng → if right e.id then
            (lifeOk e.lifeA = false → lifeOk e.lifeB = false → ∃ v, v = { put { y with inA := true } s with
                regs := v.regs, free := s.free + 1 } ∧
              regsBut (stat :: cnt :: rLTN_CART_SEQ c :: rLTN_CART_EH c :: idRegs) s v ∧ retry e.fails v ∧
              v.rb stat LTN_CART_STAT.LIFE_BAD = true ∧ v.reg (rLTN_CART_SEQ c) = 0 ∧
              v.reg (rLTN_CART_EH c) = BitVec.ofNat 64 (rated % 2 ^ 48) ∧
              let w := raise (67 + c) v
              next (.cartProbe cart e) (checkExpiry c (setCartState c 3
                ((put { cartOf w c with samples := 0, second := up / 1000000, authAt := up } w).setReg accR 0)))) ∧
            (lifeOk e.lifeA = true ∨ lifeOk e.lifeB = true → ∃ u,
            u = { put { y with
              inA := decide (r = e.lifeA), samples := 0, second := up / 1000000, authAt := up } s with regs := u.regs, free := s.free + 1 } ∧
            regsBut (stat :: cnt :: rLTN_CART_SEQ c :: rLTN_CART_EH c :: accR :: idRegs) s u ∧ retry e.fails u ∧
            u.rf stat LTN_CART_STAT.STATE = 3 ∧ u.rb stat LTN_CART_STAT.LIFE_BAD = false ∧ u.reg accR = 0 ∧
            u.reg (rLTN_CART_SEQ c) = BitVec.ofNat 64 (num r 0 4) ∧ u.reg (rLTN_CART_EH c) = BitVec.ofNat 64 (num r 4 6) ∧
            u.rf (rLTN_CART_SER_LO c) LTN_CART_SER_LO.SERIAL = num e.id 12 4 ∧
            u.rf (rLTN_CART_TYPE c) LTN_CART_TYPE.TYPE = num e.id 6 2 ∧
            u.rb stat LTN_CART_STAT.EXPIRED = (expired || decide (rated ≤ num r 4 6)) ∧
            u.rb stat LTN_CART_STAT.CART_OK = !((expired || decide (rated ≤ num r 4 6)) && s.rb (rLTN_CART_MAP c) LTN_CART_MAP.EXP_DARK) ∧
            (expired = true ∨ num r 4 6 < rated → next (.cartProbe cart e) u) ∧
            (expired = false → rated ≤ num r 4 6 → next (.cartProbe cart e) (raise (110 + c) u)))
            else unknown 2 (.cartProbe cart e) (put y s) 1 idRegs (retry e.fails)))) ∧
      (st ≠ 3 ∨ ¬ live ∨ ¬ due → next (.cartReauth cart e) s) ∧
      (st = 3 → live → due →
        (3 ≤ e.fails → faulty (.cartReauth cart e) [accR] lost) ∧
        (e.fails < 3 → ¬ rng → unknown 4 (.cartReauth cart e) s 0 [accR] fun u => retry e.fails u ∧ lost u) ∧
        (e.fails < 3 → rng → if right x.id then ∃ t, next (.cartReauth cart e) t ∧ retry e.fails t ∧
          t = { put { x with authAt := up } s with regs := t.regs, free := s.free + 1 } ∧ regsBut [cnt] s t
          else unknown 2 (.cartReauth cart e) s 1 [accR] fun u => retry e.fails u ∧ lost u)) ∧
      (st ≠ 3 ∨ ¬ live ∨ up / 1000000 ≤ x.second → next (.cartSample cart tj f3) s) ∧
      (st = 3 → live → x.second < up / 1000000 →
        let res := (resultPort (s.rf (rLTN_CART_CFG c) LTN_CART_CFG.ISRC)).map fun a => s.rf a ADC_RRES.CODE
        let i := (res.map fun v => v / 256).getD 15
        let bin := match tj with
          | none => 15
          | some v => if (v.toInt - 40) / 12 < 0 then 0 else min 15 ((v.toInt - 40) / 12).toNat
        ∃ u, u = { put { x with samples := x.samples + 1, second := up / 1000000 } s with regs := u.regs } ∧ regsBut [cnt, rLTN_CART_LIVE c, accR] s u ∧
          u.reg accR = BitVec.ofNat 64 (((s.reg accR).toNat + num x.id (0x20 + 32 * i + 2 * bin) 2) % 2 ^ 32) ∧
          (tj = none → u.rf cnt LTN_CART_CNT.TJ_ERR = min 255 (s.rf cnt LTN_CART_CNT.TJ_ERR + 1)) ∧
          (∀ v, tj = some v → u.rf (rLTN_CART_LIVE c) LTN_CART_LIVE.TJ = v.toNat ∧ u.reg cnt = s.reg cnt) ∧
          (∀ v, res = some v → u.rf (rLTN_CART_LIVE c) LTN_CART_LIVE.ICODE = v) ∧
          (x.samples + 1 < 60 → next (.cartSample cart tj f3) u) ∧
          (60 ≤ x.samples + 1 → next (.cartSample cart tj f3) (cartCommit c fails u)))) ∧
    (∀ f, let eh := ((s.reg (rLTN_CART_EH c)).toNat + (s.reg accR).toNat) % 2 ^ 48
      let seq := ((s.reg (rLTN_CART_SEQ c)).toNat + 1) % 2 ^ 32
      let full := num x.id 0x10 4 * 14745600 ≤ eh ∧ s.rb stat LTN_CART_STAT.EXPIRED = false
      let y := { x with samples := 0, wrote := some (!x.inA, lifeRecord seq eh) }
      lifeOk (lifeRecord seq eh) = true ∧ num (lifeRecord seq eh) 0 4 = seq ∧ num (lifeRecord seq eh) 4 6 = eh ∧
      (4 ≤ f → ∃ u, cartCommit c f s = raise (63 + c) u ∧ u = { put y s with regs := u.regs } ∧ regsBut [cnt, stat] s u ∧
        u.rb stat LTN_CART_STAT.WFAIL = true) ∧
      (f < 4 → ∃ u, u = { put { y with inA := !x.inA } s with regs := u.regs } ∧
        regsBut [cnt, stat, rLTN_CART_SEQ c, rLTN_CART_EH c, accR] s u ∧ u.reg accR = 0 ∧ retry f u ∧
        u.reg (rLTN_CART_EH c) = BitVec.ofNat 64 eh ∧ u.reg (rLTN_CART_SEQ c) = BitVec.ofNat 64 seq ∧
        (¬ full → u.reg stat = s.reg stat ∧ cartCommit c f s = u) ∧
        (full → u.rb stat LTN_CART_STAT.EXPIRED = true ∧ cartCommit c f s = raise (110 + c) u))) ∧
    (fwReaches s stat →
      (st ≤ 1 ∨ ¬ live → next (.cartReprobe cart f3) (s.answer 0 0)) ∧
      (2 ≤ st → live → st ≠ 3 → next (.cartReprobe cart f3) ((setCartState c 2 s).answer 0 0)) ∧
      (st = 3 → live → next (.cartReprobe cart f3) ((setCartState c 2 (cartCommit c fails s)).answer 0 0)) ∧
      (en = on → next (.cartEnable cart on f3) (s.answer 0 0)) ∧
      (let w := fun (t : State) => t.setRf (rLTN_CART_CFG c) LTN_CART_CFG.EN (if on then 1 else 0)
       (en = false → on = true → s.domOn 135 = false → next (.cartEnable cart on f3) ((w s).answer 0 0)) ∧
       (en = false → on = true → s.domOn 135 = true →
         next (.cartEnable cart on f3) ((setCartState c (if x.absent then 1 else 2) (w s)).answer 0 0)) ∧
       (en = true → on = false → st = 3 → live →
         next (.cartEnable cart on f3) ((setCartState c 0 (w (cartCommit c fails s))).answer 0 0)) ∧
       (en = true → on = false → st ≠ 3 ∨ ¬ live → next (.cartEnable cart on f3) ((setCartState c 0 (w s)).answer 0 0)))) ∧
    (5 ≤ k → next (.twGo twc) s ∧ next (.twTransactionDone twc nack tmo nb bytes) s) ∧
    (k < 5 → fwReaches s tws →
      let addr := s.rf (rLTN_TW_CMD k) LTN_TW_CMD.ADDR
      let wlen := min 16 (s.rf (rLTN_TW_CMD k) LTN_TW_CMD.WLEN)
      let data := (List.range wlen).map fun j => (s.reg (rLTN_TW_DATA k (j / 4)) >>> (8 * (j % 4))).setWidth 8
      (s.rb tws LTN_TW_STAT.BUSY = true → next (.twGo twc) (s.answer 0 0)) ∧
      (s.rb tws LTN_TW_STAT.BUSY = false → k < 4 → addr = 0x5A →
        next (.twGo twc) ((s.setRf tws LTN_TW_STAT.DENY 1).answer 0 0)) ∧
      (s.rb tws LTN_TW_STAT.BUSY = false → k = 4 ∨ addr ≠ 0x5A →
        next (.twGo twc) ((({ s with tw := tset s.tw [] k data }).setRf tws LTN_TW_STAT.BUSY 1).answer 0 0))) ∧
    (k < 5 → awake s →
      let done := .twTransactionDone twc nack tmo nb bytes
      (s.rb tws LTN_TW_STAT.BUSY = false ∨ s.domOn 135 = false → next done s) ∧
      (s.rb tws LTN_TW_STAT.BUSY = true → s.domOn 135 = true →
        let rlen := min 16 (s.rf (rLTN_TW_CMD k) LTN_TW_CMD.RLEN)
        let byte := fun (t : State) j => (t.reg (rLTN_TW_DATA k (j / 4)) >>> (8 * (j % 4))).setWidth 8
        ∃ t, next done t ∧ onlyRegs (tws :: (List.range 4).map (rLTN_TW_DATA k)) s t ∧ t.rb tws LTN_TW_STAT.BUSY = false ∧
          t.rb tws LTN_TW_STAT.DONE = true ∧ t.rb tws LTN_TW_STAT.NACK = (s.rb tws LTN_TW_STAT.NACK || nack) ∧
          t.rb tws LTN_TW_STAT.TMO = (s.rb tws LTN_TW_STAT.TMO || tmo) ∧ t.rf tws LTN_TW_STAT.NBYTES = nb.toNat ∧
          ∀ j < 16, byte t j = (if j < rlen ∧ j < bytes.length then bytes.getD j 0 else byte s j)))

/-- A disabled source only counts. An enabled one counts in its class and in SMP_TOTAL, takes its LEVEL, or in a
pending class the greater of it and CUR + 1 up to 3, makes the class pending, holds nERR with NERR, is logged with LOG
and reacts: the roster event, the NMI with SMP_NMI, the block reset, or the wait for chip reset, whose tick it keeps;
during that wait it is counted and logged and nothing else. A logged raise joins the FIFO of 32 or the LOST record.
SMP_ACK ends exactly the pending classes it names. A commit stores the record's words at WR with SEQ and moves both
on, the LOST record taking the freed place; a failed write of it counts in LOG_ERRCNT, consumes index and SEQ, leaves
VALID clear where the first write was made, and raises no source. Its writes use the writer's entry; where that is
held, the response that frees it has come. LOG_CLR sets CLEARING; the end of the clear zeroes the 1,024 headers with
SEQ kept. Rests on R487, R488, R489, R490, R491, R492, R493, R495, R496, R497, R498, R499. -/
def Obligations.SumpEscalatesLogsAndAcknowledges : Prop :=
  ∀ (n : Nat) (d : W32) (aux : Nat) (mask : BitVec 8) (good : BitVec 3) (s : State),
    let next := fun (i : Instr) (t : State) => exec i s = .next t
    let c := classOf n
    let src := rSMP_SRC n
    let cls := rSMP_CLS c
    let pend := s.rb cls SMP_CLS.PEND
    let own := s.rf src SMP_SRC.LEVEL
    let lv := if pend then min (max own (s.rf cls SMP_CLS.LEVEL + 1)) 3 else own
    let more := fun (k : Nat) => min 65535 (k + 1)
    let cnt := fun (u : State) => u.rf (rSMP_CNT n) SMP_CNT.CNT = more (s.rf (rSMP_CNT n) SMP_CNT.CNT)
    let plus := fun (a : Nat) (v u : State) => u.rf a SMP_LOST.CNT = (v.rf a SMP_LOST.CNT + 1) % 2 ^ 40
    let now := s.nowNs % 2 ^ 60
    let fld := fun (w : W40) hi lo => w.toNat / 2 ^ lo % 2 ^ (hi - lo + 1)
    let stat := rSMP_LOG_STAT
    let word := fun (t : State) w => tget t.cav.words (Config.clearedWord 40) w
    let wr := s.rf stat SMP_LOG_STAT.WR
    let seq := s.rf rSMP_LOG_SEQ SMP_LOG_SEQ.VALUE
    let base := 1044480 + 4 * wr
    (n < 160 →
      (s.rb src SMP_SRC.EN = false → onlyRegs [rSMP_CNT n] s (raiseAux n d aux s) ∧ cnt (raiseAux n d aux s)) ∧
      (s.rb src SMP_SRC.EN = true → ∃ u, cnt u ∧ regsBut [rSMP_CNT n, rSMP_TOTAL, cls, rSMP_PEND, rSMP_NERR] s u ∧
        u = { s with regs := u.regs, smp := { s.smp with nerrAt := u.smp.nerrAt } } ∧
        u.smp.nerrAt = (if s.smp.chipWait = none ∧ s.rb src SMP_SRC.NERR = true ∧ s.rf rSMP_NERR SMP_NERR.CLASS = 0
          then s.dtm.ticks else s.smp.nerrAt) ∧
        plus rSMP_TOTAL s u ∧ u.rf cls SMP_CLS.SRC = n ∧
        let e := .fault s.timeValid c lv n now d
        let v := if s.rb src SMP_SRC.LOG then logRaise e u else u
        (s.smp.chipWait.isSome → raiseAux n d aux s = v ∧ u.reg rSMP_PEND = s.reg rSMP_PEND ∧
          u.reg rSMP_NERR = s.reg rSMP_NERR ∧ u.rb cls SMP_CLS.PEND = pend ∧
          u.rf cls SMP_CLS.LEVEL = s.rf cls SMP_CLS.LEVEL ∧ u.rf cls SMP_CLS.CNT = more (s.rf cls SMP_CLS.CNT)) ∧
        (s.smp.chipWait = none → raiseAux n d aux s = react n lv d aux v ∧ u.rb cls SMP_CLS.PEND = true ∧
          u.rf cls SMP_CLS.LEVEL = lv ∧ u.rf cls SMP_CLS.CNT = (if pend then more (s.rf cls SMP_CLS.CNT) else 1) ∧
          ∀ k < 8, u.rbit rSMP_PEND k = (s.rbit rSMP_PEND k || k == c) ∧
            u.rbit rSMP_NERR k = (s.rbit rSMP_NERR k || (k == c && s.rb src SMP_SRC.NERR)))) ∧
      react n 0 d aux s = rosterEvent (0x10 + c) s ∧
      (∃ u, onlyRegs [rSMP_NMI] s u ∧ u.rf rSMP_NMI SMP_NMI.CLASS = c ∧ u.rf rSMP_NMI SMP_NMI.SRC = n ∧
        let gone := s.held 16 = true ∨ s.rb rGDE_STAT GDE_STAT.HALT = true
        let act := s.rb rGDE_STAT GDE_STAT.NMI_ACT
        (gone → react n 1 d aux s = u) ∧
        (¬ gone → act = true → react n 1 d aux s = u.setRf rGDE_STAT GDE_STAT.NMI_PEND 1) ∧
        (¬ gone → act = false → react n 1 d aux s = { u with gde := { u.gde with nmiSignal := true } })) ∧
      (let waits := { s with smp := { s.smp with chipWait := some (n, s.dtm.ticks) } }
       react n 3 d aux s = waits ∧ (blockOf n d aux = none → react n 2 d aux s = waits)) ∧
      (∀ b < 64, blockOf n d aux = some b →
        (s.held b = true → react n 2 d aux s = s) ∧ (react n 2 d aux s).held b = true)) ∧
    (∀ e, let t := logRaise e s
      (∀ a b k, s.smp.lost = some (a, b, k) → t = { s with
          regs := t.regs
          smp := { s.smp with lost := some (a, now, min (k + 1) (2 ^ 21 - 1)) } } ∧
        regsBut [rSMP_LOST] s t ∧ plus rSMP_LOST s t) ∧
      (s.smp.lost = none → s.smp.fifo.length < 32 →
        t = { s with regs := t.regs, smp := { s.smp with fifo := s.smp.fifo ++ [e] } } ∧ regsBut [stat] s t ∧
        t.rf stat SMP_LOG_STAT.LEVEL = s.smp.fifo.length + 1) ∧
      (s.smp.lost = none → 32 ≤ s.smp.fifo.length →
        t = { s with regs := t.regs, smp := { s.smp with lost := some (now, now, 1) } } ∧ regsBut [stat, rSMP_LOST] s t ∧
        t.rb stat SMP_LOG_STAT.OVR = true ∧ t.rb stat SMP_LOG_STAT.PEND = true ∧ plus rSMP_LOST s t)) ∧
    (fwReaches s rSMP_ACK → ∃ t, next (.smpAck mask) t ∧
      onlyRegsAck (rSMP_PEND :: rSMP_NERR :: (List.range 8).map rSMP_CLS) s t ∧
      ∀ k < 8, let done := mask.getLsbD k && s.rbit rSMP_PEND k
        t.rbit rSMP_PEND k = (s.rbit rSMP_PEND k && !mask.getLsbD k) ∧
        t.rbit rSMP_NERR k = (s.rbit rSMP_NERR k && !done) ∧
        t.rb (rSMP_CLS k) SMP_CLS.PEND = (s.rb (rSMP_CLS k) SMP_CLS.PEND && !done) ∧
        ∀ f ∈ [SMP_CLS.LEVEL, SMP_CLS.SRC, SMP_CLS.CNT], t.rf (rSMP_CLS k) f = s.rf (rSMP_CLS k) f) ∧
    (fwReaches s rSMP_CTL →
      next .smpLock ((s.setRf rSMP_CTL SMP_CTL.LOCK 1).answer 0 0) ∧
      next .logClr ((s.setRf stat SMP_LOG_STAT.CLEARING 1).answer 0 0)) ∧
    (∀ tv k l m q x, k < 8 → l < 4 → m < 256 → q < 65536 → x < 2 ^ 60 →
      ∃ h w2, recordWords q (.fault tv k l m x d) = [h, BitVec.ofNat 40 x, w2, d.setWidth 40] ∧ w2.toNat = x / 2 ^ 40 ∧
        fld h 39 37 = 4 ∧ fld h 36 36 = (if tv then 1 else 0) ∧ fld h 35 33 = k ∧ fld h 32 31 = l ∧ fld h 30 23 = m ∧
        fld h 22 16 = 0 ∧ fld h 15 0 = q) ∧
    (∀ x y k q, k < 2 ^ 21 → q < 65536 → x < 2 ^ 60 → y < 2 ^ 60 →
      ∃ h w2 w3, recordWords q (.lost x y k) = [h, BitVec.ofNat 40 x, w2, w3] ∧ fld h 39 37 = 5 ∧ fld h 36 16 = k ∧
        fld h 15 0 = q ∧ fld w2 19 0 = x / 2 ^ 40 ∧ fld w2 39 20 = y % 2 ^ 20 ∧ w3.toNat = y / 2 ^ 20) ∧
    (awake s →
      let g := good.toNat
      let clearing := s.rb stat SMP_LOG_STAT.CLEARING
      (clearing = true ∨ s.smp.fifo = [] → next (.logRecordCommit good) s) ∧
      (∀ e r, clearing = false → s.smp.fifo = e :: r →
        let q := match s.smp.lost with
          | some (a, b, k) => r ++ [.lost a b k]
          | none => r
        let left := fun (f : Nat) (t : State) => t = { s with
              regs := t.regs
              cav := t.cav
              txns := t.txns
              smp := { s.smp with fifo := q, lost := none }
              free := s.free + f } ∧
          regsBut [stat, rSMP_LOG_SEQ, rSMP_LOG_ERRCNT, rBMX_OUT 3, rBMX_QSTALL 3] s t ∧
          t.rf stat SMP_LOG_STAT.WR = (wr + 1) % 1024 ∧ t.rf rSMP_LOG_SEQ SMP_LOG_SEQ.VALUE = (seq + 1) % 65536 ∧
          t.rf stat SMP_LOG_STAT.LEVEL = q.length % 64 ∧ (identFree s 49 = true → t.txns = s.txns) ∧ t.rb stat SMP_LOG_STAT.PEND = false ∧
          ∀ w, w < base ∨ base + 4 ≤ w → word t w = word s w
        (5 ≤ g → ∃ t, next (.logRecordCommit good) t ∧ left 0 t ∧ t.reg rSMP_LOG_ERRCNT = s.reg rSMP_LOG_ERRCNT ∧
          ∀ k < 4, word t (base + k) = (recordWords seq e).getD k 0) ∧
        (g < 5 → ∃ t, next (.logRecordCommit good) (errorResponse 49 (0x10000000 + 8 * (base + g % 4)) true 0xB t) ∧ left 1 t ∧
          t.rb stat SMP_LOG_STAT.LOG_ERR = true ∧
          t.rf rSMP_LOG_ERRCNT SMP_LOG_ERRCNT.VALUE = more (s.rf rSMP_LOG_ERRCNT SMP_LOG_ERRCNT.VALUE) ∧
          (1 ≤ g → g < 4 → (word t base).getLsbD 39 = false))) ∧
      (clearing = false → next .logClearDone s) ∧
      (clearing = true → ∃ t, next .logClearDone t ∧
        t = { s with regs := t.regs, cav := t.cav, txns := t.txns } ∧ (identFree s 49 = true → t.txns = s.txns) ∧
        regsBut [stat, rBMX_OUT 3, rBMX_QSTALL 3] s t ∧
        t.rb stat SMP_LOG_STAT.CLEARING = false ∧ t.rf stat SMP_LOG_STAT.WR = 0 ∧
        (∀ r < 1024, word t (1044480 + 4 * r) = 0) ∧
        ∀ w, (∀ r < 1024, w ≠ 1044480 + 4 * r) → word t w = word s w)) ∧
    ∀ (addr : Nat) (wrt : Bool) (code : Nat), onlyRegs [rBMX_ERR_CNT, rBMX_ERR_INFO, rBMX_ERR_ADDR] s
      (errorResponse 49 addr wrt code s)

/-- A window write draws 0xA from another master (a violation of source 6), else 1, 3, 5 or 9 in that order, or is
stored in the staged fields; the staged key reads as zero. A greater floor starts a key-store write, another is
ignored. INSTALL copies and clears the staged key and checks the licence: RESULT 1, or BUSY and the write in progress;
RETIRE and ROOT start theirs; while BUSY, RESULT 2. The end of a write flips the bank with GEN + 1 and ACTIVE, empties
the slot, changes ROOT, raises the floor or clears DBG_DENY, forms the verdict again and keeps KEYWR for the others;
where the new bank read back wrong twice, it ends with RESULT 3 and nothing installed. An engine operation is ignored
while BUSY, ends at once with 5 or 6, or runs with the key of KSEL; its end writes the digest, the data and tag,
TAGFAIL with zeros, SIGFAIL, random bytes or RNGFAIL. A failed health test sets RNG_FAIL and starts the start-up test.
Rests on R57, R504, R506, R507, R508, R509, R510, R511, R512, R513, R514. -/
def Obligations.KeyStoreRotationsAndCryptoEngine : Prop :=
  ∀ (master : BitVec 3) (off : BitVec 16) (wide profile bad : Bool) (v : W64) (fl : W32) (slot : BitVec 2) (ksel : BitVec 4)
    (s : State),
    let next := fun (i : Instr) (t : State) => exec i s = .next t
    let stat := rSEC_STAT
    let rst := rSEC_ROT_STAT
    let ces := rSEC_CE_STAT
    let keywr := s.rb stat SEC_STAT.KEYWR
    let acc := fun (f : State → State) => freeEntry 0 (f (takeEntry 0 s))
    let begun := fun (o : KeyOp) (u : State) =>
      { (u.setRf stat SEC_STAT.KEYWR 1) with sec := { u.sec with keyOps := u.sec.keyOps ++ [o] } }
    let staged := fun (g : FleetBank) (u : State) => { u with sec := { u.sec with staged := g } }
    let put := fun (l k : List Byte) (n x : Nat) (w : W32) => l.length = n → k.length = n ∧ ∀ i < n,
      k.getD i 0 = if x ≤ i ∧ i < x + 4 then (w >>> (8 * (i - x))).setWidth 8 else l.getD i 0
    let byte := fun (t : State) (j : Nat) => (t.reg (rSEC_CE_BUF (j / 4)) >>> (8 * (j % 4))).setWidth 8
    let buf := fun (o n : Nat) => (List.range' o n).map (byte s)
    let slot1 := fun (t : State) n => tget t.sec.mram.slots FleetSlot.blank n
    let bank := fun (x : FleetSlot) => if x.bank then x.b1 else x.b0
    let holds := fun (t : State) (b : FleetBank) => sha256 b.pub = t.sec.otp.licHash ∧ sha256 b.key = b.keyHash ∧
      ecdsaVerify b.pub b.sig (sha256 (t.sec.otp.uid ++ natBe 4 b.fleetId.toNat ++ b.keyHash)) = true
    let lic := fun (t : State) n => (slot1 t n).active = true ∧ holds t (bank (slot1 t n))
    let verdict := fun (t : State) =>
      (t.rb stat SEC_STAT.LIC_VALID = true ↔ ∃ n < 4, lic t n) ∧
      ∀ n < 4, lic t n → (∀ m < n, ¬ lic t m) → t.rf stat SEC_STAT.LIC_SLOT = n
    let g := s.sec.staged
    (∀ b, licenceHolds s b = true ↔ holds s b) ∧
    (s.running = true →
      (let n := if wide then 8 else 4
       let o := off.toNat
       let a := o / 4 * 4
       let b := (o + n - 1) / 4 * 4
       let listed := fun (x : Nat) => x < 8 ∨ (0x20 ≤ x ∧ x < 0x88) ∨
         (0x100 ≤ x ∧ x < 0x500 ∧ (x % 0x100 < 8 ∨ (0x20 ≤ x % 0x100 ∧ x % 0x100 < 0xC0))) ∨
         (0x800 ≤ x ∧ x < 0x824) ∨ (0x840 ≤ x ∧ x < 0x8C0)
       let open1 := fun (x : Nat) => x = 0x80 ∨ x = 0x84 ∨ 0x800 ≤ x
       let i := .keystoreWindowWrite master off wide v
       let refused := fun (c : Nat) => next i ((errorResponse 0 (0x400000 + o) true c (entryUsed 0 s)).answer 0 c)
       (∀ m, master.toNat = m → 1 ≤ m → m < 6 → mayAccess s (firstIdent m) (0x400000 + o) →
         next i ((errorResponse (firstIdent m) (0x400000 + o) true 0xA (entryUsed m s)).answer 0 0xA)) ∧
       (6 ≤ master.toNat → next i s) ∧
       (master = 0 → mayAccess s 0 (0x400000 + o) →
         (¬ (listed a ∧ listed b) → refused 1) ∧
         (listed a → listed b →
           (o % n ≠ 0 → refused 3) ∧
           (o % n = 0 → ¬ (open1 a ∧ open1 b) → refused 5) ∧
           (o % n = 0 → open1 a → open1 b → keywr = true → refused 9) ∧
           (o % n = 0 → open1 a → open1 b → keywr = false → next i ((acc fun e =>
             let e := keyWordWrite a (v.setWidth 32) e
             if wide then keyWordWrite b ((v >>> 32).setWidth 32) e else e).answer 0 0))))) ∧
      (let i := .rollbackRaise profile fl
       let a := if profile then 0x400084 else 0x400080
       mayAccess s 0 a →
       (keywr = true → next i ((errorResponse 0 a true 9 (entryUsed 0 s)).answer 0 9)) ∧
       (keywr = false → next i ((acc (keyWordWrite (if profile then 0x84 else 0x80) fl)).answer 0 0)))) ∧
    (∀ x, 0x800 ≤ x → x < 0x820 → keyWord s x = some 0) ∧
    (∀ w : W32,
      (∀ p, let old := if p then s.sec.mram.profFloor else s.sec.mram.fwFloor
        keyWordWrite (if p then 0x84 else 0x80) w s = if old.toNat < w.toNat then begun (.floor p w) s else s) ∧
      keyWordWrite 0x820 w s = staged { g with fleetId := w } s ∧
      (∀ k < 8, ∃ l, keyWordWrite (0x800 + 4 * k) w s = staged { g with key := l } s ∧ put g.key l 32 (4 * k) w) ∧
      (∀ k < 16, ∃ l, keyWordWrite (0x840 + 4 * k) w s = staged { g with pub := l } s ∧ put g.pub l 64 (4 * k) w) ∧
      (∀ k < 16, ∃ l, keyWordWrite (0x880 + 4 * k) w s = staged { g with sig := l } s ∧ put g.sig l 64 (4 * k) w)) ∧
    (fwReaches s rSEC_ROT →
      let n := slot.toNat
      let f := { g with keyHash := sha256 g.key }
      let wiped := staged { g with key := List.replicate 32 0 } s
      let busy := fun (o : KeyOp) (u : State) => (begun o (u.setRf rst SEC_ROT_STAT.BUSY 1)).answer 0 0
      (s.rb rst SEC_ROT_STAT.BUSY = true → ∀ i ∈ [.secInstall slot, .secRetire slot, .secRoot],
        next i ((s.setRf rst SEC_ROT_STAT.RESULT 2).answer 0 0)) ∧
      (s.rb rst SEC_ROT_STAT.BUSY = false →
        next (.secInstall slot) (if licenceHolds s f then busy (.install n f) wiped
          else (wiped.setRf rst SEC_ROT_STAT.RESULT 1).answer 0 0) ∧
        next (.secRetire slot) (busy (.retire n) s) ∧ next .secRoot (busy (.root g.key) wiped))) ∧
    (awake s → s.sec.eraseMark = none →
      (s.sec.keyOps = [] → next (.keystoreWriteDone bad) s) ∧
      (∀ o r, s.sec.keyOps = o :: r → bad = true → o.installs = true → ∃ t, next (.keystoreWriteDone bad) t ∧
        t = { s with regs := t.regs, sec := { s.sec with keyOps := r } } ∧ regsBut [stat, rst] s t ∧
        t.rb stat SEC_STAT.KEYWR = !r.isEmpty ∧ t.rb rst SEC_ROT_STAT.BUSY = false ∧
        t.rf rst SEC_ROT_STAT.RESULT = 3 ∧ verdict t) ∧
      (∀ o r, s.sec.keyOps = o :: r → bad = false ∨ o.installs = false → ∃ t, next (.keystoreWriteDone bad) t ∧
        t = { s with regs := t.regs, sec := { s.sec with keyOps := r, mram := t.sec.mram } } ∧
        t.rb stat SEC_STAT.KEYWR = !r.isEmpty ∧
        let m := s.sec.mram
        let same := fun (m' : Mram) => t.sec.mram = { m' with slots := t.sec.mram.slots }
        let others := fun n => ∀ k, k ≠ n → slot1 t k = slot1 s k
        let ended := t.rb rst SEC_ROT_STAT.BUSY = false ∧ t.rf rst SEC_ROT_STAT.RESULT = 0
        (∀ n f, o = .install n f → same m ∧ others n ∧ ended ∧ verdict t ∧ regsBut [stat, rst] s t ∧
          let x := slot1 s n
          slot1 t n = { x with
            active := true
            bank := !x.bank
            gen := (x.gen + 1) % 65536
            b0 := (slot1 t n).b0
            b1 := (slot1 t n).b1 } ∧ bank (slot1 t n) = f ∧
          (if x.bank then (slot1 t n).b1 = x.b1 else (slot1 t n).b0 = x.b0)) ∧
        (∀ n, o = .retire n → same m ∧ others n ∧ ended ∧ verdict t ∧ regsBut [stat, rst] s t ∧
          slot1 t n = { slot1 s n with active := false }) ∧
        (∀ k, o = .root k → ended ∧ regsBut [stat, rst] s t ∧ t.sec.mram =
          if m.rootBank = some false then { m with rootBank := some true, root1 := k }
          else { m with rootBank := some false, root0 := k }) ∧
        (∀ p w, o = .floor p w → regsBut [stat] s t ∧ t.sec.mram =
          if p then { m with profFloor := if m.profFloor.toNat < w.toNat then w else m.profFloor }
          else { m with fwFloor := if m.fwFloor.toNat < w.toNat then w else m.fwFloor }) ∧
        (o = .reopen → regsBut [stat, rSEC_DBG] s t ∧ t.sec.mram = { m with dbgDeny := false } ∧
          t.rf rSEC_DBG SEC_DBG.STATE = if s.sec.unlocked then 1 else 0))) ∧
    (fwReaches s rSEC_CE_CTL → ∀ i op, (i, op) ∈ [(Instr.ceSha256 ksel, 1), (.ceHmac ksel, 2), (.ceGcmEncrypt ksel, 3),
        (.ceGcmDecrypt ksel, 4), (.ceEcdsaVerify ksel, 5), (.ceRandomFill ksel, 6)] →
      let k := ksel.toNat
      let w := s.setReg rSEC_CE_CTL (BitVec.ofNat 64 (0x1000000 * op + 0x10000 * k))
      let len := s.rf rSEC_CE_LEN SEC_CE_LEN.LEN
      let alen := s.rf rSEC_CE_LEN SEC_CE_LEN.ALEN
      let ready := s.rb ces SEC_CE_STAT.BUSY = false ∧ s.domOn 134 = true
      let keyed := op = 2 ∨ op = 3 ∨ op = 4
      let fits := if op = 3 ∨ op = 4 then alen + len + 32 ≤ 4096 else op = 5 ∨ len ≤ 4096
      let key := if k ≤ 3 then (if (slot1 s k).active then (bank (slot1 s k)).key else [])
        else if k = 4 then hmac s.sec.otp.duk ((List.range 8).flatMap fun j => natBe 4 (s.reg (rSEC_CE_LABEL j)).toNat)
        else buf 0xFE0 32
      let goes := fun (kb : List Byte) (st : Bool) =>
        let u := (w.setRf ces SEC_CE_STAT.BUSY 1).setRf ces SEC_CE_STAT.RESULT 0
        next i ({ u with sec := { u.sec with ce := some ⟨op, kb, st, alen, len⟩ } }.answer 0 0)
      (¬ ready → next i (w.answer 0 0)) ∧
      (ready → ¬ fits ∨ (keyed ∧ 4 < k ∧ k ≠ 8) → next i ((w.setRf ces SEC_CE_STAT.RESULT 5).answer 0 0)) ∧
      (ready → fits → ¬ keyed → goes [] false) ∧
      (ready → fits → keyed → k ≤ 4 ∨ k = 8 →
        (key = [] → next i ((w.setRf ces SEC_CE_STAT.RESULT 6).answer 0 0)) ∧ (key ≠ [] → goes key (decide (k ≤ 4))))) ∧
    (∀ o l, o + l.length ≤ 4096 → onlyRegs ((List.range 1024).map rSEC_CE_BUF) s (cePut o l s) ∧
      ∀ j < 4096, byte (cePut o l s) j = if o ≤ j ∧ j < o + l.length then l.getD (j - o) 0 else byte s j) ∧
    (awake s →
      (s.sec.ce = none → next .ceOperationDone s) ∧
      (∀ o, s.sec.ce = some o →
        let fails := s.rb stat SEC_STAT.RNG_FAIL
        let waits := s.domOn 134 = false ∨ (o.op = 6 ∧ s.sec.rngStarting = true ∧ fails = false)
        let z := { s with sec := { s.sec with ce := none } }
        let data := 16 + o.alen
        let text := buf data o.len
        let aad := buf 16 o.alen
        let crypt := gcmCrypt o.key (buf 0 12) text
        let ends := fun (u : State) (r : Nat) =>
          next .ceOperationDone ((u.setRf ces SEC_CE_STAT.RESULT r).setRf ces SEC_CE_STAT.BUSY 0)
        let digest := fun (h : List Byte) => ∃ u, onlyRegs ((List.range 8).map rSEC_CE_OUT) z u ∧ ends u 0 ∧
          ∀ j < 8, u.reg (rSEC_CE_OUT j) = BitVec.ofNat 64 (beNat ((h.drop (4 * j)).take 4))
        (waits → next .ceOperationDone s) ∧
        (¬ waits →
          (o.op = 1 → digest (sha256 (buf 0 o.len))) ∧
          (o.op = 2 → digest (hmac o.key (buf 0 o.len))) ∧
          (o.op = 3 → ends (cePut data (crypt ++ gcmTag o.key (buf 0 12) aad crypt) z) 0) ∧
          (o.op = 4 →
            let right := buf (data + o.len) 16 == gcmTag o.key (buf 0 12) aad text
            ends (cePut data (if right then crypt else List.replicate o.len 0) z) (if right then 0 else 1)) ∧
          (o.op = 5 → ends z (if ecdsaVerify (buf 0 64) (buf 64 64) (buf 128 32) then 0 else 2)) ∧
          (o.op = 6 → fails = true → ∃ u, ends u 3 ∧ u = { z with regs := u.regs } ∧
            regsBut (List.range' (rSEC_CE_BUF 0) 4096) z u ∧ ∀ j < 4096, byte u j = 0) ∧
          (o.op = 6 → fails = false →
            ends (cePut 0 (natBe o.len (s.freeVal (8 * o.len)).toNat) { z with free := s.free + 1 }) 0))) ∧
      (let u := s.setRf stat SEC_STAT.RNG_FAIL 1
       next .rngTestFailure { u with sec := { s.sec with rngStarting := true } }) ∧
      next .rngStartupDone { s with sec := { s.sec with rngStarting := false } })

/-- An enabled tamper input at its active level shows TLEVEL; once it has held it for DEB µs, and has left it since
the last time, it violates, as does the enabled mesh's fault; a release clears its TLEVEL and re-arms it. Running, a
violation raises its source and takes its action; before the release the source waits, and in reset both wait. INT
does nothing more; the others relock debug, ending a halt of the Guide and a waiting access, and start an erase of
fleet slots, of all, or set DBG_DENY. An erase aborts an operation on a stored key with its buffer zeroed, abandons
installs with ROT_ABORT, enters the maintenance state and keeps the wider scope; its end empties every slot with GEN
kept, clears ROOT for ERASE_ALL and the staging area, clears the marker and leaves no licence valid. SEC_CTL.LOCK
stays set; REOPEN starts only while the verdict is valid. Rests on R105, R506, R515, R516, R517, R518, R519, R521. -/
def Obligations.ViolationsTakeTheirActionsAndErase : Prop :=
  ∀ (ball : BitVec 2) (level bad : Bool) (held : W32) (s : State),
    let next := fun (i : Instr) (t : State) => exec i s = .next t
    let stat := rSEC_STAT
    let rst := rSEC_ROT_STAT
    let ces := rSEC_CE_STAT
    let b := ball.toNat
    let viol := fun (n : Nat) (u : State) => u.setRf rSEC_VIOL ⟨n, n, .ro⟩ 1
    let source := fun (k : Nat) => if k ≤ 3 then 125 + k else if k = 4 then 129 else if k = 5 then 130 else 120
    let late := fun (p : Nat × Bool) (u : State) => { u with sec := { u.sec with lateAlarm := u.sec.lateAlarm ++ [p] } }
    let cfg := s.rb (rSEC_TAMP_CFG b) SEC_TAMP_CFG.EN
    let active := cfg = true ∧ level = s.rb (rSEC_TAMP_CFG b) SEC_TAMP_CFG.POL
    let fresh := b ∉ s.sec.debDown ∧ max 1 (s.rf (rSEC_TAMP_CFG b) SEC_TAMP_CFG.DEB) ≤ held.toNat
    (¬ active → next (.tamperInput ball level held) s) ∧
    (active → ¬ fresh → next (.tamperInput ball level held) (viol (16 + b) s)) ∧
    (active → fresh → next (.tamperInput ball level held) (violate b (viol (16 + b)
      { s with sec := { s.sec with debDown := s.sec.debDown ++ [b] } }))) ∧
    (∃ t, next (.tamperInputRelease ball) t ∧ t = { s with
        regs := t.regs
        sec := { s.sec with debDown := t.sec.debDown } } ∧
      regsBut [rSEC_VIOL] s t ∧ (∀ k < 64, t.rbit rSEC_VIOL k = (s.rbit rSEC_VIOL k && k != 16 + b)) ∧
      ∀ k, k ∈ t.sec.debDown ↔ k ∈ s.sec.debDown ∧ k ≠ b) ∧
    (s.rb rSEC_MESH SEC_MESH.EN = false → next .shieldMeshFault s) ∧
    (s.rb rSEC_MESH SEC_MESH.EN = true → next .shieldMeshFault (violate 4 s)) ∧
    (∀ k < 7,
      (s.rst.phase = .running → violate k s = alarmAction k (raise (source k) (viol k s))) ∧
      (s.rst.phase = .hostWait → violate k s = alarmAction k (late (k, true) (viol k s))) ∧
      (s.rst.phase = .inReset → violate k s = late (k, false) (viol k s)) ∧
      (let act := s.rf (rSEC_ALM k) SEC_ALM.ACTION
       let deny := s.sec.mram.dbgDeny
       (act = 0 → alarmAction k s = s) ∧
       (act ≠ 0 → ∃ u,
          u = { s with
            regs := u.regs
            sec := { s.sec with unlocked := false }
            gde := { s.gde with dbgHalted := false }
            jtag := { s.jtag with busy := none } } ∧
          regsBut [rSEC_DBG] s u ∧ u.rf rSEC_DBG SEC_DBG.STATE = (if deny then 2 else 0) ∧
          (act = 1 → alarmAction k s = startErase false u) ∧ (act = 2 → alarmAction k s = startErase true u) ∧
          (act = 3 → ∃ t, alarmAction k s = t ∧
            t = { u with regs := t.regs, sec := { u.sec with mram := { s.sec.mram with dbgDeny := true } } } ∧
            regsBut [rSEC_DBG] u t ∧ t.rf rSEC_DBG SEC_DBG.STATE = 2)))) ∧
    (∀ all, let t := startErase all s
      let aborts := s.sec.ce.any (·.stored) = true
      let gone := s.sec.keyOps.any KeyOp.installs = true
      let zeroed := List.range' (rSEC_CE_BUF 0) 4096
      t = { s with
        regs := t.regs
        gte := { s.gte with maint := true }
        sec := { s.sec with
          eraseMark := some ((s.sec.eraseMark.getD false) || all)
          ce := t.sec.ce
          keyOps := s.sec.keyOps.filter fun o => !o.installs } } ∧
      regsBut ([stat, rst, ces, rRST_BOOT_STAT, rGTE_STAT] ++ zeroed) s t ∧
      (∀ f ∈ [SEC_STAT.ERASING, SEC_STAT.KEYWR, SEC_STAT.MAINT_ERASE], t.rb stat f = true) ∧
      t.rb rRST_BOOT_STAT RST_BOOT_STAT.MAINT = true ∧ t.rb rGTE_STAT GTE_STAT.MAINT = true ∧
      (aborts → t.sec.ce = none ∧ t.rb ces SEC_CE_STAT.BUSY = false ∧ t.rf ces SEC_CE_STAT.RESULT = 4 ∧
        ∀ w < 1024, t.reg (rSEC_CE_BUF w) = 0) ∧
      (¬ aborts → t.sec.ce = s.sec.ce ∧ regsBut [stat, rst, rRST_BOOT_STAT, rGTE_STAT] s t) ∧
      (gone → t.rb rst SEC_ROT_STAT.BUSY = false ∧ t.rb rst SEC_ROT_STAT.ROT_ABORT = true ∧
        t.rf rst SEC_ROT_STAT.RESULT = 4) ∧
      (¬ gone → t.reg rst = s.reg rst)) ∧
    (∀ k f, (KeyOp.install k f).installs = true ∧ (KeyOp.retire k).installs = false) ∧
    (∀ l, (KeyOp.root l).installs = true) ∧ (∀ p v, (KeyOp.floor p v).installs = false) ∧ KeyOp.reopen.installs = false ∧
    (∀ all, awake s → s.sec.eraseMark = some all → ∃ t, next (.keystoreWriteDone bad) t ∧ finishErase s = t ∧
      t = { s with
        regs := t.regs
        sec := { s.sec with eraseMark := none, staged := FleetBank.blank, mram := t.sec.mram } } ∧ regsBut [stat] s t ∧
      t.rb stat SEC_STAT.ERASING = false ∧ t.rb stat SEC_STAT.KEYWR = !s.sec.keyOps.isEmpty ∧
      t.rb stat SEC_STAT.LIC_VALID = false ∧
      (let m := s.sec.mram
       let zero := List.replicate 32 (0 : Byte)
       let old := fun n => tget m.slots FleetSlot.blank n
       (∀ n < 4, tget t.sec.mram.slots FleetSlot.blank n =
         { FleetSlot.blank with gen := (old n).gen, bank := (old n).bank }) ∧
       (all = true → t.sec.mram = { m with
         slots := t.sec.mram.slots, rootBank := none, root0 := zero, root1 := zero }) ∧
       (all = false → t.sec.mram = { m with slots := t.sec.mram.slots }))) ∧
    (fwReaches s rSEC_CTL → next .secLock ((s.setRf rSEC_CTL SEC_CTL.LOCK 1).answer 0 0)) ∧
    (fwReaches s rSEC_DBG →
      (s.rb stat SEC_STAT.LIC_VALID = false → next .secReopen (s.answer 0 0)) ∧
      (s.rb stat SEC_STAT.LIC_VALID = true → next .secReopen (({ (s.setRf stat SEC_STAT.KEYWR 1) with
        sec := { s.sec with keyOps := s.sec.keyOps ++ [KeyOp.reopen] } }).answer 0 0)))

/-- Every instruction captures the debug state; all but BYPASS, IDCODE, CHAL and RESP shift out the bypass bit and do
nothing else unless UNLOCKED. CHAL opens an attempt with a fresh nonce or shifts zeros; RESP stores the first
response; the end of its verification unlocks with DBG_FAIL 0, or counts and, from 3 on, violates source 5. HALT,
RESUME and STEP act on a Guide that is released; a STEP takes an NMI or a dispatch first, runs one instruction and
halts again, or stays halted where none can issue. DBGMEM ignores GO while BUSY, ends a misaligned access with code 3
and one of a held Guide with 7, accesses the Guide's memories at once, waits for an entry, or makes the access under
identifier 0. Rests on R514, R520, R521, R535, R536, R538, R539, R540. -/
def Obligations.DebugPortUnlocksHaltsAndAccesses : Prop :=
  ∀ (balls shift : BitVec 666) (pub sig : List Byte) (dr : BitVec 100) (s : State),
    let next := fun (i : Instr) (t : State) => exec i s = .next t
    let state := s.rf rSEC_DBG SEC_DBG.STATE
    let load := fun (c : Nat) (l : List Byte) (u : State) =>
      { u with jtag := { u.jtag with ir := c, irOut := 1 + 4 * state, out := l } }
    let one := fun (x : Bool) => if x then 1 else 0
    let free := s.running = true ∧ s.held 16 = false
    let halted := fun (x : Bool) (u : State) => { u with gde := { u.gde with dbgHalted := x } }
    let quiet := s.rst.phase = .inReset
    next .tapReset { s with jtag := { s.jtag with ir := 1, out := [] } } ∧
    next .jtagIdcode (load 1 [0x47#8, 0x6B#8, 0x89#8, 0x14#8] s) ∧ next .jtagBypass (load 0xFF [0] s) ∧
    (state ≠ 1 → ∀ i c, (i, c) ∈ [(Instr.jtagExtest balls shift, 0), (.jtagSamplePreload balls shift, 2), (.jtagHighz, 4),
      (.jtagClamp, 5), (.dbgHalt, 0x30), (.dbgResume, 0x30), (.dbgStep, 0x30), (.dbgmemGo dr, 0x31)] →
      next i (load c [0] s)) ∧
    (state = 1 →
      (∃ l : List Byte, l.length = 84 ∧ (∀ j < 84, l.getD j 0 = (balls >>> (8 * j)).setWidth 8) ∧
        let scan := fun (c : Nat) => { load c l s with jtag := { (load c l s).jtag with cells := shift } }
        next (.jtagExtest balls shift) (scan 0) ∧ next (.jtagSamplePreload balls shift) (scan 2)) ∧
      next .jtagHighz (load 4 [0] s) ∧ next .jtagClamp (load 5 [0] s) ∧
      (let nmi := s.gde.nmiSignal || s.rb rGDE_STAT GDE_STAT.NMI_PEND
       let u := load 0x30 [BitVec.ofNat 8
         (one s.gde.dbgHalted + 2 * one nmi + 16 * s.rf rGDE_STAT GDE_STAT.BANK)] s
       (¬ free → ∀ i ∈ [.dbgHalt, .dbgResume, .dbgStep], next i u) ∧
       (free → next .dbgHalt (halted true u) ∧ next .dbgResume (halted false u) ∧
         (s.gde.dbgHalted = false → next .dbgStep u) ∧
         (s.gde.dbgHalted = true →
           let t := taskDispatch (nmiEnter (halted false u))
           (guideIssues t = false → next .dbgStep u) ∧
           (guideIssues t = true → ∀ w, guideRun (instrAt t.gde.imem (guidePc t).toNat) t = .next w →
             let stays := w.running = true ∧ w.held 16 = false ∧ w.rf rSEC_DBG SEC_DBG.STATE = 1
             (stays → next .dbgStep (halted true w)) ∧ (¬ stays → next .dbgStep w))))) ∧
      (let j := s.jtag
       let v := j.memData.toNat + 2 ^ 64 * j.memCode + 2 ^ 98 * one j.busy.isSome + 2 ^ 99 * one j.memDone
       let u := load 0x31 ((List.range 13).map fun k => BitVec.ofNat 8 (v / 256 ^ k)) s
       let data : W64 := dr.setWidth 64
       let a := (dr.extractLsb' 64 32).toNat
       let n := 2 ^ (dr.extractLsb' 96 2).toNat
       let wr := dr.getLsbD 98
       let go := dr.getLsbD 99 = true ∧ j.busy = none
       let ends := fun (d : W64) (c : Nat) (w : State) => { w with jtag := { w.jtag with
         busy := none, memData := if wr then data else d, memCode := c, memDone := true } }
       (¬ go → next (.dbgmemGo dr) u) ∧
       (go → a % n ≠ 0 → next (.dbgmemGo dr) (ends 0 3 u)) ∧
       (go → a % n = 0 →
         (¬ free → next (.dbgmemGo dr) (ends 0 7 u)) ∧
         (free → guideOwn a → wr = false → ∃ d, next (.dbgmemGo dr) (ends d 0 u) ∧
           ∀ k < 8, (d >>> (8 * k)).setWidth 8 = if k < n then guideByte s (a + k) else 0) ∧
         (free → guideOwn a → wr = true → ∃ m, next (.dbgmemGo dr) (ends 0 0 m) ∧
           m = { u with gde := { u.gde with imem := m.gde.imem, dmem := m.gde.dmem } } ∧
           ∀ x, guideOwn x → guideByte m x =
             if a ≤ x ∧ x < a + n then (data >>> (8 * (x - a))).setWidth 8 else guideByte s x) ∧
         (free → ¬ guideOwn a → guideFull s = true → next (.dbgmemGo dr)
           ({ u with jtag := { u.jtag with busy := some dr, memDone := false } }.bumpSat (rBMX_QSTALL 0) BMX_QSTALL.CNT)) ∧
         (free → ¬ guideOwn a → guideFull s = false → let r := busAccess 0 a n wr data [] u
           next (.dbgmemGo dr) (ends r.1.1 r.1.2 r.2))))) ∧
    (let fresh := natBe 16 (s.freeVal 128).toNat
     let refused := quiet ∨ (∃ f, s.sec.lastFail = some f ∧ (s.reg rPWR_UPTIME).toNat < f + 1000000) ∨
       s.domOn 134 = false ∨ s.rb rSEC_STAT SEC_STAT.RNG_FAIL = true ∨ s.sec.rngStarting = true
     (refused → next .jtagChal (load 0x20 (List.replicate 16 0) s)) ∧
     (¬ refused → next .jtagChal
       (load 0x20 fresh { s with free := s.free + 1, sec := { s.sec with nonce := some fresh } }))) ∧
    (let takes := s.rst.phase ≠ .inReset ∧ s.sec.nonce ≠ none ∧ s.sec.response = none
     (takes → next (.jtagResp pub sig) (load 0x21 [] { s with sec := { s.sec with response := some (pub, sig) } })) ∧
     (¬ takes → next (.jtagResp pub sig) (load 0x21 [] s))) ∧
    (s.sec.nonce = none ∨ s.sec.response = none → next .debugVerifyDone s) ∧
    (∀ nonce pk sg, s.sec.nonce = some nonce → s.sec.response = some (pk, sg) →
      let m := s.sec.mram
      let right := !m.dbgDeny && sha256 pk == s.sec.otp.dbgHash &&
        ecdsaVerify pk sg (sha256 (s.sec.otp.uid ++ nonce))
      let count := min 255 (m.dbgFail + 1)
      if right then ∃ t, next .debugVerifyDone t ∧ regsBut [rSEC_DBG] s t ∧ t.rf rSEC_DBG SEC_DBG.STATE = 1 ∧
        t.rf rSEC_DBG SEC_DBG.FAIL = 0 ∧ t = { s with
          regs := t.regs
          sec := { s.sec with nonce := none, response := none, unlocked := true, mram := { m with dbgFail := 0 } } }
      else ∃ t, regsBut [rSEC_DBG] s t ∧ t.rf rSEC_DBG SEC_DBG.FAIL = count ∧
        t.rf rSEC_DBG SEC_DBG.STATE = (if m.dbgDeny then 2 else if s.sec.unlocked then 1 else 0) ∧
        t = { s with
          regs := t.regs
          sec := { s.sec with
            nonce := none
            response := none
            lastFail := some (s.reg rPWR_UPTIME).toNat
            mram := { m with dbgFail := count } } } ∧
        (count < 3 → next .debugVerifyDone t) ∧ (3 ≤ count → next .debugVerifyDone (violate 5 t)))
end

