-- ==== Sys2Proof/Laws/Tab.lean ====
section
/-! SUPPORT. The laws of sparse tables: a read after a write, and that every operation keeps the canonical form. -/

namespace Sys2Proof.Machine

open Sys2Proof

variable {α : Type}

theorem tget_tdel_same (t : Tab α) (d : α) (k : Nat) : tget (tdel t k) d k = d := by
  induction t with
  | nil => rfl
  | cons p r ih =>
    obtain ⟨i, v⟩ := p
    by_cases h : i = k <;> simp [tdel, tget, h, ih]

theorem tget_tdel_ne (t : Tab α) (d : α) {k j : Nat} (h : j ≠ k) : tget (tdel t k) d j = tget t d j := by
  induction t with
  | nil => rfl
  | cons p r ih =>
    obtain ⟨i, v⟩ := p
    by_cases hi : i = k
    · subst hi; simp [tdel, tget, ih, Ne.symm h]
    · by_cases hj : i = j
      · subst hj; simp [tdel, tget, hi]
      · simp [tdel, tget, hi, hj, ih]

theorem tget_tins_same (t : Tab α) (d : α) (k : Nat) (v : α) (h : ∀ p ∈ t, p.1 ≠ k) : tget (tins t k v) d k = v := by
  induction t with
  | nil => simp [tins, tget]
  | cons p r ih =>
    obtain ⟨i, w⟩ := p
    have hi : i ≠ k := h (i, w) (by simp)
    have hr := ih fun q hq => h q (by simp [hq])
    by_cases hk : k < i <;> simp [tins, tget, hk, hi, hr]

theorem tget_tins_ne (t : Tab α) (d : α) {k j : Nat} (v : α) (h : j ≠ k) : tget (tins t k v) d j = tget t d j := by
  induction t with
  | nil => simp [tins, tget, Ne.symm h]
  | cons p r ih =>
    obtain ⟨i, w⟩ := p
    by_cases hj : i = j
    · subst hj; by_cases hk : k < i <;> simp [tins, tget, hk, Ne.symm h]
    · by_cases hk : k < i <;> simp [tins, tget, hk, hj, ih, Ne.symm h]

theorem mem_tdel {t : Tab α} {k : Nat} {p : Nat × α} (h : p ∈ tdel t k) : p ∈ t ∧ p.1 ≠ k := by
  induction t with
  | nil => simp [tdel] at h
  | cons q r ih =>
    obtain ⟨i, w⟩ := q
    by_cases hi : i = k
    · simp [tdel, hi] at h; exact ⟨by simp [ih h], (ih h).2⟩
    · simp [tdel, hi] at h
      rcases h with rfl | h
      · exact ⟨by simp, hi⟩
      · exact ⟨by simp [ih h], (ih h).2⟩

/-- A read at the index written gives the value written. -/
@[simp] theorem tget_tset_same [DecidableEq α] (t : Tab α) (d : α) (k : Nat) (v : α) : tget (tset t d k v) d k = v := by
  unfold tset
  split
  · rename_i h; rw [tget_tdel_same, h]
  · exact tget_tins_same _ _ _ _ fun p hp => (mem_tdel hp).2

/-- A write leaves every other index alone. -/
theorem tget_tset_ne [DecidableEq α] (t : Tab α) (d e : α) {k j : Nat} (v : α) (h : j ≠ k) :
    tget (tset t d k v) e j = tget t e j := by
  unfold tset
  split
  · exact tget_tdel_ne _ _ h
  · rw [tget_tins_ne _ _ _ h, tget_tdel_ne _ _ h]

/-- A read after a write, whichever the indices. -/
theorem tget_tset [DecidableEq α] (t : Tab α) (d : α) (k j : Nat) (v : α) :
    tget (tset t d k v) d j = if j = k then v else tget t d j := by
  by_cases h : j = k
  · subst h; simp
  · simp [h, tget_tset_ne t d d v h]

theorem mem_tins {t : Tab α} {k : Nat} {v : α} {p : Nat × α} (h : p ∈ tins t k v) : p = (k, v) ∨ p ∈ t := by
  induction t with
  | nil => simp [tins] at h; exact .inl h
  | cons q r ih =>
    obtain ⟨i, w⟩ := q
    by_cases hk : k < i
    · simp [tins, hk] at h; simpa using h
    · simp [tins, hk] at h
      rcases h with rfl | h
      · exact .inr (by simp)
      · rcases ih h with h | h
        · exact .inl h
        · exact .inr (by simp [h])

theorem pairwise_tdel {t : Tab α} (k : Nat) (h : t.Pairwise fun p q => p.1 < q.1) :
    (tdel t k).Pairwise fun p q => p.1 < q.1 := by
  induction t with
  | nil => simp [tdel]
  | cons p r ih =>
    obtain ⟨i, v⟩ := p
    rw [List.pairwise_cons] at h
    by_cases hi : i = k
    · simpa [tdel, hi] using ih h.2
    · simp only [tdel, hi, if_false, List.pairwise_cons]
      exact ⟨fun q hq => h.1 q (mem_tdel hq).1, ih h.2⟩

theorem pairwise_tins {t : Tab α} (k : Nat) (v : α) (h : t.Pairwise fun p q => p.1 < q.1) (hk : ∀ p ∈ t, p.1 ≠ k) :
    (tins t k v).Pairwise fun p q => p.1 < q.1 := by
  induction t with
  | nil => simp [tins]
  | cons p r ih =>
    obtain ⟨i, w⟩ := p
    have hi : i ≠ k := hk (i, w) (by simp)
    have hr := ih (List.pairwise_cons.1 h).2 fun q hq => hk q (by simp [hq])
    by_cases hlt : k < i
    · simp only [tins, hlt, if_true, List.pairwise_cons]
      refine ⟨fun q hq => ?_, List.pairwise_cons.1 h⟩
      rcases List.mem_cons.1 hq with rfl | hq
      · exact hlt
      · exact Nat.lt_trans hlt ((List.pairwise_cons.1 h).1 q hq)
    · simp only [tins, hlt, if_false, List.pairwise_cons]
      refine ⟨fun q hq => ?_, hr⟩
      rcases mem_tins hq with rfl | hq
      · exact Nat.lt_of_le_of_ne (Nat.le_of_not_lt hlt) hi
      · exact (List.pairwise_cons.1 h).1 q hq

/-- A write keeps the canonical form. -/
theorem wf_tset [DecidableEq α] {D : Nat → α} {t : Tab α} (k : Nat) (v : α) (h : Tab.wf D t = true) :
    Tab.wf D (tset t (D k) k v) = true := by
  simp only [Tab.wf, Bool.and_eq_true, decide_eq_true_eq, List.all_eq_true, bne_iff_ne] at h ⊢
  unfold tset
  split
  · exact ⟨pairwise_tdel k h.1, fun p hp => h.2 p (mem_tdel hp).1⟩
  · rename_i hv
    refine ⟨pairwise_tins k v (pairwise_tdel k h.1) fun p hp => (mem_tdel hp).2, fun p hp => ?_⟩
    rcases mem_tins hp with rfl | hp
    · exact hv
    · exact h.2 p (mem_tdel hp).1

/-- Clearing a range keeps the canonical form. -/
theorem wf_tclear [DecidableEq α] {D : Nat → α} {t : Tab α} (lo hi : Nat) (h : Tab.wf D t = true) :
    Tab.wf D (tclear t lo hi) = true := by
  simp only [Tab.wf, Bool.and_eq_true, decide_eq_true_eq, List.all_eq_true, bne_iff_ne] at h ⊢
  exact ⟨h.1.filter _, fun p hp => h.2 p (List.mem_filter.1 hp).1⟩

theorem wf_nil [DecidableEq α] (D : Nat → α) : Tab.wf D ([] : Tab α) = true := rfl

end Sys2Proof.Machine
end

