-- ==== Sys2Proof/Laws/State.lean ====
section
/-! SUPPORT. The state after a named update, field by field, and a register after a write. -/

namespace Sys2Proof.Machine

open Sys2Proof

@[simp] theorem setReg_pending (s : State) (a : Nat) (v : W64) : (s.setReg a v).pending = s.pending := rfl
@[simp] theorem setReg_free (s : State) (a : Nat) (v : W64) : (s.setReg a v).free = s.free := rfl
@[simp] theorem setReg_resp (s : State) (a : Nat) (v : W64) : (s.setReg a v).resp = s.resp := rfl
@[simp] theorem setReg_rst (s : State) (a : Nat) (v : W64) : (s.setReg a v).rst = s.rst := rfl
@[simp] theorem setReg_smp (s : State) (a : Nat) (v : W64) : (s.setReg a v).smp = s.smp := rfl
@[simp] theorem setReg_gde (s : State) (a : Nat) (v : W64) : (s.setReg a v).gde = s.gde := rfl
@[simp] theorem setReg_tim (s : State) (a : Nat) (v : W64) : (s.setReg a v).tim = s.tim := rfl
@[simp] theorem setReg_cyc (s : State) (a : Nat) (v : W64) : (s.setReg a v).cyc = s.cyc := rfl
@[simp] theorem setReg_pwr (s : State) (a : Nat) (v : W64) : (s.setReg a v).pwr = s.pwr := rfl
@[simp] theorem setReg_switched (s : State) (a : Nat) (v : W64) : (s.setReg a v).switched = s.switched := rfl
@[simp] theorem setReg_wtb (s : State) (a : Nat) (v : W64) : (s.setReg a v).wtb = s.wtb := rfl
@[simp] theorem setReg_cav (s : State) (a : Nat) (v : W64) : (s.setReg a v).cav = s.cav := rfl
@[simp] theorem setReg_hwn (s : State) (a : Nat) (v : W64) : (s.setReg a v).hwn = s.hwn := rfl
@[simp] theorem setReg_sph (s : State) (a : Nat) (v : W64) : (s.setReg a v).sph = s.sph := rfl
@[simp] theorem setReg_txns (s : State) (a : Nat) (v : W64) : (s.setReg a v).txns = s.txns := rfl
@[simp] theorem setReg_mtx (s : State) (a : Nat) (v : W64) : (s.setReg a v).mtx = s.mtx := rfl
@[simp] theorem setReg_chm (s : State) (a : Nat) (v : W64) : (s.setReg a v).chm = s.chm := rfl
@[simp] theorem setReg_cfl (s : State) (a : Nat) (v : W64) : (s.setReg a v).cfl = s.cfl := rfl
@[simp] theorem setReg_flw (s : State) (a : Nat) (v : W64) : (s.setReg a v).flw = s.flw := rfl
@[simp] theorem setReg_sap (s : State) (a : Nat) (v : W64) : (s.setReg a v).sap = s.sap := rfl
@[simp] theorem setReg_dmx (s : State) (a : Nat) (v : W64) : (s.setReg a v).dmx = s.dmx := rfl
@[simp] theorem setReg_gal (s : State) (a : Nat) (v : W64) : (s.setReg a v).gal = s.gal := rfl
@[simp] theorem setReg_dtm (s : State) (a : Nat) (v : W64) : (s.setReg a v).dtm = s.dtm := rfl
@[simp] theorem setReg_cle (s : State) (a : Nat) (v : W64) : (s.setReg a v).cle = s.cle := rfl
@[simp] theorem setReg_echo (s : State) (a : Nat) (v : W64) : (s.setReg a v).echo = s.echo := rfl
@[simp] theorem setReg_pwm (s : State) (a : Nat) (v : W64) : (s.setReg a v).pwm = s.pwm := rfl
@[simp] theorem setReg_ltn (s : State) (a : Nat) (v : W64) : (s.setReg a v).ltn = s.ltn := rfl
@[simp] theorem setReg_cart (s : State) (a : Nat) (v : W64) : (s.setReg a v).cart = s.cart := rfl
@[simp] theorem setReg_tw (s : State) (a : Nat) (v : W64) : (s.setReg a v).tw = s.tw := rfl
@[simp] theorem setReg_adc (s : State) (a : Nat) (v : W64) : (s.setReg a v).adc = s.adc := rfl
@[simp] theorem setReg_gte (s : State) (a : Nat) (v : W64) : (s.setReg a v).gte = s.gte := rfl
@[simp] theorem setReg_sec (s : State) (a : Nat) (v : W64) : (s.setReg a v).sec = s.sec := rfl
@[simp] theorem setReg_jtag (s : State) (a : Nat) (v : W64) : (s.setReg a v).jtag = s.jtag := rfl

@[simp] theorem setRf_pending (s : State) (a : Nat) (f : Fld) (x : Nat) : (s.setRf a f x).pending = s.pending := rfl
@[simp] theorem setRf_free (s : State) (a : Nat) (f : Fld) (x : Nat) : (s.setRf a f x).free = s.free := rfl
@[simp] theorem setRf_resp (s : State) (a : Nat) (f : Fld) (x : Nat) : (s.setRf a f x).resp = s.resp := rfl
@[simp] theorem setRf_rst (s : State) (a : Nat) (f : Fld) (x : Nat) : (s.setRf a f x).rst = s.rst := rfl
@[simp] theorem setRf_smp (s : State) (a : Nat) (f : Fld) (x : Nat) : (s.setRf a f x).smp = s.smp := rfl
@[simp] theorem setRf_gde (s : State) (a : Nat) (f : Fld) (x : Nat) : (s.setRf a f x).gde = s.gde := rfl
@[simp] theorem setRf_tim (s : State) (a : Nat) (f : Fld) (x : Nat) : (s.setRf a f x).tim = s.tim := rfl
@[simp] theorem setRf_cyc (s : State) (a : Nat) (f : Fld) (x : Nat) : (s.setRf a f x).cyc = s.cyc := rfl
@[simp] theorem setRf_pwr (s : State) (a : Nat) (f : Fld) (x : Nat) : (s.setRf a f x).pwr = s.pwr := rfl
@[simp] theorem setRf_switched (s : State) (a : Nat) (f : Fld) (x : Nat) : (s.setRf a f x).switched = s.switched := rfl
@[simp] theorem setRf_wtb (s : State) (a : Nat) (f : Fld) (x : Nat) : (s.setRf a f x).wtb = s.wtb := rfl
@[simp] theorem setRf_cav (s : State) (a : Nat) (f : Fld) (x : Nat) : (s.setRf a f x).cav = s.cav := rfl
@[simp] theorem setRf_hwn (s : State) (a : Nat) (f : Fld) (x : Nat) : (s.setRf a f x).hwn = s.hwn := rfl
@[simp] theorem setRf_sph (s : State) (a : Nat) (f : Fld) (x : Nat) : (s.setRf a f x).sph = s.sph := rfl
@[simp] theorem setRf_txns (s : State) (a : Nat) (f : Fld) (x : Nat) : (s.setRf a f x).txns = s.txns := rfl
@[simp] theorem setRf_mtx (s : State) (a : Nat) (f : Fld) (x : Nat) : (s.setRf a f x).mtx = s.mtx := rfl
@[simp] theorem setRf_chm (s : State) (a : Nat) (f : Fld) (x : Nat) : (s.setRf a f x).chm = s.chm := rfl
@[simp] theorem setRf_cfl (s : State) (a : Nat) (f : Fld) (x : Nat) : (s.setRf a f x).cfl = s.cfl := rfl
@[simp] theorem setRf_flw (s : State) (a : Nat) (f : Fld) (x : Nat) : (s.setRf a f x).flw = s.flw := rfl
@[simp] theorem setRf_sap (s : State) (a : Nat) (f : Fld) (x : Nat) : (s.setRf a f x).sap = s.sap := rfl
@[simp] theorem setRf_dmx (s : State) (a : Nat) (f : Fld) (x : Nat) : (s.setRf a f x).dmx = s.dmx := rfl
@[simp] theorem setRf_gal (s : State) (a : Nat) (f : Fld) (x : Nat) : (s.setRf a f x).gal = s.gal := rfl
@[simp] theorem setRf_dtm (s : State) (a : Nat) (f : Fld) (x : Nat) : (s.setRf a f x).dtm = s.dtm := rfl
@[simp] theorem setRf_cle (s : State) (a : Nat) (f : Fld) (x : Nat) : (s.setRf a f x).cle = s.cle := rfl
@[simp] theorem setRf_echo (s : State) (a : Nat) (f : Fld) (x : Nat) : (s.setRf a f x).echo = s.echo := rfl
@[simp] theorem setRf_pwm (s : State) (a : Nat) (f : Fld) (x : Nat) : (s.setRf a f x).pwm = s.pwm := rfl
@[simp] theorem setRf_ltn (s : State) (a : Nat) (f : Fld) (x : Nat) : (s.setRf a f x).ltn = s.ltn := rfl
@[simp] theorem setRf_cart (s : State) (a : Nat) (f : Fld) (x : Nat) : (s.setRf a f x).cart = s.cart := rfl
@[simp] theorem setRf_tw (s : State) (a : Nat) (f : Fld) (x : Nat) : (s.setRf a f x).tw = s.tw := rfl
@[simp] theorem setRf_adc (s : State) (a : Nat) (f : Fld) (x : Nat) : (s.setRf a f x).adc = s.adc := rfl
@[simp] theorem setRf_gte (s : State) (a : Nat) (f : Fld) (x : Nat) : (s.setRf a f x).gte = s.gte := rfl
@[simp] theorem setRf_sec (s : State) (a : Nat) (f : Fld) (x : Nat) : (s.setRf a f x).sec = s.sec := rfl
@[simp] theorem setRf_jtag (s : State) (a : Nat) (f : Fld) (x : Nat) : (s.setRf a f x).jtag = s.jtag := rfl

@[simp] theorem setRb_pending (s : State) (a : Nat) (f : Fld) (b : Bool) : (s.setRb a f b).pending = s.pending := rfl
@[simp] theorem setRb_free (s : State) (a : Nat) (f : Fld) (b : Bool) : (s.setRb a f b).free = s.free := rfl
@[simp] theorem setRb_resp (s : State) (a : Nat) (f : Fld) (b : Bool) : (s.setRb a f b).resp = s.resp := rfl
@[simp] theorem setRb_rst (s : State) (a : Nat) (f : Fld) (b : Bool) : (s.setRb a f b).rst = s.rst := rfl
@[simp] theorem setRb_smp (s : State) (a : Nat) (f : Fld) (b : Bool) : (s.setRb a f b).smp = s.smp := rfl
@[simp] theorem setRb_gde (s : State) (a : Nat) (f : Fld) (b : Bool) : (s.setRb a f b).gde = s.gde := rfl
@[simp] theorem setRb_tim (s : State) (a : Nat) (f : Fld) (b : Bool) : (s.setRb a f b).tim = s.tim := rfl
@[simp] theorem setRb_cyc (s : State) (a : Nat) (f : Fld) (b : Bool) : (s.setRb a f b).cyc = s.cyc := rfl
@[simp] theorem setRb_pwr (s : State) (a : Nat) (f : Fld) (b : Bool) : (s.setRb a f b).pwr = s.pwr := rfl
@[simp] theorem setRb_switched (s : State) (a : Nat) (f : Fld) (b : Bool) : (s.setRb a f b).switched = s.switched := rfl
@[simp] theorem setRb_wtb (s : State) (a : Nat) (f : Fld) (b : Bool) : (s.setRb a f b).wtb = s.wtb := rfl
@[simp] theorem setRb_cav (s : State) (a : Nat) (f : Fld) (b : Bool) : (s.setRb a f b).cav = s.cav := rfl
@[simp] theorem setRb_hwn (s : State) (a : Nat) (f : Fld) (b : Bool) : (s.setRb a f b).hwn = s.hwn := rfl
@[simp] theorem setRb_sph (s : State) (a : Nat) (f : Fld) (b : Bool) : (s.setRb a f b).sph = s.sph := rfl
@[simp] theorem setRb_txns (s : State) (a : Nat) (f : Fld) (b : Bool) : (s.setRb a f b).txns = s.txns := rfl
@[simp] theorem setRb_mtx (s : State) (a : Nat) (f : Fld) (b : Bool) : (s.setRb a f b).mtx = s.mtx := rfl
@[simp] theorem setRb_chm (s : State) (a : Nat) (f : Fld) (b : Bool) : (s.setRb a f b).chm = s.chm := rfl
@[simp] theorem setRb_cfl (s : State) (a : Nat) (f : Fld) (b : Bool) : (s.setRb a f b).cfl = s.cfl := rfl
@[simp] theorem setRb_flw (s : State) (a : Nat) (f : Fld) (b : Bool) : (s.setRb a f b).flw = s.flw := rfl
@[simp] theorem setRb_sap (s : State) (a : Nat) (f : Fld) (b : Bool) : (s.setRb a f b).sap = s.sap := rfl
@[simp] theorem setRb_dmx (s : State) (a : Nat) (f : Fld) (b : Bool) : (s.setRb a f b).dmx = s.dmx := rfl
@[simp] theorem setRb_gal (s : State) (a : Nat) (f : Fld) (b : Bool) : (s.setRb a f b).gal = s.gal := rfl
@[simp] theorem setRb_dtm (s : State) (a : Nat) (f : Fld) (b : Bool) : (s.setRb a f b).dtm = s.dtm := rfl
@[simp] theorem setRb_cle (s : State) (a : Nat) (f : Fld) (b : Bool) : (s.setRb a f b).cle = s.cle := rfl
@[simp] theorem setRb_echo (s : State) (a : Nat) (f : Fld) (b : Bool) : (s.setRb a f b).echo = s.echo := rfl
@[simp] theorem setRb_pwm (s : State) (a : Nat) (f : Fld) (b : Bool) : (s.setRb a f b).pwm = s.pwm := rfl
@[simp] theorem setRb_ltn (s : State) (a : Nat) (f : Fld) (b : Bool) : (s.setRb a f b).ltn = s.ltn := rfl
@[simp] theorem setRb_cart (s : State) (a : Nat) (f : Fld) (b : Bool) : (s.setRb a f b).cart = s.cart := rfl
@[simp] theorem setRb_tw (s : State) (a : Nat) (f : Fld) (b : Bool) : (s.setRb a f b).tw = s.tw := rfl
@[simp] theorem setRb_adc (s : State) (a : Nat) (f : Fld) (b : Bool) : (s.setRb a f b).adc = s.adc := rfl
@[simp] theorem setRb_gte (s : State) (a : Nat) (f : Fld) (b : Bool) : (s.setRb a f b).gte = s.gte := rfl
@[simp] theorem setRb_sec (s : State) (a : Nat) (f : Fld) (b : Bool) : (s.setRb a f b).sec = s.sec := rfl
@[simp] theorem setRb_jtag (s : State) (a : Nat) (f : Fld) (b : Bool) : (s.setRb a f b).jtag = s.jtag := rfl

@[simp] theorem setBit_pending (s : State) (a n : Nat) (b : Bool) : (s.setBit a n b).pending = s.pending := rfl
@[simp] theorem setBit_free (s : State) (a n : Nat) (b : Bool) : (s.setBit a n b).free = s.free := rfl
@[simp] theorem setBit_resp (s : State) (a n : Nat) (b : Bool) : (s.setBit a n b).resp = s.resp := rfl
@[simp] theorem setBit_rst (s : State) (a n : Nat) (b : Bool) : (s.setBit a n b).rst = s.rst := rfl
@[simp] theorem setBit_smp (s : State) (a n : Nat) (b : Bool) : (s.setBit a n b).smp = s.smp := rfl
@[simp] theorem setBit_gde (s : State) (a n : Nat) (b : Bool) : (s.setBit a n b).gde = s.gde := rfl
@[simp] theorem setBit_tim (s : State) (a n : Nat) (b : Bool) : (s.setBit a n b).tim = s.tim := rfl
@[simp] theorem setBit_cyc (s : State) (a n : Nat) (b : Bool) : (s.setBit a n b).cyc = s.cyc := rfl
@[simp] theorem setBit_pwr (s : State) (a n : Nat) (b : Bool) : (s.setBit a n b).pwr = s.pwr := rfl
@[simp] theorem setBit_switched (s : State) (a n : Nat) (b : Bool) : (s.setBit a n b).switched = s.switched := rfl
@[simp] theorem setBit_wtb (s : State) (a n : Nat) (b : Bool) : (s.setBit a n b).wtb = s.wtb := rfl
@[simp] theorem setBit_cav (s : State) (a n : Nat) (b : Bool) : (s.setBit a n b).cav = s.cav := rfl
@[simp] theorem setBit_hwn (s : State) (a n : Nat) (b : Bool) : (s.setBit a n b).hwn = s.hwn := rfl
@[simp] theorem setBit_sph (s : State) (a n : Nat) (b : Bool) : (s.setBit a n b).sph = s.sph := rfl
@[simp] theorem setBit_txns (s : State) (a n : Nat) (b : Bool) : (s.setBit a n b).txns = s.txns := rfl
@[simp] theorem setBit_mtx (s : State) (a n : Nat) (b : Bool) : (s.setBit a n b).mtx = s.mtx := rfl
@[simp] theorem setBit_chm (s : State) (a n : Nat) (b : Bool) : (s.setBit a n b).chm = s.chm := rfl
@[simp] theorem setBit_cfl (s : State) (a n : Nat) (b : Bool) : (s.setBit a n b).cfl = s.cfl := rfl
@[simp] theorem setBit_flw (s : State) (a n : Nat) (b : Bool) : (s.setBit a n b).flw = s.flw := rfl
@[simp] theorem setBit_sap (s : State) (a n : Nat) (b : Bool) : (s.setBit a n b).sap = s.sap := rfl
@[simp] theorem setBit_dmx (s : State) (a n : Nat) (b : Bool) : (s.setBit a n b).dmx = s.dmx := rfl
@[simp] theorem setBit_gal (s : State) (a n : Nat) (b : Bool) : (s.setBit a n b).gal = s.gal := rfl
@[simp] theorem setBit_dtm (s : State) (a n : Nat) (b : Bool) : (s.setBit a n b).dtm = s.dtm := rfl
@[simp] theorem setBit_cle (s : State) (a n : Nat) (b : Bool) : (s.setBit a n b).cle = s.cle := rfl
@[simp] theorem setBit_echo (s : State) (a n : Nat) (b : Bool) : (s.setBit a n b).echo = s.echo := rfl
@[simp] theorem setBit_pwm (s : State) (a n : Nat) (b : Bool) : (s.setBit a n b).pwm = s.pwm := rfl
@[simp] theorem setBit_ltn (s : State) (a n : Nat) (b : Bool) : (s.setBit a n b).ltn = s.ltn := rfl
@[simp] theorem setBit_cart (s : State) (a n : Nat) (b : Bool) : (s.setBit a n b).cart = s.cart := rfl
@[simp] theorem setBit_tw (s : State) (a n : Nat) (b : Bool) : (s.setBit a n b).tw = s.tw := rfl
@[simp] theorem setBit_adc (s : State) (a n : Nat) (b : Bool) : (s.setBit a n b).adc = s.adc := rfl
@[simp] theorem setBit_gte (s : State) (a n : Nat) (b : Bool) : (s.setBit a n b).gte = s.gte := rfl
@[simp] theorem setBit_sec (s : State) (a n : Nat) (b : Bool) : (s.setBit a n b).sec = s.sec := rfl
@[simp] theorem setBit_jtag (s : State) (a n : Nat) (b : Bool) : (s.setBit a n b).jtag = s.jtag := rfl

@[simp] theorem resetRegs_pending (s : State) (lo hi : Nat) : (s.resetRegs lo hi).pending = s.pending := rfl
@[simp] theorem resetRegs_free (s : State) (lo hi : Nat) : (s.resetRegs lo hi).free = s.free := rfl
@[simp] theorem resetRegs_resp (s : State) (lo hi : Nat) : (s.resetRegs lo hi).resp = s.resp := rfl
@[simp] theorem resetRegs_rst (s : State) (lo hi : Nat) : (s.resetRegs lo hi).rst = s.rst := rfl
@[simp] theorem resetRegs_smp (s : State) (lo hi : Nat) : (s.resetRegs lo hi).smp = s.smp := rfl
@[simp] theorem resetRegs_gde (s : State) (lo hi : Nat) : (s.resetRegs lo hi).gde = s.gde := rfl
@[simp] theorem resetRegs_tim (s : State) (lo hi : Nat) : (s.resetRegs lo hi).tim = s.tim := rfl
@[simp] theorem resetRegs_cyc (s : State) (lo hi : Nat) : (s.resetRegs lo hi).cyc = s.cyc := rfl
@[simp] theorem resetRegs_pwr (s : State) (lo hi : Nat) : (s.resetRegs lo hi).pwr = s.pwr := rfl
@[simp] theorem resetRegs_switched (s : State) (lo hi : Nat) : (s.resetRegs lo hi).switched = s.switched := rfl
@[simp] theorem resetRegs_wtb (s : State) (lo hi : Nat) : (s.resetRegs lo hi).wtb = s.wtb := rfl
@[simp] theorem resetRegs_cav (s : State) (lo hi : Nat) : (s.resetRegs lo hi).cav = s.cav := rfl
@[simp] theorem resetRegs_hwn (s : State) (lo hi : Nat) : (s.resetRegs lo hi).hwn = s.hwn := rfl
@[simp] theorem resetRegs_sph (s : State) (lo hi : Nat) : (s.resetRegs lo hi).sph = s.sph := rfl
@[simp] theorem resetRegs_txns (s : State) (lo hi : Nat) : (s.resetRegs lo hi).txns = s.txns := rfl
@[simp] theorem resetRegs_mtx (s : State) (lo hi : Nat) : (s.resetRegs lo hi).mtx = s.mtx := rfl
@[simp] theorem resetRegs_chm (s : State) (lo hi : Nat) : (s.resetRegs lo hi).chm = s.chm := rfl
@[simp] theorem resetRegs_cfl (s : State) (lo hi : Nat) : (s.resetRegs lo hi).cfl = s.cfl := rfl
@[simp] theorem resetRegs_flw (s : State) (lo hi : Nat) : (s.resetRegs lo hi).flw = s.flw := rfl
@[simp] theorem resetRegs_sap (s : State) (lo hi : Nat) : (s.resetRegs lo hi).sap = s.sap := rfl
@[simp] theorem resetRegs_dmx (s : State) (lo hi : Nat) : (s.resetRegs lo hi).dmx = s.dmx := rfl
@[simp] theorem resetRegs_gal (s : State) (lo hi : Nat) : (s.resetRegs lo hi).gal = s.gal := rfl
@[simp] theorem resetRegs_dtm (s : State) (lo hi : Nat) : (s.resetRegs lo hi).dtm = s.dtm := rfl
@[simp] theorem resetRegs_cle (s : State) (lo hi : Nat) : (s.resetRegs lo hi).cle = s.cle := rfl
@[simp] theorem resetRegs_echo (s : State) (lo hi : Nat) : (s.resetRegs lo hi).echo = s.echo := rfl
@[simp] theorem resetRegs_pwm (s : State) (lo hi : Nat) : (s.resetRegs lo hi).pwm = s.pwm := rfl
@[simp] theorem resetRegs_ltn (s : State) (lo hi : Nat) : (s.resetRegs lo hi).ltn = s.ltn := rfl
@[simp] theorem resetRegs_cart (s : State) (lo hi : Nat) : (s.resetRegs lo hi).cart = s.cart := rfl
@[simp] theorem resetRegs_tw (s : State) (lo hi : Nat) : (s.resetRegs lo hi).tw = s.tw := rfl
@[simp] theorem resetRegs_adc (s : State) (lo hi : Nat) : (s.resetRegs lo hi).adc = s.adc := rfl
@[simp] theorem resetRegs_gte (s : State) (lo hi : Nat) : (s.resetRegs lo hi).gte = s.gte := rfl
@[simp] theorem resetRegs_sec (s : State) (lo hi : Nat) : (s.resetRegs lo hi).sec = s.sec := rfl
@[simp] theorem resetRegs_jtag (s : State) (lo hi : Nat) : (s.resetRegs lo hi).jtag = s.jtag := rfl

@[simp] theorem tick1_pending (s : State) : (s.tick1).pending = s.pending := rfl
@[simp] theorem tick1_regs (s : State) : (s.tick1).regs = s.regs := rfl
@[simp] theorem tick1_resp (s : State) : (s.tick1).resp = s.resp := rfl
@[simp] theorem tick1_rst (s : State) : (s.tick1).rst = s.rst := rfl
@[simp] theorem tick1_smp (s : State) : (s.tick1).smp = s.smp := rfl
@[simp] theorem tick1_gde (s : State) : (s.tick1).gde = s.gde := rfl
@[simp] theorem tick1_tim (s : State) : (s.tick1).tim = s.tim := rfl
@[simp] theorem tick1_cyc (s : State) : (s.tick1).cyc = s.cyc := rfl
@[simp] theorem tick1_pwr (s : State) : (s.tick1).pwr = s.pwr := rfl
@[simp] theorem tick1_switched (s : State) : (s.tick1).switched = s.switched := rfl
@[simp] theorem tick1_wtb (s : State) : (s.tick1).wtb = s.wtb := rfl
@[simp] theorem tick1_cav (s : State) : (s.tick1).cav = s.cav := rfl
@[simp] theorem tick1_hwn (s : State) : (s.tick1).hwn = s.hwn := rfl
@[simp] theorem tick1_sph (s : State) : (s.tick1).sph = s.sph := rfl
@[simp] theorem tick1_txns (s : State) : (s.tick1).txns = s.txns := rfl
@[simp] theorem tick1_mtx (s : State) : (s.tick1).mtx = s.mtx := rfl
@[simp] theorem tick1_chm (s : State) : (s.tick1).chm = s.chm := rfl
@[simp] theorem tick1_cfl (s : State) : (s.tick1).cfl = s.cfl := rfl
@[simp] theorem tick1_flw (s : State) : (s.tick1).flw = s.flw := rfl
@[simp] theorem tick1_sap (s : State) : (s.tick1).sap = s.sap := rfl
@[simp] theorem tick1_dmx (s : State) : (s.tick1).dmx = s.dmx := rfl
@[simp] theorem tick1_gal (s : State) : (s.tick1).gal = s.gal := rfl
@[simp] theorem tick1_dtm (s : State) : (s.tick1).dtm = s.dtm := rfl
@[simp] theorem tick1_cle (s : State) : (s.tick1).cle = s.cle := rfl
@[simp] theorem tick1_echo (s : State) : (s.tick1).echo = s.echo := rfl
@[simp] theorem tick1_pwm (s : State) : (s.tick1).pwm = s.pwm := rfl
@[simp] theorem tick1_ltn (s : State) : (s.tick1).ltn = s.ltn := rfl
@[simp] theorem tick1_cart (s : State) : (s.tick1).cart = s.cart := rfl
@[simp] theorem tick1_tw (s : State) : (s.tick1).tw = s.tw := rfl
@[simp] theorem tick1_adc (s : State) : (s.tick1).adc = s.adc := rfl
@[simp] theorem tick1_gte (s : State) : (s.tick1).gte = s.gte := rfl
@[simp] theorem tick1_sec (s : State) : (s.tick1).sec = s.sec := rfl
@[simp] theorem tick1_jtag (s : State) : (s.tick1).jtag = s.jtag := rfl

@[simp] theorem answer_pending (s : State) (d : W64) (c : Nat) : (s.answer d c).pending = s.pending := rfl
@[simp] theorem answer_regs (s : State) (d : W64) (c : Nat) : (s.answer d c).regs = s.regs := rfl
@[simp] theorem answer_free (s : State) (d : W64) (c : Nat) : (s.answer d c).free = s.free := rfl
@[simp] theorem answer_rst (s : State) (d : W64) (c : Nat) : (s.answer d c).rst = s.rst := rfl
@[simp] theorem answer_smp (s : State) (d : W64) (c : Nat) : (s.answer d c).smp = s.smp := rfl
@[simp] theorem answer_gde (s : State) (d : W64) (c : Nat) : (s.answer d c).gde = s.gde := rfl
@[simp] theorem answer_tim (s : State) (d : W64) (c : Nat) : (s.answer d c).tim = s.tim := rfl
@[simp] theorem answer_cyc (s : State) (d : W64) (c : Nat) : (s.answer d c).cyc = s.cyc := rfl
@[simp] theorem answer_pwr (s : State) (d : W64) (c : Nat) : (s.answer d c).pwr = s.pwr := rfl
@[simp] theorem answer_switched (s : State) (d : W64) (c : Nat) : (s.answer d c).switched = s.switched := rfl
@[simp] theorem answer_wtb (s : State) (d : W64) (c : Nat) : (s.answer d c).wtb = s.wtb := rfl
@[simp] theorem answer_cav (s : State) (d : W64) (c : Nat) : (s.answer d c).cav = s.cav := rfl
@[simp] theorem answer_hwn (s : State) (d : W64) (c : Nat) : (s.answer d c).hwn = s.hwn := rfl
@[simp] theorem answer_sph (s : State) (d : W64) (c : Nat) : (s.answer d c).sph = s.sph := rfl
@[simp] theorem answer_txns (s : State) (d : W64) (c : Nat) : (s.answer d c).txns = s.txns := rfl
@[simp] theorem answer_mtx (s : State) (d : W64) (c : Nat) : (s.answer d c).mtx = s.mtx := rfl
@[simp] theorem answer_chm (s : State) (d : W64) (c : Nat) : (s.answer d c).chm = s.chm := rfl
@[simp] theorem answer_cfl (s : State) (d : W64) (c : Nat) : (s.answer d c).cfl = s.cfl := rfl
@[simp] theorem answer_flw (s : State) (d : W64) (c : Nat) : (s.answer d c).flw = s.flw := rfl
@[simp] theorem answer_sap (s : State) (d : W64) (c : Nat) : (s.answer d c).sap = s.sap := rfl
@[simp] theorem answer_dmx (s : State) (d : W64) (c : Nat) : (s.answer d c).dmx = s.dmx := rfl
@[simp] theorem answer_gal (s : State) (d : W64) (c : Nat) : (s.answer d c).gal = s.gal := rfl
@[simp] theorem answer_dtm (s : State) (d : W64) (c : Nat) : (s.answer d c).dtm = s.dtm := rfl
@[simp] theorem answer_cle (s : State) (d : W64) (c : Nat) : (s.answer d c).cle = s.cle := rfl
@[simp] theorem answer_echo (s : State) (d : W64) (c : Nat) : (s.answer d c).echo = s.echo := rfl
@[simp] theorem answer_pwm (s : State) (d : W64) (c : Nat) : (s.answer d c).pwm = s.pwm := rfl
@[simp] theorem answer_ltn (s : State) (d : W64) (c : Nat) : (s.answer d c).ltn = s.ltn := rfl
@[simp] theorem answer_cart (s : State) (d : W64) (c : Nat) : (s.answer d c).cart = s.cart := rfl
@[simp] theorem answer_tw (s : State) (d : W64) (c : Nat) : (s.answer d c).tw = s.tw := rfl
@[simp] theorem answer_adc (s : State) (d : W64) (c : Nat) : (s.answer d c).adc = s.adc := rfl
@[simp] theorem answer_gte (s : State) (d : W64) (c : Nat) : (s.answer d c).gte = s.gte := rfl
@[simp] theorem answer_sec (s : State) (d : W64) (c : Nat) : (s.answer d c).sec = s.sec := rfl
@[simp] theorem answer_jtag (s : State) (d : W64) (c : Nat) : (s.answer d c).jtag = s.jtag := rfl

@[simp] theorem tick1_free (s : State) : s.tick1.free = s.free + 1 := rfl
@[simp] theorem answer_resp (s : State) (d : W64) (c : Nat) : (s.answer d c).resp = ⟨d, c⟩ := rfl

@[simp] theorem onGde_pending (g : Gde → Gde) (s : State) : (onGde g s).pending = s.pending := rfl
@[simp] theorem onGde_regs (g : Gde → Gde) (s : State) : (onGde g s).regs = s.regs := rfl
@[simp] theorem onGde_free (g : Gde → Gde) (s : State) : (onGde g s).free = s.free := rfl
@[simp] theorem onGde_resp (g : Gde → Gde) (s : State) : (onGde g s).resp = s.resp := rfl
@[simp] theorem onGde_rst (g : Gde → Gde) (s : State) : (onGde g s).rst = s.rst := rfl
@[simp] theorem onGde_smp (g : Gde → Gde) (s : State) : (onGde g s).smp = s.smp := rfl
@[simp] theorem onGde_tim (g : Gde → Gde) (s : State) : (onGde g s).tim = s.tim := rfl
@[simp] theorem onGde_cyc (g : Gde → Gde) (s : State) : (onGde g s).cyc = s.cyc := rfl
@[simp] theorem onGde_pwr (g : Gde → Gde) (s : State) : (onGde g s).pwr = s.pwr := rfl
@[simp] theorem onGde_switched (g : Gde → Gde) (s : State) : (onGde g s).switched = s.switched := rfl
@[simp] theorem onGde_wtb (g : Gde → Gde) (s : State) : (onGde g s).wtb = s.wtb := rfl
@[simp] theorem onGde_cav (g : Gde → Gde) (s : State) : (onGde g s).cav = s.cav := rfl
@[simp] theorem onGde_hwn (g : Gde → Gde) (s : State) : (onGde g s).hwn = s.hwn := rfl
@[simp] theorem onGde_sph (g : Gde → Gde) (s : State) : (onGde g s).sph = s.sph := rfl
@[simp] theorem onGde_txns (g : Gde → Gde) (s : State) : (onGde g s).txns = s.txns := rfl
@[simp] theorem onGde_mtx (g : Gde → Gde) (s : State) : (onGde g s).mtx = s.mtx := rfl
@[simp] theorem onGde_chm (g : Gde → Gde) (s : State) : (onGde g s).chm = s.chm := rfl
@[simp] theorem onGde_cfl (g : Gde → Gde) (s : State) : (onGde g s).cfl = s.cfl := rfl
@[simp] theorem onGde_flw (g : Gde → Gde) (s : State) : (onGde g s).flw = s.flw := rfl
@[simp] theorem onGde_sap (g : Gde → Gde) (s : State) : (onGde g s).sap = s.sap := rfl
@[simp] theorem onGde_dmx (g : Gde → Gde) (s : State) : (onGde g s).dmx = s.dmx := rfl
@[simp] theorem onGde_gal (g : Gde → Gde) (s : State) : (onGde g s).gal = s.gal := rfl
@[simp] theorem onGde_dtm (g : Gde → Gde) (s : State) : (onGde g s).dtm = s.dtm := rfl
@[simp] theorem onGde_cle (g : Gde → Gde) (s : State) : (onGde g s).cle = s.cle := rfl
@[simp] theorem onGde_echo (g : Gde → Gde) (s : State) : (onGde g s).echo = s.echo := rfl
@[simp] theorem onGde_pwm (g : Gde → Gde) (s : State) : (onGde g s).pwm = s.pwm := rfl
@[simp] theorem onGde_ltn (g : Gde → Gde) (s : State) : (onGde g s).ltn = s.ltn := rfl
@[simp] theorem onGde_cart (g : Gde → Gde) (s : State) : (onGde g s).cart = s.cart := rfl
@[simp] theorem onGde_tw (g : Gde → Gde) (s : State) : (onGde g s).tw = s.tw := rfl
@[simp] theorem onGde_adc (g : Gde → Gde) (s : State) : (onGde g s).adc = s.adc := rfl
@[simp] theorem onGde_gte (g : Gde → Gde) (s : State) : (onGde g s).gte = s.gte := rfl
@[simp] theorem onGde_sec (g : Gde → Gde) (s : State) : (onGde g s).sec = s.sec := rfl
@[simp] theorem onGde_jtag (g : Gde → Gde) (s : State) : (onGde g s).jtag = s.jtag := rfl
@[simp] theorem onGde_gde (g : Gde → Gde) (s : State) : (onGde g s).gde = g s.gde := rfl

@[simp] theorem onBank_pending (b : Nat) (g : Bank → Bank) (s : State) : (onBank b g s).pending = s.pending := rfl
@[simp] theorem onBank_regs (b : Nat) (g : Bank → Bank) (s : State) : (onBank b g s).regs = s.regs := rfl
@[simp] theorem onBank_free (b : Nat) (g : Bank → Bank) (s : State) : (onBank b g s).free = s.free := rfl
@[simp] theorem onBank_resp (b : Nat) (g : Bank → Bank) (s : State) : (onBank b g s).resp = s.resp := rfl
@[simp] theorem onBank_rst (b : Nat) (g : Bank → Bank) (s : State) : (onBank b g s).rst = s.rst := rfl
@[simp] theorem onBank_smp (b : Nat) (g : Bank → Bank) (s : State) : (onBank b g s).smp = s.smp := rfl
@[simp] theorem onBank_tim (b : Nat) (g : Bank → Bank) (s : State) : (onBank b g s).tim = s.tim := rfl
@[simp] theorem onBank_cyc (b : Nat) (g : Bank → Bank) (s : State) : (onBank b g s).cyc = s.cyc := rfl
@[simp] theorem onBank_pwr (b : Nat) (g : Bank → Bank) (s : State) : (onBank b g s).pwr = s.pwr := rfl
@[simp] theorem onBank_switched (b : Nat) (g : Bank → Bank) (s : State) : (onBank b g s).switched = s.switched := rfl
@[simp] theorem onBank_wtb (b : Nat) (g : Bank → Bank) (s : State) : (onBank b g s).wtb = s.wtb := rfl
@[simp] theorem onBank_cav (b : Nat) (g : Bank → Bank) (s : State) : (onBank b g s).cav = s.cav := rfl
@[simp] theorem onBank_hwn (b : Nat) (g : Bank → Bank) (s : State) : (onBank b g s).hwn = s.hwn := rfl
@[simp] theorem onBank_sph (b : Nat) (g : Bank → Bank) (s : State) : (onBank b g s).sph = s.sph := rfl
@[simp] theorem onBank_txns (b : Nat) (g : Bank → Bank) (s : State) : (onBank b g s).txns = s.txns := rfl
@[simp] theorem onBank_mtx (b : Nat) (g : Bank → Bank) (s : State) : (onBank b g s).mtx = s.mtx := rfl
@[simp] theorem onBank_chm (b : Nat) (g : Bank → Bank) (s : State) : (onBank b g s).chm = s.chm := rfl
@[simp] theorem onBank_cfl (b : Nat) (g : Bank → Bank) (s : State) : (onBank b g s).cfl = s.cfl := rfl
@[simp] theorem onBank_flw (b : Nat) (g : Bank → Bank) (s : State) : (onBank b g s).flw = s.flw := rfl
@[simp] theorem onBank_sap (b : Nat) (g : Bank → Bank) (s : State) : (onBank b g s).sap = s.sap := rfl
@[simp] theorem onBank_dmx (b : Nat) (g : Bank → Bank) (s : State) : (onBank b g s).dmx = s.dmx := rfl
@[simp] theorem onBank_gal (b : Nat) (g : Bank → Bank) (s : State) : (onBank b g s).gal = s.gal := rfl
@[simp] theorem onBank_dtm (b : Nat) (g : Bank → Bank) (s : State) : (onBank b g s).dtm = s.dtm := rfl
@[simp] theorem onBank_cle (b : Nat) (g : Bank → Bank) (s : State) : (onBank b g s).cle = s.cle := rfl
@[simp] theorem onBank_echo (b : Nat) (g : Bank → Bank) (s : State) : (onBank b g s).echo = s.echo := rfl
@[simp] theorem onBank_pwm (b : Nat) (g : Bank → Bank) (s : State) : (onBank b g s).pwm = s.pwm := rfl
@[simp] theorem onBank_ltn (b : Nat) (g : Bank → Bank) (s : State) : (onBank b g s).ltn = s.ltn := rfl
@[simp] theorem onBank_cart (b : Nat) (g : Bank → Bank) (s : State) : (onBank b g s).cart = s.cart := rfl
@[simp] theorem onBank_tw (b : Nat) (g : Bank → Bank) (s : State) : (onBank b g s).tw = s.tw := rfl
@[simp] theorem onBank_adc (b : Nat) (g : Bank → Bank) (s : State) : (onBank b g s).adc = s.adc := rfl
@[simp] theorem onBank_gte (b : Nat) (g : Bank → Bank) (s : State) : (onBank b g s).gte = s.gte := rfl
@[simp] theorem onBank_sec (b : Nat) (g : Bank → Bank) (s : State) : (onBank b g s).sec = s.sec := rfl
@[simp] theorem onBank_jtag (b : Nat) (g : Bank → Bank) (s : State) : (onBank b g s).jtag = s.jtag := rfl

/-! ### Registers after a write -/

/-- The register written holds the value written. -/
@[simp] theorem reg_setReg_same (s : State) (a : Nat) (v : W64) : (s.setReg a v).reg a = v :=
  tget_tset_same _ _ _ _

/-- Every other register is as before. -/
theorem reg_setReg_ne (s : State) {a b : Nat} (v : W64) (h : b ≠ a) : (s.setReg a v).reg b = s.reg b :=
  tget_tset_ne _ _ _ _ h

theorem reg_setReg (s : State) (a b : Nat) (v : W64) : (s.setReg a v).reg b = if b = a then v else s.reg b := by
  by_cases h : b = a
  · subst h; simp
  · simp [h, reg_setReg_ne s v h]

theorem reg_setRf (s : State) (a b : Nat) (f : Fld) (x : Nat) :
    (s.setRf a f x).reg b = if b = a then fput f (s.reg a) x else s.reg b := reg_setReg _ _ _ _

@[simp] theorem reg_answer (s : State) (d : W64) (c b : Nat) : (s.answer d c).reg b = s.reg b := rfl
@[simp] theorem reg_tick1 (s : State) (b : Nat) : s.tick1.reg b = s.reg b := rfl
@[simp] theorem reg_onGde (s : State) (g : Gde → Gde) (b : Nat) : (onGde g s).reg b = s.reg b := rfl
@[simp] theorem reg_onBank (s : State) (c : Nat) (g : Bank → Bank) (b : Nat) : (onBank c g s).reg b = s.reg b := rfl

/-! ### Fields of a word -/

theorem fput_getLsbD (f : Fld) (v : W64) (x i : Nat) (hf : f.lo ≤ f.hi) (h64 : f.hi < 64) :
    (fput f v x).getLsbD i = if f.lo ≤ i ∧ i ≤ f.hi then (BitVec.ofNat f.width x).getLsbD (i - f.lo) else v.getLsbD i := by
  have hw : f.width = f.hi + 1 - f.lo := rfl
  simp only [fput, fmask, BitVec.getLsbD_or, BitVec.getLsbD_and, BitVec.getLsbD_not, BitVec.getLsbD_shiftLeft,
    BitVec.getLsbD_setWidth, BitVec.getLsbD_allOnes]
  by_cases hi : i < 64
  · by_cases h1 : f.lo ≤ i
    · by_cases h2 : i ≤ f.hi
      · have h3 : i - f.lo < f.width := by omega
        have h4 : i - f.lo < 64 := by omega
        have h5 : ¬ i < f.lo := by omega
        simp [hi, h1, h2, h3, h4, h5]
      · have h3 : ¬ i - f.lo < f.width := by omega
        have h5 : (BitVec.ofNat f.width x).getLsbD (i - f.lo) = false := BitVec.getLsbD_of_ge _ _ (by omega)
        simp [h1, h2, h3, h5, hi]
    · have h5 : i < f.lo := by omega
      simp [h1, h5, hi]
  · have h2 : ¬ i ≤ f.hi := by omega
    have h3 : v.getLsbD i = false := BitVec.getLsbD_of_ge _ _ (by omega)
    simp [hi, h2, h3]

/-- A field read after it was written. -/
theorem fget_fput_same (f : Fld) (v : W64) (x : Nat) (hf : f.lo ≤ f.hi) (h64 : f.hi < 64) :
    fget f (fput f v x) = x % 2 ^ f.width := by
  have : (fput f v x).extractLsb' f.lo f.width = BitVec.ofNat f.width x := by
    apply BitVec.eq_of_getLsbD_eq
    intro i hi
    have hw : f.width = f.hi + 1 - f.lo := rfl
    rw [BitVec.getLsbD_extractLsb', fput_getLsbD f v x _ hf h64]
    have h1 : f.lo ≤ f.lo + i ∧ f.lo + i ≤ f.hi := by omega
    simp [hi, h1]
  rw [fget, this, BitVec.toNat_ofNat]

/-- A field read after a write of a field that shares no bit with it. -/
theorem fget_fput_apart (f g : Fld) (v : W64) (x : Nat) (hf : f.lo ≤ f.hi) (h64 : f.hi < 64)
    (h : f.hi < g.lo ∨ g.hi < f.lo) : fget g (fput f v x) = fget g v := by
  have : (fput f v x).extractLsb' g.lo g.width = v.extractLsb' g.lo g.width := by
    apply BitVec.eq_of_getLsbD_eq
    intro i hi
    have hw : g.width = g.hi + 1 - g.lo := rfl
    rw [BitVec.getLsbD_extractLsb', BitVec.getLsbD_extractLsb', fput_getLsbD f v x _ hf h64]
    have h1 : ¬ (f.lo ≤ g.lo + i ∧ g.lo + i ≤ f.hi) := by omega
    simp [h1]
  rw [fget, fget, this]

end Sys2Proof.Machine
end

