-- ==== Sys2Proof/Laws/Guide.lean ====
section
/-! SUPPORT. The shared operations of the Guide's instructions: issue, a register written, the program counter moved. -/

namespace Sys2Proof.Machine

open Sys2Proof

/-- An instruction that is executed has its effect. -/
theorem guideIssue_ready {s : State} {len : Nat} {l : List (BitVec 5)} (f : State → State)
    (h : guideReady s len l = true) : guideIssue len l f s = f s := by
  simp only [guideReady, Bool.and_eq_true, Option.isNone_iff_eq_none, decide_eq_true_eq, Bool.not_eq_true'] at h
  obtain ⟨⟨⟨h1, h2⟩, h3⟩, h4⟩ := h
  simp [guideIssue, h1, h2, h4, Nat.not_lt.2 h3]

@[simp] theorem curBank_onBank (b : Nat) (f : Bank → Bank) (s : State) : curBank (onBank b f s) = curBank s := rfl

theorem bankOf_onBank (b c : Nat) (f : Bank → Bank) (s : State) :
    bankOf (onBank b f s) c = if c = b then f (bankOf s b) else bankOf s c := by
  unfold onBank onGde bankOf
  rw [tget_tset]

@[simp] theorem bankOf_onBank_same (b : Nat) (f : Bank → Bank) (s : State) :
    bankOf (onBank b f s) b = f (bankOf s b) := by rw [bankOf_onBank]; simp

theorem onBank_eq (b : Nat) (f : Bank → Bank) (s : State) :
    onBank b f s = { s with gde := { s.gde with banks := (onBank b f s).gde.banks } } := rfl

@[simp] theorem curBank_setPc (a : W32) (s : State) : curBank (setPc a s) = curBank s := rfl

theorem setG_cases (i : BitVec 5) (v : W32) (s : State) :
    (i = 0 ∧ setG i v s = s) ∨ (i ≠ 0 ∧ setG i v s =
      onBank (curBank s) (fun x => { x with g := tset x.g 0 i.toNat v }) s) := by
  by_cases h : i = 0
  · subst h; exact .inl ⟨rfl, rfl⟩
  · have : i.toNat ≠ 0 := fun e => h (BitVec.eq_of_toNat_eq e)
    exact .inr ⟨h, by unfold setG bankReg; rw [if_neg this]⟩

@[simp] theorem curBank_setG (i : BitVec 5) (v : W32) (s : State) : curBank (setG i v s) = curBank s := by
  rcases setG_cases i v s with ⟨_, h⟩ | ⟨_, h⟩ <;> rw [h] <;> rfl

/-- A register of the running bank after a write of one. -/
theorem gReg_setG (i r : BitVec 5) (v : W32) (s : State) : gReg (setG i v s) r = gWith s i v r := by
  rcases setG_cases i v s with ⟨h0, h⟩ | ⟨h0, h⟩
  · rw [h]; subst h0
    by_cases hr : r = 0 <;> simp [gWith, hr]
  · rw [h]
    unfold gReg gWith
    rw [curBank_onBank, bankOf_onBank_same]
    by_cases hr : r = i
    · subst hr; rw [if_pos ⟨rfl, h0⟩, tget_tset_same]
    · have : r.toNat ≠ i.toNat := fun e => hr (BitVec.eq_of_toNat_eq e)
      simp [tget_tset_ne _ _ _ _ this, hr, gReg]

theorem bankOf_setG_ne (i : BitVec 5) (v : W32) (s : State) {c : Nat} (h : c ≠ curBank s) :
    bankOf (setG i v s) c = bankOf s c := by
  rcases setG_cases i v s with ⟨_, e⟩ | ⟨_, e⟩ <;> rw [e]
  rw [bankOf_onBank, if_neg h]

theorem bankOf_setG (i : BitVec 5) (v : W32) (s : State) :
    bankOf (setG i v s) (curBank s) =
      { bankOf s (curBank s) with g := (bankOf (setG i v s) (curBank s)).g } := by
  rcases setG_cases i v s with ⟨_, e⟩ | ⟨_, e⟩ <;> rw [e]
  rw [bankOf_onBank_same]

theorem setG_eq (i : BitVec 5) (v : W32) (s : State) :
    setG i v s = { s with gde := { s.gde with banks := (setG i v s).gde.banks } } := by
  rcases setG_cases i v s with ⟨_, e⟩ | ⟨_, e⟩ <;> rw [e]
  rfl

@[simp] theorem guidePc_setG (i : BitVec 5) (v : W32) (s : State) : guidePc (setG i v s) = guidePc s := by
  unfold guidePc
  rw [curBank_setG, bankOf_setG]

@[simp] theorem gReg_setPc (a : W32) (s : State) (r : BitVec 5) : gReg (setPc a s) r = gReg s r := by
  unfold gReg setPc
  rw [curBank_onBank, bankOf_onBank_same]

/-- The program counter moved, nothing written. -/
theorem guideResult_setPc (a : W32) (s : State) : guideResult s (setPc a s) (gReg s) (curAstat s) a := by
  refine ⟨rfl, fun c hc => ?_, ?_, fun r => gReg_setPc _ _ _⟩
  · unfold setPc; rw [bankOf_onBank, if_neg hc]
  · unfold setPc; rw [bankOf_onBank_same]; rfl

/-- A register written and the program counter moved. -/
theorem guideResult_setPc_setG (a : W32) (i : BitVec 5) (v : W32) (s : State) :
    guideResult s (setPc a (setG i v s)) (gWith s i v) (curAstat s) a := by
  refine ⟨?_, fun c hc => ?_, ?_, fun r => ?_⟩
  · conv => lhs; rw [setG_eq]
    conv => rhs; rw [setG_eq]
    rfl
  · unfold setPc; rw [bankOf_onBank, if_neg (by simpa using hc), bankOf_setG_ne _ _ _ hc]
  · unfold setPc
    rw [curBank_setG, bankOf_onBank_same, bankOf_setG]
    rfl
  · rw [gReg_setPc, gReg_setG]

/-- An instruction that writes one register. -/
theorem guideWrite_result {s : State} {len : Nat} {gd : BitVec 5} {l : List (BitVec 5)} (v : State → W32)
    (h : guideReady s len (gd :: l) = true) :
    guideResult s (guideWrite len gd l v s) (gWith s gd (v s)) (curAstat s) (guidePc s + BitVec.ofNat 32 len) := by
  unfold guideWrite
  rw [guideIssue_ready _ h]
  unfold guideNext
  rw [guidePc_setG]
  exact guideResult_setPc_setG _ _ _ _

/-- Taking an exception outside BN and outside a handler (R119). -/
theorem takeException_vectors (cause : Nat) (addr : W32) {s : State} (h9 : curBank s ≠ 9)
    (he : (bankOf s (curBank s)).exc = false) :
    guideVectors s (takeException cause addr false s) (guidePc s) (BitVec.ofNat 32 cause) addr := by
  unfold takeException
  simp only [h9, he, if_false, Bool.false_eq_true]
  refine ⟨rfl, fun c hc => ?_, ?_⟩
  · rw [bankOf_onBank, if_neg hc]
  · rw [bankOf_onBank_same]; simp [guidePc]

end Sys2Proof.Machine
end

