-- ==== Sys2Proof/Laws/Keeps.lean ====
section
/-! SUPPORT. What every command keeps, as one relation between two states, and the operations over states that keep it:
the queue, OTP, the rollback floors, the canonical forms, g0. -/

namespace Sys2Proof.Machine

open Sys2Proof

/-- s holds, beside s0, what no command changes: the queue that waits and OTP are as in s0, no rollback floor is below
s0's, and the canonical forms and g0 are kept. -/
structure Keeps (s0 s : State) : Prop where
  pending : s.pending = s0.pending
  otp : s.sec.otp = s0.sec.otp
  fwFloor : s0.sec.mram.fwFloor.toNat ≤ s.sec.mram.fwFloor.toNat
  profFloor : s0.sec.mram.profFloor.toNat ≤ s.sec.mram.profFloor.toNat
  regs : regsWf s0.regs = true → regsWf s.regs = true
  mem : memWf s0 = true → memWf s = true
  zero : zeroReg s0 → zeroReg s

/-- Every next state of an outcome holds what no command changes beside s0. -/
def KeepsOut (s0 : State) (o : Out) : Prop := ∀ t, o = .next t → Keeps s0 t

theorem keeps_next {s0 t : State} (h : Keeps s0 t) : KeepsOut s0 (.next t) := fun u e => by
  injection e with e; subst e; exact h

theorem keeps_iteOut {s0 : State} {a b : Out} {c : Prop} [Decidable c] (ha : KeepsOut s0 a) (hb : KeepsOut s0 b) :
    KeepsOut s0 (if c then a else b) := by split <;> assumption

theorem Keeps.refl (s : State) : Keeps s s := ⟨rfl, rfl, Nat.le_refl _, Nat.le_refl _, id, id, id⟩

theorem Keeps.trans {a b c : State} (h : Keeps a b) (k : Keeps b c) : Keeps a c :=
  ⟨k.pending.trans h.pending, k.otp.trans h.otp, Nat.le_trans h.fwFloor k.fwFloor, Nat.le_trans h.profFloor k.profFloor,
   k.regs ∘ h.regs, k.mem ∘ h.mem, k.zero ∘ h.zero⟩

/-- A change of any other field. -/
theorem keeps_frame {s0 s t : State} (h : Keeps s0 s) (h1 : t.pending = s.pending) (h2 : t.regs = s.regs)
    (h3 : t.gde.imem = s.gde.imem) (h4 : t.gde.dmem = s.gde.dmem) (h5 : t.gde.banks = s.gde.banks)
    (h6 : t.cav.words = s.cav.words) (h7 : t.sec.otp = s.sec.otp)
    (h8 : t.sec.mram.fwFloor = s.sec.mram.fwFloor) (h9 : t.sec.mram.profFloor = s.sec.mram.profFloor) : Keeps s0 t where
  pending := h1.trans h.pending
  otp := h7.trans h.otp
  fwFloor := by rw [h8]; exact h.fwFloor
  profFloor := by rw [h9]; exact h.profFloor
  regs := by rw [h2]; exact h.regs
  mem := by simpa only [memWf, h3, h4, h6] using h.mem
  zero := by simpa only [zeroReg, bankOf, h5] using h.zero

/-- A state written out field by field, of which the fields that Keeps speaks of are those of s. -/
theorem keeps_mk {s0 s : State}
    {pending' : List Instr}
    {regs' : Cells 64}
    {free' : Nat}
    {resp' : Resp}
    {rst' : Rst}
    {smp' : Smp}
    {gde' : Gde}
    {tim' : Tab Timer}
    {cyc' : Cyc}
    {pwr' : Tab Dom}
    {switched' : List Nat}
    {wtb' : Wtb}
    {cav' : Cav}
    {hwn' : Hwn}
    {sph' : Tab SphCh}
    {txns' : List Txn}
    {mtx' : Mtx}
    {chm' : Tab Chamber}
    {cfl' : Cfl}
    {flw' : Flw}
    {sap' : Tab Sap}
    {dmx' : Tab Dmx}
    {gal' : Gal}
    {dtm' : Dtm}
    {cle' : Cle}
    {echo' : Echo}
    {pwm' : Pwm}
    {ltn' : Tab Ltn}
    {cart' : Tab Cart}
    {tw' : Tab (List Byte)}
    {adc' : Tab Adc}
    {gte' : Gte}
    {sec' : Sec}
    {jtag' : Jtag}
    (h : Keeps s0 s) (h1 : pending' = s.pending) (h2 : regs' = s.regs) (h3 : gde'.imem = s.gde.imem)
    (h4 : gde'.dmem = s.gde.dmem) (h5 : gde'.banks = s.gde.banks) (h6 : cav'.words = s.cav.words)
    (h7 : sec'.otp = s.sec.otp) (h8 : sec'.mram.fwFloor = s.sec.mram.fwFloor)
    (h9 : sec'.mram.profFloor = s.sec.mram.profFloor) :
    Keeps s0 (State.mk pending' regs' free' resp' rst' smp' gde' tim' cyc' pwr' switched' wtb' cav' hwn' sph' txns'
      mtx' chm' cfl' flw' sap' dmx' gal' dtm' cle' echo' pwm' ltn' cart' tw' adc' gte' sec' jtag') :=
  keeps_frame h h1 h2 h3 h4 h5 h6 h7 h8 h9

theorem keeps_ite {s0 a b : State} {c : Prop} [Decidable c] (ha : Keeps s0 a) (hb : Keeps s0 b) :
    Keeps s0 (if c then a else b) := by split <;> assumption

theorem keeps_ite1 {s0 : State} {α : Type} {a b : α × State} {c : Prop} [Decidable c] (ha : Keeps s0 a.2)
    (hb : Keeps s0 b.2) : Keeps s0 (if c then a else b).2 := by split <;> assumption

theorem keeps_ite2 {s0 : State} {α β : Type} {a b : α × β × State} {c : Prop} [Decidable c] (ha : Keeps s0 a.2.2)
    (hb : Keeps s0 b.2.2) : Keeps s0 (if c then a else b).2.2 := by split <;> assumption

theorem keeps_of_eq {s0 : State} {α : Type} {p : α × State} {a : α} {t : State} (e : p = (a, t)) (h : Keeps s0 p.2) :
    Keeps s0 t := by rw [e] at h; exact h

theorem keeps_forEach {α : Type} {s0 s : State} {l : List α} {f : α → State → State} (h : Keeps s0 s)
    (hf : ∀ a t, Keeps s0 t → Keeps s0 (f a t)) : Keeps s0 (forEach l f s) := by
  induction l generalizing s with
  | nil => exact h
  | cons a r ih => exact ih (hf a s h)

theorem keeps_foldl {α : Type} {s0 s : State} {l : List α} {f : State → α → State} (h : Keeps s0 s)
    (hf : ∀ t a, Keeps s0 t → Keeps s0 (f t a)) : Keeps s0 (l.foldl f s) := by
  induction l generalizing s with
  | nil => exact h
  | cons a r ih => exact ih (hf s a h)

theorem keeps_setReg {s0 s : State} (a : Nat) (v : W64) (h : Keeps s0 s) : Keeps s0 (s.setReg a v) :=
  ⟨h.pending, h.otp, h.fwFloor, h.profFloor, fun w => wf_tset a v (h.regs w), h.mem, h.zero⟩

theorem keeps_resetRegs {s0 s : State} (lo hi : Nat) (h : Keeps s0 s) : Keeps s0 (s.resetRegs lo hi) :=
  ⟨h.pending, h.otp, h.fwFloor, h.profFloor, fun w => wf_tclear lo hi (h.regs w), h.mem, h.zero⟩

theorem keeps_setRf {s0 s : State} (a : Nat) (f : Fld) (x : Nat) (h : Keeps s0 s) : Keeps s0 (s.setRf a f x) :=
  keeps_setReg _ _ h

theorem keeps_setRb {s0 s : State} (a : Nat) (f : Fld) (b : Bool) (h : Keeps s0 s) : Keeps s0 (s.setRb a f b) :=
  keeps_setReg _ _ h

theorem keeps_setBit {s0 s : State} (a n : Nat) (b : Bool) (h : Keeps s0 s) : Keeps s0 (s.setBit a n b) :=
  keeps_setReg _ _ h

theorem keeps_bumpSat {s0 s : State} (a : Nat) (f : Fld) (h : Keeps s0 s) : Keeps s0 (s.bumpSat a f) :=
  keeps_ite (keeps_setRf _ _ _ h) h

theorem keeps_bumpWrap {s0 s : State} (a : Nat) (h : Keeps s0 s) : Keeps s0 (s.bumpWrap a) :=
  keeps_ite (keeps_setRf _ _ _ h) (keeps_setBit _ _ _ (keeps_setRf _ _ _ h))

theorem keeps_cavWords {s0 s : State} {c : Cav} (h : Keeps s0 s)
    (hw : Tab.wf (fun _ => Config.clearedWord 40) s.cav.words = true → Tab.wf (fun _ => Config.clearedWord 40) c.words = true) :
    Keeps s0 { s with cav := c } :=
  ⟨h.pending, h.otp, h.fwFloor, h.profFloor, h.regs, fun m => by
    have := h.mem m
    simp only [memWf, Bool.and_eq_true] at this ⊢
    exact ⟨this.1, hw this.2⟩, h.zero⟩

theorem keeps_gdeMem {s0 s : State} {g : Gde} (h : Keeps s0 s)
    (hi : Tab.wf (fun _ => Config.clearedWord 8) s.gde.imem = true → Tab.wf (fun _ => Config.clearedWord 8) g.imem = true)
    (hd : Tab.wf (fun _ => Config.clearedWord 8) s.gde.dmem = true → Tab.wf (fun _ => Config.clearedWord 8) g.dmem = true)
    (hz : zeroReg s → zeroReg { s with gde := g }) : Keeps s0 { s with gde := g } :=
  ⟨h.pending, h.otp, h.fwFloor, h.profFloor, h.regs, fun m => by
    have := h.mem m
    simp only [memWf, Bool.and_eq_true] at this ⊢
    exact ⟨⟨hi this.1.1, hd this.1.2⟩, this.2⟩, fun z => hz (h.zero z)⟩

theorem zero_set {s : State} (b : Nat) (x : Bank) (hx : tget x.g 0 0 = 0) (z : zeroReg s) :
    zeroReg { s with gde := { s.gde with banks := tset s.gde.banks Bank.init b x } } := by
  intro c
  by_cases hc : c = b
  · subst hc; simpa [bankOf] using hx
  · simpa [bankOf, tget_tset_ne _ _ _ _ hc] using z c

theorem keeps_bankG {s0 s : State} (b : Nat) (f : Bank → Bank) (h : Keeps s0 s)
    (hf : tget (bankOf s b).g 0 0 = 0 → tget (f (bankOf s b)).g 0 0 = 0) :
    Keeps s0 { s with gde := { s.gde with banks := tset s.gde.banks Bank.init b (f (bankOf s b)) } } :=
  keeps_gdeMem h id id fun z => zero_set b _ (hf (z b)) z

theorem wf_wrBytes {m : Cells 8} (a : Nat) (l : List Byte) (h : Tab.wf (fun _ => Config.clearedWord 8) m = true) :
    Tab.wf (fun _ => Config.clearedWord 8) (wrBytes m a l) = true := by
  induction l generalizing m a with
  | nil => exact h
  | cons b r ih => exact ih _ (wf_tset a b h)

theorem keeps_tick1 {s0 s : State} (h : Keeps s0 s) : Keeps s0 s.tick1 := keeps_frame h rfl rfl rfl rfl rfl rfl rfl rfl rfl

theorem keeps_answer {s0 s : State} (d : W64) (c : Nat) (h : Keeps s0 s) : Keeps s0 (s.answer d c) :=
  keeps_frame h rfl rfl rfl rfl rfl rfl rfl rfl rfl

end Sys2Proof.Machine
end

