-- ==== Sys2Proof/Laws/KeepsReset.lean ====
section
/-! SUPPORT. The operations of Machine/Reset.lean keep what every command keeps. -/

namespace Sys2Proof.Machine

open Sys2Proof

theorem keeps_dropWaiting {s0 : State} (i : Nat) {s : State} (h0 : Keeps s0 s) :
    Keeps s0 (dropWaiting i s) := by
  unfold dropWaiting
  exact (keeps_mk h0 rfl rfl rfl rfl rfl rfl rfl rfl rfl)

theorem keeps_blockClear {s0 : State} (i : Nat) {s : State} (h : Keeps s0 s) : Keeps s0 (blockClear i s) := by
  have fr : ∀ {t u : State}, Keeps s0 t → u.pending = t.pending → u.regs = t.regs → u.gde.imem = t.gde.imem →
      u.gde.dmem = t.gde.dmem → u.gde.banks = t.gde.banks → u.cav.words = t.cav.words → u.sec = t.sec → Keeps s0 u :=
    fun k h1 h2 h3 h4 h5 h6 h7 => keeps_frame k h1 h2 h3 h4 h5 h6 (by rw [h7]) (by rw [h7]) (by rw [h7])
  unfold blockClear
  refine keeps_ite ?_ (keeps_ite ?_ (keeps_ite ?_ (keeps_ite ?_ (keeps_ite ?_ (keeps_ite ?_ (keeps_ite ?_ (keeps_ite ?_
    (keeps_ite ?_ (keeps_ite ?_ (keeps_ite ?_ (keeps_ite ?_ (keeps_ite ?_ (keeps_ite ?_ h)))))))))))))
  · exact fr (keeps_resetRegs _ _ h) rfl rfl rfl rfl rfl rfl rfl
  · have k := keeps_resetRegs (blockBase 14) (blockBase 14 + 0xFFFF) h
    exact ⟨k.pending, k.otp, k.fwFloor, k.profFloor, k.regs, k.mem, fun _ _ => rfl⟩
  · exact fr (keeps_resetRegs _ _ h) rfl rfl rfl rfl rfl rfl rfl
  · exact fr (keeps_resetRegs _ _ h) rfl rfl rfl rfl rfl rfl rfl
  · exact fr (keeps_resetRegs _ _ h) rfl rfl rfl rfl rfl rfl rfl
  · exact fr (keeps_resetRegs _ _ h) rfl rfl rfl rfl rfl rfl rfl
  · exact fr (keeps_resetRegs _ _ h) rfl rfl rfl rfl rfl rfl rfl
  · have k := keeps_forEach (l := idxs 0 4) (f := fun c t => t.setReg (rLTN_CART_MAP c) (s.reg (rLTN_CART_MAP c)))
      (keeps_resetRegs (blockBase 21) (blockBase 21 + 0xFFFF) h) fun _ _ k => keeps_setReg _ _ k
    revert k
    generalize forEach _ _ _ = t
    exact fun k => fr k rfl rfl rfl rfl rfl rfl rfl
  · exact fr (keeps_resetRegs _ _ (keeps_resetRegs _ _ (keeps_resetRegs _ _ h))) rfl rfl rfl rfl rfl rfl rfl
  · exact fr (keeps_resetRegs _ _ h) rfl rfl rfl rfl rfl rfl rfl
  · exact keeps_forEach (keeps_resetRegs _ _ h) fun _ _ k => fr k rfl rfl rfl rfl rfl rfl rfl
  · exact keeps_setRf _ _ _ (fr (keeps_resetRegs _ _ h) rfl rfl rfl rfl rfl rfl rfl)
  · exact fr (keeps_resetRegs _ _ h) rfl rfl rfl rfl rfl rfl rfl
  · exact fr (keeps_resetRegs _ _ h) rfl rfl rfl rfl rfl rfl rfl

theorem keeps_loseRun {s0 : State} (u : Nat) {s : State} (h0 : Keeps s0 s) :
    Keeps s0 (loseRun u s) := by
  unfold loseRun
  exact (keeps_ite h0 (keeps_mk h0 rfl rfl rfl rfl rfl rfl rfl rfl rfl))

theorem keeps_blockReset {s0 : State} (i : Nat) {s : State} (h0 : Keeps s0 s) :
    Keeps s0 (blockReset i s) := by
  unfold blockReset
  exact (keeps_ite h0 (keeps_setBit _ _ _ (keeps_dropWaiting _ (keeps_forEach (keeps_blockClear _ h0) (fun _ _ h1 =>
    (keeps_loseRun _ h1))))))

theorem keeps_blockResetEnd {s0 : State} (i : Nat) {s : State} (h : Keeps s0 s) : Keeps s0 (blockResetEnd i s) := by
  have k := keeps_setBit rRST_BLK_STAT i false h
  exact keeps_ite (keeps_ite (keeps_bankG 8 (fun x => { x with pc := s.rst.entry }) k id) k) h

theorem wf_keepRegs {regs : Cells 64} (rs : List (Nat × Nat)) (h : regsWf regs = true) :
    regsWf (keepRegs regs rs) = true := by
  simp only [regsWf, Tab.wf, Bool.and_eq_true, decide_eq_true_eq, List.all_eq_true, bne_iff_ne] at h ⊢
  exact ⟨h.1.filter _, fun p hp => h.2 p (List.mem_filter.1 hp).1⟩

theorem wf_filter {w : Nat} {m : Cells w} {d : Nat → BitVec w} (f : Nat × BitVec w → Bool) (h : Tab.wf d m = true) :
    Tab.wf d (m.filter f) = true := by
  simp only [Tab.wf, Bool.and_eq_true, decide_eq_true_eq, List.all_eq_true, bne_iff_ne] at h ⊢
  exact ⟨h.1.filter _, fun p hp => h.2 p (List.mem_filter.1 hp).1⟩

theorem keeps_chipReset {s0 : State} (cause src : Nat) {s : State} (h : Keeps s0 s) :
    Keeps s0 (chipReset cause src s) := by
  refine keeps_setRf _ _ _ (keeps_setRf _ _ _ ⟨h.pending, h.otp, h.fwFloor, h.profFloor,
    fun w => wf_keepRegs _ (h.regs w), fun m => ?_, fun _ _ => rfl⟩)
  have := h.mem m
  simp only [memWf, Bool.and_eq_true] at this ⊢
  exact ⟨⟨wf_nil _, wf_nil _⟩, wf_filter _ this.2⟩

end Sys2Proof.Machine
end

