-- ==== Sys2Proof/Laws/KeepsRoster.lean ====
section
/-! SUPPORT. The operations of Machine/Roster.lean keep what every command keeps. -/

namespace Sys2Proof.Machine

open Sys2Proof

theorem keeps_rosterReady {s0 : State} (n : Nat) {s : State} (h0 : Keeps s0 s) :
    Keeps s0 (rosterReady n s) := by
  unfold rosterReady
  exact (keeps_ite (keeps_mk h0 rfl rfl rfl rfl rfl rfl rfl rfl rfl) h0)

theorem keeps_rosterCancel {s0 : State} (n : Nat) {s : State} (h0 : Keeps s0 s) :
    Keeps s0 (rosterCancel n s) := by
  unfold rosterCancel
  exact (keeps_mk h0 rfl rfl rfl rfl rfl rfl rfl rfl rfl)

theorem keeps_rosterEvent {s0 : State} (src : Nat) {s : State} (h0 : Keeps s0 s) :
    Keeps s0 (rosterEvent src s) := by
  unfold rosterEvent
  exact (keeps_forEach h0 (fun _ _ h1 => (keeps_ite (keeps_rosterReady _ h1) h1)))

end Sys2Proof.Machine
end

