-- ==== Sys2Proof/Laws/KeepsSump.lean ====
section
/-! SUPPORT. The operations of Machine/Sump.lean keep what every command keeps. -/

namespace Sys2Proof.Machine

open Sys2Proof

theorem keeps_logRaise {s0 : State} (e : Sys2Proof.Machine.LogEntry) {s : State} (h0 : Keeps s0 s) :
    Keeps s0 (logRaise e s) := by
  unfold logRaise
  exact (by
      try extract_lets
      split
      exact (keeps_bumpWrap _ (keeps_mk h0 rfl rfl rfl rfl rfl rfl rfl rfl rfl))
      exact (keeps_ite (keeps_setRf _ _ _ (keeps_mk h0 rfl rfl rfl rfl rfl rfl rfl rfl rfl)) (keeps_bumpWrap _
        (keeps_setRb _ _ _ (keeps_setRb _ _ _ (keeps_mk h0 rfl rfl rfl rfl rfl rfl rfl rfl rfl)))))
    )

theorem keeps_signalNmi {s0 : State} {s : State} (h0 : Keeps s0 s) :
    Keeps s0 (signalNmi s) := by
  unfold signalNmi
  exact (keeps_ite h0 (keeps_ite (keeps_setRb _ _ _ h0) (keeps_mk h0 rfl rfl rfl rfl rfl rfl rfl rfl rfl)))

theorem keeps_askChipReset {s0 : State} (n : Nat) {s : State} (h0 : Keeps s0 s) :
    Keeps s0 (askChipReset n s) := by
  unfold askChipReset
  exact (keeps_mk h0 rfl rfl rfl rfl rfl rfl rfl rfl rfl)

theorem keeps_holdNerr {s0 : State} (c : Nat) {s : State} (h0 : Keeps s0 s) :
    Keeps s0 (holdNerr c s) := by
  unfold holdNerr
  exact (keeps_setBit _ _ _ (keeps_ite (keeps_mk h0 rfl rfl rfl rfl rfl rfl rfl rfl rfl) h0))

theorem keeps_react {s0 : State} (n : Nat) (lv : Nat) (detail : Sys2Proof.W32) (aux : Nat) {s : State} (h0 : Keeps s0
    s) :
    Keeps s0 (react n lv detail aux s) := by
  unfold react
  exact (keeps_ite (keeps_rosterEvent _ h0) (keeps_ite (keeps_signalNmi (keeps_setRf _ _ _ (keeps_setRf _ _ _ h0)))
    (keeps_ite (by
      try extract_lets
      split
      exact (keeps_blockReset _ h0)
      exact (keeps_askChipReset _ h0)
    ) (keeps_askChipReset _ h0))))

theorem keeps_raiseAux {s0 : State} (n : Nat) (detail : Sys2Proof.W32) (aux : Nat) {s : State} (h0 : Keeps s0 s) :
    Keeps s0 (raiseAux n detail aux s) := by
  unfold raiseAux
  exact (keeps_ite (keeps_ite (keeps_ite (keeps_logRaise _ (keeps_bumpSat _ _ (keeps_setRf _ _ _ (keeps_bumpWrap _
    (keeps_bumpSat _ _ h0))))) (keeps_bumpSat _ _ (keeps_setRf _ _ _ (keeps_bumpWrap _ (keeps_bumpSat _ _ h0)))))
    (keeps_react _ _ _ _ (keeps_ite (keeps_logRaise _ (keeps_ite (keeps_holdNerr _ (keeps_setBit _ _ _ (keeps_setRb _
    _ _ (keeps_setRf _ _ _ (keeps_ite (keeps_bumpSat _ _ (keeps_setRf _ _ _ (keeps_bumpWrap _ (keeps_bumpSat _ _
    h0)))) (keeps_setRf _ _ _ (keeps_setRf _ _ _ (keeps_bumpWrap _ (keeps_bumpSat _ _ h0))))))))) (keeps_setBit _ _ _
    (keeps_setRb _ _ _ (keeps_setRf _ _ _ (keeps_ite (keeps_bumpSat _ _ (keeps_setRf _ _ _ (keeps_bumpWrap _
    (keeps_bumpSat _ _ h0)))) (keeps_setRf _ _ _ (keeps_setRf _ _ _ (keeps_bumpWrap _ (keeps_bumpSat _ _ h0))))))))))
    (keeps_ite (keeps_holdNerr _ (keeps_setBit _ _ _ (keeps_setRb _ _ _ (keeps_setRf _ _ _ (keeps_ite (keeps_bumpSat _
    _ (keeps_setRf _ _ _ (keeps_bumpWrap _ (keeps_bumpSat _ _ h0)))) (keeps_setRf _ _ _ (keeps_setRf _ _ _
    (keeps_bumpWrap _ (keeps_bumpSat _ _ h0))))))))) (keeps_setBit _ _ _ (keeps_setRb _ _ _ (keeps_setRf _ _ _
    (keeps_ite (keeps_bumpSat _ _ (keeps_setRf _ _ _ (keeps_bumpWrap _ (keeps_bumpSat _ _ h0)))) (keeps_setRf _ _ _
    (keeps_setRf _ _ _ (keeps_bumpWrap _ (keeps_bumpSat _ _ h0)))))))))))) (keeps_bumpSat _ _ h0))

theorem keeps_raiseD {s0 : State} (n : Nat) (detail : Sys2Proof.W32) {s : State} (h0 : Keeps s0 s) :
    Keeps s0 (raiseD n detail s) := by
  unfold raiseD
  exact (keeps_raiseAux _ _ _ h0)

theorem keeps_raise {s0 : State} (n : Nat) {s : State} (h0 : Keeps s0 s) :
    Keeps s0 (raise n s) := by
  unfold raise
  exact (keeps_raiseAux _ _ _ h0)

theorem keeps_acknowledge {s0 : State} (mask : Sys2Proof.W32) {s : State} (h0 : Keeps s0 s) :
    Keeps s0 (acknowledge mask s) := by
  unfold acknowledge
  exact (keeps_forEach h0 (fun _ _ h1 => (keeps_ite (keeps_setRb _ _ _ (keeps_setBit _ _ _ (keeps_setBit _ _ _ h1)))
    h1)))

theorem keeps_cavPut {s0 : State} (w : Nat) (v : W40) {s : State} (h : Keeps s0 s) : Keeps s0 (cavPut w v s) :=
  keeps_cavWords h fun m => wf_tset (D := fun _ => Config.clearedWord 40) w v m

theorem keeps_cavPuts {s0 : State} (w : Nat) (vs : List W40) {s : State} (h : Keeps s0 s) :
    Keeps s0 (cavPuts w vs s) := by
  induction vs generalizing w s with
  | nil => exact h
  | cons v r ih => exact ih _ (keeps_cavPut _ _ h)

theorem keeps_logAdvance {s0 : State} {s : State} (h0 : Keeps s0 s) :
    Keeps s0 (logAdvance s) := by
  unfold logAdvance
  exact (keeps_setRf _ _ _ (keeps_setRf _ _ _ h0))

theorem keeps_commitRecord {s0 : State} (e : Sys2Proof.Machine.LogEntry) (good : Nat) {s : State} (h0 : Keeps s0 s) :
    Keeps s0 (commitRecord e good s) := by
  unfold commitRecord
  exact (keeps_logAdvance (keeps_ite (keeps_ite (keeps_ite h0 (keeps_tick1 h0)) (keeps_ite (keeps_cavPut _ _
    (keeps_cavPuts _ _ (keeps_cavPut _ _ (keeps_ite h0 (keeps_tick1 h0))))) (keeps_cavPuts _ _ (keeps_cavPut _ _
    (keeps_ite h0 (keeps_tick1 h0)))))) (keeps_bumpSat _ _ (keeps_setRb _ _ _ (keeps_ite (keeps_ite h0 (keeps_tick1
    h0)) (keeps_ite (keeps_cavPut _ _ (keeps_cavPuts _ _ (keeps_cavPut _ _ (keeps_ite h0 (keeps_tick1 h0)))))
    (keeps_cavPuts _ _ (keeps_cavPut _ _ (keeps_ite h0 (keeps_tick1 h0))))))))))

end Sys2Proof.Machine
end

