-- ==== Sys2Proof/Laws/KeepsCairn.lean ====
section
/-! SUPPORT. The operations of Machine/Cairn.lean keep what every command keeps. -/

namespace Sys2Proof.Machine

open Sys2Proof

theorem keeps_setCrn {s0 : State} (c : Sys2Proof.Machine.Crn) {s : State} (h0 : Keeps s0 s) :
    Keeps s0 (setCrn c s) := by
  unfold setCrn
  exact (keeps_mk h0 rfl rfl rfl rfl rfl rfl rfl rfl rfl)

theorem keeps_showCairn {s0 : State} {s : State} (h : Keeps s0 s) : Keeps s0 (showCairn s) := by
  unfold showCairn
  extract_lets c t
  have k : Keeps s0 t := keeps_setRb _ _ _ (keeps_setRf _ _ _ h)
  clear_value t
  cases c.fifo with
  | nil => exact keeps_resetRegs _ _ k
  | cons e r =>
    dsimp only
    cases e.overrun with
    | none => exact keeps_setReg _ _ (keeps_setReg _ _ (keeps_setReg _ _ (keeps_setReg _ _ (keeps_setReg _ _ k))))
    | some p => exact keeps_setReg _ _ (keeps_setReg _ _ (keeps_setReg _ _ (keeps_setReg _ _ (keeps_setReg _ _ k))))

theorem keeps_cairnStamp {s0 : State} (n : Nat) (level : Bool) (t : Nat) {s : State} (h0 : Keeps s0 s) :
    Keeps s0 (cairnStamp n level t s) := by
  unfold cairnStamp
  exact (keeps_ite (keeps_setCrn _ h0) h0)

theorem keeps_cairnEvent {s0 : State} (n : Nat) (level : Bool) {s : State} (h0 : Keeps s0 s) :
    Keeps s0 (cairnEvent n level s) := by
  unfold cairnEvent
  exact (keeps_cairnStamp _ _ _ h0)

theorem keeps_cairnPut {s0 : State} (e : Sys2Proof.Machine.CrnEntry) {s : State} (h0 : Keeps s0 s) :
    Keeps s0 (cairnPut e s) := by
  unfold cairnPut
  exact (keeps_rosterEvent _ (keeps_setCrn _ h0))

theorem keeps_cairnFlushOver {s0 : State} {s : State} (h0 : Keeps s0 s) :
    Keeps s0 (cairnFlushOver s) := by
  unfold cairnFlushOver
  exact (by
      try extract_lets
      split
      exact (keeps_ite (keeps_cairnPut _ (keeps_setCrn _ h0)) h0)
      exact h0
    )

theorem keeps_cairnCommit {s0 : State} {s : State} (h0 : Keeps s0 s) :
    Keeps s0 (cairnCommit s) := by
  unfold cairnCommit
  exact (keeps_ite h0 (by
      try extract_lets
      split
      exact h0
      exact (keeps_showCairn (by
          try extract_lets
          split
          exact (keeps_bumpWrap _ (keeps_setCrn _ (keeps_setCrn _ h0)))
          exact (keeps_ite (keeps_cairnPut _ (keeps_setCrn _ h0)) (keeps_raise _ (keeps_setRb _ _ _ (keeps_bumpWrap _
            (keeps_setCrn _ (keeps_setCrn _ h0))))))
        ))
    ))

theorem keeps_cairnPop {s0 : State} {s : State} (h0 : Keeps s0 s) :
    Keeps s0 (cairnPop s) := by
  unfold cairnPop
  exact (keeps_ite h0 (keeps_showCairn (keeps_cairnFlushOver (keeps_setCrn _ h0))))

theorem keeps_cairnFlush {s0 : State} {s : State} (h0 : Keeps s0 s) :
    Keeps s0 (cairnFlush s) := by
  unfold cairnFlush
  exact (keeps_ite h0 (keeps_showCairn (keeps_setCrn _ h0)))

theorem keeps_cairnPin {s0 : State} (k : Nat) (m : Nat) (level : Bool) (held : Nat) {s : State} (h0 : Keeps s0 s) :
    Keeps s0 (cairnPin k m level held s) := by
  unfold cairnPin
  exact (keeps_ite h0 (keeps_ite (keeps_bumpSat _ _ h0) (keeps_cairnStamp _ _ _ (keeps_setCrn _ h0))))

end Sys2Proof.Machine
end

