-- ==== Sys2Proof/Laws/KeepsAlarm.lean ====
section
/-! SUPPORT. The operations of Machine/Alarm.lean keep what every command keeps. -/

namespace Sys2Proof.Machine

open Sys2Proof

theorem keeps_setMram {s0 : State} (f : Mram → Mram) {s : State} (h : Keeps s0 s)
    (h1 : (f s.sec.mram).fwFloor = s.sec.mram.fwFloor) (h2 : (f s.sec.mram).profFloor = s.sec.mram.profFloor) :
    Keeps s0 (setMram f s) :=
  keeps_frame h rfl rfl rfl rfl rfl rfl rfl h1 h2

theorem keeps_formVerdict {s0 : State} {s : State} (h0 : Keeps s0 s) :
    Keeps s0 (formVerdict s) := by
  unfold formVerdict
  exact (by
      try extract_lets
      split
      exact (keeps_setRf _ _ _ (keeps_setRb _ _ _ h0))
      exact (keeps_setRf _ _ _ (keeps_setRb _ _ _ h0))
    )

theorem keeps_showDebug {s0 : State} {s : State} (h0 : Keeps s0 s) :
    Keeps s0 (showDebug s) := by
  unfold showDebug
  exact (keeps_setRf _ _ _ (keeps_setRf _ _ _ h0))

theorem keeps_relock {s0 : State} {s : State} (h0 : Keeps s0 s) :
    Keeps s0 (relock s) := by
  unfold relock
  exact (keeps_showDebug (keeps_mk h0 rfl rfl rfl rfl rfl rfl rfl rfl rfl))

theorem keeps_abortStored {s0 : State} {s : State} (h0 : Keeps s0 s) :
    Keeps s0 (abortStored s) := by
  unfold abortStored
  exact (by
      try extract_lets
      split
      exact (keeps_ite (keeps_setRf _ _ _ (keeps_setRb _ _ _ (keeps_resetRegs _ _ (keeps_mk h0 rfl rfl rfl rfl rfl rfl
        rfl rfl rfl)))) h0)
      exact h0
    )

theorem keeps_abandonInstall {s0 : State} {s : State} (h0 : Keeps s0 s) :
    Keeps s0 (abandonInstall s) := by
  unfold abandonInstall
  exact (keeps_ite (keeps_setRf _ _ _ (keeps_setRb _ _ _ (keeps_setRb _ _ _ (keeps_mk h0 rfl rfl rfl rfl rfl rfl rfl
    rfl rfl)))) h0)

theorem keeps_enterMaint {s0 : State} {s : State} (h0 : Keeps s0 s) :
    Keeps s0 (enterMaint s) := by
  unfold enterMaint
  exact (keeps_mk (keeps_setRb _ _ _ (keeps_setRb _ _ _ h0)) rfl rfl rfl rfl rfl rfl rfl rfl rfl)

theorem keeps_startErase {s0 : State} (all : Bool) {s : State} (h0 : Keeps s0 s) :
    Keeps s0 (startErase all s) := by
  unfold startErase
  exact (keeps_setRb _ _ _ (keeps_setRb _ _ _ (keeps_mk (keeps_enterMaint (keeps_setRb _ _ _ (keeps_abandonInstall
    (keeps_abortStored h0)))) rfl rfl rfl rfl rfl rfl rfl rfl rfl)))

theorem keeps_finishErase {s0 : State} {s : State} (h : Keeps s0 s) : Keeps s0 (finishErase s) := by
  unfold finishErase
  split
  · exact h
  · rename_i all _
    have k := keeps_setMram (wipeKeys all) h (by unfold wipeKeys; dsimp only; split <;> rfl)
      (by unfold wipeKeys; dsimp only; split <;> rfl)
    exact keeps_formVerdict (keeps_setRb _ _ _ (keeps_setRb _ _ _
      (keeps_frame k rfl rfl rfl rfl rfl rfl rfl rfl rfl)))

theorem keeps_alarmAction {s0 : State} (k : Nat) {s : State} (h0 : Keeps s0 s) :
    Keeps s0 (alarmAction k s) := by
  unfold alarmAction
  exact (keeps_ite h0 (keeps_ite (keeps_startErase _ (keeps_relock h0)) (keeps_ite (keeps_startErase _ (keeps_relock
    h0)) (keeps_showDebug (keeps_setMram _ (keeps_relock h0) rfl rfl)))))

theorem keeps_violate {s0 : State} (k : Nat) {s : State} (h0 : Keeps s0 s) :
    Keeps s0 (violate k s) := by
  unfold violate
  exact (by
      try extract_lets
      split
      exact (keeps_alarmAction _ (keeps_raise _ (keeps_setBit _ _ _ h0)))
      exact (keeps_alarmAction _ (keeps_mk (keeps_setBit _ _ _ h0) rfl rfl rfl rfl rfl rfl rfl rfl rfl))
      exact (keeps_mk (keeps_setBit _ _ _ h0) rfl rfl rfl rfl rfl rfl rfl rfl rfl)
    )

theorem keeps_lateActions {s0 : State} {s : State} (h0 : Keeps s0 s) :
    Keeps s0 (lateActions s) := by
  unfold lateActions
  exact (keeps_mk (keeps_forEach h0 (fun _ _ h1 => (keeps_alarmAction _ h1))) rfl rfl rfl rfl rfl rfl rfl rfl rfl)

theorem keeps_lateRaises {s0 : State} {s : State} (h0 : Keeps s0 s) :
    Keeps s0 (lateRaises s) := by
  unfold lateRaises
  exact (keeps_forEach (keeps_mk h0 rfl rfl rfl rfl rfl rfl rfl rfl rfl) (fun _ _ h1 => (keeps_raise _ h1)))

end Sys2Proof.Machine
end

