-- ==== Sys2Proof/Laws/KeepsCavern.lean ====
section
/-! SUPPORT. The operations of Machine/Cavern.lean keep what every command keeps. -/

namespace Sys2Proof.Machine

open Sys2Proof

theorem keeps_cavCe {s0 : State} (w : Nat) {s : State} (h0 : Keeps s0 s) :
    Keeps s0 (cavCe w s) := by
  unfold cavCe
  exact (keeps_raiseD _ _ (keeps_setRf _ _ _ (keeps_setRb _ _ _ (keeps_bumpWrap _ h0))))

theorem keeps_cavUe {s0 : State} (w : Nat) {s : State} (h0 : Keeps s0 s) :
    Keeps s0 (cavUe w s) := by
  unfold cavUe
  exact (keeps_raiseD _ _ (keeps_setRf _ _ _ (keeps_setRb _ _ _ (keeps_bumpWrap _ h0))))

theorem keeps_cavFetch {s0 : State} (w : Nat) {s : State} (h0 : Keeps s0 s) :
    Keeps s0 (cavFetch w s).2 := by
  unfold cavFetch
  exact (keeps_ite1 h0 (keeps_ite1 (keeps_cavCe _ (keeps_cavPut _ _ h0)) (keeps_ite1 (keeps_cavUe _ h0) (keeps_ite1
    (keeps_cavUe _ (keeps_tick1 h0)) (keeps_ite1 (keeps_cavCe _ (keeps_cavPut _ _ (keeps_tick1 h0))) (keeps_tick1
    h0))))))

theorem keeps_cavFlip {s0 : State} (w : Nat) (mask : BitVec 48) {s : State} (h0 : Keeps s0 s) :
    Keeps s0 (cavFlip w mask s) := by
  unfold cavFlip
  exact (keeps_mk h0 rfl rfl rfl rfl rfl rfl rfl rfl rfl)

theorem keeps_cavAccess {s0 : State} (win : Nat) (off : Nat) (bytes : Nat) (write : Bool) (d : Sys2Proof.W64) {s :
    State} (h0 : Keeps s0 s) :
    Keeps s0 (cavAccess win off bytes write d s).2 := by
  unfold cavAccess
  exact (keeps_ite1 h0 (keeps_ite1 h0 (keeps_ite1 h0 (keeps_ite1 h0 (keeps_ite1 (by
      try extract_lets
      split
      ·
          rename_i h1
          have h2 := keeps_of_eq h1 (keeps_cavFetch _ h0)
          exact h2
      ·
          rename_i h3
          have h4 := keeps_of_eq h3 (keeps_cavFetch _ h0)
          exact h4
    ) (keeps_ite1 (keeps_cavPut _ _ h0) (by
      try extract_lets
      split
      ·
          rename_i h5
          have h6 := keeps_of_eq h5 (keeps_cavFetch _ h0)
          exact h6
      ·
          rename_i h7
          have h8 := keeps_of_eq h7 (keeps_cavFetch _ h0)
          exact (keeps_cavPut _ _ h8)
    )))))))

theorem keeps_engineRead {s0 : State} (w : Nat) {s : State} (h0 : Keeps s0 s) :
    Keeps s0 (engineRead w s).2 := by
  unfold engineRead
  exact (keeps_ite1 (keeps_cavFetch _ h0) h0)

theorem keeps_engineWrite {s0 : State} (w : Nat) (v : Sys2Proof.W40) {s : State} (h0 : Keeps s0 s) :
    Keeps s0 (engineWrite w v s) := by
  unfold engineWrite
  exact (keeps_ite (keeps_cavPut _ _ h0) h0)

theorem keeps_scrubStep {s0 : State} {s : State} (h0 : Keeps s0 s) :
    Keeps s0 (scrubStep s) := by
  unfold scrubStep
  exact (keeps_ite (keeps_ite (keeps_setRf _ _ _ (keeps_cavFetch _ h0)) h0) h0)

end Sys2Proof.Machine
end

