-- ==== Sys2Proof/Laws/KeepsMatrix.lean ====
section
/-! SUPPORT. The operations of Machine/Matrix.lean keep what every command keeps. -/

namespace Sys2Proof.Machine

open Sys2Proof

theorem keeps_errorResponse {s0 : State} (ident : Nat) (addr : Nat) (write : Bool) (code : Nat) {s : State} (h0 :
    Keeps s0 s) :
    Keeps s0 (errorResponse ident addr write code s) := by
  unfold errorResponse
  exact (keeps_ite (keeps_ite (keeps_setRb _ _ _ (keeps_bumpWrap _ h0)) (keeps_setRf _ _ _ (keeps_setRf _ _ _
    (keeps_setRf _ _ _ (keeps_setRb _ _ _ (keeps_setRb _ _ _ (keeps_setRf _ _ _ (keeps_bumpWrap _ h0))))))))
    (keeps_ite (keeps_violate _ (keeps_ite (keeps_setRb _ _ _ (keeps_bumpWrap _ h0)) (keeps_setRf _ _ _ (keeps_setRf _
    _ _ (keeps_setRf _ _ _ (keeps_setRb _ _ _ (keeps_setRb _ _ _ (keeps_setRf _ _ _ (keeps_bumpWrap _ h0))))))))) (by
      try extract_lets
      split
      exact (keeps_raiseAux _ _ _ (keeps_ite (keeps_setRb _ _ _ (keeps_bumpWrap _ h0)) (keeps_setRf _ _ _ (keeps_setRf
        _ _ _ (keeps_setRf _ _ _ (keeps_setRb _ _ _ (keeps_setRb _ _ _ (keeps_setRf _ _ _ (keeps_bumpWrap _
        h0)))))))))
      exact (keeps_ite (keeps_setRb _ _ _ (keeps_bumpWrap _ h0)) (keeps_setRf _ _ _ (keeps_setRf _ _ _ (keeps_setRf _
        _ _ (keeps_setRb _ _ _ (keeps_setRb _ _ _ (keeps_setRf _ _ _ (keeps_bumpWrap _ h0))))))))
    )))

theorem keeps_issueSeq {s0 : State} {s : State} (h0 : Keeps s0 s) :
    Keeps s0 (issueSeq s) := by
  unfold issueSeq
  exact (keeps_mk h0 rfl rfl rfl rfl rfl rfl rfl rfl rfl)

theorem keeps_takeEntry {s0 : State} (m : Nat) {s : State} (h0 : Keeps s0 s) :
    Keeps s0 (takeEntry m s) := by
  unfold takeEntry
  exact (keeps_ite (keeps_setRf _ _ _ (keeps_setRf _ _ _ h0)) (keeps_setRf _ _ _ h0))

theorem keeps_freeEntry {s0 : State} (m : Nat) {s : State} (h0 : Keeps s0 s) :
    Keeps s0 (freeEntry m s) := by
  unfold freeEntry
  exact (keeps_setRf _ _ _ h0)

theorem keeps_countStall {s0 : State} (m : Nat) {s : State} (h0 : Keeps s0 s) :
    Keeps s0 (countStall m s) := by
  unfold countStall
  exact (keeps_bumpSat _ _ h0)

theorem keeps_arriveEarly {s0 : State} (ident : Nat) {s : State} (h0 : Keeps s0 s) :
    Keeps s0 (arriveEarly ident s) := by
  unfold arriveEarly
  exact (by
      try extract_lets
      split
      exact (keeps_freeEntry _ (keeps_mk h0 rfl rfl rfl rfl rfl rfl rfl rfl rfl))
      exact (keeps_ite h0 (by
          try extract_lets
          split
          exact h0
          exact (keeps_freeEntry _ (keeps_mk h0 rfl rfl rfl rfl rfl rfl rfl rfl rfl))
        ))
    )

theorem keeps_touchEntry {s0 : State} (ident : Nat) {s : State} (h0 : Keeps s0 s) :
    Keeps s0 (touchEntry ident s) := by
  unfold touchEntry
  exact (keeps_freeEntry _ (keeps_takeEntry _ (keeps_ite h0 (keeps_arriveEarly _ (keeps_countStall _ h0)))))

theorem keeps_touchEntries {s0 : State} (ident n : Nat) {s : State} (h : Keeps s0 s) :
    Keeps s0 (touchEntries ident n s) := by
  induction n generalizing s with
  | zero => exact h
  | succ n ih => exact ih (keeps_touchEntry _ h)

theorem keeps_engineFetch {s0 : State} (ident : Nat) (a : Nat) {s : State} (h0 : Keeps s0 s) :
    Keeps s0 (engineFetch ident a s).2 := by
  unfold engineFetch
  exact (by
      try extract_lets
      split
      exact h0
      exact (keeps_ite1 h0 (by
          try extract_lets
          split
          exact (keeps_ite1 h0 (keeps_ite1 h0 (by
              try extract_lets
              split
              ·
                  rename_i h1
                  have h2 := keeps_of_eq h1 (keeps_cavFetch _ h0)
                  exact h2
              ·
                  rename_i h3
                  have h4 := keeps_of_eq h3 (keeps_cavFetch _ h0)
                  exact h4
            )))
          exact h0
        ))
    )

theorem keeps_matrixReadAt {s0 : State} (ident : Nat) (a : Nat) {s : State} (h0 : Keeps s0 s) :
    Keeps s0 (matrixReadAt ident a s).2 := by
  unfold matrixReadAt
  exact (by
      try extract_lets
      split
      ·
          rename_i h1
          have h2 := keeps_of_eq h1 (keeps_engineFetch _ _ (keeps_touchEntry _ h0))
          exact (keeps_errorResponse _ _ _ _ h2)
      ·
          rename_i h3
          have h4 := keeps_of_eq h3 (keeps_engineFetch _ _ (keeps_touchEntry _ h0))
          exact h4
    )

theorem keeps_matrixWriteAt {s0 : State} (ident : Nat) (a : Nat) (v : Sys2Proof.W40) {s : State} (h0 : Keeps s0 s) :
    Keeps s0 (matrixWriteAt ident a v s).2 := by
  unfold matrixWriteAt
  exact (keeps_ite1 (by
      try extract_lets
      split
      exact (keeps_touchEntry _ h0)
      exact (keeps_ite1 (keeps_touchEntry _ h0) (by
          try extract_lets
          split
          exact (keeps_cavAccess _ _ _ _ _ (keeps_touchEntry _ h0))
          exact (keeps_touchEntry _ h0)
        ))
    ) (keeps_errorResponse _ _ _ _ (by
      try extract_lets
      split
      exact (keeps_touchEntry _ h0)
      exact (keeps_ite1 (keeps_touchEntry _ h0) (by
          try extract_lets
          split
          exact (keeps_cavAccess _ _ _ _ _ (keeps_touchEntry _ h0))
          exact (keeps_touchEntry _ h0)
        ))
    )))

theorem keeps_matrixRead {s0 : State} (ident : Nat) (w : Nat) {s : State} (h0 : Keeps s0 s) :
    Keeps s0 (matrixRead ident w s).2 := by
  unfold matrixRead
  exact (keeps_matrixReadAt _ _ h0)

theorem keeps_matrixWrite {s0 : State} (ident : Nat) (w : Nat) (v : Sys2Proof.W40) {s : State} (h0 : Keeps s0 s) :
    Keeps s0 (matrixWrite ident w v s).2 := by
  unfold matrixWrite
  exact (keeps_matrixWriteAt _ _ _ h0)

theorem keeps_scanHeaders {s0 : State} (rs : List Nat) {s : State} (h : Keeps s0 s) :
    Keeps s0 (scanHeaders rs s).2 := by
  induction rs generalizing s with
  | nil => exact h
  | cons r rs ih =>
    unfold scanHeaders
    dsimp only
    split
    · exact ih h
    · split
      · rename_i e; exact ih (keeps_of_eq e (keeps_cavFetch _ h))
      · rename_i e; exact ih (keeps_errorResponse _ _ _ _ (keeps_of_eq e (keeps_cavFetch _ h)))

theorem keeps_bootScan {s0 : State} {s : State} (h0 : Keeps s0 s) :
    Keeps s0 (bootScan s) := by
  unfold bootScan
  exact (by
      try extract_lets
      split
      exact (keeps_setRf _ _ _ (keeps_setRf _ _ _ (keeps_cavPuts _ _ (keeps_touchEntries _ _ (keeps_scanHeaders _
        (keeps_touchEntry _ h0))))))
    )

end Sys2Proof.Machine
end

