-- ==== Sys2Proof/Laws/KeepsSiphon.lean ====
section
/-! SUPPORT. The operations of Machine/Siphon.lean keep what every command keeps. -/

namespace Sys2Proof.Machine

open Sys2Proof

theorem keeps_setSph {s0 : State} (n : Nat) (c : Sys2Proof.Machine.SphCh) {s : State} (h0 : Keeps s0 s) :
    Keeps s0 (setSph n c s) := by
  unfold setSph
  exact (keeps_mk h0 rfl rfl rfl rfl rfl rfl rfl rfl rfl)

theorem keeps_sphLeft {s0 : State} (n : Nat) {s : State} (h0 : Keeps s0 s) :
    Keeps s0 (sphLeft n s) := by
  unfold sphLeft
  exact (keeps_setRf _ _ _ (keeps_setRf _ _ _ h0))

theorem keeps_sphStop {s0 : State} (n : Nat) (err : Nat) (event : Bool) {s : State} (h0 : Keeps s0 s) :
    Keeps s0 (sphStop n err event s) := by
  unfold sphStop
  exact (keeps_ite (keeps_rosterEvent _ (keeps_setSph _ _ (keeps_setRf _ _ _ (keeps_setRb _ _ _ (keeps_setRb _ _ _
    (keeps_setRb _ _ _ h0)))))) (keeps_setSph _ _ (keeps_setRf _ _ _ (keeps_setRb _ _ _ (keeps_setRb _ _ _
    (keeps_setRb _ _ _ h0))))))

theorem keeps_sphFetch {s0 : State} (ident w n : Nat) {s : State} (h : Keeps s0 s) : Keeps s0 (sphFetch ident w n s).2 := by
  induction n generalizing w s with
  | zero => exact h
  | succ n ih =>
    unfold sphFetch
    split
    · rename_i e
      exact keeps_of_eq e (keeps_matrixRead _ _ h)
    · rename_i e
      have k := ih (w + 1) (keeps_of_eq e (keeps_matrixRead _ _ h))
      split
      · rename_i e2
        exact keeps_of_eq e2 k
      · rename_i e2
        exact keeps_of_eq e2 k

theorem keeps_sphStart {s0 : State} (n : Nat) {s : State} (h0 : Keeps s0 s) :
    Keeps s0 (sphStart n s) := by
  unfold sphStart
  exact (keeps_ite (keeps_raise _ (keeps_sphStop _ _ _ h0)) (by
      try extract_lets
      split
      ·
          rename_i h1
          have h2 := keeps_of_eq h1 (keeps_sphFetch _ _ _ h0)
          exact (keeps_sphStop _ _ _ h2)
      ·
          rename_i h3
          have h4 := keeps_of_eq h3 (keeps_sphFetch _ _ _ h0)
          exact (by
              try extract_lets
              split
              exact (keeps_raise _ (keeps_sphStop _ _ _ h4))
              exact (keeps_sphLeft _ (keeps_setRb _ _ _ (keeps_setSph _ _ h4)))
            )
    ))

theorem keeps_sphTrigger {s0 : State} (n : Nat) {s : State} (h0 : Keeps s0 s) :
    Keeps s0 (sphTrigger n s) := by
  unfold sphTrigger
  exact (keeps_ite h0 (keeps_ite (keeps_ite (keeps_bumpSat _ _ h0) (keeps_setRb _ _ _ h0)) (keeps_sphStart _ h0)))

theorem keeps_sphEvent {s0 : State} (t : Nat) {s : State} (h0 : Keeps s0 s) :
    Keeps s0 (sphEvent t s) := by
  unfold sphEvent
  exact (keeps_forEach h0 (fun _ _ h1 => (keeps_ite (keeps_sphTrigger _ h1) h1)))

theorem keeps_cycleEvent {s0 : State} (code : Nat) {s : State} (h0 : Keeps s0 s) :
    Keeps s0 (cycleEvent code s) := by
  unfold cycleEvent
  exact (keeps_sphEvent _ (keeps_rosterEvent _ h0))

theorem keeps_timerRosterEvent {s0 : State} (n : Nat) {s : State} (h0 : Keeps s0 s) :
    Keeps s0 (timerRosterEvent n s) := by
  unfold timerRosterEvent
  exact (keeps_sphEvent _ (keeps_rosterEvent _ (keeps_cairnEvent _ _ h0)))

theorem keeps_doorbellEvent {s0 : State} {s : State} (h0 : Keeps s0 s) :
    Keeps s0 (doorbellEvent s) := by
  unfold doorbellEvent
  exact (keeps_sphEvent _ (keeps_rosterEvent _ h0))

theorem keeps_commitEvent {s0 : State} {s : State} (h0 : Keeps s0 s) :
    Keeps s0 (commitEvent s) := by
  unfold commitEvent
  exact (keeps_sphEvent _ (keeps_rosterEvent _ (keeps_cairnEvent _ _ h0)))

theorem keeps_sphEnable {s0 : State} (n : Nat) {s : State} (h0 : Keeps s0 s) :
    Keeps s0 (sphEnable n s) := by
  unfold sphEnable
  exact (keeps_ite h0 (keeps_setRb _ _ _ (keeps_setRf _ _ _ (keeps_setRf _ _ _ h0))))

theorem keeps_sphDisable {s0 : State} (n : Nat) {s : State} (h0 : Keeps s0 s) :
    Keeps s0 (sphDisable n s) := by
  unfold sphDisable
  exact (keeps_ite (keeps_setRb _ _ _ h0) (keeps_ite (keeps_sphStop _ _ _ (keeps_setRb _ _ _ h0)) (keeps_setSph _ _
    (keeps_setRb _ _ _ h0))))

end Sys2Proof.Machine
end

