-- ==== Sys2Proof/Laws/KeepsChamberOps.lean ====
section
/-! SUPPORT. The operations of Machine/ChamberOps.lean keep what every command keeps. -/

namespace Sys2Proof.Machine

open Sys2Proof

theorem keeps_chmCe {s0 : State} (n : Nat) (bundle : Nat) {s : State} (h0 : Keeps s0 s) :
    Keeps s0 (chmCe n bundle s) := by
  unfold chmCe
  exact (keeps_raiseD _ _ (keeps_bumpSat _ _ h0))

theorem keeps_chmUe {s0 : State} (n : Nat) (bundle : Nat) {s : State} (h0 : Keeps s0 s) :
    Keeps s0 (chmUe n bundle s) := by
  unfold chmUe
  exact (keeps_raiseD _ _ (keeps_bumpSat _ _ h0))

theorem keeps_setChm {s0 : State} (n : Nat) (c : Sys2Proof.Machine.Chamber) {s : State} (h0 : Keeps s0 s) :
    Keeps s0 (setChm n c s) := by
  unfold setChm
  exact (keeps_mk h0 rfl rfl rfl rfl rfl rfl rfl rfl rfl)

theorem keeps_xyFetch {s0 : State} (n : Nat) (sp : Nat) (i : Nat) (bundle : Nat) {s : State} (h0 : Keeps s0 s) :
    Keeps s0 (xyFetch n sp i bundle s).2 := by
  unfold xyFetch
  exact (keeps_ite1 h0 (keeps_ite1 (keeps_chmCe _ _ (keeps_setChm _ _ h0)) (keeps_ite1 (keeps_chmUe _ _ h0)
    (keeps_ite1 (keeps_chmUe _ _ (keeps_tick1 h0)) (keeps_ite1 (keeps_chmCe _ _ (keeps_setChm _ _ (keeps_tick1 h0)))
    (keeps_tick1 h0))))))

theorem keeps_addressFault {s0 : State} (n : Nat) (bundle : Nat) (v : BitVec 24) {s : State} (h0 : Keeps s0 s) :
    Keeps s0 (addressFault n bundle v s) := by
  unfold addressFault
  exact (keeps_raiseD _ _ (keeps_setRf _ _ _ (keeps_setRb _ _ _ h0)))

theorem keeps_programStore {s0 : State} (n : Nat) (bundle : Nat) (v : BitVec 24) {s : State} (h0 : Keeps s0 s) :
    Keeps s0 (programStore n bundle v s) := by
  unfold programStore
  exact (keeps_raiseD _ _ (keeps_setRf _ _ _ (keeps_setRb _ _ _ h0)))

theorem keeps_nearLoad {s0 : State} (n : Nat) (bundle : Nat) (v : BitVec 24) {s : State} (h0 : Keeps s0 s) :
    Keeps s0 (nearLoad n bundle v s).2 := by
  unfold nearLoad
  exact (keeps_ite1 (keeps_xyFetch _ _ _ _ h0) (keeps_addressFault _ _ _ h0))

end Sys2Proof.Machine
end

