-- ==== Sys2Proof/Laws/KeepsChamberRun.lean ====
section
/-! SUPPORT. The operations of Machine/ChamberRun.lean keep what every command keeps. -/

namespace Sys2Proof.Machine

open Sys2Proof

theorem keeps_chmRelease {s0 : State} (n : Nat) {s : State} (h0 : Keeps s0 s) :
    Keeps s0 (chmRelease n s) := by
  unfold chmRelease
  exact (keeps_setChm _ _ h0)

theorem keeps_chmStop {s0 : State} (n : Nat) {s : State} (h0 : Keeps s0 s) :
    Keeps s0 (chmStop n s) := by
  unfold chmStop
  exact (keeps_setChm _ _ h0)

theorem keeps_chmIllegal {s0 : State} (n : Nat) (cause : Nat) {s : State} (h0 : Keeps s0 s) :
    Keeps s0 (chmIllegal n cause s) := by
  unfold chmIllegal
  exact (keeps_raiseD _ _ (keeps_chmStop _ (keeps_setRf _ _ _ (keeps_setRf _ _ _ (keeps_setRb _ _ _ h0)))))

theorem keeps_chmLoopFault {s0 : State} (n : Nat) (cause : Nat) {s : State} (h0 : Keeps s0 s) :
    Keeps s0 (chmLoopFault n cause s) := by
  unfold chmLoopFault
  exact (keeps_raiseD _ _ (keeps_chmStop _ (keeps_setRf _ _ _ (keeps_setRf _ _ _ (keeps_setRb _ _ _ h0)))))

theorem keeps_gatewayIssue {s0 : State} (n : Nat) {s : State} (h0 : Keeps s0 s) :
    Keeps s0 (gatewayIssue n s) := by
  unfold gatewayIssue
  exact (keeps_mk (keeps_issueSeq (keeps_takeEntry _ h0)) rfl rfl rfl rfl rfl rfl rfl rfl rfl)

theorem keeps_doLoads {s0 : State} (n bundle : Nat) (ms : List MemOp) {s : State} (h : Keeps s0 s) :
    Keeps s0 (doLoads n bundle ms s) := by
  induction ms generalizing s with
  | nil => exact h
  | cons m r ih =>
    cases m with
    | store => exact ih h
    | load p dest near =>
      exact keeps_ite (ih (keeps_setChm _ _ (keeps_cavAccess 0 (8 * ptrIndex p) 8 false 0 (keeps_gatewayIssue n h))))
        (ih (keeps_setChm _ _ (keeps_nearLoad _ _ _ h)))

theorem keeps_doStores {s0 : State} (n bundle : Nat) (ms : List MemOp) {s : State} (h : Keeps s0 s) :
    Keeps s0 (doStores n bundle ms s) := by
  induction ms generalizing s with
  | nil => exact h
  | cons m r ih =>
    cases m with
    | load => exact ih h
    | store p v near =>
      have k := keeps_programStore n bundle p h
      exact keeps_ite (ih (keeps_ite (keeps_addressFault _ _ _ k) k)) (keeps_ite
        (ih (keeps_setChm _ _ (keeps_cavAccess 0 (8 * ptrIndex p) 8 true (v.setWidth 64) (keeps_gatewayIssue n h))))
        (keeps_ite (ih (keeps_setChm _ _ h)) (ih (keeps_addressFault _ _ _ h))))

theorem keeps_fetchOps {s0 : State} (n bundle : Nat) (ps : List (BitVec 24)) {s : State} (h : Keeps s0 s) :
    Keeps s0 (fetchOps n bundle ps s).2 := by
  induction ps generalizing s with
  | nil => exact h
  | cons p r ih => exact ih (keeps_nearLoad _ _ _ h)

theorem keeps_setSticky {s0 : State} (n : Nat) (k : Nat) {s : State} (h0 : Keeps s0 s) :
    Keeps s0 (setSticky n k s) := by
  unfold setSticky
  exact (keeps_ite (keeps_setRb _ _ _ (keeps_ite (keeps_setRb _ _ _ (keeps_ite (keeps_setRb _ _ _ h0) h0)) (keeps_ite
    (keeps_setRb _ _ _ h0) h0))) (keeps_ite (keeps_setRb _ _ _ (keeps_ite (keeps_setRb _ _ _ h0) h0)) (keeps_ite
    (keeps_setRb _ _ _ h0) h0)))

theorem keeps_chmExecute {s0 : State} (n : Nat) (b : Sys2Proof.W64) {s : State} (h0 : Keeps s0 s) :
    Keeps s0 (chmExecute n b s) := by
  unfold chmExecute
  exact (keeps_setSticky _ _ (keeps_doStores _ _ _ (keeps_setChm _ _ (keeps_doLoads _ _ _ (keeps_ite (keeps_bumpSat _
    _ (keeps_fetchOps _ _ _ (keeps_fetchOps _ _ _ h0))) (keeps_fetchOps _ _ _ (keeps_fetchOps _ _ _ h0)))))))

theorem keeps_fetchCheck {s0 : State} (n : Nat) {s : State} (h0 : Keeps s0 s) :
    Keeps s0 (fetchCheck n s).2 := by
  unfold fetchCheck
  exact (keeps_ite1 h0 (keeps_ite1 (keeps_chmCe _ _ (keeps_setChm _ _ h0)) (keeps_ite1 (keeps_chmUe _ _ (keeps_chmStop
    _ h0)) (keeps_ite1 (keeps_chmUe _ _ (keeps_chmStop _ (keeps_tick1 h0))) (keeps_ite1 (keeps_chmCe _ _ (keeps_setChm
    _ _ (keeps_tick1 h0))) (keeps_tick1 h0))))))

theorem keeps_chmFlip {s0 : State} (n : Nat) (f : Option Sys2Proof.ChmFlip) {s : State} (h0 : Keeps s0 s) :
    Keeps s0 (chmFlip n f s) := by
  unfold chmFlip
  exact (by
      try extract_lets
      split
      exact h0
      exact (keeps_ite (keeps_setChm _ _ h0) (keeps_ite (keeps_setChm _ _ h0) (keeps_setChm _ _ h0)))
    )

theorem keeps_chmBundle {s0 : State} (n : Nat) (b : Sys2Proof.W64) {s : State} (h0 : Keeps s0 s) :
    Keeps s0 (chmBundle n b s) := by
  unfold chmBundle
  exact (keeps_ite h0 (by
      try extract_lets
      split
      ·
          rename_i h1
          have h2 := keeps_of_eq h1 (keeps_fetchCheck _ h0)
          exact h2
      ·
          rename_i h3
          have h4 := keeps_of_eq h3 (keeps_fetchCheck _ h0)
          exact (by
              try extract_lets
              split
              exact (keeps_chmIllegal _ _ h4)
              exact (keeps_ite (keeps_ite h4 (keeps_setChm _ _ (keeps_bumpSat _ _ h4))) (keeps_ite (keeps_chmIllegal _
                _ h4) (keeps_ite (keeps_chmLoopFault _ _ h4) (keeps_ite (keeps_setChm _ _ (keeps_ite h4 (keeps_bumpSat
                _ _ h4))) (keeps_chmExecute _ _ h4)))))
            )
    ))

theorem keeps_chmAnswer {s0 : State} (n : Nat) {s : State} (h0 : Keeps s0 s) :
    Keeps s0 (chmAnswer n s) := by
  unfold chmAnswer
  exact (by
      try extract_lets
      split
      exact h0
      exact (keeps_ite h0 (keeps_ite (keeps_setChm _ _ (keeps_freeEntry _ h0)) (keeps_errorResponse _ _ _ _
        (keeps_setRf _ _ _ (keeps_setRb _ _ _ (keeps_setChm _ _ (keeps_freeEntry _ h0)))))))
    )

theorem keeps_chmTimeout {s0 : State} (n : Nat) {s : State} (h0 : Keeps s0 s) :
    Keeps s0 (chmTimeout n s) := by
  unfold chmTimeout
  exact (by
      try extract_lets
      split
      exact h0
      exact (by
          try extract_lets
          split
          exact (keeps_ite (keeps_chmAnswer _ h0) (keeps_chmAnswer _ (keeps_setChm _ _ h0)))
          exact h0
        )
    )

theorem keeps_chmSwap {s0 : State} (n : Nat) {s : State} (h0 : Keeps s0 s) :
    Keeps s0 (chmSwap n s) := by
  unfold chmSwap
  exact (keeps_setRf _ _ _ (keeps_setChm _ _ h0))

theorem keeps_chmEvent {s0 : State} (tim : Nat) (n : Nat) {s : State} (h0 : Keeps s0 s) :
    Keeps s0 (chmEvent tim n s) := by
  unfold chmEvent
  exact (keeps_ite (keeps_setChm _ _ h0) (keeps_bumpSat _ _ h0))

theorem keeps_chmFlush {s0 : State} (n : Nat) {s : State} (h0 : Keeps s0 s) :
    Keeps s0 (chmFlush n s) := by
  unfold chmFlush
  exact (keeps_setChm _ _ h0)

theorem keeps_loaderWrite {s0 : State} (n : Nat) (i : Nat) (b : Sys2Proof.W64) {s : State} (h0 : Keeps s0 s) :
    Keeps s0 (loaderWrite n i b s) := by
  unfold loaderWrite
  exact (keeps_bumpSat _ _ (keeps_setReg _ _ (keeps_setChm _ _ h0)))

theorem keeps_loaderRead {s0 : State} (n : Nat) (i : Nat) {s : State} (h0 : Keeps s0 s) :
    Keeps s0 (loaderRead n i s).2 := by
  unfold loaderRead
  exact (keeps_ite1 h0 (keeps_ite1 (keeps_chmCe _ _ (keeps_setChm _ _ h0)) (keeps_ite1 (keeps_chmUe _ _ h0)
    (keeps_ite1 (keeps_chmUe _ _ (keeps_tick1 h0)) (keeps_ite1 (keeps_chmCe _ _ (keeps_tick1 h0)) (keeps_tick1
    h0))))))

theorem keeps_meetBank {s0 : State} (n : Nat) (k : Nat) {s : State} (h0 : Keeps s0 s) :
    Keeps s0 (meetBank n k s) := by
  unfold meetBank
  exact (keeps_ite (keeps_setChm _ _ (keeps_tick1 h0)) h0)

theorem keeps_chmAccess {s0 : State} (off : Nat) (bytes : Nat) (write : Bool) (d : Sys2Proof.W64) {s : State} (h0 :
    Keeps s0 s) :
    Keeps s0 (chmAccess off bytes write d s).2 := by
  unfold chmAccess
  exact (keeps_ite1 (keeps_ite1 h0 (keeps_ite1 h0 (keeps_ite1 h0 (keeps_ite1 (keeps_loaderWrite _ _ _ h0)
    (keeps_loaderRead _ _ h0))))) (keeps_ite1 h0 (keeps_ite1 h0 (keeps_ite1 h0 (keeps_ite1 (keeps_setChm _ _
    (keeps_meetBank _ _ h0)) (by
      try extract_lets
      split
      ·
          rename_i h1
          have h2 := keeps_of_eq h1 (keeps_xyFetch _ _ _ _ (keeps_meetBank _ _ h0))
          exact h2
      ·
          rename_i h3
          have h4 := keeps_of_eq h3 (keeps_xyFetch _ _ _ _ (keeps_meetBank _ _ h0))
          exact (keeps_ite1 (keeps_setChm _ _ h4) h4)
    ))))))

end Sys2Proof.Machine
end

