-- ==== Sys2Proof/Laws/KeepsGate.lean ====
section
/-! SUPPORT. The operations of Machine/Gate.lean keep what every command keeps. -/

namespace Sys2Proof.Machine

open Sys2Proof

theorem keeps_setGateGrp {s0 : State} (g : Nat) (x : Sys2Proof.Machine.GateGrp) {s : State} (h0 : Keeps s0 s) :
    Keeps s0 (setGateGrp g x s) := by
  unfold setGateGrp
  exact (keeps_mk h0 rfl rfl rfl rfl rfl rfl rfl rfl rfl)

theorem keeps_tripGroup {s0 : State} (g : Nat) (manual : Bool) {s : State} (h0 : Keeps s0 s) :
    Keeps s0 (tripGroup g manual s) := by
  unfold tripGroup
  exact (keeps_ite (keeps_raise _ (keeps_setBit _ _ _ (keeps_setBit _ _ _ (keeps_setBit _ _ _ (keeps_setGateGrp _ _
    h0))))) (keeps_setBit _ _ _ (keeps_setBit _ _ _ (keeps_setGateGrp _ _ h0))))

theorem keeps_relWrite {s0 : State} (mask : Sys2Proof.W32) {s : State} (h0 : Keeps s0 s) :
    Keeps s0 (relWrite mask s) := by
  unfold relWrite
  exact (keeps_forEach h0 (fun _ _ h1 => (keeps_ite (keeps_setRb _ _ _ h1) (keeps_setGateGrp _ _ h1))))

theorem keeps_releaseAtReload {s0 : State} (g : Nat) {s : State} (h0 : Keeps s0 s) :
    Keeps s0 (releaseAtReload g s) := by
  unfold releaseAtReload
  exact (keeps_ite (keeps_setGateGrp _ _ (keeps_setBit _ _ _ h0)) h0)

theorem keeps_cmpTrip {s0 : State} (k : Nat) (uv : Nat) {s : State} (h0 : Keeps s0 s) :
    Keeps s0 (cmpTrip k uv s) := by
  unfold cmpTrip
  exact (keeps_ite (keeps_raise _ (keeps_tripGroup _ _ (keeps_setBit _ _ _ (keeps_bumpSat _ _ (keeps_setBit _ _ _
    h0))))) h0)

theorem keeps_cmpRelease {s0 : State} (k : Nat) (uv : Nat) {s : State} (h0 : Keeps s0 s) :
    Keeps s0 (cmpRelease k uv s) := by
  unfold cmpRelease
  exact (keeps_ite (keeps_setBit _ _ _ h0) h0)

theorem keeps_axisBoundary {s0 : State} (a : Nat) {s : State} (h0 : Keeps s0 s) :
    Keeps s0 (axisBoundary a s) := by
  unfold axisBoundary
  exact (keeps_ite h0 (by
      try extract_lets
      split
      exact h0
      exact (keeps_ite (keeps_ite (keeps_setRb _ _ _ (keeps_ite (keeps_setRb _ _ _ (keeps_ite (keeps_setRb _ _ _
        (keeps_setRf _ _ _ (keeps_mk h0 rfl rfl rfl rfl rfl rfl rfl rfl rfl))) (keeps_setRf _ _ _ (keeps_mk h0 rfl rfl
        rfl rfl rfl rfl rfl rfl rfl)))) (keeps_ite (keeps_setRb _ _ _ (keeps_setRf _ _ _ (keeps_mk h0 rfl rfl rfl rfl
        rfl rfl rfl rfl rfl))) (keeps_setRf _ _ _ (keeps_mk h0 rfl rfl rfl rfl rfl rfl rfl rfl rfl))))) (keeps_ite
        (keeps_setRb _ _ _ (keeps_ite (keeps_setRb _ _ _ (keeps_setRf _ _ _ (keeps_mk h0 rfl rfl rfl rfl rfl rfl rfl
        rfl rfl))) (keeps_setRf _ _ _ (keeps_mk h0 rfl rfl rfl rfl rfl rfl rfl rfl rfl)))) (keeps_ite (keeps_setRb _ _
        _ (keeps_setRf _ _ _ (keeps_mk h0 rfl rfl rfl rfl rfl rfl rfl rfl rfl))) (keeps_setRf _ _ _ (keeps_mk h0 rfl
        rfl rfl rfl rfl rfl rfl rfl rfl))))) (keeps_ite (keeps_setGateGrp _ _ (keeps_ite (keeps_setRb _ _ _ (keeps_ite
        (keeps_setRb _ _ _ (keeps_ite (keeps_setRb _ _ _ (keeps_setRf _ _ _ (keeps_mk h0 rfl rfl rfl rfl rfl rfl rfl
        rfl rfl))) (keeps_setRf _ _ _ (keeps_mk h0 rfl rfl rfl rfl rfl rfl rfl rfl rfl)))) (keeps_ite (keeps_setRb _ _
        _ (keeps_setRf _ _ _ (keeps_mk h0 rfl rfl rfl rfl rfl rfl rfl rfl rfl))) (keeps_setRf _ _ _ (keeps_mk h0 rfl
        rfl rfl rfl rfl rfl rfl rfl rfl))))) (keeps_ite (keeps_setRb _ _ _ (keeps_ite (keeps_setRb _ _ _ (keeps_setRf
        _ _ _ (keeps_mk h0 rfl rfl rfl rfl rfl rfl rfl rfl rfl))) (keeps_setRf _ _ _ (keeps_mk h0 rfl rfl rfl rfl rfl
        rfl rfl rfl rfl)))) (keeps_ite (keeps_setRb _ _ _ (keeps_setRf _ _ _ (keeps_mk h0 rfl rfl rfl rfl rfl rfl rfl
        rfl rfl))) (keeps_setRf _ _ _ (keeps_mk h0 rfl rfl rfl rfl rfl rfl rfl rfl rfl)))))) (keeps_raise _
        (keeps_tripGroup _ _ (keeps_ite (keeps_setRb _ _ _ (keeps_ite (keeps_setRb _ _ _ (keeps_ite (keeps_setRb _ _ _
        (keeps_setRf _ _ _ (keeps_mk h0 rfl rfl rfl rfl rfl rfl rfl rfl rfl))) (keeps_setRf _ _ _ (keeps_mk h0 rfl rfl
        rfl rfl rfl rfl rfl rfl rfl)))) (keeps_ite (keeps_setRb _ _ _ (keeps_setRf _ _ _ (keeps_mk h0 rfl rfl rfl rfl
        rfl rfl rfl rfl rfl))) (keeps_setRf _ _ _ (keeps_mk h0 rfl rfl rfl rfl rfl rfl rfl rfl rfl))))) (keeps_ite
        (keeps_setRb _ _ _ (keeps_ite (keeps_setRb _ _ _ (keeps_setRf _ _ _ (keeps_mk h0 rfl rfl rfl rfl rfl rfl rfl
        rfl rfl))) (keeps_setRf _ _ _ (keeps_mk h0 rfl rfl rfl rfl rfl rfl rfl rfl rfl)))) (keeps_ite (keeps_setRb _ _
        _ (keeps_setRf _ _ _ (keeps_mk h0 rfl rfl rfl rfl rfl rfl rfl rfl rfl))) (keeps_setRf _ _ _ (keeps_mk h0 rfl
        rfl rfl rfl rfl rfl rfl rfl rfl)))))))))
    ))

theorem keeps_showLedPower {s0 : State} {s : State} (h0 : Keeps s0 s) :
    Keeps s0 (showLedPower s) := by
  unfold showLedPower
  exact (keeps_setRf _ _ _ h0)

theorem keeps_spkChannel {s0 : State} (c : Nat) (x : Sys2Proof.W40) {s : State} (h0 : Keeps s0 s) :
    Keeps s0 (spkChannel c x s).2 := by
  unfold spkChannel
  exact (keeps_ite1 (keeps_bumpSat _ _ (keeps_mk (keeps_setRf _ _ _ h0) rfl rfl rfl rfl rfl rfl rfl rfl rfl))
    (keeps_ite1 (keeps_bumpSat _ _ (keeps_mk (keeps_setRf _ _ _ h0) rfl rfl rfl rfl rfl rfl rfl rfl rfl)) (keeps_mk
    (keeps_setRf _ _ _ h0) rfl rfl rfl rfl rfl rfl rfl rfl rfl)))

theorem keeps_spkSample {s0 : State} (k : Nat) (x : Sys2Proof.W40) {s : State} (h0 : Keeps s0 s) :
    Keeps s0 (spkSample k x s).2 := by
  unfold spkSample
  exact (by
      try extract_lets
      split
      exact h0
      exact (keeps_ite1 h0 (keeps_spkChannel _ _ h0))
    )

theorem keeps_spkBoundary {s0 : State} (c : Nat) {s : State} (h0 : Keeps s0 s) :
    Keeps s0 (spkBoundary c s) := by
  unfold spkBoundary
  exact (keeps_ite h0 (keeps_ite (keeps_raiseAux _ _ _ (keeps_setBit _ _ _ (keeps_mk h0 rfl rfl rfl rfl rfl rfl rfl
    rfl rfl))) (keeps_setBit _ _ _ (keeps_mk h0 rfl rfl rfl rfl rfl rfl rfl rfl rfl))))

theorem keeps_flickerStep {s0 : State} (k : Nat) (o : Sys2Proof.Machine.Frac) {s : State} (h0 : Keeps s0 s) :
    Keeps s0 (flickerStep k o s) := by
  unfold flickerStep
  exact (keeps_ite (keeps_raise _ (keeps_bumpSat _ _ (keeps_setBit _ _ _ (keeps_mk h0 rfl rfl rfl rfl rfl rfl rfl rfl
    rfl)))) (keeps_setBit _ _ _ (keeps_mk h0 rfl rfl rfl rfl rfl rfl rfl rfl rfl)))

theorem keeps_gateLBoundary {s0 : State} {s : State} (h0 : Keeps s0 s) :
    Keeps s0 (gateLBoundary s) := by
  unfold gateLBoundary
  exact (keeps_forEach (keeps_forEach h0 (fun _ _ h1 => (keeps_flickerStep _ _ h1))) (fun _ _ h2 => (keeps_flickerStep
    _ _ h2)))

theorem keeps_gateBoundary {s0 : State} {s : State} (h0 : Keeps s0 s) :
    Keeps s0 (gateBoundary s) := by
  unfold gateBoundary
  exact (keeps_forEach (keeps_forEach h0 (fun _ _ h1 => (keeps_axisBoundary _ h1))) (fun _ _ h2 => (keeps_spkBoundary
    _ h2)))

end Sys2Proof.Machine
end

