-- ==== Sys2Proof/Laws/KeepsAdc.lean ====
section
/-! SUPPORT. The operations of Machine/Adc.lean keep what every command keeps. -/

namespace Sys2Proof.Machine

open Sys2Proof

theorem keeps_setAdc {s0 : State} (i : Nat) (a : Sys2Proof.Machine.Adc) {s : State} (h0 : Keeps s0 s) :
    Keeps s0 (setAdc i a s) := by
  unfold setAdc
  exact (keeps_mk h0 rfl rfl rfl rfl rfl rfl rfl rfl rfl)

theorem keeps_startRegular {s0 : State} (i : Nat) (t : Nat) {s : State} (h0 : Keeps s0 s) :
    Keeps s0 (startRegular i t s) := by
  unfold startRegular
  exact (keeps_setRb _ _ _ (keeps_setAdc _ _ h0))

theorem keeps_startInjected {s0 : State} (i : Nat) (t : Nat) {s : State} (h0 : Keeps s0 s) :
    Keeps s0 (startInjected i t s) := by
  unfold startInjected
  exact (keeps_setRb _ _ _ (keeps_setAdc _ _ h0))

theorem keeps_injTrigger {s0 : State} (i : Nat) {s : State} (h0 : Keeps s0 s) :
    Keeps s0 (injTrigger i s) := by
  unfold injTrigger
  exact (keeps_ite h0 (keeps_ite (keeps_bumpSat _ _ h0) (keeps_ite (keeps_startInjected _ _ (keeps_bumpSat _ _
    (keeps_setRb _ _ _ h0))) (keeps_startInjected _ _ h0))))

theorem keeps_regTrigger {s0 : State} (i : Nat) {s : State} (h0 : Keeps s0 s) :
    Keeps s0 (regTrigger i s) := by
  unfold regTrigger
  exact (keeps_ite h0 (keeps_ite (keeps_bumpSat _ _ h0) (keeps_ite (keeps_setRb _ _ _ h0) (keeps_startRegular _ _
    h0))))

theorem keeps_adcEvent {s0 : State} (t : Nat) {s : State} (h0 : Keeps s0 s) :
    Keeps s0 (adcEvent t s) := by
  unfold adcEvent
  exact (keeps_forEach h0 (fun _ _ h1 => (keeps_ite (keeps_regTrigger _ (keeps_ite (keeps_injTrigger _ h1) h1))
    (keeps_ite (keeps_injTrigger _ h1) h1))))

theorem keeps_adcSample {s0 : State} (i : Nat) {s : State} (h0 : Keeps s0 s) :
    Keeps s0 (adcSample i s) := by
  unfold adcSample
  exact (by
      try extract_lets
      split
      exact (keeps_ite (keeps_setAdc _ _ h0) h0)
      exact h0
    )

theorem keeps_thermCheck {s0 : State} (k : Nat) (code : Nat) {s : State} (h0 : Keeps s0 s) :
    Keeps s0 (thermCheck k code s) := by
  unfold thermCheck
  exact (keeps_ite (keeps_ite (keeps_setBit _ _ _ h0) h0) (keeps_ite (keeps_raise _ (keeps_setBit _ _ _ (keeps_setBit
    _ _ _ h0))) h0))

theorem keeps_adcNext {s0 : State} (i : Nat) (t : Nat) {s : State} (h0 : Keeps s0 s) :
    Keeps s0 (adcNext i t s) := by
  unfold adcNext
  exact (keeps_ite (keeps_setAdc _ _ (keeps_setRb _ _ _ h0)) (keeps_ite (keeps_setAdc _ _ (keeps_startRegular _ _
    (keeps_setRb _ _ _ h0))) (keeps_setAdc _ _ h0)))

theorem keeps_adcEnd {s0 : State} (i : Nat) (uv : Sys2Proof.W32) {s : State} (h0 : Keeps s0 s) :
    Keeps s0 (adcEnd i uv s) := by
  unfold adcEnd
  exact (by
      try extract_lets
      split
      exact h0
      exact (keeps_ite h0 (keeps_ite (keeps_setAdc _ _ (keeps_ite (keeps_thermCheck _ _ (keeps_ite (keeps_raise _
        (keeps_ite (keeps_setRb _ _ _ (keeps_setAdc _ _ (keeps_setRf _ _ _ (keeps_setRf _ _ _ h0)))) (keeps_setAdc _ _
        (keeps_setRf _ _ _ (keeps_setRf _ _ _ h0))))) (keeps_ite (keeps_setRb _ _ _ (keeps_setAdc _ _ (keeps_setRf _ _
        _ (keeps_setRf _ _ _ h0)))) (keeps_setAdc _ _ (keeps_setRf _ _ _ (keeps_setRf _ _ _ h0)))))) (keeps_ite
        (keeps_raise _ (keeps_ite (keeps_setRb _ _ _ (keeps_setAdc _ _ (keeps_setRf _ _ _ (keeps_setRf _ _ _ h0))))
        (keeps_setAdc _ _ (keeps_setRf _ _ _ (keeps_setRf _ _ _ h0))))) (keeps_ite (keeps_setRb _ _ _ (keeps_setAdc _
        _ (keeps_setRf _ _ _ (keeps_setRf _ _ _ h0)))) (keeps_setAdc _ _ (keeps_setRf _ _ _ (keeps_setRf _ _ _
        h0))))))) (keeps_adcNext _ _ (keeps_ite (keeps_setRb _ _ _ (keeps_ite (keeps_thermCheck _ _ (keeps_ite
        (keeps_raise _ (keeps_ite (keeps_setRb _ _ _ (keeps_setAdc _ _ (keeps_setRf _ _ _ (keeps_setRf _ _ _ h0))))
        (keeps_setAdc _ _ (keeps_setRf _ _ _ (keeps_setRf _ _ _ h0))))) (keeps_ite (keeps_setRb _ _ _ (keeps_setAdc _
        _ (keeps_setRf _ _ _ (keeps_setRf _ _ _ h0)))) (keeps_setAdc _ _ (keeps_setRf _ _ _ (keeps_setRf _ _ _
        h0)))))) (keeps_ite (keeps_raise _ (keeps_ite (keeps_setRb _ _ _ (keeps_setAdc _ _ (keeps_setRf _ _ _
        (keeps_setRf _ _ _ h0)))) (keeps_setAdc _ _ (keeps_setRf _ _ _ (keeps_setRf _ _ _ h0))))) (keeps_ite
        (keeps_setRb _ _ _ (keeps_setAdc _ _ (keeps_setRf _ _ _ (keeps_setRf _ _ _ h0)))) (keeps_setAdc _ _
        (keeps_setRf _ _ _ (keeps_setRf _ _ _ h0))))))) (keeps_setRb _ _ _ (keeps_ite (keeps_thermCheck _ _ (keeps_ite
        (keeps_raise _ (keeps_ite (keeps_setRb _ _ _ (keeps_setAdc _ _ (keeps_setRf _ _ _ (keeps_setRf _ _ _ h0))))
        (keeps_setAdc _ _ (keeps_setRf _ _ _ (keeps_setRf _ _ _ h0))))) (keeps_ite (keeps_setRb _ _ _ (keeps_setAdc _
        _ (keeps_setRf _ _ _ (keeps_setRf _ _ _ h0)))) (keeps_setAdc _ _ (keeps_setRf _ _ _ (keeps_setRf _ _ _
        h0)))))) (keeps_ite (keeps_raise _ (keeps_ite (keeps_setRb _ _ _ (keeps_setAdc _ _ (keeps_setRf _ _ _
        (keeps_setRf _ _ _ h0)))) (keeps_setAdc _ _ (keeps_setRf _ _ _ (keeps_setRf _ _ _ h0))))) (keeps_ite
        (keeps_setRb _ _ _ (keeps_setAdc _ _ (keeps_setRf _ _ _ (keeps_setRf _ _ _ h0)))) (keeps_setAdc _ _
        (keeps_setRf _ _ _ (keeps_setRf _ _ _ h0)))))))))))
    )

theorem keeps_adcEnableWrite {s0 : State} (i : Nat) (on : Bool) {s : State} (h0 : Keeps s0 s) :
    Keeps s0 (adcEnableWrite i on s) := by
  unfold adcEnableWrite
  exact (keeps_ite (keeps_setAdc _ _ (keeps_setRb _ _ _ h0)) (keeps_ite (keeps_setAdc _ _ (keeps_setRb _ _ _
    (keeps_setRb _ _ _ (keeps_setRb _ _ _ (keeps_setRb _ _ _ (keeps_setRb _ _ _ (keeps_setRb _ _ _ h0)))))))
    (keeps_setRb _ _ _ h0)))

theorem keeps_adcReady {s0 : State} (i : Nat) {s : State} (h0 : Keeps s0 s) :
    Keeps s0 (adcReady i s) := by
  unfold adcReady
  exact (keeps_ite (keeps_setRb _ _ _ h0) h0)

end Sys2Proof.Machine
end

