-- ==== Sys2Proof/Laws/KeepsHostWindow.lean ====
section
/-! SUPPORT. The operations of Machine/HostWindow.lean keep what every command keeps. -/

namespace Sys2Proof.Machine

open Sys2Proof

theorem keeps_hwnPut {s0 : State} (h : Nat) (v : W32) {s : State} (k : Keeps s0 s) : Keeps s0 (hwnPut h v s) :=
  keeps_frame k rfl rfl rfl rfl rfl rfl rfl rfl rfl

theorem keeps_collide {s0 : State} (w : Nat) (bLater : Bool) {s : State} (h : Keeps s0 s) :
    Keeps s0 (collide w bLater s) := by
  have k := keeps_setRf rHWN_COLL_ADDR HWN_COLL_ADDR.WORD (w % 4096) (keeps_bumpSat rHWN_COLL_CNT HWN_COLL_CNT.CNT h)
  exact keeps_ite (keeps_frame (keeps_setRb rHWN_STAT HWN_STAT.COLL_B true k) rfl rfl rfl rfl rfl rfl rfl rfl rfl)
    (keeps_setRb _ _ _ k)

theorem keeps_undefReads {s0 : State} (h : Nat) {s : State} (h0 : Keeps s0 s) :
    Keeps s0 (undefReads h s) := by
  unfold undefReads
  exact (keeps_forEach (keeps_mk (keeps_tick1 h0) rfl rfl rfl rfl rfl rfl rfl rfl rfl) (fun _ _ h1 => (keeps_ite h1
    (keeps_setSph _ _ h1))))

theorem keeps_portBRead {s0 : State} (w : Nat) (coll : Option HwnAccess) {s : State} (h : Keeps s0 s) :
    Keeps s0 (portBRead w coll s).2 := by
  unfold portBRead
  refine keeps_ite1 h (keeps_ite1 (keeps_tick1 h) ?_)
  split
  · exact keeps_collide _ _ (keeps_hwnPut _ _ (keeps_tick1 h))
  · exact h

theorem keeps_portBStore {s0 : State} (h : Nat) (f : Sys2Proof.W32 → Sys2Proof.W32) (coll : Option
    Sys2Proof.HwnAccess) {s : State} (h0 : Keeps s0 s) :
    Keeps s0 (portBStore h f coll s) := by
  unfold portBStore
  exact (keeps_ite (keeps_ite (keeps_ite (keeps_doorbellEvent (keeps_setRf _ _ _ h0)) (keeps_setRf _ _ _ h0))
    (keeps_setReg _ _ h0)) (keeps_ite h0 (by
      try extract_lets
      split
      exact (keeps_hwnPut _ _ h0)
      exact (keeps_collide _ _ (keeps_hwnPut _ _ (keeps_tick1 h0)))
      exact (keeps_collide _ _ (keeps_undefReads _ (keeps_hwnPut _ _ (keeps_tick1 h0))))
    )))

theorem keeps_portBWrite {s0 : State} (h : Nat) (v : Sys2Proof.W32) (coll : Option Sys2Proof.HwnAccess) {s : State}
    (h0 : Keeps s0 s) :
    Keeps s0 (portBWrite h v coll s) := by
  unfold portBWrite
  exact (keeps_portBStore _ _ _ h0)

theorem keeps_portAWord {s0 : State} (w : Nat) (write : Bool) (v : W32) (coll : Option HwnAccess) {s : State}
    (h : Keeps s0 s) : Keeps s0 (portAWord w write v coll s).2 := by
  unfold portAWord
  refine keeps_ite1 h ?_
  split
  · exact keeps_ite1 (keeps_hwnPut _ _ h) h
  · have k := keeps_tick1 h
    refine keeps_ite1 (keeps_collide _ _ (keeps_ite (keeps_ite ?_ ?_) ?_)) (keeps_ite1 (keeps_collide _ _ ?_) h)
    all_goals exact keeps_hwnPut _ _ k

theorem keeps_hwnAccess {s0 : State} (off : Nat) (bytes : Nat) (write : Bool) (d : Sys2Proof.W64) (coll : List (Nat ×
    Sys2Proof.HwnAccess)) {s : State} (h0 : Keeps s0 s) :
    Keeps s0 (hwnAccess off bytes write d coll s).2 := by
  unfold hwnAccess
  exact (keeps_ite1 h0 (keeps_ite1 h0 (keeps_ite1 h0 (keeps_ite1 (keeps_portAWord _ _ _ _ h0) (keeps_portAWord _ _ _ _
    (keeps_portAWord _ _ _ _ h0))))))

theorem keeps_spiFetch {s0 : State} (w i n : Nat) (coll : List (Nat × HwnAccess)) {s : State} (h : Keeps s0 s) :
    Keeps s0 (spiFetch w i n coll s).2 := by
  induction n generalizing w i s with
  | zero => exact h
  | succ n ih => exact ih _ _ (keeps_portBRead _ _ h)

theorem keeps_spiStore {s0 : State} (w i : Nat) (vs : List W32) (coll : List (Nat × HwnAccess)) {s : State}
    (h : Keeps s0 s) : Keeps s0 (spiStore w i vs coll s) := by
  induction vs generalizing w i s with
  | nil => exact h
  | cons v r ih => exact ih _ _ (keeps_portBWrite _ _ _ h)

theorem keeps_spiBad {s0 : State} {s : State} (h0 : Keeps s0 s) :
    Keeps s0 (spiBad s) := by
  unfold spiBad
  exact (keeps_mk (keeps_setRb _ _ _ h0) rfl rfl rfl rfl rfl rfl rfl rfl rfl)

theorem keeps_spiRead {s0 : State} (c : Sys2Proof.Machine.SpiCmd) (addr : BitVec 16) (n : Nat) (coll : List (Nat ×
    Sys2Proof.HwnAccess)) {s : State} (h0 : Keeps s0 s) :
    Keeps s0 (spiRead c addr n coll s) := by
  unfold spiRead
  exact (keeps_ite h0 (keeps_ite (keeps_spiBad h0) (keeps_mk (keeps_spiFetch _ _ _ _ h0) rfl rfl rfl rfl rfl rfl rfl
    rfl rfl)))

theorem keeps_spiWrite {s0 : State} (c : Sys2Proof.Machine.SpiCmd) (addr : BitVec 16) (vs : List Sys2Proof.W32) (coll
    : List (Nat × Sys2Proof.HwnAccess)) {s : State} (h0 : Keeps s0 s) :
    Keeps s0 (spiWrite c addr vs coll s) := by
  unfold spiWrite
  exact (keeps_ite h0 (keeps_ite (keeps_spiBad h0) (keeps_mk (keeps_spiStore _ _ _ _ h0) rfl rfl rfl rfl rfl rfl rfl
    rfl rfl)))

theorem keeps_parRead {s0 : State} (ha : BitVec 13) (coll : Option Sys2Proof.HwnAccess) {s : State} (h0 : Keeps s0 s)
    :
    Keeps s0 (parRead ha coll s) := by
  unfold parRead
  exact (keeps_ite h0 (keeps_ite (by
      try extract_lets
      split
      exact (keeps_ite (keeps_mk h0 rfl rfl rfl rfl rfl rfl rfl rfl rfl) (keeps_mk (keeps_portBRead _ _ h0) rfl rfl
        rfl rfl rfl rfl rfl rfl rfl))
      exact (keeps_mk (keeps_portBRead _ _ h0) rfl rfl rfl rfl rfl rfl rfl rfl rfl)
    ) (keeps_mk (keeps_portBRead _ _ h0) rfl rfl rfl rfl rfl rfl rfl rfl rfl)))

theorem keeps_parWrite {s0 : State} (ha : BitVec 13) (v : BitVec 16) (coll : Option Sys2Proof.HwnAccess) {s : State}
    (h0 : Keeps s0 s) :
    Keeps s0 (parWrite ha v coll s) := by
  unfold parWrite
  exact (keeps_ite h0 (keeps_ite (keeps_mk (by
      try extract_lets
      split
      exact (keeps_portBWrite _ _ _ h0)
      exact (keeps_portBStore _ _ _ h0)
    ) rfl rfl rfl rfl rfl rfl rfl rfl rfl) (keeps_mk h0 rfl rfl rfl rfl rfl rfl rfl rfl rfl)))

end Sys2Proof.Machine
end

