-- ==== Sys2Proof/Laws/KeepsCartridge.lean ====
section
/-! SUPPORT. The operations of Machine/Cartridge.lean keep what every command keeps. -/

namespace Sys2Proof.Machine

open Sys2Proof

theorem keeps_setCart {s0 : State} (c : Nat) (x : Sys2Proof.Machine.Cart) {s : State} (h0 : Keeps s0 s) :
    Keeps s0 (setCart c x s) := by
  unfold setCart
  exact (keeps_mk h0 rfl rfl rfl rfl rfl rfl rfl rfl rfl)

theorem keeps_showCartOk {s0 : State} (c : Nat) {s : State} (h0 : Keeps s0 s) :
    Keeps s0 (showCartOk c s) := by
  unfold showCartOk
  exact (keeps_setRb _ _ _ h0)

theorem keeps_setCartState {s0 : State} (c : Nat) (st : Nat) {s : State} (h0 : Keeps s0 s) :
    Keeps s0 (setCartState c st s) := by
  unfold setCartState
  exact (keeps_showCartOk _ (keeps_ite (keeps_setRf _ _ _ h0) (keeps_setRb _ _ _ (keeps_setRf _ _ _ h0))))

theorem keeps_cartDiscard {s0 : State} (c : Nat) {s : State} (h0 : Keeps s0 s) :
    Keeps s0 (cartDiscard c s) := by
  unfold cartDiscard
  exact (keeps_ite (keeps_setRb _ _ _ (keeps_setReg _ _ h0)) h0)

theorem keeps_cartUnknown {s0 : State} (c : Nat) (cause : Nat) {s : State} (h0 : Keeps s0 s) :
    Keeps s0 (cartUnknown c cause s) := by
  unfold cartUnknown
  exact (keeps_raise _ (keeps_bumpSat _ _ (keeps_setCartState _ _ (keeps_setRf _ _ _ h0))))

theorem keeps_cartFault {s0 : State} (c : Nat) {s : State} (h0 : Keeps s0 s) :
    Keeps s0 (cartFault c s) := by
  unfold cartFault
  exact (keeps_raise _ (keeps_setCartState _ _ (keeps_setRf _ _ _ h0)))

theorem keeps_checkExpiry {s0 : State} (c : Nat) {s : State} (h0 : Keeps s0 s) :
    Keeps s0 (checkExpiry c s) := by
  unfold checkExpiry
  exact (keeps_ite (keeps_raise _ (keeps_showCartOk _ (keeps_setRb _ _ _ h0))) h0)

theorem keeps_showId {s0 : State} (c : Nat) (id : List Sys2Proof.Byte) {s : State} (h0 : Keeps s0 s) :
    Keeps s0 (showId c id s) := by
  unfold showId
  exact (keeps_forEach (keeps_setRf _ _ _ (keeps_setRf _ _ _ (keeps_setRf _ _ _ (keeps_setRf _ _ _ (keeps_setRf _ _ _
    (keeps_setCart _ _ h0)))))) (fun _ _ h1 => (keeps_setRf _ _ _ (keeps_setRf _ _ _ h1))))

theorem keeps_challenge {s0 : State} (id : List Sys2Proof.Byte) (key : List Sys2Proof.Byte) {s : State} (h0 : Keeps s0
    s) :
    Keeps s0 (challenge id key s).2 := by
  unfold challenge
  exact (keeps_tick1 h0)

theorem keeps_chooseLife {s0 : State} (c : Nat) (a : List Sys2Proof.Byte) (b : List Sys2Proof.Byte) {s : State} (h0 :
    Keeps s0 s) :
    Keeps s0 (chooseLife c a b s) := by
  unfold chooseLife
  exact (keeps_ite (keeps_setReg _ _ (keeps_setReg _ _ (keeps_setRb _ _ _ (keeps_setCart _ _ h0)))) (keeps_raise _
    (keeps_setReg _ _ (keeps_setReg _ _ (keeps_setRb _ _ _ (keeps_setCart _ _ h0))))))

theorem keeps_cartRetries {s0 : State} (c : Nat) (n : Nat) {s : State} (h0 : Keeps s0 s) :
    Keeps s0 (cartRetries c n s) := by
  unfold cartRetries
  exact (keeps_setRf _ _ _ h0)

theorem keeps_cartProbe {s0 : State} (c : Nat) (e : Sys2Proof.CartElement) {s : State} (h0 : Keeps s0 s) :
    Keeps s0 (cartProbe c e s) := by
  unfold cartProbe
  exact (keeps_ite h0 (keeps_ite (keeps_cartFault _ (keeps_cartRetries _ _ h0)) (keeps_ite (keeps_cartUnknown _ _
    (keeps_showId _ _ (keeps_cartRetries _ _ h0))) (keeps_ite (keeps_cartUnknown _ _ (keeps_showId _ _
    (keeps_cartRetries _ _ h0))) (keeps_ite (keeps_cartUnknown _ _ (keeps_challenge _ _ (keeps_showId _ _
    (keeps_cartRetries _ _ h0)))) (keeps_checkExpiry _ (keeps_setCartState _ _ (keeps_setReg _ _ (keeps_setCart _ _
    (keeps_chooseLife _ _ _ (keeps_challenge _ _ (keeps_showId _ _ (keeps_cartRetries _ _ h0)))))))))))))

theorem keeps_cartReauth {s0 : State} (c : Nat) (e : Sys2Proof.CartElement) {s : State} (h0 : Keeps s0 s) :
    Keeps s0 (cartReauth c e s) := by
  unfold cartReauth
  exact (keeps_ite h0 (keeps_ite (keeps_cartFault _ (keeps_cartDiscard _ (keeps_cartRetries _ _ h0))) (keeps_ite
    (keeps_cartUnknown _ _ (keeps_cartDiscard _ (keeps_cartRetries _ _ h0))) (keeps_ite (keeps_setCart _ _
    (keeps_challenge _ _ (keeps_cartRetries _ _ h0))) (keeps_cartUnknown _ _ (keeps_cartDiscard _ (keeps_challenge _ _
    (keeps_cartRetries _ _ h0))))))))

theorem keeps_cartCommit {s0 : State} (c : Nat) (fails : Nat) {s : State} (h0 : Keeps s0 s) :
    Keeps s0 (cartCommit c fails s) := by
  unfold cartCommit
  exact (keeps_ite (keeps_raise _ (keeps_setRb _ _ _ (keeps_setCart _ _ (keeps_cartRetries _ _ h0))))
    (keeps_checkExpiry _ (keeps_setReg _ _ (keeps_setReg _ _ (keeps_setReg _ _ (keeps_setCart _ _ (keeps_setCart _ _
    (keeps_cartRetries _ _ h0))))))))

theorem keeps_cartSample {s0 : State} (c : Nat) (tj : Option (BitVec 16)) (fails : Nat) {s : State} (h0 : Keeps s0 s)
    :
    Keeps s0 (cartSample c tj fails s) := by
  unfold cartSample
  exact (keeps_ite h0 (keeps_ite (keeps_cartCommit _ _ (keeps_setCart _ _ (keeps_setReg _ _ (by
      try extract_lets
      split
      exact (keeps_setRf _ _ _ (by
          try extract_lets
          split
          exact (keeps_bumpSat _ _ h0)
          exact (keeps_setRf _ _ _ h0)
        ))
      exact (by
          try extract_lets
          split
          exact (keeps_bumpSat _ _ h0)
          exact (keeps_setRf _ _ _ h0)
        )
    )))) (keeps_setCart _ _ (keeps_setReg _ _ (by
      try extract_lets
      split
      exact (keeps_setRf _ _ _ (by
          try extract_lets
          split
          exact (keeps_bumpSat _ _ h0)
          exact (keeps_setRf _ _ _ h0)
        ))
      exact (by
          try extract_lets
          split
          exact (keeps_bumpSat _ _ h0)
          exact (keeps_setRf _ _ _ h0)
        )
    )))))

theorem keeps_cartReprobe {s0 : State} (c : Nat) (fails : Nat) {s : State} (h0 : Keeps s0 s) :
    Keeps s0 (cartReprobe c fails s) := by
  unfold cartReprobe
  exact (keeps_ite h0 (keeps_setCartState _ _ (keeps_ite (keeps_cartCommit _ _ h0) h0)))

theorem keeps_cartEnable {s0 : State} (c : Nat) (on : Bool) (fails : Nat) {s : State} (h0 : Keeps s0 s) :
    Keeps s0 (cartEnable c on fails s) := by
  unfold cartEnable
  exact (keeps_ite (keeps_ite (keeps_setRb _ _ _ h0) (keeps_setCartState _ _ (keeps_setRb _ _ _ h0))) (keeps_ite
    (keeps_setCartState _ _ (keeps_setRb _ _ _ (keeps_ite (keeps_cartCommit _ _ h0) h0))) h0))

theorem keeps_cartLost {s0 : State} (c : Nat) {s : State} (h0 : Keeps s0 s) :
    Keeps s0 (cartLost c s) := by
  unfold cartLost
  exact (keeps_ite (keeps_setCart _ _ h0) (keeps_setCartState _ _ (keeps_cartDiscard _ (keeps_setCart _ _ h0))))

theorem keeps_cartSettled {s0 : State} (c : Nat) {s : State} (h0 : Keeps s0 s) :
    Keeps s0 (cartSettled c s) := by
  unfold cartSettled
  exact (keeps_ite (keeps_setCartState _ _ (keeps_setCart _ _ h0)) (keeps_setCart _ _ h0))

theorem keeps_cartsOff {s0 : State} {s : State} (h0 : Keeps s0 s) :
    Keeps s0 (cartsOff s) := by
  unfold cartsOff
  exact (keeps_forEach h0 (fun _ _ h1 => (keeps_ite h1 (keeps_setCartState _ _ (keeps_cartDiscard _ h1)))))

theorem keeps_cartsOn {s0 : State} {s : State} (h0 : Keeps s0 s) :
    Keeps s0 (cartsOn s) := by
  unfold cartsOn
  exact (keeps_forEach h0 (fun _ _ h1 => (keeps_ite (keeps_setCartState _ _ h1) h1)))

theorem keeps_twGo {s0 : State} (k : Nat) {s : State} (h0 : Keeps s0 s) :
    Keeps s0 (twGo k s) := by
  unfold twGo
  exact (keeps_ite h0 (keeps_ite (keeps_setRb _ _ _ h0) (keeps_setRb _ _ _ (keeps_mk h0 rfl rfl rfl rfl rfl rfl rfl
    rfl rfl))))

theorem keeps_twDone {s0 : State} (k : Nat) (nack : Bool) (tmo : Bool) (nbytes : Nat) (read : List Sys2Proof.Byte) {s
    : State} (h0 : Keeps s0 s) :
    Keeps s0 (twDone k nack tmo nbytes read s) := by
  unfold twDone
  exact (keeps_ite h0 (keeps_setRf _ _ _ (keeps_ite (keeps_setRb _ _ _ (keeps_ite (keeps_setRb _ _ _ (keeps_setRb _ _
    _ (keeps_setRb _ _ _ (keeps_forEach h0 (fun _ _ h1 => (keeps_setReg _ _ h1)))))) (keeps_setRb _ _ _ (keeps_setRb _
    _ _ (keeps_forEach h0 (fun _ _ h2 => (keeps_setReg _ _ h2))))))) (keeps_ite (keeps_setRb _ _ _ (keeps_setRb _ _ _
    (keeps_setRb _ _ _ (keeps_forEach h0 (fun _ _ h3 => (keeps_setReg _ _ h3)))))) (keeps_setRb _ _ _ (keeps_setRb _ _
    _ (keeps_forEach h0 (fun _ _ h4 => (keeps_setReg _ _ h4)))))))))

end Sys2Proof.Machine
end

