-- ==== Sys2Proof/Laws/KeepsConfluence.lean ====
section
/-! SUPPORT. The operations of Machine/Confluence.lean keep what every command keeps. -/

namespace Sys2Proof.Machine

open Sys2Proof

theorem keeps_ringWrite {s0 : State} (w : Nat) (v : Sys2Proof.W40) {s : State} (h0 : Keeps s0 s) :
    Keeps s0 (ringWrite w v s).2 := by
  unfold ringWrite
  exact (keeps_matrixWrite _ _ _ h0)

theorem keeps_ringRead {s0 : State} (w : Nat) {s : State} (h0 : Keeps s0 s) :
    Keeps s0 (ringRead w s).2 := by
  unfold ringRead
  exact (keeps_matrixRead _ _ h0)

theorem keeps_ringPut {s0 : State} (w : Nat) (b : List W40) {s : State} (h : Keeps s0 s) :
    Keeps s0 (ringPut w b s).2 := by
  induction b generalizing w s with
  | nil => exact h
  | cons v r ih => exact ih _ (keeps_ringWrite _ _ h)

theorem keeps_ringGet {s0 : State} (w n : Nat) {s : State} (h : Keeps s0 s) : Keeps s0 (ringGet w n s).2 := by
  induction n generalizing w s with
  | zero => exact h
  | succ n ih => exact ih _ (keeps_ringRead _ h)

theorem keeps_ringEnter {s0 : State} (dest : Nat) (due : Nat) (b : List Sys2Proof.W40) {s : State} (h0 : Keeps s0 s) :
    Keeps s0 (ringEnter dest due b s) := by
  unfold ringEnter
  exact (keeps_ite h0 (by
      try extract_lets
      split
      exact h0
      exact (keeps_ite (keeps_mk (keeps_ringPut _ _ (keeps_tick1 h0)) rfl rfl rfl rfl rfl rfl rfl rfl rfl)
        (keeps_setRb _ _ _ (keeps_ringPut _ _ (keeps_tick1 h0))))
    ))

theorem keeps_ringTake {s0 : State} (dest : Nat) (v : Nat) (k : Nat) {s : State} (h0 : Keeps s0 s) :
    Keeps s0 (ringTake dest v k s).2 := by
  unfold ringTake
  exact (by
      try extract_lets
      split
      exact h0
      exact (by
          try extract_lets
          split
          exact (keeps_mk (keeps_ringGet _ _ h0) rfl rfl rfl rfl rfl rfl rfl rfl rfl)
          exact (keeps_setRb _ _ _ (keeps_mk (keeps_ringGet _ _ h0) rfl rfl rfl rfl rfl rfl rfl rfl rfl))
        )
    )

theorem keeps_consume {s0 : State} (dest : Nat) (w : Sys2Proof.Machine.Swap) (vOld : Nat) (chOld : Bool) (vNew : Nat)
    (chNew : Bool) {s : State} (h0 : Keeps s0 s) :
    Keeps s0 (consume dest w vOld chOld vNew chNew s).2 := by
  unfold consume
  exact (keeps_ite1 h0 (keeps_ite1 (keeps_ringTake _ _ _ h0) h0))

theorem keeps_ringFill {s0 : State} {s : State} (h0 : Keeps s0 s) :
    Keeps s0 (ringFill s) := by
  unfold ringFill
  exact (keeps_ite h0 (keeps_forEach h0 (fun _ _ h1 => (keeps_ite h1 (keeps_ringEnter _ _ _ h1)))))

theorem keeps_takeGains {s0 : State} {s : State} (h0 : Keeps s0 s) :
    Keeps s0 (takeGains s) := by
  unfold takeGains
  exact (keeps_ite (keeps_setRb _ _ _ (keeps_mk h0 rfl rfl rfl rfl rfl rfl rfl rfl rfl)) (keeps_mk h0 rfl rfl rfl rfl
    rfl rfl rfl rfl rfl))

theorem keeps_showPlanes {s0 : State} (p : Sys2Proof.Machine.Planes) {s : State} (h0 : Keeps s0 s) :
    Keeps s0 (showPlanes p s) := by
  unfold showPlanes
  exact (keeps_forEach (keeps_forEach h0 (fun _ _ h1 => (keeps_setRb _ _ _ h1))) (fun _ _ h2 => (keeps_setRb _ _ _
    h2)))

theorem keeps_mixInput {s0 : State} (w : Sys2Proof.Machine.Swap) (i : Nat) {t : State} (h0 : Keeps s0 t) :
    Keeps s0 (mixInput w i t) := by
  unfold mixInput
  exact (keeps_mk (keeps_consume _ _ _ _ _ _ h0) rfl rfl rfl rfl rfl rfl rfl rfl rfl)

theorem keeps_mixRelease {s0 : State} {s : State} (h0 : Keeps s0 s) :
    Keeps s0 (mixRelease s) := by
  unfold mixRelease
  exact (keeps_forEach (keeps_mk (keeps_showPlanes _ (keeps_takeGains h0)) rfl rfl rfl rfl rfl rfl rfl rfl rfl) (fun _
    _ h1 => (keeps_mixInput _ _ h1)))

theorem keeps_outRamp {s0 : State} (key : Nat) (up : Bool) {s : State} (h0 : Keeps s0 s) :
    Keeps s0 (outRamp key up s).2 := by
  unfold outRamp
  exact (keeps_mk h0 rfl rfl rfl rfl rfl rfl rfl rfl rfl)

theorem keeps_onTimeRamp {s0 : State} (key : Nat) {s : State} (h0 : Keeps s0 s) :
    Keeps s0 (onTimeRamp key s).2 := by
  unfold onTimeRamp
  exact (keeps_outRamp _ _ h0)

theorem keeps_missRamp {s0 : State} (u : Nat) (key : Nat) {s : State} (h0 : Keeps s0 s) :
    Keeps s0 (missRamp u key s).2 := by
  unfold missRamp
  exact (keeps_ite1 (keeps_outRamp _ _ h0) h0)

theorem keeps_publish {s0 : State} (js : List Nat) (v : Nat) (b : List Sys2Proof.W40) {s : State} (h0 : Keeps s0 s) :
    Keeps s0 (publish js v b s) := by
  unfold publish
  exact (keeps_mk h0 rfl rfl rfl rfl rfl rfl rfl rfl rfl)

theorem keeps_holdBlocks {s0 : State} (u : Nat) (key : Nat) (sels : List Nat) {s : State} (h0 : Keeps s0 s) :
    Keeps s0 (holdBlocks u key sels s) := by
  unfold holdBlocks
  exact (keeps_forEach (keeps_missRamp _ _ h0) (fun _ _ h1 => (keeps_mk h1 rfl rfl rfl rfl rfl rfl rfl rfl rfl)))

theorem keeps_mixBus {s0 : State} (w : Sys2Proof.Machine.Swap) (b : Nat) {s : State} (h0 : Keeps s0 s) :
    Keeps s0 (mixBus w b s) := by
  unfold mixBus
  exact (keeps_forEach (keeps_setRf _ _ _ (keeps_setRf _ _ _ (keeps_setRf _ _ _ (keeps_mk (keeps_publish _ _ _
    (keeps_onTimeRamp _ h0)) rfl rfl rfl rfl rfl rfl rfl rfl rfl)))) (fun _ _ h1 => (keeps_setRb _ _ _ h1)))

theorem keeps_showInUse {s0 : State} {s : State} (h0 : Keeps s0 s) :
    Keeps s0 (showInUse s) := by
  unfold showInUse
  exact (keeps_forEach h0 (fun _ _ h1 => (keeps_ite h1 (keeps_setRb _ _ _ h1))))

theorem keeps_stepXr {s0 : State} {s : State} (h0 : Keeps s0 s) :
    Keeps s0 (stepXr s) := by
  unfold stepXr
  exact (keeps_ite h0 (keeps_showInUse (keeps_mk h0 rfl rfl rfl rfl rfl rfl rfl rfl rfl)))

theorem keeps_mixComplete {s0 : State} {s : State} (h0 : Keeps s0 s) :
    Keeps s0 (mixComplete s) := by
  unfold mixComplete
  exact (keeps_stepXr (keeps_mk (keeps_forEach (keeps_forEach h0 (fun _ _ h1 => (keeps_setRb _ _ _ h1))) (fun _ _ h2
    => (keeps_mixBus _ _ h2))) rfl rfl rfl rfl rfl rfl rfl rfl rfl))

theorem keeps_mixMiss {s0 : State} {s : State} (h0 : Keeps s0 s) :
    Keeps s0 (mixMiss s) := by
  unfold mixMiss
  exact (keeps_stepXr (keeps_forEach h0 (fun _ _ h1 => (keeps_holdBlocks _ _ _ h1))))

theorem keeps_exchangeTake {s0 : State} (n : Nat) {s : State} (h0 : Keeps s0 s) :
    Keeps s0 (exchangeTake n s) := by
  unfold exchangeTake
  exact (keeps_forEach (keeps_setChm _ _ h0) (fun _ _ h1 => (keeps_setChm _ _ (keeps_consume _ _ _ _ _ _ h1))))

theorem keeps_exchangePut {s0 : State} (n : Nat) {s : State} (h0 : Keeps s0 s) :
    Keeps s0 (exchangePut n s) := by
  unfold exchangePut
  exact (keeps_setChm _ _ h0)

theorem keeps_exchangeRead {s0 : State} (n base cnt k i left : Nat) {s : State} (h : Keeps s0 s) :
    Keeps s0 (exchangeRead n base cnt k i left s).2 := by
  induction left generalizing i s with
  | zero => exact h
  | succ left ih => exact ih _ (keeps_xyFetch _ _ _ _ h)

theorem keeps_exchangeOut {s0 : State} (n : Nat) {s : State} (h0 : Keeps s0 s) :
    Keeps s0 (exchangeOut n s) := by
  unfold exchangeOut
  exact (keeps_forEach (keeps_onTimeRamp _ h0) (fun _ _ h1 => (keeps_publish _ _ _ (keeps_exchangeRead _ _ _ _ _ _
    h1))))

theorem keeps_exchangeMiss {s0 : State} (n : Nat) {s : State} (h0 : Keeps s0 s) :
    Keeps s0 (exchangeMiss n s) := by
  unfold exchangeMiss
  exact (keeps_holdBlocks _ _ _ h0)

theorem keeps_brgRelease {s0 : State} {s : State} (h0 : Keeps s0 s) :
    Keeps s0 (brgRelease s) := by
  unfold brgRelease
  exact (keeps_mk h0 rfl rfl rfl rfl rfl rfl rfl rfl rfl)

theorem keeps_bridgePut {s0 : State} (k : Nat) (dst : Nat) (cap : Nat) (v : Sys2Proof.W32) {s : State} (h0 : Keeps s0
    s) :
    Keeps s0 (bridgePut k dst cap v s) := by
  unfold bridgePut
  exact (keeps_ite h0 (keeps_mk h0 rfl rfl rfl rfl rfl rfl rfl rfl rfl))

theorem keeps_bridgeBlock {s0 : State} (k : Nat) (l : List Sys2Proof.W40) {s : State} (h0 : Keeps s0 s) :
    Keeps s0 (bridgeBlock k l s) := by
  unfold bridgeBlock
  exact (keeps_mk (keeps_onTimeRamp _ h0) rfl rfl rfl rfl rfl rfl rfl rfl rfl)

theorem keeps_bridgeOne {s0 : State} (w : Sys2Proof.Machine.Swap) (k : Nat) {s : State} (h0 : Keeps s0 s) :
    Keeps s0 (bridgeOne w k s) := by
  unfold bridgeOne
  exact (by
      try extract_lets
      split
      exact (keeps_mk (keeps_ite (keeps_ite (keeps_setRb _ _ _ h0) h0) (keeps_bridgePut _ _ _ _ (keeps_ite
        (keeps_setRb _ _ _ h0) h0))) rfl rfl rfl rfl rfl rfl rfl rfl rfl)
      exact (keeps_mk (keeps_bridgeBlock _ _ (keeps_ite (keeps_setRb _ _ _ h0) h0)) rfl rfl rfl rfl rfl rfl rfl rfl
        rfl)
      exact (keeps_mk (keeps_bridgeBlock _ _ (keeps_ite (keeps_setRb _ _ _ h0) h0)) rfl rfl rfl rfl rfl rfl rfl rfl
        rfl)
      exact (keeps_ite (keeps_mk (keeps_ite (keeps_ite (keeps_setRb _ _ _ h0) h0) (keeps_bridgePut _ _ _ _ (keeps_ite
        (keeps_setRb _ _ _ h0) h0))) rfl rfl rfl rfl rfl rfl rfl rfl rfl) (keeps_mk (keeps_ite (keeps_setRb _ _ _ h0)
        h0) rfl rfl rfl rfl rfl rfl rfl rfl rfl))
      exact (keeps_ite (keeps_ite (keeps_ite (keeps_setRb _ _ _ h0) h0) (keeps_bridgePut _ _ _ _ (keeps_ite
        (keeps_setRb _ _ _ h0) h0))) (keeps_ite (keeps_setRb _ _ _ h0) h0))
      exact (keeps_ite (keeps_ite (keeps_setRb _ _ _ h0) h0) (keeps_bridgePut _ _ _ _ (keeps_ite (keeps_setRb _ _ _
        h0) h0)))
      exact (keeps_ite (keeps_ite (keeps_setRb _ _ _ h0) h0) (keeps_bridgePut _ _ _ _ (keeps_ite (keeps_setRb _ _ _
        h0) h0)))
      exact (keeps_ite (keeps_ite (keeps_setRb _ _ _ h0) h0) (keeps_bridgePut _ _ _ _ (keeps_ite (keeps_setRb _ _ _
        h0) h0)))
      exact (keeps_mk (keeps_ite (keeps_setRb _ _ _ h0) h0) rfl rfl rfl rfl rfl rfl rfl rfl rfl)
    )

theorem keeps_brgComplete {s0 : State} {s : State} (h0 : Keeps s0 s) :
    Keeps s0 (brgComplete s) := by
  unfold brgComplete
  exact (keeps_forEach h0 (fun _ _ h1 => (keeps_bridgeOne _ _ h1)))

theorem keeps_brgMiss {s0 : State} {s : State} (h0 : Keeps s0 s) :
    Keeps s0 (brgMiss s) := by
  unfold brgMiss
  exact (keeps_forEach h0 (fun _ _ h1 => (keeps_mk (keeps_missRamp _ _ h1) rfl rfl rfl rfl rfl rfl rfl rfl rfl)))

theorem keeps_presentOne {s0 : State} (e : Sys2Proof.Machine.BrgOut) {s : State} (h0 : Keeps s0 s) :
    Keeps s0 (presentOne e s) := by
  unfold presentOne
  exact (by
      try extract_lets
      split
      exact (keeps_ite h0 (keeps_mk (keeps_setRf _ _ _ h0) rfl rfl rfl rfl rfl rfl rfl rfl rfl))
      exact (keeps_ite h0 (keeps_mk (keeps_setRf _ _ _ h0) rfl rfl rfl rfl rfl rfl rfl rfl rfl))
      exact (keeps_mk h0 rfl rfl rfl rfl rfl rfl rfl rfl rfl)
    )

theorem keeps_presentValues {s0 : State} {s : State} (h0 : Keeps s0 s) :
    Keeps s0 (presentValues s) := by
  unfold presentValues
  exact (keeps_forEach (keeps_mk h0 rfl rfl rfl rfl rfl rfl rfl rfl rfl) (fun _ _ h1 => (keeps_presentOne _ h1)))

theorem keeps_outputBlock {s0 : State} (w : Sys2Proof.Machine.Swap) (j : Nat) {s : State} (h0 : Keeps s0 s) :
    Keeps s0 (outputBlock w j s).2 := by
  unfold outputBlock
  exact (keeps_ite1 h0 (keeps_ringTake _ _ _ h0))

theorem keeps_takeOutputs {s0 : State} {s : State} (h0 : Keeps s0 s) :
    Keeps s0 (takeOutputs s) := by
  unfold takeOutputs
  exact (keeps_forEach (keeps_mk h0 rfl rfl rfl rfl rfl rfl rfl rfl rfl) (fun _ _ h1 => (keeps_mk (keeps_outputBlock _
    _ h1) rfl rfl rfl rfl rfl rfl rfl rfl rfl)))

theorem keeps_brgPublish {s0 : State} {s : State} (h0 : Keeps s0 s) :
    Keeps s0 (brgPublish s) := by
  unfold brgPublish
  exact (keeps_mk (keeps_forEach (keeps_mk h0 rfl rfl rfl rfl rfl rfl rfl rfl rfl) (fun _ _ h1 => (keeps_mk h1 rfl rfl
    rfl rfl rfl rfl rfl rfl rfl))) rfl rfl rfl rfl rfl rfl rfl rfl rfl)

theorem keeps_xpWrite {s0 : State} (v : Sys2Proof.W32) {s : State} (h0 : Keeps s0 s) :
    Keeps s0 (xpWrite v s) := by
  unfold xpWrite
  exact (keeps_mk h0 rfl rfl rfl rfl rfl rfl rfl rfl rfl)

theorem keeps_muteWrite {s0 : State} (i : Nat) (m : Bool) {s : State} (h0 : Keeps s0 s) :
    Keeps s0 (muteWrite i m s) := by
  unfold muteWrite
  exact (keeps_setRb _ _ _ h0)

end Sys2Proof.Machine
end

