-- ==== Sys2Proof/Laws/KeepsFlowstone.lean ====
section
/-! SUPPORT. The operations of Machine/Flowstone.lean keep what every command keeps. -/

namespace Sys2Proof.Machine

open Sys2Proof

theorem keeps_flwRead {s0 : State} (w n : Nat) {s : State} (h : Keeps s0 s) : Keeps s0 (flwRead w n s).2 := by
  induction n generalizing w s with
  | zero => exact h
  | succ n ih => exact ih _ (keeps_matrixRead _ _ h)

theorem keeps_setCheck {s0 : State} (k : Nat) {s : State} (h0 : Keeps s0 s) :
    Keeps s0 (setCheck k s).2 := by
  unfold setCheck
  exact (keeps_ite1 h0 (by
      try extract_lets
      split
      exact (keeps_flwRead _ _ h0)
      exact (keeps_ite1 (keeps_flwRead _ _ h0) (by
          try extract_lets
          split
          exact (keeps_flwRead _ _ (keeps_flwRead _ _ h0))
          exact (keeps_flwRead _ _ (keeps_flwRead _ _ h0))
        ))
    ))

theorem keeps_setSlot {s0 : State} (k : Nat) (st : Nat) (fail : Nat) {s : State} (h0 : Keeps s0 s) :
    Keeps s0 (setSlot k st fail s) := by
  unfold setSlot
  exact (keeps_setRf _ _ _ (keeps_setRf _ _ _ h0))

theorem keeps_cmdErr {s0 : State} {s : State} (h0 : Keeps s0 s) :
    Keeps s0 (cmdErr s) := by
  unfold cmdErr
  exact (keeps_setRb _ _ _ h0)

theorem keeps_stage {s0 : State} (k : Nat) {s : State} (h0 : Keeps s0 s) :
    Keeps s0 (stage k s) := by
  unfold stage
  exact (keeps_ite (keeps_cmdErr h0) (keeps_ite (keeps_setSlot _ _ _ h0) (keeps_mk (keeps_setSlot _ _ _ h0) rfl rfl
    rfl rfl rfl rfl rfl rfl rfl)))

theorem keeps_emptySlot {s0 : State} (k : Nat) {s : State} (h0 : Keeps s0 s) :
    Keeps s0 (emptySlot k s) := by
  unfold emptySlot
  exact (keeps_setSlot _ _ _ (keeps_mk h0 rfl rfl rfl rfl rfl rfl rfl rfl rfl))

theorem keeps_discard {s0 : State} (k : Nat) {s : State} (h0 : Keeps s0 s) :
    Keeps s0 (discard k s) := by
  unfold discard
  exact (keeps_ite (keeps_cmdErr h0) (keeps_emptySlot _ h0))

theorem keeps_slotBaseWrite {s0 : State} (k : Nat) (w : Nat) {s : State} (h0 : Keeps s0 s) :
    Keeps s0 (slotBaseWrite k w s) := by
  unfold slotBaseWrite
  exact (keeps_ite (keeps_cmdErr h0) (keeps_emptySlot _ (keeps_setRf _ _ _ h0)))

theorem keeps_morphBaseWrite {s0 : State} (w : Nat) {s : State} (h0 : Keeps s0 s) :
    Keeps s0 (morphBaseWrite w s) := by
  unfold morphBaseWrite
  exact (keeps_ite (keeps_cmdErr h0) (keeps_setRf _ _ _ h0))

theorem keeps_checkDone {s0 : State} {s : State} (h0 : Keeps s0 s) :
    Keeps s0 (checkDone s) := by
  unfold checkDone
  exact (keeps_ite h0 (by
      try extract_lets
      split
      exact h0
      exact (keeps_ite (keeps_setSlot _ _ _ (keeps_setCheck _ (keeps_mk h0 rfl rfl rfl rfl rfl rfl rfl rfl rfl)))
        (keeps_ite (keeps_raise _ (keeps_setSlot _ _ _ (keeps_setCheck _ (keeps_mk h0 rfl rfl rfl rfl rfl rfl rfl rfl
        rfl)))) (keeps_raise _ (keeps_setSlot _ _ _ (keeps_setCheck _ (keeps_mk h0 rfl rfl rfl rfl rfl rfl rfl rfl
        rfl))))))
    ))

theorem keeps_commitArrives {s0 : State} (k : Nat) (c : Nat) {s : State} (h0 : Keeps s0 s) :
    Keeps s0 (commitArrives k c s) := by
  unfold commitArrives
  exact (keeps_ite (keeps_bumpSat _ _ (keeps_setReg _ _ h0)) (keeps_ite (keeps_setReg _ _ h0) (keeps_showInUse
    (keeps_setRb _ _ _ (keeps_mk (keeps_mk (keeps_setReg _ _ h0) rfl rfl rfl rfl rfl rfl rfl rfl rfl) rfl rfl rfl rfl
    rfl rfl rfl rfl rfl)))))

theorem keeps_commitEnd {s0 : State} {s : State} (h0 : Keeps s0 s) :
    Keeps s0 (commitEnd s) := by
  unfold commitEnd
  exact (keeps_showInUse (keeps_setRb _ _ _ (keeps_setRb _ _ _ (keeps_mk h0 rfl rfl rfl rfl rfl rfl rfl rfl rfl))))

theorem keeps_commitDropTime {s0 : State} {s : State} (h0 : Keeps s0 s) :
    Keeps s0 (commitDropTime s) := by
  unfold commitDropTime
  exact (by
      try extract_lets
      split
      exact h0
      exact (keeps_setRb _ _ _ (keeps_commitEnd (by
          try extract_lets
          split
          exact (keeps_mk h0 rfl rfl rfl rfl rfl rfl rfl rfl rfl)
          exact h0
        )))
    )

theorem keeps_armStart {s0 : State} {s : State} (h0 : Keeps s0 s) :
    Keeps s0 (armStart s) := by
  unfold armStart
  exact (by
      try extract_lets
      split
      exact (keeps_ite (keeps_setRb _ _ _ (keeps_mk h0 rfl rfl rfl rfl rfl rfl rfl rfl rfl)) h0)
      exact h0
    )

theorem keeps_armDone {s0 : State} {s : State} (h0 : Keeps s0 s) :
    Keeps s0 (armDone s) := by
  unfold armDone
  exact (by
      try extract_lets
      split
      exact (keeps_ite (by
          try extract_lets
          split
          exact (keeps_ite (keeps_mk (keeps_setRb _ _ _ (keeps_flwRead _ _ (keeps_flwRead _ _ h0))) rfl rfl rfl rfl
            rfl rfl rfl rfl rfl) (keeps_mk (keeps_setRb _ _ _ (keeps_flwRead _ _ (keeps_flwRead _ _ h0))) rfl rfl rfl
            rfl rfl rfl rfl rfl rfl))
          exact (keeps_mk (keeps_setRb _ _ _ (keeps_flwRead _ _ (keeps_flwRead _ _ h0))) rfl rfl rfl rfl rfl rfl rfl
            rfl rfl)
        ) h0)
      exact h0
    )

theorem keeps_swapGains {s0 : State} (ws : List Sys2Proof.W40) (slot : Nat) (b : Nat) {s : State} (h0 : Keeps s0 s) :
    Keeps s0 (swapGains ws slot b s) := by
  unfold swapGains
  exact (keeps_ite (keeps_mk h0 rfl rfl rfl rfl rfl rfl rfl rfl rfl) (keeps_mk h0 rfl rfl rfl rfl rfl rfl rfl rfl
    rfl))

theorem keeps_swapBus {s0 : State} (ws : List Sys2Proof.W40) (slot : Nat) (b : Nat) {s : State} (h0 : Keeps s0 s) :
    Keeps s0 (swapBus ws slot b s) := by
  unfold swapBus
  exact (keeps_swapGains _ _ _ (keeps_setRf _ _ _ (keeps_setRf _ _ _ h0)))

theorem keeps_morphNow {s0 : State} (m : Sys2Proof.Machine.Morph) {s : State} (h0 : Keeps s0 s) :
    Keeps s0 (morphNow m s).2 := by
  unfold morphNow
  exact (keeps_ite1 (keeps_ite1 (keeps_xyFetch _ _ _ _ h0) h0) (keeps_ite1 (keeps_ite1 (keeps_xyFetch _ _ _ _ h0) h0)
    (keeps_ite1 h0 h0)))

theorem keeps_morphStart {s0 : State} (m : Sys2Proof.Machine.Morph) {s : State} (h0 : Keeps s0 s) :
    Keeps s0 (morphStart m s) := by
  unfold morphStart
  exact (keeps_matrixWrite _ _ _ (by
      try extract_lets
      split
      exact (keeps_morphNow _ h0)
      exact (keeps_tick1 (keeps_morphNow _ h0))
    ))

theorem keeps_placeMorphs {s0 : State} (free : List Nat) (ms : List Morph) {s : State} (h : Keeps s0 s) :
    Keeps s0 (placeMorphs free ms s).2 := by
  induction ms generalizing s free with
  | nil => exact h
  | cons m r ih =>
    unfold placeMorphs
    dsimp only
    split
    · exact ih _ h
    · exact ih _ (keeps_tick1 h)

theorem keeps_morphWrite {s0 : State} (m : Sys2Proof.Machine.Morph) (v : Sys2Proof.W40) {s : State} (h0 : Keeps s0 s)
    :
    Keeps s0 (morphWrite m v s) := by
  unfold morphWrite
  exact (keeps_ite (keeps_ite (keeps_setChm _ _ h0) h0) (keeps_ite (keeps_ite (keeps_setChm _ _ h0) h0) (keeps_ite
    (keeps_setRf _ _ _ h0) (keeps_setRf _ _ _ h0))))

theorem keeps_swapRecords {s0 : State} (ws : List Sys2Proof.W40) (slot : Nat) (sel : Sys2Proof.Machine.Morph → Bool)
    {s : State} (h0 : Keeps s0 s) :
    Keeps s0 (swapRecords ws slot sel s) := by
  unfold swapRecords
  exact (keeps_mk (keeps_forEach (keeps_placeMorphs _ _ (keeps_ite (keeps_forEach h0 (fun _ _ h1 => (keeps_morphWrite
    _ _ h1))) (keeps_setRb _ _ _ (keeps_forEach h0 (fun _ _ h2 => (keeps_morphWrite _ _ h2)))))) (fun _ _ h3 =>
    (keeps_morphStart _ h3))) rfl rfl rfl rfl rfl rfl rfl rfl rfl)

theorem keeps_swapChamber {s0 : State} (ws : List Sys2Proof.W40) (n : Nat) {s : State} (h0 : Keeps s0 s) :
    Keeps s0 (swapChamber ws n s) := by
  unfold swapChamber
  exact (keeps_ite (keeps_setChm _ _ (keeps_setRf _ _ _ (keeps_setRf _ _ _ (keeps_forEach (keeps_setRf _ _ _
    (keeps_setRf _ _ _ (keeps_setRf _ _ _ (keeps_setRf _ _ _ h0)))) (fun _ _ h1 => (keeps_setRf _ _ _ h1))))))
    (keeps_setRf _ _ _ (keeps_setRf _ _ _ (keeps_forEach (keeps_setRf _ _ _ (keeps_setRf _ _ _ (keeps_setRf _ _ _
    (keeps_setRf _ _ _ h0)))) (fun _ _ h2 => (keeps_setRf _ _ _ h2))))))

theorem keeps_swapBridge {s0 : State} (ws : List Sys2Proof.W40) (k : Nat) {s : State} (h0 : Keeps s0 s) :
    Keeps s0 (swapBridge ws k s) := by
  unfold swapBridge
  exact (keeps_setRf _ _ _ (keeps_setRf _ _ _ (keeps_setRf _ _ _ h0)))

theorem keeps_swapElements {s0 : State} (ws : List Sys2Proof.W40) (slot : Nat) (k : Sys2Proof.Machine.SwapNow) (ins :
    Nat → Bool) {s : State} (h0 : Keeps s0 s) :
    Keeps s0 (swapElements ws slot k ins s) := by
  unfold swapElements
  exact (keeps_forEach (keeps_forEach (keeps_forEach (keeps_forEach (keeps_forEach h0 (fun _ _ h1 => (keeps_setRf _ _
    _ h1))) (fun _ _ h2 => (keeps_swapBus _ _ _ h2))) (fun _ _ h3 => (keeps_swapChamber _ _ h3))) (fun _ _ h4 =>
    (keeps_swapBridge _ _ h4))) (fun _ _ h5 => (keeps_setRf _ _ _ h5)))

theorem keeps_swapAt {s0 : State} (ws : List Sys2Proof.W40) (slot : Nat) (w : Sys2Proof.Machine.Swap) (late : Bool) {s
    : State} (h0 : Keeps s0 s) :
    Keeps s0 (swapAt ws slot w late s) := by
  unfold swapAt
  exact (keeps_forEach (keeps_swapElements _ _ _ _ h0) (fun _ _ h1 => (keeps_swapRecords _ _ _ h1)))

theorem keeps_swapTalk {s0 : State} (ws : List Sys2Proof.W40) {s : State} (h0 : Keeps s0 s) :
    Keeps s0 (swapTalk ws s) := by
  unfold swapTalk
  exact (keeps_mk (keeps_forEach h0 (fun _ _ h1 => (keeps_setRf _ _ _ (keeps_setRf _ _ _ h1)))) rfl rfl rfl rfl rfl
    rfl rfl rfl rfl)

theorem keeps_swapChecks {s0 : State} (ws : List Sys2Proof.W40) (w : Sys2Proof.Machine.Swap) {s : State} (h0 : Keeps
    s0 s) :
    Keeps s0 (swapChecks ws w s) := by
  unfold swapChecks
  exact (keeps_ite (keeps_raise _ (keeps_setRb _ _ _ (keeps_mk (keeps_mk (keeps_ite (keeps_raise _ (keeps_setRb _ _ _
    h0)) h0) rfl rfl rfl rfl rfl rfl rfl rfl rfl) rfl rfl rfl rfl rfl rfl rfl rfl rfl))) (keeps_mk (keeps_mk
    (keeps_ite (keeps_raise _ (keeps_setRb _ _ _ h0)) h0) rfl rfl rfl rfl rfl rfl rfl rfl rfl) rfl rfl rfl rfl rfl rfl
    rfl rfl rfl))

theorem keeps_planeMoves {s0 : State} (chain : Bool) (sels : List Nat) {s : State} (h0 : Keeps s0 s) :
    Keeps s0 (planeMoves chain sels s) := by
  unfold planeMoves
  exact (keeps_ite h0 (keeps_ite (keeps_mk h0 rfl rfl rfl rfl rfl rfl rfl rfl rfl) (keeps_mk h0 rfl rfl rfl rfl rfl
    rfl rfl rfl rfl)))

theorem keeps_planesMove {s0 : State} (w : Sys2Proof.Machine.Swap) {s : State} (h0 : Keeps s0 s) :
    Keeps s0 (planesMove w s) := by
  unfold planesMove
  exact (keeps_forEach (keeps_forEach (keeps_forEach h0 (fun _ _ h1 => (keeps_planeMoves _ _ h1))) (fun _ _ h2 =>
    (keeps_planeMoves _ _ h2))) (fun _ _ h3 => (keeps_planeMoves _ _ h3)))

theorem keeps_planesShown {s0 : State} {s : State} (h0 : Keeps s0 s) :
    Keeps s0 (planesShown s) := by
  unfold planesShown
  exact (keeps_showPlanes _ h0)

theorem keeps_chainSwap {s0 : State} (c : Sys2Proof.Machine.Commit) (w : Sys2Proof.Machine.Swap) {s : State} (h0 :
    Keeps s0 s) :
    Keeps s0 (chainSwap c w s) := by
  unfold chainSwap
  exact (keeps_commitEvent (keeps_planesShown (keeps_commitEnd (keeps_ite (keeps_planesMove _ (keeps_swapAt _ _ _ _
    h0)) (keeps_swapAt _ _ _ _ h0)))))

theorem keeps_localSwap {s0 : State} (c : Sys2Proof.Machine.Commit) {s : State} (h0 : Keeps s0 s) :
    Keeps s0 (localSwap c s) := by
  unfold localSwap
  exact (keeps_ite (keeps_planesShown (keeps_mk (keeps_ite (keeps_setRb _ _ _ (keeps_setRf _ _ _ (keeps_setRb _ _ _
    (keeps_setRf _ _ _ (keeps_swapRecords _ _ _ (keeps_swapTalk _ (keeps_swapAt _ _ _ _ (keeps_swapChecks _ _
    (keeps_mk h0 rfl rfl rfl rfl rfl rfl rfl rfl rfl))))))))) (keeps_setRf _ _ _ (keeps_setRb _ _ _ (keeps_setRf _ _ _
    (keeps_swapRecords _ _ _ (keeps_swapTalk _ (keeps_swapAt _ _ _ _ (keeps_swapChecks _ _ (keeps_mk h0 rfl rfl rfl
    rfl rfl rfl rfl rfl rfl))))))))) rfl rfl rfl rfl rfl rfl rfl rfl rfl)) (keeps_commitEvent (keeps_planesShown
    (keeps_commitEnd (keeps_ite (keeps_setRb _ _ _ (keeps_setRf _ _ _ (keeps_setRb _ _ _ (keeps_setRf _ _ _
    (keeps_swapRecords _ _ _ (keeps_swapTalk _ (keeps_swapAt _ _ _ _ (keeps_swapChecks _ _ (keeps_mk h0 rfl rfl rfl
    rfl rfl rfl rfl rfl rfl))))))))) (keeps_setRf _ _ _ (keeps_setRb _ _ _ (keeps_setRf _ _ _ (keeps_swapRecords _ _ _
    (keeps_swapTalk _ (keeps_swapAt _ _ _ _ (keeps_swapChecks _ _ (keeps_mk h0 rfl rfl rfl rfl rfl rfl rfl rfl
    rfl)))))))))))))

theorem keeps_swapBack {s0 : State} (ws : List Sys2Proof.W40) (n : Nat) {s : State} (h0 : Keeps s0 s) :
    Keeps s0 (swapBack ws n s) := by
  unfold swapBack
  exact (keeps_ite (keeps_setChm _ _ h0) h0)

theorem keeps_commitRestore {s0 : State} {s : State} (h : Keeps s0 s) : Keeps s0 (commitRestore s) := by
  unfold commitRestore
  split
  · exact h
  · rename_i d _
    extract_lets ws k f t u v w f2 x
    have kt : Keeps s0 t := keeps_frame h rfl rfl rfl rfl rfl rfl rfl rfl rfl
    have ku : Keeps s0 u := keeps_swapElements _ _ _ _ kt
    clear_value u
    have kv : Keeps s0 v := keeps_forEach ku fun _ _ k => keeps_swapBack _ _ k
    clear_value v
    have kw : Keeps s0 w := keeps_swapTalk _ kv
    clear_value w
    have kx : Keeps s0 x := keeps_frame kw rfl rfl rfl rfl rfl rfl rfl rfl rfl
    clear_value x
    exact keeps_planesShown (keeps_showInUse (keeps_setReg _ _ (keeps_setReg _ _ kx)))

theorem keeps_commitAbandon {s0 : State} (c : Sys2Proof.Machine.Commit) {s : State} (h0 : Keeps s0 s) :
    Keeps s0 (commitAbandon c s) := by
  unfold commitAbandon
  exact (keeps_ite (keeps_raise _ (keeps_setRb _ _ _ (keeps_commitEnd h0))) (keeps_raise _ (keeps_setRb _ _ _
    (keeps_commitEnd h0))))

theorem keeps_commitBoundary {s0 : State} {s : State} (h0 : Keeps s0 s) :
    Keeps s0 (commitBoundary s) := by
  unfold commitBoundary
  exact (by
      try extract_lets
      split
      exact h0
      exact (by
          try extract_lets
          split
          exact (keeps_ite (keeps_chainSwap _ _ (keeps_ite (keeps_ite (keeps_localSwap _ h0) (keeps_commitAbandon _
            h0)) h0)) (keeps_ite (keeps_ite (keeps_localSwap _ h0) (keeps_commitAbandon _ h0)) h0))
          exact (keeps_ite (keeps_ite (keeps_localSwap _ h0) (keeps_commitAbandon _ h0)) h0)
        )
    )

theorem keeps_flwRelease {s0 : State} {s : State} (h0 : Keeps s0 s) :
    Keeps s0 (flwRelease s) := by
  unfold flwRelease
  exact (keeps_mk h0 rfl rfl rfl rfl rfl rfl rfl rfl rfl)

theorem keeps_flwWord {s0 : State} (m : Sys2Proof.Machine.Morph) {s : State} (h0 : Keeps s0 s) :
    Keeps s0 (flwWord m s) := by
  unfold flwWord
  exact (keeps_ite (keeps_mk (keeps_ite h0 (keeps_ite (keeps_morphWrite _ _ h0) (keeps_morphWrite _ _
    (keeps_matrixRead _ _ h0)))) rfl rfl rfl rfl rfl rfl rfl rfl rfl) (keeps_ite h0 (keeps_ite (keeps_morphWrite _ _
    h0) (keeps_morphWrite _ _ (keeps_matrixRead _ _ h0)))))

theorem keeps_flwComplete {s0 : State} {s : State} (h0 : Keeps s0 s) :
    Keeps s0 (flwComplete s) := by
  unfold flwComplete
  exact (keeps_showInUse (keeps_mk (keeps_forEach h0 (fun _ _ h1 => (keeps_flwWord _ h1))) rfl rfl rfl rfl rfl rfl rfl
    rfl rfl))

theorem keeps_flwMiss {s0 : State} (k : Nat) {s : State} (h0 : Keeps s0 s) :
    Keeps s0 (flwMiss k s) := by
  unfold flwMiss
  exact (keeps_showInUse (keeps_mk (keeps_ite (keeps_forEach h0 (fun _ _ h1 => (keeps_flwWord _ h1))) (keeps_setRb _ _
    _ (keeps_forEach h0 (fun _ _ h2 => (keeps_flwWord _ h2))))) rfl rfl rfl rfl rfl rfl rfl rfl rfl))

theorem keeps_endSet {s0 : State} {s : State} (h0 : Keeps s0 s) :
    Keeps s0 (endSet s) := by
  unfold endSet
  exact (keeps_showInUse (keeps_mk (keeps_forEach (keeps_resetRegs _ _ (keeps_forEach (keeps_resetRegs _ _
    (keeps_forEach (keeps_commitEnd (keeps_setReg _ _ h0)) (fun _ _ h1 => (keeps_setRf _ _ _ (keeps_setRf _ _ _
    (keeps_setRf _ _ _ h1)))))) (fun _ _ h2 => (keeps_resetRegs _ _ h2)))) (fun _ _ h3 => (keeps_setRb _ _ _
    (keeps_setRf _ _ _ h3)))) rfl rfl rfl rfl rfl rfl rfl rfl rfl))

end Sys2Proof.Machine
end

