-- ==== Sys2Proof/Laws/KeepsSap.lean ====
section
/-! SUPPORT. The operations of Machine/Sap.lean keep what every command keeps. -/

namespace Sys2Proof.Machine

open Sys2Proof

theorem keeps_setSap {s0 : State} (n : Nat) (x : Sys2Proof.Machine.Sap) {s : State} (h0 : Keeps s0 s) :
    Keeps s0 (setSap n x s) := by
  unfold setSap
  exact (keeps_mk h0 rfl rfl rfl rfl rfl rfl rfl rfl rfl)

theorem keeps_setSapState {s0 : State} (n : Nat) (st : Nat) {s : State} (h0 : Keeps s0 s) :
    Keeps s0 (setSapState n st s) := by
  unfold setSapState
  exact (keeps_setRf _ _ _ h0)

theorem keeps_sapStart {s0 : State} (n : Nat) {s : State} (h0 : Keeps s0 s) :
    Keeps s0 (sapStart n s) := by
  unfold sapStart
  exact (keeps_ite (keeps_raiseD _ _ (keeps_setRb _ _ _ (keeps_setSapState _ _ h0))) (keeps_setSapState _ _
    (keeps_setSap _ _ h0)))

theorem keeps_sapEnable {s0 : State} (n : Nat) {s : State} (h0 : Keeps s0 s) :
    Keeps s0 (sapEnable n s) := by
  unfold sapEnable
  exact (keeps_ite (keeps_sapStart _ (keeps_setRb _ _ _ h0)) (keeps_setRb _ _ _ h0))

theorem keeps_sapTrail {s0 : State} (n : Nat) {s : State} (h0 : Keeps s0 s) :
    Keeps s0 (sapTrail n s) := by
  unfold sapTrail
  exact (keeps_setSapState _ _ (keeps_setSap _ _ h0))

theorem keeps_sapDisable {s0 : State} (n : Nat) {s : State} (h0 : Keeps s0 s) :
    Keeps s0 (sapDisable n s) := by
  unfold sapDisable
  exact (by
      try extract_lets
      split
      exact (keeps_setSapState _ _ (keeps_setSap _ _ (keeps_setRb _ _ _ h0)))
      exact (keeps_sapTrail _ (keeps_setRb _ _ _ h0))
      exact (keeps_setSap _ _ (keeps_setRb _ _ _ h0))
      exact (keeps_setRb _ _ _ h0)
    )

theorem keeps_sapEnableWrite {s0 : State} (n : Nat) (on : Bool) {s : State} (h0 : Keeps s0 s) :
    Keeps s0 (sapEnableWrite n on s) := by
  unfold sapEnableWrite
  exact (keeps_ite (keeps_sapEnable _ h0) (keeps_ite (keeps_sapDisable _ h0) h0))

theorem keeps_sapClock {s0 : State} (n : Nat) {s : State} (h0 : Keeps s0 s) :
    Keeps s0 (sapClock n s) := by
  unfold sapClock
  exact (keeps_ite (keeps_setSapState _ _ (keeps_setSap _ _ h0)) h0)

theorem keeps_sapLeadEnd {s0 : State} (n : Nat) {s : State} (h0 : Keeps s0 s) :
    Keeps s0 (sapLeadEnd n s) := by
  unfold sapLeadEnd
  exact (keeps_ite (keeps_setSap _ _ h0) h0)

theorem keeps_sapTrailEnd {s0 : State} (n : Nat) {s : State} (h0 : Keeps s0 s) :
    Keeps s0 (sapTrailEnd n s) := by
  unfold sapTrailEnd
  exact (keeps_ite (keeps_ite (keeps_sapStart _ (keeps_setSapState _ _ (keeps_setSap _ _ h0))) (keeps_setSapState _ _
    (keeps_setSap _ _ h0))) h0)

theorem keeps_gateFrame {s0 : State} (n k : Nat) (f : List W40) {s : State} (h : Keeps s0 s) :
    Keeps s0 (gateFrame n k f s).2 := by
  induction f generalizing s k with
  | nil => exact h
  | cons x r ih => exact ih _ (keeps_spkSample _ _ h)

theorem keeps_sendFrame {s0 : State} (n : Nat) (f : List Sys2Proof.W40) {s : State} (h0 : Keeps s0 s) :
    Keeps s0 (sendFrame n f s) := by
  unfold sendFrame
  exact (keeps_ite (keeps_setRb _ _ _ (keeps_setSap _ _ (keeps_gateFrame _ _ _ h0))) (keeps_setSap _ _
    (keeps_gateFrame _ _ _ h0)))

theorem keeps_slip {s0 : State} (n : Nat) (kind : Nat) (input : Bool) {s : State} (h0 : Keeps s0 s) :
    Keeps s0 (slip n kind input s) := by
  unfold slip
  exact (keeps_ite h0 (keeps_ite (keeps_raise _ (keeps_setRb _ _ _ (keeps_ite (keeps_ite (keeps_setRb _ _ _
    (keeps_bumpWrap _ h0)) (keeps_setRb _ _ _ (keeps_bumpWrap _ h0))) (keeps_ite (keeps_setRb _ _ _ (keeps_bumpWrap _
    h0)) (keeps_setRb _ _ _ (keeps_bumpWrap _ h0)))))) (keeps_ite (keeps_ite (keeps_setRb _ _ _ (keeps_bumpWrap _ h0))
    (keeps_setRb _ _ _ (keeps_bumpWrap _ h0))) (keeps_ite (keeps_setRb _ _ _ (keeps_bumpWrap _ h0)) (keeps_setRb _ _ _
    (keeps_bumpWrap _ h0))))))

theorem keeps_capture {s0 : State} (n : Nat) (f : List Sys2Proof.W40) {s : State} (h0 : Keeps s0 s) :
    Keeps s0 (capture n f s) := by
  unfold capture
  exact (keeps_setSap _ _ h0)

theorem keeps_emit {s0 : State} (n : Nat) (f : List Sys2Proof.W40) {s : State} (h0 : Keeps s0 s) :
    Keeps s0 (emit n f s) := by
  unfold emit
  exact (by
      try extract_lets
      split
      exact (keeps_ite (keeps_sapTrail _ (keeps_sendFrame _ _ (keeps_setSap _ _ h0))) (keeps_sendFrame _ _
        (keeps_setSap _ _ h0)))
      exact (keeps_sendFrame _ _ (keeps_setSap _ _ h0))
    )

theorem keeps_sapFrame {s0 : State} (n : Nat) (di : List Bool) {s : State} (h0 : Keeps s0 s) :
    Keeps s0 (sapFrame n di s) := by
  unfold sapFrame
  exact (keeps_ite h0 (keeps_ite (keeps_emit _ _ (keeps_ite (keeps_capture _ _ (keeps_setRf _ _ _ (keeps_setSap _ _
    h0))) (keeps_setRf _ _ _ (keeps_setSap _ _ h0)))) (keeps_ite (keeps_emit _ _ (keeps_slip _ _ _ (keeps_setSap _ _
    (keeps_setRf _ _ _ (keeps_setSap _ _ (keeps_setSap _ _ h0)))))) (keeps_emit _ _ (keeps_setSap _ _ (keeps_setSap _
    _ h0))))))

theorem keeps_sapBuffers {s0 : State} (n : Nat) {s : State} (h0 : Keeps s0 s) :
    Keeps s0 (sapBuffers n s).2 := by
  unfold sapBuffers
  exact (keeps_ite1 (keeps_slip _ _ _ (keeps_setSap _ _ (keeps_setRf _ _ _ (keeps_setRf _ _ _ (keeps_setSap _ _
    h0))))) (keeps_setSap _ _ h0))

theorem keeps_sapGrid {s0 : State} (n : Nat) {s : State} (h0 : Keeps s0 s) :
    Keeps s0 (sapGrid n s) := by
  unfold sapGrid
  exact (keeps_ite (keeps_capture _ _ (keeps_sapBuffers _ h0)) (keeps_ite (keeps_capture _ _ h0) h0))

theorem keeps_gridPoint {s0 : State} {s : State} (h : Keeps s0 s) : Keeps s0 (gridPoint s) := by
  unfold gridPoint
  extract_lets t
  have k : Keeps s0 t := keeps_forEach h fun _ _ hk => keeps_sapGrid _ hk
  clear_value t
  exact keeps_frame k rfl rfl rfl rfl rfl rfl rfl rfl rfl

theorem keeps_sapFault {s0 : State} (n : Nat) (f : Sys2Proof.Fld) {s : State} (h0 : Keeps s0 s) :
    Keeps s0 (sapFault n f s) := by
  unfold sapFault
  exact (keeps_ite h0 (keeps_ite (keeps_setSapState _ _ (keeps_setSap _ _ (keeps_raise _ (keeps_setRb _ _ _ h0))))
    (keeps_setSapState _ _ (keeps_setSap _ _ (keeps_setSap _ _ (keeps_raise _ (keeps_setRb _ _ _ h0)))))))

theorem keeps_sapBoundary {s0 : State} (n : Nat) {s : State} (h0 : Keeps s0 s) :
    Keeps s0 (sapBoundary n s) := by
  unfold sapBoundary
  exact (keeps_ite (keeps_setSapState _ _ (keeps_setSap _ _ (keeps_ite h0 (keeps_forEach h0 (fun _ _ h1 => (keeps_mk
    h1 rfl rfl rfl rfl rfl rfl rfl rfl rfl)))))) (keeps_setSap _ _ (keeps_ite h0 (keeps_forEach h0 (fun _ _ h2 =>
    (keeps_mk h2 rfl rfl rfl rfl rfl rfl rfl rfl rfl))))))

end Sys2Proof.Machine
end

