-- ==== Sys2Proof/Laws/KeepsTimebase.lean ====
section
/-! SUPPORT. The operations of Machine/Timebase.lean keep what every command keeps. -/

namespace Sys2Proof.Machine

open Sys2Proof

theorem keeps_onDtm {s0 : State} (f : Sys2Proof.Machine.Dtm → Sys2Proof.Machine.Dtm) {s : State} (h0 : Keeps s0 s) :
    Keeps s0 (onDtm f s) := by
  unfold onDtm
  exact (keeps_mk h0 rfl rfl rfl rfl rfl rfl rfl rfl rfl)

theorem keeps_takePeriod {s0 : State} (n : Nat) {s : State} (h0 : Keeps s0 s) :
    Keeps s0 (takePeriod n s) := by
  unfold takePeriod
  exact (keeps_mk h0 rfl rfl rfl rfl rfl rfl rfl rfl rfl)

theorem keeps_timerTop {s0 : State} (n : Nat) {s : State} (h0 : Keeps s0 s) :
    Keeps s0 (timerTop n s) := by
  unfold timerTop
  exact (keeps_ite (keeps_setRf _ _ _ (keeps_setRf _ _ _ (keeps_setRb _ _ _ (keeps_mk h0 rfl rfl rfl rfl rfl rfl rfl
    rfl rfl)))) (keeps_takePeriod _ (keeps_setRf _ _ _ (keeps_setRb _ _ _ (keeps_mk h0 rfl rfl rfl rfl rfl rfl rfl rfl
    rfl)))))

theorem keeps_timerWhole {s0 : State} (n : Nat) (c : Nat) (k : Nat) {s : State} (h0 : Keeps s0 s) :
    Keeps s0 (timerWhole n c k s) := by
  unfold timerWhole
  exact (keeps_ite (keeps_setRf _ _ _ h0) (keeps_setRf _ _ _ (keeps_mk (keeps_timerTop _ h0) rfl rfl rfl rfl rfl rfl
    rfl rfl rfl)))

theorem keeps_timerCount {s0 : State} (n : Nat) (k : Nat) {s : State} (h0 : Keeps s0 s) :
    Keeps s0 (timerCount n k s) := by
  unfold timerCount
  exact (keeps_ite h0 (by
      try extract_lets
      split
      exact (keeps_ite (keeps_setRf _ _ _ h0) (keeps_timerTop _ h0))
      exact (keeps_timerWhole _ _ _ h0)
      exact (keeps_ite (keeps_setRb _ _ _ (keeps_setRf _ _ _ h0)) (keeps_setRf _ _ _ h0))
    ))

theorem keeps_timersPass {s0 : State} (t0 : Nat) (t1 : Nat) {s : State} (h0 : Keeps s0 s) :
    Keeps s0 (timersPass t0 t1 s) := by
  unfold timersPass
  exact (keeps_forEach h0 (fun _ _ h1 => (by
      try extract_lets
      split
      exact (keeps_ite (keeps_timerCount _ _ (keeps_mk h1 rfl rfl rfl rfl rfl rfl rfl rfl rfl)) h1)
      exact (keeps_timerCount _ _ h1)
      exact h1
    )))

theorem keeps_upTime {s0 : State} (n : Nat) {s : State} (h0 : Keeps s0 s) :
    Keeps s0 (upTime n s) := by
  unfold upTime
  exact (keeps_mk (keeps_setReg _ _ h0) rfl rfl rfl rfl rfl rfl rfl rfl rfl)

theorem keeps_setDom {s0 : State} (n : Nat) (x : Sys2Proof.Machine.Dom) {s : State} (h0 : Keeps s0 s) :
    Keeps s0 (setDom n x s) := by
  unfold setDom
  exact (keeps_mk h0 rfl rfl rfl rfl rfl rfl rfl rfl rfl)

theorem keeps_switchAt {s0 : State} (t : Nat) {s : State} (h0 : Keeps s0 s) :
    Keeps s0 (switchAt t s) := by
  unfold switchAt
  exact (keeps_forEach h0 (fun _ _ h1 => (keeps_ite (keeps_mk (keeps_setDom _ _ h1) rfl rfl rfl rfl rfl rfl rfl rfl
    rfl) h1)))

theorem keeps_switchPass {s0 : State} (fuel t : Nat) {s : State} (h : Keeps s0 s) :
    Keeps s0 (switchPass fuel t s) := by
  induction fuel generalizing s with
  | zero => exact h
  | succ n ih =>
    unfold switchPass
    split
    · exact keeps_ite (ih (keeps_switchAt _ h)) h
    · exact h

theorem keeps_busyPass {s0 : State} (t : Nat) {s : State} (h0 : Keeps s0 s) :
    Keeps s0 (busyPass t s) := by
  unfold busyPass
  exact (by
      try extract_lets
      split
      exact (keeps_ite (keeps_mk h0 rfl rfl rfl rfl rfl rfl rfl rfl rfl) h0)
      exact h0
    )

theorem keeps_passTicks {s0 : State} (n : Nat) (d : Nat) {s : State} (h0 : Keeps s0 s) :
    Keeps s0 (passTicks n d s) := by
  unfold passTicks
  exact (keeps_switchPass _ _ (keeps_busyPass _ (keeps_timersPass _ _ (keeps_upTime _ (keeps_onDtm _ h0)))))

theorem keeps_setTimeValid {s0 : State} (v : Bool) {s : State} (h0 : Keeps s0 s) :
    Keeps s0 (setTimeValid v s) := by
  unfold setTimeValid
  exact (keeps_ite h0 (keeps_ite (keeps_mk (keeps_cairnEvent _ _ (keeps_setRb _ _ _ h0)) rfl rfl rfl rfl rfl rfl rfl
    rfl rfl) (keeps_raise _ (keeps_commitDropTime (keeps_setRb _ _ _ (keeps_cairnEvent _ _ (keeps_setRb _ _ _
    h0)))))))

theorem keeps_moveCycle {s0 : State} {s : State} (h0 : Keeps s0 s) :
    Keeps s0 (moveCycle s) := by
  unfold moveCycle
  exact (keeps_mk h0 rfl rfl rfl rfl rfl rfl rfl rfl rfl)

theorem keeps_jumped {s0 : State} (old : Nat) {s : State} (h0 : Keeps s0 s) :
    Keeps s0 (jumped old s) := by
  unfold jumped
  exact (keeps_cairnEvent _ _ (keeps_setTimeValid _ (keeps_moveCycle (keeps_forEach (keeps_onDtm _ (keeps_setRb _ _ _
    h0)) (fun _ _ h1 => (keeps_setRb _ _ _ h1))))))

theorem keeps_setGo {s0 : State} {s : State} (h0 : Keeps s0 s) :
    Keeps s0 (setGo s) := by
  unfold setGo
  exact (keeps_setRb _ _ _ (keeps_onDtm _ h0))

theorem keeps_stepWrite {s0 : State} (v : Sys2Proof.W64) {s : State} (h0 : Keeps s0 s) :
    Keeps s0 (stepWrite v s) := by
  unfold stepWrite
  exact (keeps_onDtm _ h0)

theorem keeps_applySet {s0 : State} {s : State} (h0 : Keeps s0 s) :
    Keeps s0 (applySet s) := by
  unfold applySet
  exact (by
      try extract_lets
      split
      exact h0
      exact (keeps_jumped _ (keeps_setRb _ _ _ (keeps_onDtm _ (keeps_passTicks _ _ h0))))
    )

theorem keeps_applyStep {s0 : State} {s : State} (h0 : Keeps s0 s) :
    Keeps s0 (applyStep s) := by
  unfold applyStep
  exact (by
      try extract_lets
      split
      exact h0
      exact (keeps_jumped _ (keeps_onDtm _ (keeps_passTicks _ _ h0)))
    )

theorem keeps_oneTick {s0 : State} {s : State} (h0 : Keeps s0 s) :
    Keeps s0 (oneTick s) := by
  unfold oneTick
  exact (keeps_ite (keeps_ite (keeps_applySet (keeps_tick1 h0)) (keeps_applyStep (keeps_tick1 h0))) (keeps_ite
    (keeps_applySet h0) (keeps_ite (keeps_applyStep h0) (keeps_passTicks _ _ h0))))

theorem keeps_settleTick {s0 : State} {s : State} (h0 : Keeps s0 s) :
    Keeps s0 (settleTick s) := by
  unfold settleTick
  exact (keeps_ite (keeps_oneTick h0) h0)

theorem keeps_settleTicks {s0 : State} {s : State} (h0 : Keeps s0 s) :
    Keeps s0 (settleTicks s) := by
  unfold settleTicks
  exact (keeps_settleTick (keeps_settleTick h0))

theorem keeps_waitTicks {s0 : State} (n : Nat) {s : State} (h0 : Keeps s0 s) :
    Keeps s0 (waitTicks n s) := by
  unfold waitTicks
  exact (keeps_passTicks _ _ h0)

theorem keeps_advanceTo {s0 : State} (num : Nat) (den : Nat) {s : State} (h0 : Keeps s0 s) :
    Keeps s0 (advanceTo num den s) := by
  unfold advanceTo
  exact (keeps_waitTicks _ h0)

theorem keeps_tbSnapshot {s0 : State} (m : Nat) {s : State} (h : Keeps s0 s) : Keeps s0 (tbSnapshot m s).2 :=
  keeps_frame h rfl rfl rfl rfl rfl rfl rfl rfl rfl

theorem keeps_addendTake {s0 : State} (v : Int) {s : State} (h0 : Keeps s0 s) :
    Keeps s0 (addendTake v s) := by
  unfold addendTake
  exact (keeps_ite (keeps_raise _ (keeps_setRb _ _ _ (keeps_setReg _ _ h0))) (keeps_ite (keeps_raise _ (keeps_setRb _
    _ _ (keeps_setReg _ _ h0))) (keeps_setReg _ _ h0)))

theorem keeps_addendWrite {s0 : State} (v : Sys2Proof.W32) {s : State} (h0 : Keeps s0 s) :
    Keeps s0 (addendWrite v s) := by
  unfold addendWrite
  exact (keeps_ite h0 (keeps_addendTake _ h0))

theorem keeps_tvWrite {s0 : State} (set : Bool) (clr : Bool) {s : State} (h0 : Keeps s0 s) :
    Keeps s0 (tvWrite set clr s) := by
  unfold tvWrite
  exact (keeps_ite h0 (keeps_ite (keeps_setTimeValid _ h0) (keeps_ite (keeps_setTimeValid _ h0) h0)))

theorem keeps_setRef {s0 : State} (n : Nat) (r : Sys2Proof.Machine.Ref) {s : State} (h0 : Keeps s0 s) :
    Keeps s0 (setRef n r s) := by
  unfold setRef
  exact (keeps_onDtm _ h0)

theorem keeps_setSrvI {s0 : State} (v : Int) {s : State} (h0 : Keeps s0 s) :
    Keeps s0 (setSrvI v s) := by
  unfold setSrvI
  exact (keeps_setRf _ _ _ h0)

theorem keeps_refSample {s0 : State} (n : Nat) (th : Int) {s : State} (h0 : Keeps s0 s) :
    Keeps s0 (refSample n th s) := by
  unfold refSample
  exact (keeps_ite h0 (keeps_ite (keeps_onDtm _ (keeps_setRef _ _ h0)) (keeps_setRef _ _ h0)))

theorem keeps_ppsEdge {s0 : State} (m : Nat) (rising : Bool) (held : Nat) {s : State} (h0 : Keeps s0 s) :
    Keeps s0 (ppsEdge m rising held s) := by
  unfold ppsEdge
  exact (keeps_ite (keeps_refSample _ _ h0) h0)

theorem keeps_wclkEdge {s0 : State} (m : Nat) (rising : Bool) (held : Nat) {s : State} (h0 : Keeps s0 s) :
    Keeps s0 (wclkEdge m rising held s) := by
  unfold wclkEdge
  exact (keeps_ite (keeps_refSample _ _ (keeps_onDtm _ h0)) h0)

theorem keeps_setGains {s0 : State} {s : State} (h0 : Keeps s0 s) :
    Keeps s0 (setGains s) := by
  unfold setGains
  exact (keeps_ite h0 (keeps_ite (keeps_setReg _ _ (keeps_setReg _ _ (keeps_ite (keeps_setRb _ _ _ (keeps_setRf _ _ _
    h0)) (keeps_setRf _ _ _ h0)))) (keeps_ite (keeps_setRb _ _ _ (keeps_setRf _ _ _ h0)) (keeps_setRf _ _ _ h0))))

theorem keeps_freqMonitor {s0 : State} (n : Nat) {s : State} (h0 : Keeps s0 s) :
    Keeps s0 (freqMonitor n s).2 := by
  unfold freqMonitor
  exact (by
      try extract_lets
      split
      exact h0
      exact (by
          try extract_lets
          split
          exact (keeps_setRef _ _ h0)
          exact (keeps_ite1 (keeps_setRef _ _ h0) (keeps_setRef _ _ (keeps_setRf _ _ _ h0)))
        )
    )

theorem keeps_monitor {s0 : State} (lockFail : Bool) (n : Nat) {s : State} (h0 : Keeps s0 s) :
    Keeps s0 (monitor lockFail n s) := by
  unfold monitor
  exact (keeps_ite (keeps_setRef _ _ (keeps_setRb _ _ _ h0)) (keeps_ite (keeps_ite (keeps_raise _ (keeps_setRb _ _ _
    (keeps_setRef _ _ (keeps_ite (keeps_setRb _ _ _ (keeps_ite (keeps_setRb _ _ _ (keeps_ite (keeps_bumpSat _ _
    (keeps_setRb _ _ _ (keeps_ite (keeps_setRb _ _ _ (keeps_ite1 h0 (keeps_freqMonitor _ h0))) (keeps_ite1 h0
    (keeps_freqMonitor _ h0))))) (keeps_ite (keeps_setRb _ _ _ (keeps_ite1 h0 (keeps_freqMonitor _ h0))) (keeps_ite1
    h0 (keeps_freqMonitor _ h0))))) (keeps_ite (keeps_bumpSat _ _ (keeps_setRb _ _ _ (keeps_ite (keeps_setRb _ _ _
    (keeps_ite1 h0 (keeps_freqMonitor _ h0))) (keeps_ite1 h0 (keeps_freqMonitor _ h0))))) (keeps_ite (keeps_setRb _ _
    _ (keeps_ite1 h0 (keeps_freqMonitor _ h0))) (keeps_ite1 h0 (keeps_freqMonitor _ h0)))))) (keeps_ite (keeps_setRb _
    _ _ (keeps_ite (keeps_bumpSat _ _ (keeps_setRb _ _ _ (keeps_ite (keeps_setRb _ _ _ (keeps_ite1 h0
    (keeps_freqMonitor _ h0))) (keeps_ite1 h0 (keeps_freqMonitor _ h0))))) (keeps_ite (keeps_setRb _ _ _ (keeps_ite1
    h0 (keeps_freqMonitor _ h0))) (keeps_ite1 h0 (keeps_freqMonitor _ h0))))) (keeps_ite (keeps_bumpSat _ _
    (keeps_setRb _ _ _ (keeps_ite (keeps_setRb _ _ _ (keeps_ite1 h0 (keeps_freqMonitor _ h0))) (keeps_ite1 h0
    (keeps_freqMonitor _ h0))))) (keeps_ite (keeps_setRb _ _ _ (keeps_ite1 h0 (keeps_freqMonitor _ h0))) (keeps_ite1
    h0 (keeps_freqMonitor _ h0))))))))) (keeps_setRb _ _ _ (keeps_setRef _ _ (keeps_ite (keeps_setRb _ _ _ (keeps_ite
    (keeps_setRb _ _ _ (keeps_ite (keeps_bumpSat _ _ (keeps_setRb _ _ _ (keeps_ite (keeps_setRb _ _ _ (keeps_ite1 h0
    (keeps_freqMonitor _ h0))) (keeps_ite1 h0 (keeps_freqMonitor _ h0))))) (keeps_ite (keeps_setRb _ _ _ (keeps_ite1
    h0 (keeps_freqMonitor _ h0))) (keeps_ite1 h0 (keeps_freqMonitor _ h0))))) (keeps_ite (keeps_bumpSat _ _
    (keeps_setRb _ _ _ (keeps_ite (keeps_setRb _ _ _ (keeps_ite1 h0 (keeps_freqMonitor _ h0))) (keeps_ite1 h0
    (keeps_freqMonitor _ h0))))) (keeps_ite (keeps_setRb _ _ _ (keeps_ite1 h0 (keeps_freqMonitor _ h0))) (keeps_ite1
    h0 (keeps_freqMonitor _ h0)))))) (keeps_ite (keeps_setRb _ _ _ (keeps_ite (keeps_bumpSat _ _ (keeps_setRb _ _ _
    (keeps_ite (keeps_setRb _ _ _ (keeps_ite1 h0 (keeps_freqMonitor _ h0))) (keeps_ite1 h0 (keeps_freqMonitor _
    h0))))) (keeps_ite (keeps_setRb _ _ _ (keeps_ite1 h0 (keeps_freqMonitor _ h0))) (keeps_ite1 h0 (keeps_freqMonitor
    _ h0))))) (keeps_ite (keeps_bumpSat _ _ (keeps_setRb _ _ _ (keeps_ite (keeps_setRb _ _ _ (keeps_ite1 h0
    (keeps_freqMonitor _ h0))) (keeps_ite1 h0 (keeps_freqMonitor _ h0))))) (keeps_ite (keeps_setRb _ _ _ (keeps_ite1
    h0 (keeps_freqMonitor _ h0))) (keeps_ite1 h0 (keeps_freqMonitor _ h0))))))))) (keeps_ite (keeps_setRb _ _ _
    (keeps_setRef _ _ (keeps_ite (keeps_setRb _ _ _ (keeps_ite (keeps_setRb _ _ _ (keeps_ite (keeps_bumpSat _ _
    (keeps_setRb _ _ _ (keeps_ite (keeps_setRb _ _ _ (keeps_ite1 h0 (keeps_freqMonitor _ h0))) (keeps_ite1 h0
    (keeps_freqMonitor _ h0))))) (keeps_ite (keeps_setRb _ _ _ (keeps_ite1 h0 (keeps_freqMonitor _ h0))) (keeps_ite1
    h0 (keeps_freqMonitor _ h0))))) (keeps_ite (keeps_bumpSat _ _ (keeps_setRb _ _ _ (keeps_ite (keeps_setRb _ _ _
    (keeps_ite1 h0 (keeps_freqMonitor _ h0))) (keeps_ite1 h0 (keeps_freqMonitor _ h0))))) (keeps_ite (keeps_setRb _ _
    _ (keeps_ite1 h0 (keeps_freqMonitor _ h0))) (keeps_ite1 h0 (keeps_freqMonitor _ h0)))))) (keeps_ite (keeps_setRb _
    _ _ (keeps_ite (keeps_bumpSat _ _ (keeps_setRb _ _ _ (keeps_ite (keeps_setRb _ _ _ (keeps_ite1 h0
    (keeps_freqMonitor _ h0))) (keeps_ite1 h0 (keeps_freqMonitor _ h0))))) (keeps_ite (keeps_setRb _ _ _ (keeps_ite1
    h0 (keeps_freqMonitor _ h0))) (keeps_ite1 h0 (keeps_freqMonitor _ h0))))) (keeps_ite (keeps_bumpSat _ _
    (keeps_setRb _ _ _ (keeps_ite (keeps_setRb _ _ _ (keeps_ite1 h0 (keeps_freqMonitor _ h0))) (keeps_ite1 h0
    (keeps_freqMonitor _ h0))))) (keeps_ite (keeps_setRb _ _ _ (keeps_ite1 h0 (keeps_freqMonitor _ h0))) (keeps_ite1
    h0 (keeps_freqMonitor _ h0)))))))) (keeps_setRef _ _ (keeps_ite (keeps_setRb _ _ _ (keeps_ite (keeps_setRb _ _ _
    (keeps_ite (keeps_bumpSat _ _ (keeps_setRb _ _ _ (keeps_ite (keeps_setRb _ _ _ (keeps_ite1 h0 (keeps_freqMonitor _
    h0))) (keeps_ite1 h0 (keeps_freqMonitor _ h0))))) (keeps_ite (keeps_setRb _ _ _ (keeps_ite1 h0 (keeps_freqMonitor
    _ h0))) (keeps_ite1 h0 (keeps_freqMonitor _ h0))))) (keeps_ite (keeps_bumpSat _ _ (keeps_setRb _ _ _ (keeps_ite
    (keeps_setRb _ _ _ (keeps_ite1 h0 (keeps_freqMonitor _ h0))) (keeps_ite1 h0 (keeps_freqMonitor _ h0)))))
    (keeps_ite (keeps_setRb _ _ _ (keeps_ite1 h0 (keeps_freqMonitor _ h0))) (keeps_ite1 h0 (keeps_freqMonitor _
    h0)))))) (keeps_ite (keeps_setRb _ _ _ (keeps_ite (keeps_bumpSat _ _ (keeps_setRb _ _ _ (keeps_ite (keeps_setRb _
    _ _ (keeps_ite1 h0 (keeps_freqMonitor _ h0))) (keeps_ite1 h0 (keeps_freqMonitor _ h0))))) (keeps_ite (keeps_setRb
    _ _ _ (keeps_ite1 h0 (keeps_freqMonitor _ h0))) (keeps_ite1 h0 (keeps_freqMonitor _ h0))))) (keeps_ite
    (keeps_bumpSat _ _ (keeps_setRb _ _ _ (keeps_ite (keeps_setRb _ _ _ (keeps_ite1 h0 (keeps_freqMonitor _ h0)))
    (keeps_ite1 h0 (keeps_freqMonitor _ h0))))) (keeps_ite (keeps_setRb _ _ _ (keeps_ite1 h0 (keeps_freqMonitor _
    h0))) (keeps_ite1 h0 (keeps_freqMonitor _ h0))))))))))

theorem keeps_showHold {s0 : State} {s : State} (h0 : Keeps s0 s) :
    Keeps s0 (showHold s) := by
  unfold showHold
  exact (keeps_setReg _ _ (keeps_setReg _ _ h0))

theorem keeps_clearHistory {s0 : State} {s : State} (h0 : Keeps s0 s) :
    Keeps s0 (clearHistory s) := by
  unfold clearHistory
  exact (keeps_showHold (keeps_onDtm _ h0))

theorem keeps_holdSecond {s0 : State} {s : State} (h0 : Keeps s0 s) :
    Keeps s0 (holdSecond s) := by
  unfold holdSecond
  exact (keeps_ite h0 (keeps_showHold (keeps_onDtm _ (keeps_ite (keeps_onDtm _ h0) h0))))

theorem keeps_selectSource {s0 : State} (n : Nat) {s : State} (h0 : Keeps s0 s) :
    Keeps s0 (selectSource n s) := by
  unfold selectSource
  exact (keeps_ite (keeps_setSrvI _ (keeps_setGains (keeps_onDtm _ (keeps_cairnEvent _ _ (keeps_bumpSat _ _
    (keeps_setRb _ _ _ (keeps_setRf _ _ _ h0))))))) (keeps_setGains (keeps_onDtm _ (keeps_cairnEvent _ _
    (keeps_bumpSat _ _ (keeps_setRb _ _ _ (keeps_setRf _ _ _ h0)))))))

theorem keeps_enterHold {s0 : State} {s : State} (h0 : Keeps s0 s) :
    Keeps s0 (enterHold s) := by
  unfold enterHold
  exact (keeps_raise _ (keeps_ite (keeps_addendTake _ (keeps_setSrvI _ (keeps_onDtm _ (keeps_cairnEvent _ _
    (keeps_bumpSat _ _ (keeps_bumpSat _ _ (keeps_setRb _ _ _ h0))))))) (keeps_onDtm _ (keeps_cairnEvent _ _
    (keeps_bumpSat _ _ (keeps_bumpSat _ _ (keeps_setRb _ _ _ h0)))))))

theorem keeps_selector {s0 : State} {s : State} (h : Keeps s0 s) : Keeps s0 (selector s) := by
  have k := keeps_setRb rDTM_REF_STAT DTM_REF_STAT.FORCED false h
  have kt := keeps_setRb rDTM_REF_STAT DTM_REF_STAT.FORCED true h
  unfold selector
  generalize s.setRb rDTM_REF_STAT DTM_REF_STAT.FORCED false = t at k
  generalize s.setRb rDTM_REF_STAT DTM_REF_STAT.FORCED true = u at kt
  refine keeps_ite (keeps_ite (keeps_ite (keeps_setGains (keeps_setRf _ _ _ (keeps_enterHold kt))) (keeps_ite kt
    (keeps_setGains (keeps_cairnEvent _ _ (keeps_bumpSat _ _ (keeps_setRf _ _ _ kt))))))
    (keeps_ite kt (keeps_selectSource _ kt))) (keeps_ite ?_ (keeps_ite (keeps_enterHold k) (keeps_ite ?_ k)))
  · dsimp only
    split
    · exact keeps_ite (keeps_selectSource _ k) k
    · exact k
  · split
    · exact keeps_selectSource _ k
    · exact k

theorem keeps_pullBoundary {s0 : State} {s : State} (h0 : Keeps s0 s) :
    Keeps s0 (pullBoundary s) := by
  unfold pullBoundary
  exact (keeps_setReg _ _ (keeps_setRb _ _ _ (keeps_onDtm _ h0)))

theorem keeps_lockCount {s0 : State} (th : Int) {s : State} (h0 : Keeps s0 s) :
    Keeps s0 (lockCount th s).2 := by
  unfold lockCount
  exact (keeps_ite (keeps_setTimeValid _ (keeps_onDtm _ h0)) (keeps_ite (keeps_setTimeValid _ (keeps_onDtm _ h0))
    (keeps_onDtm _ h0)))

theorem keeps_servo {s0 : State} {s : State} (h : Keeps s0 s) : Keeps s0 (servo s).2 := by
  unfold servo
  extract_lets sel r th t u i y v
  have ku : Keeps s0 u := keeps_setReg _ _ (keeps_setRf _ _ _ h)
  have kv : Keeps s0 v := keeps_ite (keeps_addendTake _ ku) (keeps_addendTake _ (keeps_setSrvI _ ku))
  split
  · exact h
  · split
    · exact keeps_frame ku rfl rfl rfl rfl rfl rfl rfl rfl rfl
    · exact keeps_lockCount _ kv

theorem keeps_datumBoundary {s0 : State} {s : State} (h0 : Keeps s0 s) :
    Keeps s0 (datumBoundary s) := by
  unfold datumBoundary
  exact (keeps_ite (keeps_forEach (keeps_onDtm _ h0) (fun _ _ h1 => (keeps_setRef _ _ h1))) (keeps_showHold
    (keeps_forEach (keeps_onDtm _ (keeps_holdSecond (keeps_pullBoundary (keeps_ite (keeps_setTimeValid _ (keeps_ite
    (keeps_onDtm _ (keeps_selector (keeps_forEach (keeps_servo (keeps_refSample _ _ (keeps_ite (keeps_refSample _ _
    h0) h0))) (fun _ _ h2 => (keeps_monitor _ _ h2))))) (keeps_selector (keeps_forEach (keeps_servo (keeps_refSample _
    _ (keeps_ite (keeps_refSample _ _ h0) h0))) (fun _ _ h3 => (keeps_monitor _ _ h3)))))) (keeps_ite (keeps_onDtm _
    (keeps_selector (keeps_forEach (keeps_servo (keeps_refSample _ _ (keeps_ite (keeps_refSample _ _ h0) h0))) (fun _
    _ h4 => (keeps_monitor _ _ h4))))) (keeps_selector (keeps_forEach (keeps_servo (keeps_refSample _ _ (keeps_ite
    (keeps_refSample _ _ h0) h0))) (fun _ _ h5 => (keeps_monitor _ _ h5))))))))) (fun _ _ h6 => (keeps_setRef _ _
    h6)))))

theorem keeps_modeWrite {s0 : State} (servo : Bool) {s : State} (h0 : Keeps s0 s) :
    Keeps s0 (modeWrite servo s) := by
  unfold modeWrite
  exact (keeps_ite h0 (keeps_onDtm _ (keeps_setRb _ _ _ (keeps_setRf _ _ _ (keeps_setTimeValid _ (keeps_clearHistory
    (keeps_setSrvI _ (keeps_setRb _ _ _ h0))))))))

theorem keeps_ppsoEdge {s0 : State} {s : State} (h0 : Keeps s0 s) :
    Keeps s0 (ppsoEdge s) := by
  unfold ppsoEdge
  exact (keeps_ite (keeps_cairnEvent _ _ (keeps_onDtm _ h0)) (keeps_onDtm _ h0))

theorem keeps_frmoEdge {s0 : State} {s : State} (h0 : Keeps s0 s) :
    Keeps s0 (frmoEdge s) := by
  unfold frmoEdge
  exact (keeps_onDtm _ h0)

theorem keeps_ppsoWrite {s0 : State} (a : Nat) (v : Sys2Proof.W64) {s : State} (h0 : Keeps s0 s) :
    Keeps s0 (ppsoWrite a v s) := by
  unfold ppsoWrite
  exact (keeps_onDtm _ (keeps_setReg _ _ h0))

theorem keeps_frmoWrite {s0 : State} (a : Nat) (v : Sys2Proof.W64) {s : State} (h0 : Keeps s0 s) :
    Keeps s0 (frmoWrite a v s) := by
  unfold frmoWrite
  exact (keeps_onDtm _ (keeps_setReg _ _ h0))

theorem keeps_takeDivider {s0 : State} (n : Nat) {s : State} (h0 : Keeps s0 s) :
    Keeps s0 (takeDivider n s) := by
  unfold takeDivider
  exact (keeps_onDtm _ h0)

theorem keeps_synRefuse {s0 : State} (n : Nat) {s : State} (h0 : Keeps s0 s) :
    Keeps s0 (synRefuse n s) := by
  unfold synRefuse
  exact (keeps_raise _ (keeps_setRb _ _ _ h0))

theorem keeps_synCtlWrite {s0 : State} (n : Nat) (v : Sys2Proof.W64) {s : State} (h0 : Keeps s0 s) :
    Keeps s0 (synCtlWrite n v s) := by
  unfold synCtlWrite
  exact (keeps_ite (keeps_synRefuse _ h0) (keeps_takeDivider _ (keeps_onDtm _ (keeps_ite (keeps_setRb _ _ _
    (keeps_setRb _ _ _ (keeps_setReg _ _ h0))) (keeps_setReg _ _ h0)))))

theorem keeps_synFracWrite {s0 : State} (n : Nat) (frac : Nat) {s : State} (h0 : Keeps s0 s) :
    Keeps s0 (synFracWrite n frac s) := by
  unfold synFracWrite
  exact (keeps_ite (keeps_synRefuse _ h0) (keeps_takeDivider _ (keeps_setRf _ _ _ h0)))

theorem keeps_synDivWrite {s0 : State} (n : Nat) (v : Sys2Proof.W64) {s : State} (h0 : Keeps s0 s) :
    Keeps s0 (synDivWrite n v s) := by
  unfold synDivWrite
  exact (keeps_ite (keeps_synRefuse _ h0) (keeps_setReg _ _ h0))

theorem keeps_synLock {s0 : State} (n : Nat) {s : State} (h0 : Keeps s0 s) :
    Keeps s0 (synLock n s) := by
  unfold synLock
  exact (keeps_ite (keeps_setRb _ _ _ h0) h0)

theorem keeps_synUnlock {s0 : State} (n : Nat) {s : State} (h0 : Keeps s0 s) :
    Keeps s0 (synUnlock n s) := by
  unfold synUnlock
  exact (keeps_ite (keeps_raise _ (keeps_setRb _ _ _ (keeps_setRb _ _ _ (keeps_setRb _ _ _ h0)))) h0)

theorem keeps_synStep {s0 : State} (n : Nat) (v : BitVec 16) {s : State} (h0 : Keeps s0 s) :
    Keeps s0 (synStep n v s) := by
  unfold synStep
  exact (keeps_ite h0 (keeps_ite (keeps_setRf _ _ _ h0) (keeps_setRf _ _ _ (keeps_tick1 h0))))

theorem keeps_synBoundary {s0 : State} (n : Nat) {s : State} (h0 : Keeps s0 s) :
    Keeps s0 (synBoundary n s) := by
  unfold synBoundary
  exact (keeps_ite (keeps_ite (keeps_setRb _ _ _ (keeps_onDtm _ (keeps_setRf _ _ _ (keeps_tick1 (keeps_ite
    (keeps_setRf _ _ _ (keeps_takeDivider _ h0)) (keeps_takeDivider _ h0)))))) (keeps_ite (keeps_setRb _ _ _
    (keeps_onDtm _ (keeps_setRf _ _ _ (keeps_tick1 (keeps_ite (keeps_setRf _ _ _ (keeps_takeDivider _ h0))
    (keeps_takeDivider _ h0)))))) (keeps_onDtm _ (keeps_setRf _ _ _ (keeps_tick1 (keeps_ite (keeps_setRf _ _ _
    (keeps_takeDivider _ h0)) (keeps_takeDivider _ h0))))))) (keeps_ite (keeps_setRf _ _ _ (keeps_takeDivider _ h0))
    (keeps_takeDivider _ h0)))

theorem keeps_showPts {s0 : State} {s : State} (h0 : Keeps s0 s) :
    Keeps s0 (showPts s) := by
  unfold showPts
  exact (by
      try extract_lets
      split
      exact (keeps_setReg _ _ (keeps_setReg _ _ (keeps_setReg _ _ (keeps_setRf _ _ _ h0))))
      exact (keeps_setReg _ _ (keeps_setReg _ _ (keeps_setReg _ _ (keeps_setRf _ _ _ h0))))
    )

theorem keeps_ptsAdd {s0 : State} (e : Sys2Proof.Machine.PtsEntry) {s : State} (h0 : Keeps s0 s) :
    Keeps s0 (ptsAdd e s) := by
  unfold ptsAdd
  exact (keeps_ite (keeps_showPts (keeps_onDtm _ h0)) (keeps_raise _ (keeps_bumpSat _ _ h0)))

theorem keeps_ptsPop {s0 : State} {s : State} (h0 : Keeps s0 s) :
    Keeps s0 (ptsPop s) := by
  unfold ptsPop
  exact (keeps_showPts (keeps_onDtm _ h0))

end Sys2Proof.Machine
end

