-- ==== Sys2Proof/Laws/KeepsMonitor.lean ====
section
/-! SUPPORT. The operations of Machine/Monitor.lean keep what every command keeps. -/

namespace Sys2Proof.Machine

open Sys2Proof

theorem keeps_setUnit {s0 : State} (u : Nat) (p : Sys2Proof.Machine.UnitPhase) {s : State} (h0 : Keeps s0 s) :
    Keeps s0 (setUnit u p s) := by
  unfold setUnit
  exact (keeps_mk h0 rfl rfl rfl rfl rfl rfl rfl rfl rfl)

theorem keeps_reportSlack {s0 : State} (u : Nat) (v : Nat) {s : State} (h0 : Keeps s0 s) :
    Keeps s0 (reportSlack u v s) := by
  unfold reportSlack
  exact (keeps_ite (keeps_setRf _ _ _ (keeps_setRf _ _ _ h0)) (keeps_setRf _ _ _ h0))

theorem keeps_wtbGather {s0 : State} (u : Nat) (slack : Option Nat) {s : State} (h0 : Keeps s0 s) :
    Keeps s0 (wtbGather u slack s) := by
  unfold wtbGather
  exact (keeps_ite h0 (by
      try extract_lets
      split
      exact (keeps_ite (keeps_mk h0 rfl rfl rfl rfl rfl rfl rfl rfl rfl) h0)
      exact (keeps_mk h0 rfl rfl rfl rfl rfl rfl rfl rfl rfl)
    ))

theorem keeps_monitorDone {s0 : State} (u : Nat) (slack : Nat) {s : State} (h0 : Keeps s0 s) :
    Keeps s0 (monitorDone u slack s) := by
  unfold monitorDone
  exact (keeps_mk (keeps_wtbGather _ _ (keeps_reportSlack _ _ h0)) rfl rfl rfl rfl rfl rfl rfl rfl rfl)

theorem keeps_monitorMiss {s0 : State} (u : Nat) {s : State} (h0 : Keeps s0 s) :
    Keeps s0 (monitorMiss u s) := by
  unfold monitorMiss
  exact (keeps_mk (keeps_wtbGather _ _ (keeps_raiseD _ _ (keeps_reportSlack _ _ (keeps_bumpWrap _ (keeps_ite
    (keeps_setBit _ _ _ h0) (keeps_setBit _ _ _ h0)))))) rfl rfl rfl rfl rfl rfl rfl rfl rfl)

theorem keeps_minClear {s0 : State} (u : Nat) {s : State} (h0 : Keeps s0 s) :
    Keeps s0 (minClear u s) := by
  unfold minClear
  exact (keeps_setRf _ _ _ h0)

end Sys2Proof.Machine
end

