-- ==== Sys2Proof/Laws/KeepsEcho.lean ====
section
/-! SUPPORT. The operations of Machine/Echo.lean keep what every command keeps. -/

namespace Sys2Proof.Machine

open Sys2Proof

theorem keeps_setCle {s0 : State} (n : Nat) (x : Sys2Proof.Machine.CleSlot) {s : State} (h0 : Keeps s0 s) :
    Keeps s0 (setCle n x s) := by
  unfold setCle
  exact (keeps_mk h0 rfl rfl rfl rfl rfl rfl rfl rfl rfl)

theorem keeps_cleSat {s0 : State} (n : Nat) (overrun : Bool) {s : State} (h0 : Keeps s0 s) :
    Keeps s0 (cleSat n overrun s) := by
  unfold cleSat
  exact (keeps_ite (keeps_setRb _ _ _ h0) h0)

theorem keeps_onEcho {s0 : State} (f : Sys2Proof.Machine.Echo → Sys2Proof.Machine.Echo) {s : State} (h0 : Keeps s0 s)
    :
    Keeps s0 (onEcho f s) := by
  unfold onEcho
  exact (keeps_mk h0 rfl rfl rfl rfl rfl rfl rfl rfl rfl)

theorem keeps_echoTrigger {s0 : State} {s : State} (h0 : Keeps s0 s) :
    Keeps s0 (echoTrigger s) := by
  unfold echoTrigger
  exact (keeps_ite (keeps_bumpSat _ _ h0) (keeps_setRf _ _ _ (keeps_setRb _ _ _ (keeps_onEcho _ h0))))

theorem keeps_echoEnd {s0 : State} {s : State} (h0 : Keeps s0 s) :
    Keeps s0 (echoEnd s) := by
  unfold echoEnd
  exact (keeps_ite (keeps_setReg _ _ (keeps_setRb _ _ _ (keeps_setRb _ _ _ (keeps_setCle _ _ h0)))) h0)

theorem keeps_echoRelease {s0 : State} (n : Nat) {s : State} (h0 : Keeps s0 s) :
    Keeps s0 (echoRelease n s) := by
  unfold echoRelease
  exact (keeps_ite (keeps_setReg _ _ (keeps_setCle _ _ (keeps_onEcho _ (keeps_tick1 h0)))) (keeps_setCle _ _ h0))

theorem keeps_echoWrite {s0 : State} (v : Sys2Proof.W32) {s : State} (h0 : Keeps s0 s) :
    Keeps s0 (echoWrite v s) := by
  unfold echoWrite
  exact (keeps_ite (keeps_echoEnd (keeps_setRf _ _ _ (keeps_onEcho _ h0))) (keeps_setRf _ _ _ (keeps_onEcho _ h0)))

theorem keeps_echoRunOver {s0 : State} (n : Nat) (published : Bool) {s : State} (h0 : Keeps s0 s) :
    Keeps s0 (echoRunOver n published s) := by
  unfold echoRunOver
  exact (keeps_ite (keeps_echoEnd (keeps_setCle _ _ (keeps_ite (keeps_ite (by
      try extract_lets
      split
      exact (keeps_echoWrite _ h0)
      exact (keeps_echoWrite _ (keeps_tick1 h0))
    ) (keeps_echoWrite _ (keeps_bumpSat _ _ h0))) h0))) (keeps_setCle _ _ (keeps_ite (keeps_ite (by
      try extract_lets
      split
      exact (keeps_echoWrite _ h0)
      exact (keeps_echoWrite _ (keeps_tick1 h0))
    ) (keeps_echoWrite _ (keeps_bumpSat _ _ h0))) h0)))

theorem keeps_echoCtlWrite {s0 : State} (go : Bool) (abort : Bool) {s : State} (h0 : Keeps s0 s) :
    Keeps s0 (echoCtlWrite go abort s) := by
  unfold echoCtlWrite
  exact (keeps_ite (keeps_echoTrigger (keeps_ite (keeps_echoEnd h0) h0)) (keeps_ite (keeps_echoEnd h0) h0))

end Sys2Proof.Machine
end

