-- ==== Sys2Proof/Laws/KeepsDomains.lean ====
section
/-! SUPPORT. The operations of Machine/Domains.lean keep what every command keeps. -/

namespace Sys2Proof.Machine

open Sys2Proof

theorem keeps_setDomState {s0 : State} (n : Nat) (st : Nat) {s : State} (h0 : Keeps s0 s) :
    Keeps s0 (setDomState n st s) := by
  unfold setDomState
  exact (keeps_setRf _ _ _ h0)

theorem keeps_domWake {s0 : State} (n : Nat) {s : State} (h0 : Keeps s0 s) :
    Keeps s0 (domWake n s) := by
  unfold domWake
  exact (keeps_ite (keeps_setDom _ _ h0) (keeps_ite (keeps_switchAt _ (keeps_setDomState _ _ (keeps_setDom _ _ h0)))
    h0))

theorem keeps_domSleep {s0 : State} (n : Nat) (st : Nat) {s : State} (h0 : Keeps s0 s) :
    Keeps s0 (domSleep n st s) := by
  unfold domSleep
  exact (keeps_setDom _ _ (keeps_setDomState _ _ h0))

theorem keeps_leadWakes {s0 : State} (n : Nat) {s : State} (h0 : Keeps s0 s) :
    Keeps s0 (leadWakes n s) := by
  unfold leadWakes
  exact (keeps_forEach h0 (fun _ _ h1 => (keeps_domWake _ h1)))

theorem keeps_leadWake {s0 : State} (n : Nat) {s : State} (h0 : Keeps s0 s) :
    Keeps s0 (leadWake n s) := by
  unfold leadWake
  exact (keeps_ite (keeps_leadWakes _ h0) h0)

theorem keeps_autoSleep {s0 : State} (u : Nat) {s : State} (h0 : Keeps s0 s) :
    Keeps s0 (autoSleep u s) := by
  unfold autoSleep
  exact (keeps_ite h0 (keeps_forEach h0 (fun _ _ h1 => (keeps_ite (keeps_domSleep _ _ h1) h1))))

end Sys2Proof.Machine
end

