-- ==== Sys2Proof/Laws/KeepsPwm.lean ====
section
/-! SUPPORT. The operations of Machine/Pwm.lean keep what every command keeps. -/

namespace Sys2Proof.Machine

open Sys2Proof

theorem keeps_reloadOutput {s0 : State} (g : Nat) (p : Nat) (n : Nat) {s : State} (h0 : Keeps s0 s) :
    Keeps s0 (reloadOutput g p n s) := by
  unfold reloadOutput
  exact (keeps_ite (keeps_setReg _ _ h0) (keeps_setBit _ _ _ (keeps_setReg _ _ h0)))

theorem keeps_pwmReload {s0 : State} (g : Nat) {s : State} (h0 : Keeps s0 s) :
    Keeps s0 (pwmReload g s) := by
  unfold pwmReload
  exact (keeps_ite h0 (by
      try extract_lets
      split
      exact h0
      exact (keeps_adcEvent _ (keeps_ite (keeps_mk (keeps_ite (keeps_setRb _ _ _ (keeps_setRb _ _ _
        (keeps_releaseAtReload _ h0))) (keeps_setRb _ _ _ (keeps_releaseAtReload _ h0))) rfl rfl rfl rfl rfl rfl rfl
        rfl rfl) (keeps_showLedPower (keeps_forEach (keeps_mk (keeps_ite (keeps_setRb _ _ _ (keeps_setRb _ _ _
        (keeps_releaseAtReload _ h0))) (keeps_setRb _ _ _ (keeps_releaseAtReload _ h0))) rfl rfl rfl rfl rfl rfl rfl
        rfl rfl) (fun _ _ h1 => (keeps_reloadOutput _ _ _ h1))))))
    ))

theorem keeps_pwmCentre {s0 : State} (g : Nat) {s : State} (h0 : Keeps s0 s) :
    Keeps s0 (pwmCentre g s) := by
  unfold pwmCentre
  exact (by
      try extract_lets
      split
      exact h0
      exact (keeps_ite (keeps_adcEvent _ (keeps_mk h0 rfl rfl rfl rfl rfl rfl rfl rfl rfl)) h0)
    )

theorem keeps_pwmTick {s0 : State} (g : Nat) {s : State} (h0 : Keeps s0 s) :
    Keeps s0 (pwmTick g s) := by
  unfold pwmTick
  exact (keeps_pwmReload _ (keeps_pwmCentre _ h0))

theorem keeps_pwmWrite {s0 : State} (n : Nat) (v : Sys2Proof.W64) {s : State} (h0 : Keeps s0 s) :
    Keeps s0 (pwmWrite n v s) := by
  unfold pwmWrite
  exact (keeps_ite (keeps_bumpSat _ _ (keeps_setRb _ _ _ (keeps_setReg _ _ h0))) (keeps_setReg _ _ h0))

theorem keeps_pwmDuty {s0 : State} (n : Nat) (duty : Sys2Proof.W32) {s : State} (h0 : Keeps s0 s) :
    Keeps s0 (pwmDuty n duty s) := by
  unfold pwmDuty
  exact (keeps_pwmWrite _ _ h0)

theorem keeps_pwmEnableWrite {s0 : State} (g : Nat) (on : Bool) {s : State} (h0 : Keeps s0 s) :
    Keeps s0 (pwmEnableWrite g on s) := by
  unfold pwmEnableWrite
  exact (keeps_ite (keeps_showLedPower (keeps_forEach (keeps_mk (keeps_setRb _ _ _ (keeps_setRb _ _ _ h0)) rfl rfl rfl
    rfl rfl rfl rfl rfl rfl) (fun _ _ h1 => (keeps_setReg _ _ h1)))) (keeps_ite (keeps_mk (keeps_setRb _ _ _ h0) rfl
    rfl rfl rfl rfl rfl rfl rfl rfl) (keeps_setRb _ _ _ h0)))

theorem keeps_pwmHoldWrite {s0 : State} (g : Nat) (on : Bool) {s : State} (h0 : Keeps s0 s) :
    Keeps s0 (pwmHoldWrite g on s) := by
  unfold pwmHoldWrite
  exact (keeps_setRb _ _ _ h0)

end Sys2Proof.Machine
end

