-- ==== Sys2Proof/Laws/KeepsCle.lean ====
section
/-! SUPPORT. The operations of Machine/Cle.lean keep what every command keeps. -/

namespace Sys2Proof.Machine

open Sys2Proof

theorem keeps_schedX {s0 : State} (n : Nat) {s : State} (h0 : Keeps s0 s) :
    Keeps s0 (schedX n s).2 := by
  unfold schedX
  exact (keeps_ite1 h0 (keeps_tick1 h0))

theorem keeps_setRegion {s0 : State} (n : Nat) (r : Nat) {s : State} (h0 : Keeps s0 s) :
    Keeps s0 (setRegion n r s) := by
  unfold setRegion
  exact (keeps_setRf _ _ _ h0)

theorem keeps_cleConfig {s0 : State} (n : Nat) {s : State} (h0 : Keeps s0 s) :
    Keeps s0 (cleConfig n s) := by
  unfold cleConfig
  exact (keeps_ite h0 (keeps_ite (keeps_raise _ (keeps_setRb _ _ _ (keeps_setCle _ _ h0))) (keeps_ite (keeps_setRegion
    _ _ (keeps_schedX _ (keeps_setCle _ _ (keeps_setCle _ _ h0)))) (keeps_setRegion _ _ (keeps_setCle _ _
    (keeps_setCle _ _ h0))))))

theorem keeps_cleDirty {s0 : State} (n : Nat) {s : State} (h0 : Keeps s0 s) :
    Keeps s0 (cleDirty n s) := by
  unfold cleDirty
  exact (keeps_setCle _ _ h0)

theorem keeps_cleExchange {s0 : State} (release : Bool) (n : Nat) {s : State} (h0 : Keeps s0 s) :
    Keeps s0 (cleExchange release n s) := by
  unfold cleExchange
  exact (keeps_ite (keeps_setBit _ _ _ (keeps_ite (keeps_setBit _ _ _ (keeps_setRb _ _ _ (keeps_setCle _ _ h0)))
    (keeps_setRb _ _ _ (keeps_setCle _ _ h0)))) (keeps_ite (keeps_setBit _ _ _ (keeps_setRb _ _ _ (keeps_setCle _ _
    h0))) (keeps_setRb _ _ _ (keeps_setCle _ _ h0))))

theorem keeps_cleActChanged {s0 : State} {s : State} (h0 : Keeps s0 s) :
    Keeps s0 (cleActChanged s) := by
  unfold cleActChanged
  exact (keeps_forEach h0 (fun _ _ h1 => (keeps_setCle _ _ h1)))

theorem keeps_cleRebase {s0 : State} (n : Nat) (kOld : Int × Int) {s : State} (h0 : Keeps s0 s) :
    Keeps s0 (cleRebase n kOld s) := by
  unfold cleRebase
  exact (keeps_bumpSat _ _ (keeps_setReg _ _ (keeps_cleSat _ _ (keeps_setCle _ _ h0))))

theorem keeps_cleRelease {s0 : State} (n : Nat) (r0 : Nat) (second : Bool) (swap : Bool) {s : State} (h0 : Keeps s0 s)
    :
    Keeps s0 (cleRelease n r0 second swap s) := by
  unfold cleRelease
  exact (keeps_mk (keeps_echoRelease _ (keeps_ite (keeps_cleRebase _ _ (keeps_ite (keeps_setRegion _ _ (keeps_schedX _
    (keeps_setCle _ _ (keeps_ite (keeps_cleExchange _ _ h0) h0)))) (keeps_setCle _ _ (keeps_ite (keeps_cleExchange _ _
    h0) h0)))) (keeps_ite (keeps_setRegion _ _ (keeps_schedX _ (keeps_setCle _ _ (keeps_ite (keeps_cleExchange _ _ h0)
    h0)))) (keeps_setCle _ _ (keeps_ite (keeps_cleExchange _ _ h0) h0))))) rfl rfl rfl rfl rfl rfl rfl rfl rfl)

theorem keeps_cleNext {s0 : State} {s : State} (h0 : Keeps s0 s) :
    Keeps s0 (cleNext s) := by
  unfold cleNext
  exact (by
      try extract_lets
      split
      exact h0
      exact (by
          try extract_lets
          split
          exact h0
          exact (keeps_mk h0 rfl rfl rfl rfl rfl rfl rfl rfl rfl)
          exact (keeps_mk h0 rfl rfl rfl rfl rfl rfl rfl rfl rfl)
          exact (keeps_ite (keeps_mk h0 rfl rfl rfl rfl rfl rfl rfl rfl rfl) (keeps_mk h0 rfl rfl rfl rfl rfl rfl rfl
            rfl rfl))
        )
    )

theorem keeps_cleMid {s0 : State} (k : Nat) {s : State} (h0 : Keeps s0 s) :
    Keeps s0 (cleMid k s) := by
  unfold cleMid
  exact (keeps_ite h0 (by
      try extract_lets
      split
      exact (keeps_mk h0 rfl rfl rfl rfl rfl rfl rfl rfl rfl)
      exact (keeps_mk h0 rfl rfl rfl rfl rfl rfl rfl rfl rfl)
    ))

theorem keeps_cleFirmware {s0 : State} (n : Nat) {s : State} (h0 : Keeps s0 s) :
    Keeps s0 (cleFirmware n s) := by
  unfold cleFirmware
  exact (keeps_setCle _ _ h0)

theorem keeps_cleLeave {s0 : State} (n : Nat) {s : State} (h0 : Keeps s0 s) :
    Keeps s0 (cleLeave n s) := by
  unfold cleLeave
  exact (keeps_cleNext (keeps_mk (keeps_cleFirmware _ (keeps_setCle _ _ h0)) rfl rfl rfl rfl rfl rfl rfl rfl rfl))

theorem keeps_publishPort {s0 : State} (n : Nat) (p : Nat × Sys2Proof.W32) {s : State} (h0 : Keeps s0 s) :
    Keeps s0 (publishPort n p s) := by
  unfold publishPort
  exact (keeps_ite (keeps_setRf _ _ _ h0) (keeps_ite (keeps_setCle _ _ h0) (keeps_pwmDuty _ _ (keeps_setReg _ _ h0))))

theorem keeps_clePublish {s0 : State} (n : Nat) {s : State} (h0 : Keeps s0 s) :
    Keeps s0 (clePublish n s) := by
  unfold clePublish
  exact (keeps_echoRunOver _ _ (keeps_forEach (keeps_setCle _ _ h0) (fun _ _ h1 => (keeps_publishPort _ _ h1))))

theorem keeps_cleFinish {s0 : State} (n : Nat) {s : State} (h0 : Keeps s0 s) :
    Keeps s0 (cleFinish n s) := by
  unfold cleFinish
  exact (by
      try extract_lets
      split
      exact (keeps_autoSleep _ (keeps_monitorDone _ _ (keeps_cleLeave _ (keeps_clePublish _ (keeps_setUnit _ _ h0)))))
      exact (keeps_autoSleep _ (keeps_cleLeave _ (keeps_echoRunOver _ _ (keeps_monitorMiss _ (keeps_setUnit _ _
        h0)))))
    )

theorem keeps_cleMiss {s0 : State} (n : Nat) {s : State} (h0 : Keeps s0 s) :
    Keeps s0 (cleMiss n s) := by
  unfold cleMiss
  exact (keeps_cleLeave _ (keeps_echoRunOver _ _ h0))

theorem keeps_cleIllegal {s0 : State} (n : Nat) (cause : Nat) {s : State} (h0 : Keeps s0 s) :
    Keeps s0 (cleIllegal n cause s) := by
  unfold cleIllegal
  exact (keeps_cleLeave _ (keeps_raise _ (keeps_setRf _ _ _ (keeps_setRf _ _ _ (keeps_setRb _ _ _ h0)))))

theorem keeps_putVs {s0 : State} (n : Nat) (rs : List (Nat × Int)) {s : State} (h0 : Keeps s0 s) :
    Keeps s0 (putVs n rs s) := by
  unfold putVs
  exact (keeps_forEach h0 (fun _ _ h1 => (keeps_cleSat _ _ (keeps_setCle _ _ h1))))

theorem keeps_putCleAcc {s0 : State} (n : Nat) (r : Int) {s : State} (h0 : Keeps s0 s) :
    Keeps s0 (putCleAcc n r s) := by
  unfold putCleAcc
  exact (keeps_cleSat _ _ (keeps_setCle _ _ h0))

theorem keeps_putState {s0 : State} (n : Nat) (i : Nat) (r : Int) {s : State} (h0 : Keeps s0 s) :
    Keeps s0 (putState n i r s) := by
  unfold putState
  exact (keeps_cleSat _ _ (keeps_setCle _ _ h0))

theorem keeps_lawBq {s0 : State} (n : Nat) (f : BitVec 26) {s : State} (h0 : Keeps s0 s) :
    Keeps s0 (lawBq n f s) := by
  unfold lawBq
  exact (keeps_cleSat _ _ (keeps_putState _ _ _ (keeps_putState _ _ _ (keeps_putVs _ _ h0))))

theorem keeps_lawSincos {s0 : State} (n : Nat) (f : BitVec 26) {s : State} (h0 : Keeps s0 s) :
    Keeps s0 (lawSincos n f s) := by
  unfold lawSincos
  exact (keeps_putVs _ _ (keeps_tick1 h0))

theorem keeps_lawAtan2 {s0 : State} (n : Nat) (f : BitVec 26) {s : State} (h0 : Keeps s0 s) :
    Keeps s0 (lawAtan2 n f s) := by
  unfold lawAtan2
  exact (keeps_ite (keeps_putVs _ _ h0) (keeps_putVs _ _ (keeps_tick1 h0)))

theorem keeps_lawSvm {s0 : State} (n : Nat) (f : BitVec 26) {s : State} (h0 : Keeps s0 s) :
    Keeps s0 (lawSvm n f s) := by
  unfold lawSvm
  exact (keeps_cleSat _ _ (keeps_putVs _ _ (keeps_ite1 (keeps_tick1 h0) h0)))

theorem keeps_lawEffect {s0 : State} (op : Nat) (n : Nat) (f : BitVec 26) {s : State} (h0 : Keeps s0 s) :
    Keeps s0 (lawEffect op n f s) := by
  unfold lawEffect
  exact (by
      try extract_lets
      split
      exact (keeps_putVs _ _ h0)
      exact (keeps_putVs _ _ h0)
      exact (keeps_putVs _ _ h0)
      exact (keeps_putVs _ _ h0)
      exact (keeps_putVs _ _ h0)
      exact (keeps_putVs _ _ h0)
      exact (keeps_putVs _ _ h0)
      exact (keeps_putCleAcc _ _ h0)
      exact (keeps_putCleAcc _ _ h0)
      exact (keeps_putCleAcc _ _ h0)
      exact (keeps_putCleAcc _ _ h0)
      exact (keeps_putCleAcc _ _ h0)
      exact (keeps_putCleAcc _ _ h0)
      exact (keeps_putVs _ _ h0)
      exact (keeps_putCleAcc _ _ h0)
      exact (keeps_putVs _ _ h0)
      exact (keeps_putVs _ _ h0)
      exact (keeps_setCle _ _ h0)
      exact (keeps_putVs _ _ h0)
      exact (keeps_putState _ _ _ h0)
      exact (keeps_lawBq _ _ h0)
      exact (keeps_lawSincos _ _ h0)
      exact (keeps_lawAtan2 _ _ h0)
      exact (keeps_putVs _ _ h0)
      exact (keeps_putVs _ _ h0)
      exact (keeps_putVs _ _ h0)
      exact (keeps_lawSvm _ _ h0)
      exact (by
          try extract_lets
          split
          exact (keeps_putVs _ _ h0)
          exact (keeps_putVs _ _ h0)
        )
      exact (keeps_ite (keeps_setCle _ _ h0) h0)
      exact h0
    )

theorem keeps_lawIssue {s0 : State} (op : Nat) (f : BitVec 26) {s : State} (h0 : Keeps s0 s) :
    Keeps s0 (lawIssue op f s) := by
  unfold lawIssue
  exact (by
      try extract_lets
      split
      exact h0
      exact (keeps_ite h0 (keeps_ite (keeps_cleIllegal _ _ h0) (keeps_ite (keeps_cleFinish _ h0) (keeps_ite
        (keeps_cleFinish _ (keeps_lawEffect _ _ _ h0)) (keeps_setCle _ _ (keeps_lawEffect _ _ _ h0))))))
    )

theorem keeps_cleStateWrite {s0 : State} (n : Nat) (j : Nat) (v : Sys2Proof.W32) {s : State} (h0 : Keeps s0 s) :
    Keeps s0 (cleStateWrite n j v s) := by
  unfold cleStateWrite
  exact (keeps_ite (keeps_setCle _ _ h0) (keeps_setCle _ _ h0))

theorem keeps_cleWrite {s0 : State} (off : Nat) (v : Sys2Proof.W32) {s : State} (h0 : Keeps s0 s) :
    Keeps s0 (cleWrite off v s) := by
  unfold cleWrite
  exact (keeps_ite (keeps_mk h0 rfl rfl rfl rfl rfl rfl rfl rfl rfl) (keeps_cleStateWrite _ _ _ h0))

theorem keeps_cleAccess {s0 : State} (off : Nat) (bytes : Nat) (write : Bool) (d : Sys2Proof.W64) {s : State} (h0 :
    Keeps s0 s) :
    Keeps s0 (cleAccess off bytes write d s).2 := by
  unfold cleAccess
  exact (keeps_ite1 h0 (keeps_ite1 h0 (keeps_ite1 h0 (keeps_ite1 h0 (keeps_ite1 h0 (keeps_ite1 (keeps_ite
    (keeps_cleWrite _ _ (keeps_cleWrite _ _ h0)) (keeps_cleWrite _ _ h0)) h0))))))

end Sys2Proof.Machine
end

