-- ==== Sys2Proof/Laws/KeepsLantern.lean ====
section
/-! SUPPORT. The operations of Machine/Lantern.lean keep what every command keeps. -/

namespace Sys2Proof.Machine

open Sys2Proof

theorem keeps_setLtn {s0 : State} (n : Nat) (x : Sys2Proof.Machine.Ltn) {s : State} (h0 : Keeps s0 s) :
    Keeps s0 (setLtn n x s) := by
  unfold setLtn
  exact (keeps_mk h0 rfl rfl rfl rfl rfl rfl rfl rfl rfl)

theorem keeps_ltnFrameStart {s0 : State} (n : Nat) {s : State} (h0 : Keeps s0 s) :
    Keeps s0 (ltnFrameStart n s) := by
  unfold ltnFrameStart
  exact (keeps_ite h0 (keeps_ite (keeps_bumpSat _ _ h0) (keeps_setReg _ _ (keeps_setLtn _ _ (keeps_ite (keeps_setRb _
    _ _ h0) h0)))))

theorem keeps_lightRelease {s0 : State} {s : State} (h0 : Keeps s0 s) :
    Keeps s0 (lightRelease s) := by
  unfold lightRelease
  exact (keeps_forEach (keeps_mk h0 rfl rfl rfl rfl rfl rfl rfl rfl rfl) (fun _ _ h1 => (keeps_ltnFrameStart _ h1)))

theorem keeps_lightComplete {s0 : State} {s : State} (h0 : Keeps s0 s) :
    Keeps s0 (lightComplete s) := by
  unfold lightComplete
  exact (keeps_forEach (keeps_forEach h0 (fun _ _ h1 => (by
      try extract_lets
      split
      exact (keeps_ite (keeps_setLtn _ _ h1) h1)
      exact h1
    ))) (fun _ _ h2 => (keeps_ite (keeps_pwmDuty _ _ h2) h2)))

theorem keeps_ltnColours {s0 : State} (n i left : Nat) {s : State} (h : Keeps s0 s) :
    Keeps s0 (ltnColours n i left s).2.2 := by
  induction left generalizing i s with
  | zero => exact h
  | succ left ih => exact keeps_ite2 (ih _ h) (ih _ (keeps_matrixRead _ _ h))

theorem keeps_ltnDataStart {s0 : State} (n : Nat) (first : Nat) (lack : Nat) {s : State} (h0 : Keeps s0 s) :
    Keeps s0 (ltnDataStart n first lack s) := by
  unfold ltnDataStart
  exact (keeps_ite h0 (keeps_setRb _ _ _ (keeps_setLtn _ _ (keeps_ite (keeps_bumpSat _ _ (keeps_ite (keeps_raise _
    (keeps_bumpSat _ _ (keeps_ite (keeps_setRb _ _ _ (keeps_ltnColours _ _ _ h0)) (keeps_ltnColours _ _ _ h0))))
    (keeps_ite (keeps_setRb _ _ _ (keeps_ltnColours _ _ _ h0)) (keeps_ltnColours _ _ _ h0)))) (keeps_ite (keeps_raise
    _ (keeps_bumpSat _ _ (keeps_ite (keeps_setRb _ _ _ (keeps_ltnColours _ _ _ h0)) (keeps_ltnColours _ _ _ h0))))
    (keeps_ite (keeps_setRb _ _ _ (keeps_ltnColours _ _ _ h0)) (keeps_ltnColours _ _ _ h0)))))))

theorem keeps_ltnTake {s0 : State} (n : Nat) {s : State} (h0 : Keeps s0 s) :
    Keeps s0 (ltnTake n s) := by
  unfold ltnTake
  exact (by
      try extract_lets
      split
      exact h0
      exact (keeps_ite (keeps_setLtn _ _ (keeps_setRb _ _ _ h0)) (keeps_raise _ (keeps_setRb _ _ _ (keeps_setLtn _ _
        (keeps_setRb _ _ _ h0)))))
    )

theorem keeps_ltnBlankStart {s0 : State} (n : Nat) {s : State} (h0 : Keeps s0 s) :
    Keeps s0 (ltnBlankStart n s) := by
  unfold ltnBlankStart
  exact (keeps_ite h0 (keeps_ite (keeps_setRb _ _ _ (keeps_ltnTake _ (keeps_setLtn _ _ h0))) (keeps_setLtn _ _
    (keeps_ltnTake _ (keeps_setLtn _ _ h0)))))

theorem keeps_ltnCommit {s0 : State} (n : Nat) (base : Nat) (npixm1 : Nat) {s : State} (h0 : Keeps s0 s) :
    Keeps s0 (ltnCommit n base npixm1 s) := by
  unfold ltnCommit
  exact (keeps_ite (keeps_setRb _ _ _ (keeps_setRb _ _ _ (keeps_setLtn _ _ (keeps_setRf _ _ _ (keeps_setRf _ _ _
    h0))))) (keeps_setRb _ _ _ (keeps_setLtn _ _ (keeps_setRf _ _ _ (keeps_setRf _ _ _ h0)))))

theorem keeps_ltnEnableWrite {s0 : State} (n : Nat) (on : Bool) {s : State} (h0 : Keeps s0 s) :
    Keeps s0 (ltnEnableWrite n on s) := by
  unfold ltnEnableWrite
  exact (keeps_ite (keeps_ite (keeps_raise _ (keeps_setRb _ _ _ (keeps_setRb _ _ _ h0))) (keeps_ite (keeps_setLtn _ _
    (keeps_ltnTake _ (keeps_setRb _ _ _ h0))) (keeps_setRb _ _ _ (keeps_setLtn _ _ (keeps_ltnTake _ (keeps_setRb _ _ _
    h0)))))) (keeps_ite (keeps_setRb _ _ _ (keeps_setLtn _ _ (keeps_setRb _ _ _ h0))) (keeps_setRb _ _ _ h0)))

end Sys2Proof.Machine
end

