-- ==== Sys2Proof/Laws/KeepsPower.lean ====
section
/-! SUPPORT. The operations of Machine/Power.lean keep what every command keeps. -/

namespace Sys2Proof.Machine

open Sys2Proof

theorem keeps_loseChamber {s0 : State} (n : Nat) (k : Nat) {s : State} (h0 : Keeps s0 s) :
    Keeps s0 (loseChamber n k s) := by
  unfold loseChamber
  exact (by
      try extract_lets
      split
      exact (keeps_setChm _ _ h0)
      exact (keeps_setChm _ _ h0)
      exact (keeps_setChm _ _ h0)
      exact (keeps_setChm _ _ h0)
      exact h0
    )

theorem keeps_loseEngine {s0 : State} {s : State} (h0 : Keeps s0 s) :
    Keeps s0 (loseEngine s) := by
  unfold loseEngine
  exact (by
      try extract_lets
      split
      exact h0
      exact (keeps_mk (keeps_tick1 (keeps_setRf _ _ _ (keeps_setRb _ _ _ h0))) rfl rfl rfl rfl rfl rfl rfl rfl rfl)
    )

theorem keeps_losePort {s0 : State} (n : Nat) {s : State} (h0 : Keeps s0 s) :
    Keeps s0 (losePort n s) := by
  unfold losePort
  exact (keeps_mk h0 rfl rfl rfl rfl rfl rfl rfl rfl rfl)

theorem keeps_loseLaw {s0 : State} {s : State} (h0 : Keeps s0 s) :
    Keeps s0 (loseLaw s) := by
  unfold loseLaw
  exact (keeps_forEach (keeps_mk h0 rfl rfl rfl rfl rfl rfl rfl rfl rfl) (fun _ _ h1 => (keeps_loseRun _ h1)))

theorem keeps_losePwm {s0 : State} (g : Nat) {s : State} (h0 : Keeps s0 s) :
    Keeps s0 (losePwm g s) := by
  unfold losePwm
  exact (keeps_setRb _ _ _ (keeps_mk h0 rfl rfl rfl rfl rfl rfl rfl rfl rfl))

theorem keeps_loseLtn {s0 : State} (n : Nat) {s : State} (h0 : Keeps s0 s) :
    Keeps s0 (loseLtn n s) := by
  unfold loseLtn
  exact (keeps_setLtn _ _ h0)

theorem keeps_loseDomain {s0 : State} (n : Nat) {s : State} (h : Keeps s0 s) : Keeps s0 (loseDomain n s) := by
  unfold loseDomain
  refine keeps_ite (keeps_loseChamber _ _ h) (keeps_ite (keeps_cavWords h fun m => wf_tclear _ _ m) (keeps_ite ?_
    (keeps_ite (keeps_losePort _ h) (keeps_ite ?_ (keeps_ite (keeps_clearHistory (keeps_onDtm _ h))
    (keeps_ite (keeps_showPts (keeps_onDtm _ h))
    (keeps_ite (keeps_forEach (keeps_onDtm _ h) fun _ _ k => keeps_setRf _ _ _ k)
    (keeps_ite (keeps_showCairn (keeps_setCrn _ h)) (keeps_ite (keeps_loseLaw h) (keeps_ite ?_
    (keeps_ite (keeps_setAdc _ _ h) (keeps_ite (keeps_forEach h fun _ _ k => keeps_losePwm _ k)
    (keeps_ite (keeps_forEach h fun _ _ k => keeps_losePwm _ k) (keeps_ite (keeps_forEach h fun _ _ k => keeps_loseLtn _ k)
    (keeps_ite (keeps_forEach h fun _ _ k => keeps_loseLtn _ k) (keeps_ite ?_
    (keeps_ite (keeps_loseEngine (keeps_resetRegs _ _ h)) (keeps_ite (keeps_cartsOff ?_) h))))))))))))))))))
  · exact keeps_frame h rfl rfl rfl rfl rfl rfl rfl rfl rfl
  · exact keeps_frame h rfl rfl rfl rfl rfl rfl rfl rfl rfl
  · exact keeps_onEcho _ (keeps_frame h rfl rfl rfl rfl rfl rfl rfl rfl rfl)
  · exact keeps_frame h rfl rfl rfl rfl rfl rfl rfl rfl rfl
  · exact keeps_frame h rfl rfl rfl rfl rfl rfl rfl rfl rfl

theorem keeps_applyMode {s0 : State} (n : Nat) (m : Nat) {s : State} (h0 : Keeps s0 s) :
    Keeps s0 (applyMode n m s) := by
  unfold applyMode
  exact (keeps_ite (keeps_domWake _ (keeps_setDom _ _ h0)) (keeps_ite (keeps_ite (keeps_domWake _ (keeps_setDom _ _
    h0)) (keeps_setDom _ _ h0)) (keeps_ite (keeps_ite (keeps_setDom _ _ h0) (keeps_domSleep _ _ (keeps_setDom _ _
    h0))) (keeps_ite (keeps_setDom _ _ h0) (keeps_domSleep _ _ (keeps_loseDomain _ (keeps_setDom _ _ h0)))))))

theorem keeps_powerMode {s0 : State} (n : Nat) (m : Nat) {s : State} (h0 : Keeps s0 s) :
    Keeps s0 (powerMode n m s) := by
  unfold powerMode
  exact (keeps_ite h0 (keeps_ite (keeps_raise _ h0) (keeps_ite (keeps_setDom _ _ (keeps_setRf _ _ _ h0))
    (keeps_applyMode _ _ (keeps_setRf _ _ _ h0)))))

theorem keeps_powerHold {s0 : State} (n : Nat) (b : Bool) {s : State} (h : Keeps s0 s) : Keeps s0 (powerHold n b s) :=
  keeps_ite h (keeps_ite (keeps_domWake _ (keeps_setRb _ _ _ h)) (keeps_setRb _ _ _ h))

theorem keeps_wakeComplete {s0 : State} (n : Nat) {s : State} (h0 : Keeps s0 s) :
    Keeps s0 (wakeComplete n s) := by
  unfold wakeComplete
  exact (keeps_ite h0 (keeps_ite (keeps_cartsOn (by
      try extract_lets
      split
      exact (keeps_applyMode _ _ (keeps_setDomState _ _ (keeps_setDom _ _ h0)))
      exact (keeps_setDomState _ _ (keeps_setDom _ _ h0))
    )) (by
      try extract_lets
      split
      exact (keeps_applyMode _ _ (keeps_setDomState _ _ (keeps_setDom _ _ h0)))
      exact (keeps_setDomState _ _ (keeps_setDom _ _ h0))
    )))

theorem keeps_sleepEnd {s0 : State} (n : Nat) {s : State} (h0 : Keeps s0 s) :
    Keeps s0 (sleepEnd n s) := by
  unfold sleepEnd
  exact (keeps_ite h0 (keeps_ite (keeps_domWake _ (by
      try extract_lets
      split
      exact (keeps_applyMode _ _ (keeps_setDom _ _ h0))
      exact (keeps_setDom _ _ h0)
    )) (by
      try extract_lets
      split
      exact (keeps_applyMode _ _ (keeps_setDom _ _ h0))
      exact (keeps_setDom _ _ h0)
    )))

theorem keeps_unitGate {s0 : State} (u : Nat) {s : State} (h0 : Keeps s0 s) :
    Keeps s0 (unitGate u s).2 := by
  unfold unitGate
  exact (keeps_ite1 h0 (keeps_ite1 (keeps_raiseAux _ _ _ h0) (keeps_ite1 h0 (keeps_bumpSat _ _ (keeps_forEach h0 (fun
    _ _ h1 => (keeps_domWake _ (keeps_setRb _ _ _ h1))))))))

end Sys2Proof.Machine
end

