-- ==== Sys2Proof/Laws/KeepsSecurity.lean ====
section
/-! SUPPORT. The operations of Machine/Security.lean keep what every command keeps. -/

namespace Sys2Proof.Machine

open Sys2Proof

theorem keeps_setStaged {s0 : State} (f : Sys2Proof.Machine.FleetBank → Sys2Proof.Machine.FleetBank) {s : State} (h0 :
    Keeps s0 s) :
    Keeps s0 (setStaged f s) := by
  unfold setStaged
  exact (keeps_mk h0 rfl rfl rfl rfl rfl rfl rfl rfl rfl)

theorem keeps_startKeyOp {s0 : State} (o : Sys2Proof.Machine.KeyOp) {s : State} (h0 : Keeps s0 s) :
    Keeps s0 (startKeyOp o s) := by
  unfold startKeyOp
  exact (keeps_mk (keeps_setRb _ _ _ h0) rfl rfl rfl rfl rfl rfl rfl rfl rfl)

theorem keeps_rollbackRaise {s0 : State} (profile : Bool) (v : Sys2Proof.W32) {s : State} (h0 : Keeps s0 s) :
    Keeps s0 (rollbackRaise profile v s) := by
  unfold rollbackRaise
  exact (keeps_ite (keeps_startKeyOp _ h0) h0)

theorem keeps_keyWordWrite {s0 : State} (o : Nat) (v : Sys2Proof.W32) {s : State} (h0 : Keeps s0 s) :
    Keeps s0 (keyWordWrite o v s) := by
  unfold keyWordWrite
  exact (keeps_ite (keeps_rollbackRaise _ _ h0) (keeps_ite (keeps_rollbackRaise _ _ h0) (keeps_ite (keeps_setStaged _
    h0) (keeps_ite (keeps_setStaged _ h0) (keeps_ite (keeps_setStaged _ h0) (keeps_setStaged _ h0))))))

theorem keeps_keyAccess {s0 : State} (off : Nat) (bytes : Nat) (write : Bool) (d : Sys2Proof.W64) {s : State} (h0 :
    Keeps s0 s) :
    Keeps s0 (keyAccess off bytes write d s).2 := by
  unfold keyAccess
  exact (by
      try extract_lets
      split
      exact (keeps_ite1 h0 (keeps_ite1 h0 (keeps_ite1 h0 (keeps_ite1 h0 (keeps_ite (keeps_keyWordWrite _ _
        (keeps_keyWordWrite _ _ h0)) (keeps_keyWordWrite _ _ h0))))))
      exact h0
    )

theorem keeps_rotResult {s0 : State} (n : Nat) {s : State} (h0 : Keeps s0 s) :
    Keeps s0 (rotResult n s) := by
  unfold rotResult
  exact (keeps_setRf _ _ _ h0)

theorem keeps_startRotation {s0 : State} (o : Sys2Proof.Machine.KeyOp) {s : State} (h0 : Keeps s0 s) :
    Keeps s0 (startRotation o s) := by
  unfold startRotation
  exact (keeps_startKeyOp _ (keeps_setRb _ _ _ h0))

theorem keeps_clearStagedKey {s0 : State} {s : State} (h0 : Keeps s0 s) :
    Keeps s0 (clearStagedKey s) := by
  unfold clearStagedKey
  exact (keeps_setStaged _ h0)

theorem keeps_rotInstall {s0 : State} (n : Nat) {s : State} (h0 : Keeps s0 s) :
    Keeps s0 (rotInstall n s) := by
  unfold rotInstall
  exact (keeps_ite (keeps_rotResult _ h0) (keeps_ite (keeps_startRotation _ (keeps_clearStagedKey h0))
    (keeps_rotResult _ (keeps_clearStagedKey h0))))

theorem keeps_rotRetire {s0 : State} (n : Nat) {s : State} (h0 : Keeps s0 s) :
    Keeps s0 (rotRetire n s) := by
  unfold rotRetire
  exact (keeps_ite (keeps_rotResult _ h0) (keeps_startRotation _ h0))

theorem keeps_rotRoot {s0 : State} (slot : Nat) {s : State} (h0 : Keeps s0 s) :
    Keeps s0 (rotRoot slot s) := by
  unfold rotRoot
  exact (keeps_ite (keeps_rotResult _ h0) (keeps_ite h0 (keeps_startRotation _ (keeps_clearStagedKey h0))))

theorem keeps_rotGo {s0 : State} (op : Nat) (slot : Nat) {s : State} (h0 : Keeps s0 s) :
    Keeps s0 (rotGo op slot s) := by
  unfold rotGo
  exact (keeps_ite (keeps_rotInstall _ h0) (keeps_ite (keeps_rotRetire _ h0) (keeps_ite (keeps_rotRoot _ h0) h0)))

theorem keeps_keyOpShow {s0 : State} (o : Sys2Proof.Machine.KeyOp) {s : State} (h0 : Keeps s0 s) :
    Keeps s0 (keyOpShow o s) := by
  unfold keyOpShow
  exact (by
      try extract_lets
      split
      exact (keeps_formVerdict (keeps_rotResult _ (keeps_setRb _ _ _ h0)))
      exact (keeps_formVerdict (keeps_rotResult _ (keeps_setRb _ _ _ h0)))
      exact (keeps_rotResult _ (keeps_setRb _ _ _ h0))
      exact h0
      exact (keeps_showDebug h0)
    )

theorem keeps_keyOpFailed {s0 : State} {s : State} (h0 : Keeps s0 s) :
    Keeps s0 (keyOpFailed s) := by
  unfold keyOpFailed
  exact (keeps_formVerdict (keeps_rotResult _ (keeps_setRb _ _ _ h0)))

theorem keeps_keyWriteDone {s0 : State} (bad : Bool) {s : State} (h : Keeps s0 s) : Keeps s0 (keyWriteDone bad s) := by
  unfold keyWriteDone
  refine keeps_ite (keeps_finishErase h) ?_
  split
  · exact h
  · rename_i o r _
    have hr : Keeps s0 { s with sec := { s.sec with keyOps := r } } := keeps_frame h rfl rfl rfl rfl rfl rfl rfl rfl rfl
    refine keeps_setRb _ _ _ (keeps_ite (keeps_keyOpFailed hr) (keeps_keyOpShow _ ⟨h.pending, h.otp,
      Nat.le_trans h.fwFloor ?_, Nat.le_trans h.profFloor ?_, h.regs, h.mem, h.zero⟩))
    · cases o <;> simp only [setMram, keyOpEffect, rootInstall, Nat.le_refl]
      · split <;> simp
      · split
        · simp
        · dsimp only; split <;> omega
    · cases o <;> simp only [setMram, keyOpEffect, rootInstall, Nat.le_refl]
      · split <;> simp
      · split
        · dsimp only; split <;> omega
        · simp

theorem keeps_reopen {s0 : State} {s : State} (h0 : Keeps s0 s) :
    Keeps s0 (reopen s) := by
  unfold reopen
  exact (keeps_ite (keeps_startKeyOp _ h0) h0)

theorem keeps_cePutByte {s0 : State} (i : Nat) (v : Sys2Proof.Byte) {s : State} (h0 : Keeps s0 s) :
    Keeps s0 (cePutByte i v s) := by
  unfold cePutByte
  exact (keeps_setRf _ _ _ h0)

theorem keeps_cePut {s0 : State} (o : Nat) (l : List Byte) {s : State} (h : Keeps s0 s) : Keeps s0 (cePut o l s) := by
  induction l generalizing o s with
  | nil => exact h
  | cons b r ih => exact ih _ (keeps_cePutByte _ _ h)

theorem keeps_ceZero {s0 : State} {s : State} (h0 : Keeps s0 s) :
    Keeps s0 (ceZero s) := by
  unfold ceZero
  exact (keeps_resetRegs _ _ h0)

theorem keeps_ceOut {s0 : State} (d : List Sys2Proof.Byte) {s : State} (h0 : Keeps s0 s) :
    Keeps s0 (ceOut d s) := by
  unfold ceOut
  exact (keeps_forEach h0 (fun _ _ h1 => (keeps_setReg _ _ h1)))

theorem keeps_ceResult {s0 : State} (n : Nat) {s : State} (h0 : Keeps s0 s) :
    Keeps s0 (ceResult n s) := by
  unfold ceResult
  exact (keeps_setRf _ _ _ h0)

theorem keeps_ceGo {s0 : State} (op ksel : Nat) {s : State} (h : Keeps s0 s) : Keeps s0 (ceGo op ksel s) := by
  have k := keeps_ceResult 0 (keeps_setRb rSEC_CE_STAT SEC_CE_STAT.BUSY true h)
  unfold ceGo
  extract_lets len alen start
  have ks : ∀ x y, Keeps s0 (start x y) := fun x y => by
    dsimp only [start]
    generalize ceResult 0 (s.setRb rSEC_CE_STAT SEC_CE_STAT.BUSY true) = t at k
    exact keeps_frame k rfl rfl rfl rfl rfl rfl rfl rfl rfl
  clear_value start
  refine keeps_ite h (keeps_ite (keeps_ceResult _ h) (keeps_ite (ks _ _) ?_))
  split
  · exact keeps_ceResult _ h
  · exact keeps_ceResult _ h
  · exact ks _ _

theorem keeps_ceCtlWrite {s0 : State} (v : Sys2Proof.W32) {s : State} (h0 : Keeps s0 s) :
    Keeps s0 (ceCtlWrite v s) := by
  unfold ceCtlWrite
  exact (keeps_ite (keeps_ceGo _ _ (keeps_setReg _ _ h0)) (keeps_setReg _ _ h0))

theorem keeps_ceEffect {s0 : State} (o : Sys2Proof.Machine.CeOp) {s : State} (h0 : Keeps s0 s) :
    Keeps s0 (ceEffect o s) := by
  unfold ceEffect
  exact (keeps_ite (keeps_ceResult _ (keeps_ceOut _ h0)) (keeps_ite (keeps_ceResult _ (keeps_ceOut _ h0)) (keeps_ite
    (keeps_ceResult _ (keeps_cePut _ _ h0)) (keeps_ite (keeps_ite (keeps_ceResult _ (keeps_cePut _ _ h0))
    (keeps_ceResult _ (keeps_cePut _ _ h0))) (keeps_ite (keeps_ceResult _ h0) (keeps_ite (keeps_ceResult _
    (keeps_ceZero h0)) (keeps_ceResult _ (keeps_cePut _ _ (keeps_tick1 h0)))))))))

theorem keeps_ceDone {s0 : State} {s : State} (h0 : Keeps s0 s) :
    Keeps s0 (ceDone s) := by
  unfold ceDone
  exact (by
      try extract_lets
      split
      exact h0
      exact (keeps_ite h0 (keeps_setRb _ _ _ (keeps_ceEffect _ (keeps_mk h0 rfl rfl rfl rfl rfl rfl rfl rfl rfl))))
    )

theorem keeps_rngFail {s0 : State} {s : State} (h0 : Keeps s0 s) :
    Keeps s0 (rngFail s) := by
  unfold rngFail
  exact (keeps_mk (keeps_setRb _ _ _ h0) rfl rfl rfl rfl rfl rfl rfl rfl rfl)

theorem keeps_rngStarted {s0 : State} {s : State} (h0 : Keeps s0 s) :
    Keeps s0 (rngStarted s) := by
  unfold rngStarted
  exact (keeps_mk h0 rfl rfl rfl rfl rfl rfl rfl rfl rfl)

theorem keeps_showTamper {s0 : State} (k : Nat) (active : Bool) {s : State} (h0 : Keeps s0 s) :
    Keeps s0 (showTamper k active s) := by
  unfold showTamper
  exact (keeps_setBit _ _ _ h0)

theorem keeps_tamperActive {s0 : State} (k : Nat) (level : Bool) (held : Nat) {s : State} (h0 : Keeps s0 s) :
    Keeps s0 (tamperActive k level held s) := by
  unfold tamperActive
  exact (keeps_ite h0 (keeps_ite (keeps_showTamper _ _ h0) (keeps_violate _ (keeps_mk (keeps_showTamper _ _ h0) rfl
    rfl rfl rfl rfl rfl rfl rfl rfl))))

theorem keeps_tamperReleased {s0 : State} (k : Nat) {s : State} (h0 : Keeps s0 s) :
    Keeps s0 (tamperReleased k s) := by
  unfold tamperReleased
  exact (keeps_showTamper _ _ (keeps_mk h0 rfl rfl rfl rfl rfl rfl rfl rfl rfl))

theorem keeps_meshFault {s0 : State} {s : State} (h0 : Keeps s0 s) :
    Keeps s0 (meshFault s) := by
  unfold meshFault
  exact (keeps_ite (keeps_violate _ h0) h0)

theorem keeps_violClear {s0 : State} (mask : Sys2Proof.W64) {s : State} (h0 : Keeps s0 s) :
    Keeps s0 (violClear mask s) := by
  unfold violClear
  exact (keeps_forEach h0 (fun _ _ h1 => (keeps_ite (keeps_setBit _ _ _ h1) h1)))

theorem keeps_debugChallenge {s0 : State} {s : State} (h0 : Keeps s0 s) :
    Keeps s0 (debugChallenge s).2 := by
  unfold debugChallenge
  exact (keeps_ite1 h0 (keeps_mk (keeps_tick1 h0) rfl rfl rfl rfl rfl rfl rfl rfl rfl))

theorem keeps_debugResponse {s0 : State} (pub : List Sys2Proof.Byte) (sig : List Sys2Proof.Byte) {s : State} (h0 :
    Keeps s0 s) :
    Keeps s0 (debugResponse pub sig s) := by
  unfold debugResponse
  exact (keeps_ite h0 (keeps_mk h0 rfl rfl rfl rfl rfl rfl rfl rfl rfl))

theorem keeps_debugVerified {s0 : State} {s : State} (h : Keeps s0 s) : Keeps s0 (debugVerified s) := by
  unfold debugVerified
  split
  · extract_lets
    have q : ∀ (f : Mram → Mram) (t : State), Keeps s0 t → (f t.sec.mram).fwFloor = t.sec.mram.fwFloor →
        (f t.sec.mram).profFloor = t.sec.mram.profFloor → ∀ (g : Sec → Sec), (∀ x, (g x).otp = x.otp) →
        (∀ x, (g x).mram = x.mram) → Keeps s0 { setMram f t with sec := g (setMram f t).sec } :=
      fun f t k e1 e2 g e3 e4 => by
        have m := keeps_setMram f k e1 e2
        exact keeps_frame m rfl rfl rfl rfl rfl rfl (e3 _) (by rw [e4]) (by rw [e4])
    have k : Keeps s0 { s with sec := { s.sec with nonce := none, response := none } } :=
      keeps_frame h rfl rfl rfl rfl rfl rfl rfl rfl rfl
    refine keeps_ite (keeps_showDebug (q _ _ k rfl rfl (fun x => { x with unlocked := true }) (fun _ => rfl) fun _ => rfl))
      (keeps_ite (keeps_violate _ ?_) ?_)
    all_goals exact keeps_showDebug (q _ _ k rfl rfl (fun x => { x with lastFail := some (s.reg rPWR_UPTIME).toNat })
      (fun _ => rfl) fun _ => rfl)
  · exact h

end Sys2Proof.Machine
end

