-- ==== Sys2Proof/Laws/KeepsBoot.lean ====
section
/-! SUPPORT. The operations of Machine/Boot.lean keep what every command keeps. -/

namespace Sys2Proof.Machine

open Sys2Proof

theorem keeps_loadAlarms {s0 : State} (l : List (Nat × Sys2Proof.W64)) {s : State} (h0 : Keeps s0 s) :
    Keeps s0 (loadAlarms l s) := by
  unfold loadAlarms
  exact (keeps_forEach h0 (fun _ _ h1 => (keeps_setReg _ _ h1)))

theorem keeps_powerOn {s0 : State} (vsel : Nat) {s : State} (h : Keeps s0 s) : Keeps s0 (powerOn vsel s) :=
  keeps_setRf _ _ _ (keeps_loadAlarms _ ⟨h.pending, h.otp, h.fwFloor, h.profFloor, fun _ => wf_nil _,
    fun _ => by simp [memWf, wf_nil, State.reset, Gde.init, Cav.init], fun _ _ => rfl⟩)

theorem keeps_pinReset {s0 : State} (low : Bool) {s : State} (h0 : Keeps s0 s) :
    Keeps s0 (pinReset low s) := by
  unfold pinReset
  exact (keeps_ite (keeps_ite h0 (keeps_chipReset _ _ (keeps_mk h0 rfl rfl rfl rfl rfl rfl rfl rfl rfl))) (keeps_mk h0
    rfl rfl rfl rfl rfl rfl rfl rfl rfl))

theorem keeps_sumpReset {s0 : State} {s : State} (h0 : Keeps s0 s) :
    Keeps s0 (sumpReset s) := by
  unfold sumpReset
  exact (by
      try extract_lets
      split
      exact (keeps_ite (keeps_chipReset _ _ h0) h0)
      exact h0
    )

theorem keeps_rstCtlWrite {s0 : State} (v : Sys2Proof.W32) {s : State} (h0 : Keeps s0 s) :
    Keeps s0 (rstCtlWrite v s) := by
  unfold rstCtlWrite
  exact (keeps_ite (keeps_chipReset _ _ h0) (keeps_raise _ h0))

theorem keeps_rstBlkWrite {s0 : State} (v : Sys2Proof.W32) {s : State} (h0 : Keeps s0 s) :
    Keeps s0 (rstBlkWrite v s) := by
  unfold rstBlkWrite
  exact (keeps_ite (keeps_blockReset _ h0) (keeps_raise _ h0))

theorem keeps_loadSlots {s0 : State} (n w : Nat) (l : List Byte) {s : State} (h : Keeps s0 s) :
    Keeps s0 (loadSlots n w l s) := by
  induction n generalizing w l s with
  | zero => exact h
  | succ n ih => exact ih _ _ (keeps_cavPut _ _ h)

theorem keeps_loadSection {s0 : State} (f : Nat → Nat → List Byte) (x : Section) {s : State} (h : Keeps s0 s) :
    Keeps s0 (loadSection f x s) := by
  unfold loadSection
  extract_lets d
  split
  · exact keeps_gdeMem h (wf_wrBytes _ _) id id
  · exact keeps_gdeMem h id (wf_wrBytes _ _) id
  · exact keeps_loadSlots _ _ _ h
  · exact keeps_loadSlots _ _ _ h
  · exact h

theorem keeps_loadImage {s0 : State} (f : Nat → Nat → List Sys2Proof.Byte) {s : State} (h0 : Keeps s0 s) :
    Keeps s0 (loadImage f s) := by
  unfold loadImage
  exact (keeps_mk (keeps_setRf _ _ _ (keeps_forEach h0 (fun _ _ h1 => (keeps_loadSection _ _ h1)))) rfl rfl rfl rfl
    rfl rfl rfl rfl rfl)

theorem keeps_loadRecord {s0 : State} (w : Nat → Sys2Proof.W32) {s : State} (h0 : Keeps s0 s) :
    Keeps s0 (loadRecord w s) := by
  unfold loadRecord
  exact (keeps_setReg _ _ (keeps_forEach (keeps_forEach (keeps_forEach h0 (fun _ _ h1 => (keeps_setReg _ _ h1))) (fun
    _ _ h2 => (keeps_setReg _ _ h2))) (fun _ _ h3 => (keeps_setReg _ _ h3))))

theorem keeps_lockGate {s0 : State} (zero : Bool) {s : State} (h0 : Keeps s0 s) :
    Keeps s0 (lockGate zero s) := by
  unfold lockGate
  exact (keeps_ite (keeps_enterMaint (keeps_setRb _ _ _ (keeps_setRb _ _ _ h0))) (keeps_setRb _ _ _ (keeps_setRb _ _ _
    h0)))

theorem keeps_takeProfile {s0 : State} (f : Nat → Nat → List Sys2Proof.Byte) (from_ : Nat) {s : State} (h0 : Keeps s0
    s) :
    Keeps s0 (takeProfile f from_ s) := by
  unfold takeProfile
  exact (keeps_lockGate _ (keeps_setRf _ _ _ (keeps_loadRecord _ h0)))

theorem keeps_bootPass {s0 : State} (us : Nat) {s : State} (h0 : Keeps s0 s) :
    Keeps s0 (bootPass us s) := by
  unfold bootPass
  exact (keeps_mk (keeps_passTicks _ _ h0) rfl rfl rfl rfl rfl rfl rfl rfl rfl)

theorem keeps_bootReport {s0 : State} (released : Bool) {s : State} (h : Keeps s0 s) :
    Keeps s0 (bootReport released s) := by
  unfold bootReport
  extract_lets a b c d
  have k : Keeps s0 d := keeps_hwnPut _ _ (keeps_hwnPut _ _ (keeps_hwnPut _ _ (keeps_hwnPut _ _ h)))
  clear_value d
  exact keeps_frame k rfl rfl rfl rfl rfl rfl rfl rfl rfl

theorem keeps_release {s0 : State} {s : State} (h : Keeps s0 s) : Keeps s0 (release s) := by
  have k := keeps_bootReport true (keeps_setRf rRST_BOOT_TIME RST_BOOT_TIME.US (s.dtm.ticks / 250) h)
  unfold release
  generalize s.setRf rRST_BOOT_TIME RST_BOOT_TIME.US (s.dtm.ticks / 250) = a at k
  have kb : Keeps s0 { bootReport true a with rst := { a.rst with phase := .running, hostImage := [] } } := by
    generalize bootReport true a = t at k
    exact keeps_frame k rfl rfl rfl rfl rfl rfl rfl rfl rfl
  exact keeps_lateRaises (keeps_bankG 8 (fun x => { x with pc := a.rst.entry }) kb id)

theorem keeps_handshake {s0 : State} (n : Nat) (code : Nat) (fail : Nat) {s : State} (h0 : Keeps s0 s) :
    Keeps s0 (handshake n code fail s) := by
  unfold handshake
  exact (keeps_hwnPut _ _ h0)

theorem keeps_hostBoot {s0 : State} {s : State} (h0 : Keeps s0 s) :
    Keeps s0 (hostBoot s) := by
  unfold hostBoot
  exact (keeps_mk (keeps_handshake _ _ _ (keeps_bootReport _ (keeps_setRf _ _ _ h0))) rfl rfl rfl rfl rfl rfl rfl rfl
    rfl)

theorem keeps_bootXspi {s0 : State} (d : Sys2Proof.Machine.BootDir) {s : State} (h0 : Keeps s0 s) :
    Keeps s0 (bootXspi d s) := by
  unfold bootXspi
  exact (keeps_ite (keeps_mk h0 rfl rfl rfl rfl rfl rfl rfl rfl rfl) h0)

theorem keeps_bootProfile {s0 : State} (flash : Sys2Proof.Cells 8) (d : Sys2Proof.Machine.BootDir) {s : State} (h0 :
    Keeps s0 s) :
    Keeps s0 (bootProfile flash d s) := by
  unfold bootProfile
  exact (keeps_ite (keeps_takeProfile _ _ (keeps_setRb _ _ _ (keeps_setRb _ _ _ h0))) (keeps_ite (keeps_takeProfile _
    _ (keeps_setRf _ _ _ (keeps_setRb _ _ _ (keeps_setRb _ _ _ h0)))) (keeps_setRf _ _ _ (keeps_setRf _ _ _
    (keeps_setRf _ _ _ (keeps_setRb _ _ _ (keeps_setRb _ _ _ h0)))))))

theorem keeps_slotFail {s0 : State} (b : Bool) (code : Nat) {s : State} (h0 : Keeps s0 s) :
    Keeps s0 (slotFail b code s) := by
  unfold slotFail
  exact (keeps_setRf _ _ _ h0)

theorem keeps_bootSlot {s0 : State} (f : Nat → Nat → List Sys2Proof.Byte) (b : Bool) (armed : Bool) {s : State} (h0 :
    Keeps s0 s) :
    Keeps s0 (bootSlot f b armed s) := by
  unfold bootSlot
  exact (keeps_ite (keeps_setRb _ _ _ (keeps_setRb _ _ _ (keeps_setRf _ _ _ (keeps_loadImage _ h0)))) (keeps_setRf _ _
    _ (keeps_loadImage _ h0)))

theorem keeps_bootFirmware {s0 : State} (flash : Sys2Proof.Cells 8) (d : Sys2Proof.Machine.BootDir) {s : State} (h0 :
    Keeps s0 s) :
    Keeps s0 (bootFirmware flash d s).2 := by
  unfold bootFirmware
  exact (keeps_ite1 (keeps_bootSlot _ _ _ (keeps_ite (keeps_slotFail _ _ (keeps_ite (keeps_setRb _ _ _ (keeps_setRb _
    _ _ h0)) h0)) (keeps_ite (keeps_setRb _ _ _ (keeps_setRb _ _ _ h0)) h0))) (keeps_ite1 (keeps_bootSlot _ _ _
    (keeps_ite (keeps_setRb _ _ _ (keeps_slotFail _ _ (keeps_ite (keeps_setRb _ _ _ (keeps_setRb _ _ _ h0)) h0)))
    (keeps_slotFail _ _ (keeps_ite (keeps_setRb _ _ _ (keeps_setRb _ _ _ h0)) h0)))) (keeps_ite (keeps_setRb _ _ _
    (keeps_slotFail _ _ (keeps_ite (keeps_setRb _ _ _ (keeps_slotFail _ _ (keeps_ite (keeps_setRb _ _ _ (keeps_setRb _
    _ _ h0)) h0))) (keeps_slotFail _ _ (keeps_ite (keeps_setRb _ _ _ (keeps_setRb _ _ _ h0)) h0))))) (keeps_slotFail _
    _ (keeps_ite (keeps_setRb _ _ _ (keeps_slotFail _ _ (keeps_ite (keeps_setRb _ _ _ (keeps_setRb _ _ _ h0)) h0)))
    (keeps_slotFail _ _ (keeps_ite (keeps_setRb _ _ _ (keeps_setRb _ _ _ h0)) h0)))))))

theorem keeps_bootSequence {s0 : State} (bootsel : Bool) (hmode : Bool) (flash : Sys2Proof.Cells 8) {s : State} (h0 :
    Keeps s0 s) :
    Keeps s0 (bootSequence bootsel hmode flash s) := by
  unfold bootSequence
  exact (keeps_ite h0 (keeps_ite (keeps_hostBoot (keeps_mk (keeps_bootPass _ (keeps_tick1 (keeps_ite
    (keeps_formVerdict (keeps_ite (keeps_setRf _ _ _ (keeps_showDebug (keeps_bootXspi _ (keeps_mk (keeps_forEach
    (keeps_ite (keeps_finishErase (keeps_lateActions (keeps_finishErase (keeps_setRf _ _ _ (keeps_setRb _ _ _ h0)))))
    (keeps_bootScan (keeps_finishErase (keeps_lateActions (keeps_finishErase (keeps_setRf _ _ _ (keeps_setRb _ _ _
    h0))))))) (fun _ _ h1 => (keeps_setReg _ _ h1))) rfl rfl rfl rfl rfl rfl rfl rfl rfl)))) (keeps_bootProfile _ _
    (keeps_showDebug (keeps_bootXspi _ (keeps_mk (keeps_forEach (keeps_ite (keeps_finishErase (keeps_lateActions
    (keeps_finishErase (keeps_setRf _ _ _ (keeps_setRb _ _ _ h0))))) (keeps_bootScan (keeps_finishErase
    (keeps_lateActions (keeps_finishErase (keeps_setRf _ _ _ (keeps_setRb _ _ _ h0))))))) (fun _ _ h2 => (keeps_setReg
    _ _ h2))) rfl rfl rfl rfl rfl rfl rfl rfl rfl)))))) (keeps_enterMaint (keeps_formVerdict (keeps_ite (keeps_setRf _
    _ _ (keeps_showDebug (keeps_bootXspi _ (keeps_mk (keeps_forEach (keeps_ite (keeps_finishErase (keeps_lateActions
    (keeps_finishErase (keeps_setRf _ _ _ (keeps_setRb _ _ _ h0))))) (keeps_bootScan (keeps_finishErase
    (keeps_lateActions (keeps_finishErase (keeps_setRf _ _ _ (keeps_setRb _ _ _ h0))))))) (fun _ _ h3 => (keeps_setReg
    _ _ h3))) rfl rfl rfl rfl rfl rfl rfl rfl rfl)))) (keeps_bootProfile _ _ (keeps_showDebug (keeps_bootXspi _
    (keeps_mk (keeps_forEach (keeps_ite (keeps_finishErase (keeps_lateActions (keeps_finishErase (keeps_setRf _ _ _
    (keeps_setRb _ _ _ h0))))) (keeps_bootScan (keeps_finishErase (keeps_lateActions (keeps_finishErase (keeps_setRf _
    _ _ (keeps_setRb _ _ _ h0))))))) (fun _ _ h4 => (keeps_setReg _ _ h4))) rfl rfl rfl rfl rfl rfl rfl rfl
    rfl)))))))))) rfl rfl rfl rfl rfl rfl rfl rfl rfl)) (keeps_ite (keeps_release (keeps_ite (keeps_bootFirmware _ _
    (keeps_bootPass _ (keeps_tick1 (keeps_ite (keeps_formVerdict (keeps_ite (keeps_setRf _ _ _ (keeps_showDebug
    (keeps_bootXspi _ (keeps_mk (keeps_forEach (keeps_ite (keeps_finishErase (keeps_lateActions (keeps_finishErase
    (keeps_setRf _ _ _ (keeps_setRb _ _ _ h0))))) (keeps_bootScan (keeps_finishErase (keeps_lateActions
    (keeps_finishErase (keeps_setRf _ _ _ (keeps_setRb _ _ _ h0))))))) (fun _ _ h5 => (keeps_setReg _ _ h5))) rfl rfl
    rfl rfl rfl rfl rfl rfl rfl)))) (keeps_bootProfile _ _ (keeps_showDebug (keeps_bootXspi _ (keeps_mk (keeps_forEach
    (keeps_ite (keeps_finishErase (keeps_lateActions (keeps_finishErase (keeps_setRf _ _ _ (keeps_setRb _ _ _ h0)))))
    (keeps_bootScan (keeps_finishErase (keeps_lateActions (keeps_finishErase (keeps_setRf _ _ _ (keeps_setRb _ _ _
    h0))))))) (fun _ _ h6 => (keeps_setReg _ _ h6))) rfl rfl rfl rfl rfl rfl rfl rfl rfl)))))) (keeps_enterMaint
    (keeps_formVerdict (keeps_ite (keeps_setRf _ _ _ (keeps_showDebug (keeps_bootXspi _ (keeps_mk (keeps_forEach
    (keeps_ite (keeps_finishErase (keeps_lateActions (keeps_finishErase (keeps_setRf _ _ _ (keeps_setRb _ _ _ h0)))))
    (keeps_bootScan (keeps_finishErase (keeps_lateActions (keeps_finishErase (keeps_setRf _ _ _ (keeps_setRb _ _ _
    h0))))))) (fun _ _ h7 => (keeps_setReg _ _ h7))) rfl rfl rfl rfl rfl rfl rfl rfl rfl)))) (keeps_bootProfile _ _
    (keeps_showDebug (keeps_bootXspi _ (keeps_mk (keeps_forEach (keeps_ite (keeps_finishErase (keeps_lateActions
    (keeps_finishErase (keeps_setRf _ _ _ (keeps_setRb _ _ _ h0))))) (keeps_bootScan (keeps_finishErase
    (keeps_lateActions (keeps_finishErase (keeps_setRf _ _ _ (keeps_setRb _ _ _ h0))))))) (fun _ _ h8 => (keeps_setReg
    _ _ h8))) rfl rfl rfl rfl rfl rfl rfl rfl rfl))))))))))) (keeps_lockGate _ (keeps_bootFirmware _ _ (keeps_bootPass
    _ (keeps_tick1 (keeps_ite (keeps_formVerdict (keeps_ite (keeps_setRf _ _ _ (keeps_showDebug (keeps_bootXspi _
    (keeps_mk (keeps_forEach (keeps_ite (keeps_finishErase (keeps_lateActions (keeps_finishErase (keeps_setRf _ _ _
    (keeps_setRb _ _ _ h0))))) (keeps_bootScan (keeps_finishErase (keeps_lateActions (keeps_finishErase (keeps_setRf _
    _ _ (keeps_setRb _ _ _ h0))))))) (fun _ _ h9 => (keeps_setReg _ _ h9))) rfl rfl rfl rfl rfl rfl rfl rfl rfl))))
    (keeps_bootProfile _ _ (keeps_showDebug (keeps_bootXspi _ (keeps_mk (keeps_forEach (keeps_ite (keeps_finishErase
    (keeps_lateActions (keeps_finishErase (keeps_setRf _ _ _ (keeps_setRb _ _ _ h0))))) (keeps_bootScan
    (keeps_finishErase (keeps_lateActions (keeps_finishErase (keeps_setRf _ _ _ (keeps_setRb _ _ _ h0))))))) (fun _ _
    h10 => (keeps_setReg _ _ h10))) rfl rfl rfl rfl rfl rfl rfl rfl rfl)))))) (keeps_enterMaint (keeps_formVerdict
    (keeps_ite (keeps_setRf _ _ _ (keeps_showDebug (keeps_bootXspi _ (keeps_mk (keeps_forEach (keeps_ite
    (keeps_finishErase (keeps_lateActions (keeps_finishErase (keeps_setRf _ _ _ (keeps_setRb _ _ _ h0)))))
    (keeps_bootScan (keeps_finishErase (keeps_lateActions (keeps_finishErase (keeps_setRf _ _ _ (keeps_setRb _ _ _
    h0))))))) (fun _ _ h11 => (keeps_setReg _ _ h11))) rfl rfl rfl rfl rfl rfl rfl rfl rfl)))) (keeps_bootProfile _ _
    (keeps_showDebug (keeps_bootXspi _ (keeps_mk (keeps_forEach (keeps_ite (keeps_finishErase (keeps_lateActions
    (keeps_finishErase (keeps_setRf _ _ _ (keeps_setRb _ _ _ h0))))) (keeps_bootScan (keeps_finishErase
    (keeps_lateActions (keeps_finishErase (keeps_setRf _ _ _ (keeps_setRb _ _ _ h0))))))) (fun _ _ h12 =>
    (keeps_setReg _ _ h12))) rfl rfl rfl rfl rfl rfl rfl rfl rfl)))))))))))))) (keeps_hostBoot (keeps_mk
    (keeps_bootFirmware _ _ (keeps_bootPass _ (keeps_tick1 (keeps_ite (keeps_formVerdict (keeps_ite (keeps_setRf _ _ _
    (keeps_showDebug (keeps_bootXspi _ (keeps_mk (keeps_forEach (keeps_ite (keeps_finishErase (keeps_lateActions
    (keeps_finishErase (keeps_setRf _ _ _ (keeps_setRb _ _ _ h0))))) (keeps_bootScan (keeps_finishErase
    (keeps_lateActions (keeps_finishErase (keeps_setRf _ _ _ (keeps_setRb _ _ _ h0))))))) (fun _ _ h13 =>
    (keeps_setReg _ _ h13))) rfl rfl rfl rfl rfl rfl rfl rfl rfl)))) (keeps_bootProfile _ _ (keeps_showDebug
    (keeps_bootXspi _ (keeps_mk (keeps_forEach (keeps_ite (keeps_finishErase (keeps_lateActions (keeps_finishErase
    (keeps_setRf _ _ _ (keeps_setRb _ _ _ h0))))) (keeps_bootScan (keeps_finishErase (keeps_lateActions
    (keeps_finishErase (keeps_setRf _ _ _ (keeps_setRb _ _ _ h0))))))) (fun _ _ h14 => (keeps_setReg _ _ h14))) rfl
    rfl rfl rfl rfl rfl rfl rfl rfl)))))) (keeps_enterMaint (keeps_formVerdict (keeps_ite (keeps_setRf _ _ _
    (keeps_showDebug (keeps_bootXspi _ (keeps_mk (keeps_forEach (keeps_ite (keeps_finishErase (keeps_lateActions
    (keeps_finishErase (keeps_setRf _ _ _ (keeps_setRb _ _ _ h0))))) (keeps_bootScan (keeps_finishErase
    (keeps_lateActions (keeps_finishErase (keeps_setRf _ _ _ (keeps_setRb _ _ _ h0))))))) (fun _ _ h15 =>
    (keeps_setReg _ _ h15))) rfl rfl rfl rfl rfl rfl rfl rfl rfl)))) (keeps_bootProfile _ _ (keeps_showDebug
    (keeps_bootXspi _ (keeps_mk (keeps_forEach (keeps_ite (keeps_finishErase (keeps_lateActions (keeps_finishErase
    (keeps_setRf _ _ _ (keeps_setRb _ _ _ h0))))) (keeps_bootScan (keeps_finishErase (keeps_lateActions
    (keeps_finishErase (keeps_setRf _ _ _ (keeps_setRb _ _ _ h0))))))) (fun _ _ h16 => (keeps_setReg _ _ h16))) rfl
    rfl rfl rfl rfl rfl rfl rfl rfl))))))))))) rfl rfl rfl rfl rfl rfl rfl rfl rfl)))))

theorem keeps_hostRefuse {s0 : State} (code : Nat) {s : State} (h0 : Keeps s0 s) :
    Keeps s0 (hostRefuse code s) := by
  unfold hostRefuse
  exact (keeps_ite (keeps_lockGate _ (keeps_setRf _ _ _ (keeps_mk (keeps_handshake _ _ _ (keeps_mk h0 rfl rfl rfl rfl
    rfl rfl rfl rfl rfl)) rfl rfl rfl rfl rfl rfl rfl rfl rfl))) (keeps_handshake _ _ _ (keeps_mk h0 rfl rfl rfl rfl
    rfl rfl rfl rfl rfl)))

theorem keeps_hostWhole {s0 : State} {s : State} (h0 : Keeps s0 s) :
    Keeps s0 (hostWhole s) := by
  unfold hostWhole
  exact (keeps_ite (keeps_ite (keeps_handshake _ _ _ (keeps_takeProfile _ _ (keeps_mk h0 rfl rfl rfl rfl rfl rfl rfl
    rfl rfl))) (keeps_hostRefuse _ h0)) (keeps_ite (keeps_hostRefuse _ (keeps_setRf _ _ _ h0)) (keeps_ite
    (keeps_release (keeps_handshake _ _ _ (keeps_loadImage _ h0))) (keeps_hostRefuse _ h0))))

theorem keeps_hostChunk {s0 : State} (n : Nat) (last : Bool) {s : State} (h0 : Keeps s0 s) :
    Keeps s0 (hostChunk n last s) := by
  unfold hostChunk
  exact (keeps_ite (keeps_handshake _ _ _ h0) (keeps_ite (keeps_hostRefuse _ h0) (keeps_ite (keeps_hostRefuse _ h0)
    (keeps_ite (keeps_hostWhole (keeps_mk h0 rfl rfl rfl rfl rfl rfl rfl rfl rfl)) (keeps_handshake _ _ _ (keeps_mk h0
    rfl rfl rfl rfl rfl rfl rfl rfl rfl))))))

theorem keeps_hostPoll {s0 : State} {s : State} (h0 : Keeps s0 s) :
    Keeps s0 (hostPoll s) := by
  unfold hostPoll
  exact (keeps_ite h0 (keeps_ite (keeps_hostChunk _ _ h0) (keeps_ite (keeps_hostChunk _ _ h0) h0)))

end Sys2Proof.Machine
end

