-- ==== Sys2Proof/Laws/KeepsWaterTable.lean ====
section
/-! SUPPORT. The operations of Machine/WaterTable.lean keep what every command keeps. -/

namespace Sys2Proof.Machine

open Sys2Proof

theorem keeps_onWtb {s0 : State} (f : Sys2Proof.Machine.Wtb → Sys2Proof.Machine.Wtb) {s : State} (h0 : Keeps s0 s) :
    Keeps s0 (onWtb f s) := by
  unfold onWtb
  exact (keeps_mk h0 rfl rfl rfl rfl rfl rfl rfl rfl rfl)

theorem keeps_wtbTaken {s0 : State} (c : Nat) {s : State} (h0 : Keeps s0 s) :
    Keeps s0 (wtbTaken c s) := by
  unfold wtbTaken
  exact (keeps_onWtb _ (keeps_setRb _ _ _ (keeps_setRf _ _ _ h0)))

theorem keeps_wtbIssue {s0 : State} (c : Nat) {s : State} (h0 : Keeps s0 s) :
    Keeps s0 (wtbIssue c s) := by
  unfold wtbIssue
  exact (keeps_ite (keeps_wtbTaken _ (keeps_onWtb _ (keeps_onWtb _ h0))) (keeps_onWtb _ (keeps_onWtb _ h0)))

theorem keeps_wtbClamp {s0 : State} (want : Int) {s : State} (h0 : Keeps s0 s) :
    Keeps s0 (wtbClamp want s).2 := by
  unfold wtbClamp
  exact (keeps_ite (keeps_bumpSat _ _ (keeps_setRb _ _ _ (keeps_setRb _ _ _ h0))) (keeps_setRb _ _ _ (keeps_setRb _ _
    _ h0)))

theorem keeps_wtbRestart {s0 : State} {s : State} (h0 : Keeps s0 s) :
    Keeps s0 (wtbRestart s) := by
  unfold wtbRestart
  exact (keeps_onWtb _ h0)

theorem keeps_wtbWant {s0 : State} (want : Int) {s : State} (h0 : Keeps s0 s) :
    Keeps s0 (wtbWant want s) := by
  unfold wtbWant
  exact (keeps_ite (keeps_wtbClamp _ h0) (keeps_wtbIssue _ (keeps_wtbClamp _ h0)))

theorem keeps_wtbAgain {s0 : State} {s : State} (h0 : Keeps s0 s) :
    Keeps s0 (wtbAgain s) := by
  unfold wtbAgain
  exact (by
      try extract_lets
      split
      exact h0
      exact (keeps_wtbIssue _ (keeps_wtbClamp _ h0))
    )

theorem keeps_wtbAuto {s0 : State} {s : State} (h0 : Keeps s0 s) :
    Keeps s0 (wtbAuto s) := by
  unfold wtbAuto
  exact (keeps_ite (keeps_wtbWant _ (keeps_ite (keeps_wtbRestart h0) (keeps_onWtb _ h0))) (keeps_ite (keeps_ite
    (keeps_wtbWant _ (keeps_wtbRestart (keeps_ite (keeps_wtbRestart h0) (keeps_onWtb _ h0)))) (keeps_ite
    (keeps_wtbWant _ (keeps_wtbRestart (keeps_ite (keeps_wtbRestart h0) (keeps_onWtb _ h0)))) (keeps_wtbWant _
    (keeps_wtbRestart (keeps_ite (keeps_wtbRestart h0) (keeps_onWtb _ h0)))))) (keeps_ite (keeps_wtbRestart h0)
    (keeps_onWtb _ h0))))

theorem keeps_wtbSettled {s0 : State} {s : State} (h0 : Keeps s0 s) :
    Keeps s0 (wtbSettled s) := by
  unfold wtbSettled
  exact (keeps_ite (keeps_onWtb _ h0) h0)

theorem keeps_wtbLoad {s0 : State} {s : State} (h0 : Keeps s0 s) :
    Keeps s0 (wtbLoad s) := by
  unfold wtbLoad
  exact (keeps_onWtb _ h0)

theorem keeps_wtbBoundary {s0 : State} {s : State} (h0 : Keeps s0 s) :
    Keeps s0 (wtbBoundary s) := by
  unfold wtbBoundary
  exact (keeps_ite (keeps_onWtb _ (keeps_wtbLoad (keeps_wtbSettled h0))) (keeps_ite (keeps_wtbIssue _ (keeps_onWtb _
    (keeps_wtbLoad (keeps_wtbSettled h0)))) (keeps_ite (keeps_ite (keeps_wtbIssue _ (keeps_onWtb _ (keeps_wtbClamp _
    (keeps_onWtb _ (keeps_wtbLoad (keeps_wtbSettled h0)))))) (keeps_wtbAgain (keeps_onWtb _ (keeps_wtbLoad
    (keeps_wtbSettled h0))))) (keeps_ite (keeps_onWtb _ (keeps_wtbLoad (keeps_wtbSettled h0))) (keeps_ite
    (keeps_wtbAgain (keeps_onWtb _ (keeps_wtbLoad (keeps_wtbSettled h0)))) (keeps_wtbAuto (keeps_onWtb _
    (keeps_wtbLoad (keeps_wtbSettled h0)))))))))

theorem keeps_wtbBound {s0 : State} (ceil : Bool) (c : Nat) {s : State} (h0 : Keeps s0 s) :
    Keeps s0 (wtbBound ceil c s) := by
  unfold wtbBound
  exact (keeps_ite (keeps_raise _ (keeps_setRb _ _ _ h0)) (keeps_ite (keeps_onWtb _ (keeps_ite (keeps_setRf _ _ _ h0)
    (keeps_setRf _ _ _ h0))) (keeps_ite (keeps_setRf _ _ _ h0) (keeps_setRf _ _ _ h0))))

theorem keeps_wtbTarget {s0 : State} (c : Nat) {s : State} (h0 : Keeps s0 s) :
    Keeps s0 (wtbTarget c s) := by
  unfold wtbTarget
  exact (keeps_onWtb _ (keeps_setRf _ _ _ h0))

theorem keeps_wtbMode {s0 : State} (m : Nat) {s : State} (h0 : Keeps s0 s) :
    Keeps s0 (wtbMode m s) := by
  unfold wtbMode
  exact (keeps_onWtb _ (keeps_setRf _ _ _ h0))

theorem keeps_wtbTouch {s0 : State} {s : State} (h0 : Keeps s0 s) :
    Keeps s0 (wtbTouch s) := by
  unfold wtbTouch
  exact (keeps_onWtb _ h0)

theorem keeps_avsDone {s0 : State} (good : Bool) {s : State} (h0 : Keeps s0 s) :
    Keeps s0 (avsDone good s) := by
  unfold avsDone
  exact (by
      try extract_lets
      split
      exact h0
      exact (keeps_ite (keeps_wtbTaken _ (keeps_onWtb _ h0)) (keeps_ite (keeps_onWtb _ h0) (keeps_ite (keeps_onWtb _
        h0) (keeps_raise _ (keeps_setRb _ _ _ (keeps_onWtb _ h0))))))
    )

end Sys2Proof.Machine
end

