-- ==== Sys2Proof/Laws/KeepsTimer.lean ====
section
/-! SUPPORT. The operations of Machine/Timer.lean keep what every command keeps. -/

namespace Sys2Proof.Machine

open Sys2Proof

theorem keeps_setTim {s0 : State} (n : Nat) (x : Sys2Proof.Machine.Timer) {s : State} (h0 : Keeps s0 s) :
    Keeps s0 (setTim n x s) := by
  unfold setTim
  exact (keeps_mk h0 rfl rfl rfl rfl rfl rfl rfl rfl rfl)

theorem keeps_timerEvent {s0 : State} (n : Nat) {s : State} (h0 : Keeps s0 s) :
    Keeps s0 (timerEvent n s) := by
  unfold timerEvent
  exact (keeps_ite (keeps_echoTrigger (keeps_adcEvent _ (keeps_forEach (keeps_timerRosterEvent _ h0) (fun _ _ h1 =>
    (keeps_ite (keeps_chmEvent _ _ h1) h1))))) (keeps_adcEvent _ (keeps_forEach (keeps_timerRosterEvent _ h0) (fun _ _
    h2 => (keeps_ite (keeps_chmEvent _ _ h2) h2)))))

theorem keeps_timerExpire {s0 : State} (n : Nat) {s : State} (h0 : Keeps s0 s) :
    Keeps s0 (timerExpire n s) := by
  unfold timerExpire
  exact (keeps_ite (keeps_ite (keeps_timerTop _ h0) h0) (keeps_timerEvent _ (keeps_setTim _ _ (keeps_ite
    (keeps_timerTop _ h0) h0))))

theorem keeps_timersDue {s0 : State} {s : State} (h0 : Keeps s0 s) :
    Keeps s0 (timersDue s) := by
  unfold timersDue
  exact (keeps_forEach h0 (fun _ _ h1 => (keeps_ite h1 (keeps_timerExpire _ h1))))

theorem keeps_timerWraps {s0 : State} (n : Nat) {s : State} (h0 : Keeps s0 s) :
    Keeps s0 (timerWraps n s) := by
  unfold timerWraps
  exact (keeps_ite (keeps_timerCount _ _ h0) h0)

theorem keeps_timerEdge {s0 : State} (n : Nat) (pin : Nat) (rising : Bool) (held : Nat) {s : State} (h0 : Keeps s0 s)
    :
    Keeps s0 (timerEdge n pin rising held s) := by
  unfold timerEdge
  exact (keeps_ite h0 (keeps_ite (keeps_timerEvent _ (keeps_setRb _ _ _ (keeps_setRf _ _ _ (keeps_ite (keeps_setRb _ _
    _ (keeps_setTim _ _ h0)) (keeps_setTim _ _ h0))))) (keeps_setTim _ _ h0)))

theorem keeps_timCtlWrite {s0 : State} (n : Nat) (v : Sys2Proof.W64) {s : State} (h0 : Keeps s0 s) :
    Keeps s0 (timCtlWrite n v s) := by
  unfold timCtlWrite
  exact (keeps_ite (keeps_takePeriod _ (keeps_setReg _ _ h0)) (keeps_setReg _ _ h0))

theorem keeps_timersTick {s0 : State} (src : Nat) {s : State} (h0 : Keeps s0 s) :
    Keeps s0 (timersTick src s) := by
  unfold timersTick
  exact (keeps_forEach h0 (fun _ _ h1 => (keeps_ite (keeps_timerCount _ _ h1) h1)))

end Sys2Proof.Machine
end

