-- ==== Sys2Proof/Laws/KeepsGalLink.lean ====
section
/-! SUPPORT. The operations of Machine/GalLink.lean keep what every command keeps. -/

namespace Sys2Proof.Machine

open Sys2Proof

theorem keeps_onGal {s0 : State} (f : Sys2Proof.Machine.Gal → Sys2Proof.Machine.Gal) {s : State} (h0 : Keeps s0 s) :
    Keeps s0 (onGal f s) := by
  unfold onGal
  exact (keeps_mk h0 rfl rfl rfl rfl rfl rfl rfl rfl rfl)

theorem keeps_setPort {s0 : State} (n : Nat) (p : Sys2Proof.Machine.GalPort) {s : State} (h0 : Keeps s0 s) :
    Keeps s0 (setPort n p s) := by
  unfold setPort
  exact (keeps_onGal _ h0)

theorem keeps_galSend {s0 : State} (n : Nat) (da : List Sys2Proof.Byte) (sa : List Sys2Proof.Byte) (payload : List
    Sys2Proof.Byte) (good : Bool) {s : State} (h0 : Keeps s0 s) :
    Keeps s0 (galSend n da sa payload good s) := by
  unfold galSend
  exact (keeps_setPort _ _ h0)

theorem keeps_portsDown {s0 : State} {s : State} (h0 : Keeps s0 s) :
    Keeps s0 (portsDown s) := by
  unfold portsDown
  exact (keeps_forEach h0 (fun _ _ h1 => (keeps_setReg _ _ (keeps_setRb _ _ _ (keeps_setRb _ _ _ (keeps_setPort _ _
    h1))))))

theorem keeps_galForget {s0 : State} {s : State} (h0 : Keeps s0 s) :
    Keeps s0 (galForget s) := by
  unfold galForget
  exact (keeps_setRb _ _ _ (keeps_setReg _ _ (keeps_setRb _ _ _ (keeps_setRb _ _ _ (keeps_setRf _ _ _ (keeps_setRf _ _
    _ (keeps_onGal _ (keeps_portsDown h0))))))))

theorem keeps_galStart {s0 : State} {s : State} (h0 : Keeps s0 s) :
    Keeps s0 (galStart s) := by
  unfold galStart
  exact (keeps_ite (keeps_mk (keeps_setRf _ _ _ (keeps_setRf _ _ _ (keeps_setRf _ _ _ (keeps_onGal _ (keeps_galForget
    (keeps_setRb _ _ _ h0)))))) rfl rfl rfl rfl rfl rfl rfl rfl rfl) (keeps_setRf _ _ _ (keeps_setRf _ _ _
    (keeps_setRf _ _ _ (keeps_setRf _ _ _ (keeps_onGal _ (keeps_galForget (keeps_setRb _ _ _ h0))))))))

theorem keeps_galEnableWrite {s0 : State} (on : Bool) {s : State} (h0 : Keeps s0 s) :
    Keeps s0 (galEnableWrite on s) := by
  unfold galEnableWrite
  exact (keeps_ite h0 (keeps_ite (keeps_galStart h0) (keeps_galForget (keeps_setRb _ _ _ h0))))

theorem keeps_linkSend {s0 : State} (n : Nat) (wrap : Bool) {s : State} (h0 : Keeps s0 s) :
    Keeps s0 (linkSend n wrap s) := by
  unfold linkSend
  exact (keeps_setPort _ _ (keeps_galSend _ _ _ _ _ h0))

theorem keeps_showDelay {s0 : State} (n : Nat) {s : State} (h0 : Keeps s0 s) :
    Keeps s0 (showDelay n s) := by
  unfold showDelay
  exact (keeps_ite h0 (keeps_setReg _ _ h0))

theorem keeps_linkCheck {s0 : State} (n : Nat) (closure : Bool) {s : State} (h0 : Keeps s0 s) :
    Keeps s0 (linkCheck n closure s) := by
  unfold linkCheck
  exact (keeps_ite h0 (keeps_ite (keeps_setRb _ _ _ (keeps_setRb _ _ _ h0)) (keeps_ite h0 (keeps_ite (keeps_setRb _ _
    _ h0) (keeps_setRb _ _ _ (keeps_setRb _ _ _ h0))))))

theorem keeps_linkReceive {s0 : State} (n : Nat) (m : Nat) (p : List Sys2Proof.Byte) (good : Bool) {s : State} (h0 :
    Keeps s0 s) :
    Keeps s0 (linkReceive n m p good s) := by
  unfold linkReceive
  exact (keeps_ite h0 (keeps_linkCheck _ _ (keeps_ite (keeps_onGal _ (keeps_showDelay _ (keeps_setPort _ _ h0)))
    (keeps_showDelay _ (keeps_setPort _ _ h0)))))

theorem keeps_glinkDrop {s0 : State} (n : Nat) {s : State} (h0 : Keeps s0 s) :
    Keeps s0 (glinkDrop n s) := by
  unfold glinkDrop
  exact (keeps_ite h0 (keeps_ite (keeps_linkSend _ _ (keeps_raise _ (keeps_setPort _ _ (keeps_setRb _ _ _ h0))))
    (keeps_raise _ (keeps_setPort _ _ (keeps_setRb _ _ _ h0)))))

theorem keeps_glinkLost {s0 : State} (n : Nat) {s : State} (h0 : Keeps s0 s) :
    Keeps s0 (glinkLost n s) := by
  unfold glinkLost
  exact (keeps_ite (keeps_glinkDrop _ h0) h0)

theorem keeps_trainInvalid {s0 : State} (n : Nat) (j : Nat) {s : State} (h0 : Keeps s0 s) :
    Keeps s0 (trainInvalid n j s) := by
  unfold trainInvalid
  exact (keeps_ite (keeps_glinkDrop _ h0) (keeps_setPort _ _ h0))

theorem keeps_phyChange {s0 : State} (n : Nat) (up : Bool) (fdx : Bool) (speed : Nat) {s : State} (h0 : Keeps s0 s) :
    Keeps s0 (phyChange n up fdx speed s) := by
  unfold phyChange
  exact (keeps_ite (keeps_setRf _ _ _ (keeps_setRb _ _ _ (keeps_setRb _ _ _ h0))) (keeps_setRb _ _ _ (keeps_setPort _
    _ (keeps_glinkDrop _ (keeps_setRf _ _ _ (keeps_setRb _ _ _ (keeps_setRb _ _ _ h0)))))))

theorem keeps_takeParams {s0 : State} (x : Nat × Nat × Nat) {s : State} (h0 : Keeps s0 s) :
    Keeps s0 (takeParams x s) := by
  unfold takeParams
  exact (keeps_ite (keeps_setRf _ _ _ (keeps_setRf _ _ _ (keeps_setRf _ _ _ h0))) (keeps_onGal _ (keeps_setRb _ _ _
    (keeps_setRf _ _ _ (keeps_setRf _ _ _ (keeps_setRf _ _ _ h0))))))

theorem keeps_ringRestore {s0 : State} {s : State} (h0 : Keeps s0 s) :
    Keeps s0 (ringRestore s) := by
  unfold ringRestore
  exact (keeps_onGal _ (keeps_setRf _ _ _ (keeps_forEach (keeps_setRb _ _ _ (keeps_setRb _ _ _ h0)) (fun _ _ h1 =>
    (keeps_ite (keeps_setRb _ _ _ (keeps_setRb _ _ _ h1)) (keeps_ite (keeps_setRb _ _ _ (keeps_setRb _ _ _ h1))
    h1))))))

theorem keeps_enterWrap {s0 : State} {s : State} (h0 : Keeps s0 s) :
    Keeps s0 (enterWrap s) := by
  unfold enterWrap
  exact (keeps_setRb _ _ _ (keeps_setRb _ _ _ (keeps_setRb _ _ _ (keeps_onGal _ h0))))

theorem keeps_roleBoundary {s0 : State} {s : State} (h0 : Keeps s0 s) :
    Keeps s0 (roleBoundary s) := by
  unfold roleBoundary
  exact (keeps_ite (keeps_setRf _ _ _ (keeps_setRf _ _ _ h0)) (keeps_ite (keeps_onGal _ (keeps_setRf _ _ _
    (keeps_setRf _ _ _ h0))) (keeps_ite (keeps_onGal _ (keeps_setRf _ _ _ (keeps_setRf _ _ _ h0))) (keeps_ite
    (keeps_onGal _ (keeps_setRf _ _ _ (keeps_setRf _ _ _ h0))) (keeps_setRf _ _ _ h0)))))

theorem keeps_galBoundary {s0 : State} {s : State} (h0 : Keeps s0 s) :
    Keeps s0 (galBoundary s) := by
  unfold galBoundary
  exact (keeps_ite h0 (keeps_ite (keeps_forEach (keeps_setRf _ _ _ (by
      try extract_lets
      split
      exact (keeps_ite (keeps_onGal _ (keeps_ite (keeps_takeParams _ (keeps_roleBoundary (keeps_ite (keeps_enterWrap
        (keeps_ite (keeps_ringRestore (keeps_forEach h0 (fun _ _ h1 => (keeps_glinkLost _ (keeps_setPort _ _ h1)))))
        (keeps_forEach h0 (fun _ _ h2 => (keeps_glinkLost _ (keeps_setPort _ _ h2)))))) (keeps_ite (keeps_ringRestore
        (keeps_forEach h0 (fun _ _ h3 => (keeps_glinkLost _ (keeps_setPort _ _ h3))))) (keeps_forEach h0 (fun _ _ h4
        => (keeps_glinkLost _ (keeps_setPort _ _ h4)))))))) (by
          try extract_lets
          split
          exact (keeps_takeParams _ (keeps_onGal _ (keeps_roleBoundary (keeps_ite (keeps_enterWrap (keeps_ite
            (keeps_ringRestore (keeps_forEach h0 (fun _ _ h5 => (keeps_glinkLost _ (keeps_setPort _ _ h5)))))
            (keeps_forEach h0 (fun _ _ h6 => (keeps_glinkLost _ (keeps_setPort _ _ h6)))))) (keeps_ite
            (keeps_ringRestore (keeps_forEach h0 (fun _ _ h7 => (keeps_glinkLost _ (keeps_setPort _ _ h7)))))
            (keeps_forEach h0 (fun _ _ h8 => (keeps_glinkLost _ (keeps_setPort _ _ h8)))))))))
          exact (keeps_roleBoundary (keeps_ite (keeps_enterWrap (keeps_ite (keeps_ringRestore (keeps_forEach h0 (fun _
            _ h9 => (keeps_glinkLost _ (keeps_setPort _ _ h9))))) (keeps_forEach h0 (fun _ _ h10 => (keeps_glinkLost _
            (keeps_setPort _ _ h10)))))) (keeps_ite (keeps_ringRestore (keeps_forEach h0 (fun _ _ h11 =>
            (keeps_glinkLost _ (keeps_setPort _ _ h11))))) (keeps_forEach h0 (fun _ _ h12 => (keeps_glinkLost _
            (keeps_setPort _ _ h12)))))))
        ))) (keeps_ite (keeps_takeParams _ (keeps_roleBoundary (keeps_ite (keeps_enterWrap (keeps_ite
        (keeps_ringRestore (keeps_forEach h0 (fun _ _ h13 => (keeps_glinkLost _ (keeps_setPort _ _ h13)))))
        (keeps_forEach h0 (fun _ _ h14 => (keeps_glinkLost _ (keeps_setPort _ _ h14)))))) (keeps_ite
        (keeps_ringRestore (keeps_forEach h0 (fun _ _ h15 => (keeps_glinkLost _ (keeps_setPort _ _ h15)))))
        (keeps_forEach h0 (fun _ _ h16 => (keeps_glinkLost _ (keeps_setPort _ _ h16)))))))) (by
          try extract_lets
          split
          exact (keeps_takeParams _ (keeps_onGal _ (keeps_roleBoundary (keeps_ite (keeps_enterWrap (keeps_ite
            (keeps_ringRestore (keeps_forEach h0 (fun _ _ h17 => (keeps_glinkLost _ (keeps_setPort _ _ h17)))))
            (keeps_forEach h0 (fun _ _ h18 => (keeps_glinkLost _ (keeps_setPort _ _ h18)))))) (keeps_ite
            (keeps_ringRestore (keeps_forEach h0 (fun _ _ h19 => (keeps_glinkLost _ (keeps_setPort _ _ h19)))))
            (keeps_forEach h0 (fun _ _ h20 => (keeps_glinkLost _ (keeps_setPort _ _ h20)))))))))
          exact (keeps_roleBoundary (keeps_ite (keeps_enterWrap (keeps_ite (keeps_ringRestore (keeps_forEach h0 (fun _
            _ h21 => (keeps_glinkLost _ (keeps_setPort _ _ h21))))) (keeps_forEach h0 (fun _ _ h22 => (keeps_glinkLost
            _ (keeps_setPort _ _ h22)))))) (keeps_ite (keeps_ringRestore (keeps_forEach h0 (fun _ _ h23 =>
            (keeps_glinkLost _ (keeps_setPort _ _ h23))))) (keeps_forEach h0 (fun _ _ h24 => (keeps_glinkLost _
            (keeps_setPort _ _ h24)))))))
        )))
      exact (keeps_ite (keeps_takeParams _ (keeps_roleBoundary (keeps_ite (keeps_enterWrap (keeps_ite
        (keeps_ringRestore (keeps_forEach h0 (fun _ _ h25 => (keeps_glinkLost _ (keeps_setPort _ _ h25)))))
        (keeps_forEach h0 (fun _ _ h26 => (keeps_glinkLost _ (keeps_setPort _ _ h26)))))) (keeps_ite
        (keeps_ringRestore (keeps_forEach h0 (fun _ _ h27 => (keeps_glinkLost _ (keeps_setPort _ _ h27)))))
        (keeps_forEach h0 (fun _ _ h28 => (keeps_glinkLost _ (keeps_setPort _ _ h28)))))))) (by
          try extract_lets
          split
          exact (keeps_takeParams _ (keeps_onGal _ (keeps_roleBoundary (keeps_ite (keeps_enterWrap (keeps_ite
            (keeps_ringRestore (keeps_forEach h0 (fun _ _ h29 => (keeps_glinkLost _ (keeps_setPort _ _ h29)))))
            (keeps_forEach h0 (fun _ _ h30 => (keeps_glinkLost _ (keeps_setPort _ _ h30)))))) (keeps_ite
            (keeps_ringRestore (keeps_forEach h0 (fun _ _ h31 => (keeps_glinkLost _ (keeps_setPort _ _ h31)))))
            (keeps_forEach h0 (fun _ _ h32 => (keeps_glinkLost _ (keeps_setPort _ _ h32)))))))))
          exact (keeps_roleBoundary (keeps_ite (keeps_enterWrap (keeps_ite (keeps_ringRestore (keeps_forEach h0 (fun _
            _ h33 => (keeps_glinkLost _ (keeps_setPort _ _ h33))))) (keeps_forEach h0 (fun _ _ h34 => (keeps_glinkLost
            _ (keeps_setPort _ _ h34)))))) (keeps_ite (keeps_ringRestore (keeps_forEach h0 (fun _ _ h35 =>
            (keeps_glinkLost _ (keeps_setPort _ _ h35))))) (keeps_forEach h0 (fun _ _ h36 => (keeps_glinkLost _
            (keeps_setPort _ _ h36)))))))
        ))
    )) (fun _ _ h37 => (keeps_ite (keeps_setPort _ _ h37) h37))) (keeps_setRf _ _ _ (by
      try extract_lets
      split
      exact (keeps_ite (keeps_onGal _ (keeps_ite (keeps_takeParams _ (keeps_roleBoundary (keeps_ite (keeps_enterWrap
        (keeps_ite (keeps_ringRestore (keeps_forEach h0 (fun _ _ h38 => (keeps_glinkLost _ (keeps_setPort _ _ h38)))))
        (keeps_forEach h0 (fun _ _ h39 => (keeps_glinkLost _ (keeps_setPort _ _ h39)))))) (keeps_ite
        (keeps_ringRestore (keeps_forEach h0 (fun _ _ h40 => (keeps_glinkLost _ (keeps_setPort _ _ h40)))))
        (keeps_forEach h0 (fun _ _ h41 => (keeps_glinkLost _ (keeps_setPort _ _ h41)))))))) (by
          try extract_lets
          split
          exact (keeps_takeParams _ (keeps_onGal _ (keeps_roleBoundary (keeps_ite (keeps_enterWrap (keeps_ite
            (keeps_ringRestore (keeps_forEach h0 (fun _ _ h42 => (keeps_glinkLost _ (keeps_setPort _ _ h42)))))
            (keeps_forEach h0 (fun _ _ h43 => (keeps_glinkLost _ (keeps_setPort _ _ h43)))))) (keeps_ite
            (keeps_ringRestore (keeps_forEach h0 (fun _ _ h44 => (keeps_glinkLost _ (keeps_setPort _ _ h44)))))
            (keeps_forEach h0 (fun _ _ h45 => (keeps_glinkLost _ (keeps_setPort _ _ h45)))))))))
          exact (keeps_roleBoundary (keeps_ite (keeps_enterWrap (keeps_ite (keeps_ringRestore (keeps_forEach h0 (fun _
            _ h46 => (keeps_glinkLost _ (keeps_setPort _ _ h46))))) (keeps_forEach h0 (fun _ _ h47 => (keeps_glinkLost
            _ (keeps_setPort _ _ h47)))))) (keeps_ite (keeps_ringRestore (keeps_forEach h0 (fun _ _ h48 =>
            (keeps_glinkLost _ (keeps_setPort _ _ h48))))) (keeps_forEach h0 (fun _ _ h49 => (keeps_glinkLost _
            (keeps_setPort _ _ h49)))))))
        ))) (keeps_ite (keeps_takeParams _ (keeps_roleBoundary (keeps_ite (keeps_enterWrap (keeps_ite
        (keeps_ringRestore (keeps_forEach h0 (fun _ _ h50 => (keeps_glinkLost _ (keeps_setPort _ _ h50)))))
        (keeps_forEach h0 (fun _ _ h51 => (keeps_glinkLost _ (keeps_setPort _ _ h51)))))) (keeps_ite
        (keeps_ringRestore (keeps_forEach h0 (fun _ _ h52 => (keeps_glinkLost _ (keeps_setPort _ _ h52)))))
        (keeps_forEach h0 (fun _ _ h53 => (keeps_glinkLost _ (keeps_setPort _ _ h53)))))))) (by
          try extract_lets
          split
          exact (keeps_takeParams _ (keeps_onGal _ (keeps_roleBoundary (keeps_ite (keeps_enterWrap (keeps_ite
            (keeps_ringRestore (keeps_forEach h0 (fun _ _ h54 => (keeps_glinkLost _ (keeps_setPort _ _ h54)))))
            (keeps_forEach h0 (fun _ _ h55 => (keeps_glinkLost _ (keeps_setPort _ _ h55)))))) (keeps_ite
            (keeps_ringRestore (keeps_forEach h0 (fun _ _ h56 => (keeps_glinkLost _ (keeps_setPort _ _ h56)))))
            (keeps_forEach h0 (fun _ _ h57 => (keeps_glinkLost _ (keeps_setPort _ _ h57)))))))))
          exact (keeps_roleBoundary (keeps_ite (keeps_enterWrap (keeps_ite (keeps_ringRestore (keeps_forEach h0 (fun _
            _ h58 => (keeps_glinkLost _ (keeps_setPort _ _ h58))))) (keeps_forEach h0 (fun _ _ h59 => (keeps_glinkLost
            _ (keeps_setPort _ _ h59)))))) (keeps_ite (keeps_ringRestore (keeps_forEach h0 (fun _ _ h60 =>
            (keeps_glinkLost _ (keeps_setPort _ _ h60))))) (keeps_forEach h0 (fun _ _ h61 => (keeps_glinkLost _
            (keeps_setPort _ _ h61)))))))
        )))
      exact (keeps_ite (keeps_takeParams _ (keeps_roleBoundary (keeps_ite (keeps_enterWrap (keeps_ite
        (keeps_ringRestore (keeps_forEach h0 (fun _ _ h62 => (keeps_glinkLost _ (keeps_setPort _ _ h62)))))
        (keeps_forEach h0 (fun _ _ h63 => (keeps_glinkLost _ (keeps_setPort _ _ h63)))))) (keeps_ite
        (keeps_ringRestore (keeps_forEach h0 (fun _ _ h64 => (keeps_glinkLost _ (keeps_setPort _ _ h64)))))
        (keeps_forEach h0 (fun _ _ h65 => (keeps_glinkLost _ (keeps_setPort _ _ h65)))))))) (by
          try extract_lets
          split
          exact (keeps_takeParams _ (keeps_onGal _ (keeps_roleBoundary (keeps_ite (keeps_enterWrap (keeps_ite
            (keeps_ringRestore (keeps_forEach h0 (fun _ _ h66 => (keeps_glinkLost _ (keeps_setPort _ _ h66)))))
            (keeps_forEach h0 (fun _ _ h67 => (keeps_glinkLost _ (keeps_setPort _ _ h67)))))) (keeps_ite
            (keeps_ringRestore (keeps_forEach h0 (fun _ _ h68 => (keeps_glinkLost _ (keeps_setPort _ _ h68)))))
            (keeps_forEach h0 (fun _ _ h69 => (keeps_glinkLost _ (keeps_setPort _ _ h69)))))))))
          exact (keeps_roleBoundary (keeps_ite (keeps_enterWrap (keeps_ite (keeps_ringRestore (keeps_forEach h0 (fun _
            _ h70 => (keeps_glinkLost _ (keeps_setPort _ _ h70))))) (keeps_forEach h0 (fun _ _ h71 => (keeps_glinkLost
            _ (keeps_setPort _ _ h71)))))) (keeps_ite (keeps_ringRestore (keeps_forEach h0 (fun _ _ h72 =>
            (keeps_glinkLost _ (keeps_setPort _ _ h72))))) (keeps_forEach h0 (fun _ _ h73 => (keeps_glinkLost _
            (keeps_setPort _ _ h73)))))))
        ))
    ))))

theorem keeps_galRestoreWrite {s0 : State} {s : State} (h0 : Keeps s0 s) :
    Keeps s0 (galRestoreWrite s) := by
  unfold galRestoreWrite
  exact (keeps_ite (keeps_onGal _ h0) h0)

theorem keeps_storedIdSet {s0 : State} (v : Nat) {s : State} (h0 : Keeps s0 s) :
    Keeps s0 (storedIdSet v s) := by
  unfold storedIdSet
  exact (keeps_ite (keeps_onGal _ (keeps_setRf _ _ _ h0)) (keeps_setRf _ _ _ h0))

theorem keeps_showMsgs {s0 : State} {s : State} (h0 : Keeps s0 s) :
    Keeps s0 (showMsgs s) := by
  unfold showMsgs
  exact (keeps_forEach (keeps_setRf _ _ _ (keeps_setRf _ _ _ h0)) (fun _ _ h1 => (keeps_setReg _ _ h1)))

theorem keeps_rxMessage {s0 : State} (m : List Sys2Proof.Byte) {s : State} (h0 : Keeps s0 s) :
    Keeps s0 (rxMessage m s) := by
  unfold rxMessage
  exact (keeps_ite (keeps_rosterEvent _ (keeps_showMsgs (keeps_onGal _ h0))) (keeps_bumpSat _ _ h0))

theorem keeps_txMessage {s0 : State} (m : List Sys2Proof.Byte) {s : State} (h0 : Keeps s0 s) :
    Keeps s0 (txMessage m s) := by
  unfold txMessage
  exact (keeps_ite (keeps_showMsgs (keeps_onGal _ h0)) (keeps_setRb _ _ _ h0))

theorem keeps_txmsgGo {s0 : State} {s : State} (h0 : Keeps s0 s) :
    Keeps s0 (txmsgGo s) := by
  unfold txmsgGo
  exact (keeps_txMessage _ h0)

theorem keeps_rxmsgPop {s0 : State} {s : State} (h0 : Keeps s0 s) :
    Keeps s0 (rxmsgPop s) := by
  unfold rxmsgPop
  exact (keeps_showMsgs (keeps_onGal _ h0))

theorem keeps_settxGo {s0 : State} {s : State} (h0 : Keeps s0 s) :
    Keeps s0 (settxGo s) := by
  unfold settxGo
  exact (keeps_ite h0 (keeps_onGal _ (keeps_setRb _ _ _ (keeps_matrixRead _ _ h0))))

theorem keeps_settxWords {s0 : State} (w n : Nat) {s : State} (h : Keeps s0 s) : Keeps s0 (settxWords w n s).2 := by
  induction n generalizing w s with
  | zero => exact h
  | succ n ih => exact ih _ (keeps_matrixRead _ _ h)

theorem keeps_settxNext {s0 : State} {s : State} (h : Keeps s0 s) : Keeps s0 (settxNext s).2 := by
  unfold settxNext
  split
  · exact h
  · refine keeps_ite1 (keeps_setRb _ _ _ (keeps_onGal _ h)) ?_
    exact keeps_onGal (fun g => { g with settx := _ }) (keeps_settxWords _ _ h)

theorem keeps_settxTake {s0 : State} (k : Nat) {s : State} (h : Keeps s0 s) : Keeps s0 (settxTake k s).2 := by
  induction k generalizing s with
  | zero => exact h
  | succ k ih =>
    unfold settxTake
    split
    · rename_i e
      exact keeps_of_eq e (keeps_settxNext h)
    · rename_i e
      exact ih (keeps_of_eq e (keeps_settxNext h))

theorem keeps_launchMessages {s0 : State} {s : State} (h0 : Keeps s0 s) :
    Keeps s0 (launchMessages s).2 := by
  unfold launchMessages
  exact (keeps_settxTake _ (keeps_showMsgs (keeps_onGal _ h0)))

theorem keeps_commitMsg {s0 : State} (dest : Nat) (slot : Nat) (c : Nat) {s : State} (h0 : Keeps s0 s) :
    Keeps s0 (commitMsg dest slot c s) := by
  unfold commitMsg
  exact (keeps_ite (keeps_commitArrives _ _ h0) h0)

theorem keeps_chainCommit {s0 : State} (slot : Nat) (dest : Nat) (c : Nat) {s : State} (h0 : Keeps s0 s) :
    Keeps s0 (chainCommit slot dest c s) := by
  unfold chainCommit
  exact (keeps_commitMsg _ _ _ (keeps_onGal _ h0))

theorem keeps_commitWrite {s0 : State} (chain : Bool) (slot : Nat) (dest : Nat) (c : Nat) {s : State} (h0 : Keeps s0
    s) :
    Keeps s0 (commitWrite chain slot dest c s) := by
  unfold commitWrite
  exact (keeps_ite (keeps_commitArrives _ _ h0) (keeps_ite (keeps_chainCommit _ _ _ h0) (keeps_cmdErr h0)))

theorem keeps_setdataWrite {s0 : State} (w : Nat) (vs : List W40) {s : State} (h : Keeps s0 s) :
    Keeps s0 (setdataWrite w vs s).2 := by
  induction vs generalizing w s with
  | nil => exact h
  | cons v r ih => exact keeps_ite1 (ih _ (keeps_matrixWrite _ _ _ h)) (keeps_matrixWrite _ _ _ h)

theorem keeps_setdataMsg {s0 : State} (dest : Nat) (slot : Nat) (word : Nat) (vs : List Sys2Proof.W40) {s : State} (h0
    : Keeps s0 s) :
    Keeps s0 (setdataMsg dest slot word vs s) := by
  unfold setdataMsg
  exact (keeps_ite h0 (keeps_ite (keeps_setRb _ _ _ h0) (keeps_ite (keeps_setdataWrite _ _ (keeps_ite (keeps_emptySlot
    _ h0) h0)) (keeps_setRb _ _ _ (keeps_setdataWrite _ _ (keeps_ite (keeps_emptySlot _ h0) h0))))))

theorem keeps_setendMsg {s0 : State} (dest : Nat) (slot : Nat) {s : State} (h0 : Keeps s0 s) :
    Keeps s0 (setendMsg dest slot s) := by
  unfold setendMsg
  exact (keeps_ite (keeps_stage _ h0) h0)

theorem keeps_assignMsg {s0 : State} (mac : List Sys2Proof.Byte) (ident : Nat) {s : State} (h0 : Keeps s0 s) :
    Keeps s0 (assignMsg mac ident s) := by
  unfold assignMsg
  exact (keeps_ite (keeps_storedIdSet _ h0) h0)

theorem keeps_identMsg {s0 : State} (pos : Nat) {s : State} (h0 : Keeps s0 s) :
    Keeps s0 (identMsg pos s) := by
  unfold identMsg
  exact (keeps_ite h0 (keeps_txMessage _ h0))

theorem keeps_headMessage {s0 : State} (m : List Sys2Proof.Byte) {s : State} (h0 : Keeps s0 s) :
    Keeps s0 (headMessage m s) := by
  unfold headMessage
  exact (by
      try extract_lets
      split
      exact (keeps_commitMsg _ _ _ h0)
      exact (keeps_setdataMsg _ _ _ _ h0)
      exact (keeps_setendMsg _ _ h0)
      exact (keeps_assignMsg _ _ h0)
      exact (keeps_identMsg _ h0)
      exact (keeps_ite (keeps_rxMessage _ h0) h0)
      exact h0
    )

theorem keeps_upMessage {s0 : State} (m : List Sys2Proof.Byte) {s : State} (h0 : Keeps s0 s) :
    Keeps s0 (upMessage m s) := by
  unfold upMessage
  exact (keeps_ite h0 (keeps_rxMessage _ h0))

theorem keeps_mdioStart {s0 : State} {s : State} (h0 : Keeps s0 s) :
    Keeps s0 (mdioStart s) := by
  unfold mdioStart
  exact (keeps_ite h0 (keeps_onGal _ (keeps_setRb _ _ _ h0)))

theorem keeps_mdioGo {s0 : State} (write : Bool) (phy : Nat) (reg : Nat) (data : Nat) {s : State} (h0 : Keeps s0 s) :
    Keeps s0 (mdioGo write phy reg data s) := by
  unfold mdioGo
  exact (keeps_mdioStart (keeps_setRf _ _ _ (keeps_setRf _ _ _ (keeps_setRf _ _ _ (keeps_setRb _ _ _ h0)))))

theorem keeps_mdioDone {s0 : State} (data : Nat) {s : State} (h0 : Keeps s0 s) :
    Keeps s0 (mdioDone data s) := by
  unfold mdioDone
  exact (by
      try extract_lets
      split
      exact h0
      exact (keeps_ite (keeps_onGal _ (keeps_setRb _ _ _ h0)) (keeps_setRf _ _ _ (keeps_onGal _ (keeps_setRb _ _ _
        h0))))
    )

end Sys2Proof.Machine
end

