-- ==== Sys2Proof/Laws/KeepsGalTrain.lean ====
section
/-! SUPPORT. The operations of Machine/GalTrain.lean keep what every command keeps. -/

namespace Sys2Proof.Machine

open Sys2Proof

theorem keeps_clashes {s0 : State} (n : Nat) {s : State} (h : Keeps s0 s) : Keeps s0 (clashes n s) := by
  induction n generalizing s with
  | zero => exact h
  | succ n ih => exact ih (keeps_raise _ (keeps_bumpSat _ _ (keeps_setRb _ _ _ h)))

theorem keeps_talkSnapshot {s0 : State} {s : State} (h0 : Keeps s0 s) :
    Keeps s0 (talkSnapshot s) := by
  unfold talkSnapshot
  exact (keeps_ite h0 (keeps_onGal _ h0))

theorem keeps_setTrain {s0 : State} (j : Nat) (t : Sys2Proof.Machine.GalTrain) {s : State} (h0 : Keeps s0 s) :
    Keeps s0 (setTrain j t s) := by
  unfold setTrain
  exact (keeps_onGal _ h0)

theorem keeps_readSlots {s0 : State} (sec j : Nat) (p : List Byte) (l : List Nat) {s : State} (h : Keeps s0 s) :
    Keeps s0 (readSlots sec j p l s) := by
  induction l generalizing s with
  | nil => exact h
  | cons i r ih => exact ih (keeps_ite (keeps_setTrain _ _ h) h)

theorem keeps_sectionCame {s0 : State} (far : Bool) (valid : Bool) (sec : Nat) (j : Nat) {s : State} (h0 : Keeps s0 s)
    :
    Keeps s0 (sectionCame far valid sec j s) := by
  unfold sectionCame
  exact (keeps_setTrain _ _ h0)

theorem keeps_readSection {s0 : State} (far : Bool) (sec : Nat) (j : Nat) (p : List Sys2Proof.Byte) {s : State} (h0 :
    Keeps s0 s) :
    Keeps s0 (readSection far sec j p s) := by
  unfold readSection
  exact (keeps_sectionCame _ _ _ _ (keeps_readSlots _ _ _ _ h0))

theorem keeps_countLost {s0 : State} (j : Nat) {s : State} (h0 : Keeps s0 s) :
    Keeps s0 (countLost j s) := by
  unfold countLost
  exact (keeps_ite h0 (keeps_raise _ (keeps_bumpWrap _ (keeps_setTrain _ _ h0))))

theorem keeps_judge {s0 : State} (t : Nat) (j : Nat) {s : State} (h0 : Keeps s0 s) :
    Keeps s0 (judge t j s) := by
  unfold judge
  exact (keeps_ite h0 (keeps_forEach (keeps_ite h0 (keeps_countLost _ (keeps_setRb _ _ _ (keeps_setTrain _ _ h0))))
    (fun _ _ h1 => (keeps_ite h1 (keeps_countLost _ (keeps_setRb _ _ _ (keeps_setTrain _ _ h1)))))))

theorem keeps_blockLateNow {s0 : State} {s : State} (h0 : Keeps s0 s) :
    Keeps s0 (blockLateNow s) := by
  unfold blockLateNow
  exact (keeps_ite h0 (keeps_judge _ _ h0))

theorem keeps_listenChannel {s0 : State} (bs : Sys2Proof.Machine.Tab (List Sys2Proof.W40)) (lost : Nat → Bool) (c :
    Nat) {s : State} (h0 : Keeps s0 s) :
    Keeps s0 (listenChannel bs lost c s) := by
  unfold listenChannel
  exact (keeps_ite (keeps_onGal _ (keeps_ite h0 (keeps_mk h0 rfl rfl rfl rfl rfl rfl rfl rfl rfl))) (keeps_mk
    (keeps_ite h0 (keeps_onGal _ h0)) rfl rfl rfl rfl rfl rfl rfl rfl rfl))

theorem keeps_listenAudio {s0 : State} (bs : Sys2Proof.Machine.Tab (List Sys2Proof.W40)) (lost : Nat → Bool) {s :
    State} (h0 : Keeps s0 s) :
    Keeps s0 (listenAudio bs lost s) := by
  unfold listenAudio
  exact (keeps_forEach (keeps_mk h0 rfl rfl rfl rfl rfl rfl rfl rfl rfl) (fun _ _ h1 => (keeps_listenChannel _ _ _
    h1)))

theorem keeps_listenGood {s0 : State} (j : Nat) {s : State} (h0 : Keeps s0 s) :
    Keeps s0 (listenGood j s) := by
  unfold listenGood
  exact (keeps_onGal _ (keeps_listenAudio _ _ h0))

theorem keeps_judgeRelay {s0 : State} (j : Nat) {s : State} (h0 : Keeps s0 s) :
    Keeps s0 (judgeRelay j s) := by
  unfold judgeRelay
  exact (keeps_ite h0 (keeps_countLost _ (keeps_setRb _ _ _ h0)))

theorem keeps_listenLost {s0 : State} {s : State} (h0 : Keeps s0 s) :
    Keeps s0 (listenLost s) := by
  unfold listenLost
  exact (keeps_listenAudio _ _ h0)

theorem keeps_listenLight {s0 : State} (j : Nat) {s : State} (h0 : Keeps s0 s) :
    Keeps s0 (listenLight j s) := by
  unfold listenLight
  exact (keeps_ite h0 (keeps_forEach h0 (fun _ _ h1 => (keeps_onGal _ h1))))

theorem keeps_listenBoundary {s0 : State} {s : State} (h0 : Keeps s0 s) :
    Keeps s0 (listenBoundary s) := by
  unfold listenBoundary
  exact (keeps_ite h0 (keeps_ite h0 (keeps_onGal _ (keeps_listenLight _ (keeps_ite (keeps_listenGood _
    (keeps_judgeRelay _ (keeps_judge _ _ h0))) (keeps_listenLost (keeps_countLost _ (keeps_judgeRelay _ (keeps_judge _
    _ h0)))))))))

theorem keeps_relaysLate {s0 : State} {s : State} (h0 : Keeps s0 s) :
    Keeps s0 (relaysLate s) := by
  unfold relaysLate
  exact (keeps_ite (keeps_setRb _ _ _ h0) h0)

theorem keeps_sectionSend {s0 : State} (n : Nat) (sec : Nat) (sa : List Sys2Proof.Byte) (p : List Sys2Proof.Byte)
    (good : Bool) {s : State} (h0 : Keeps s0 s) :
    Keeps s0 (sectionSend n sec sa p good s) := by
  unfold sectionSend
  exact (keeps_ite h0 (keeps_ite (keeps_setPort _ _ (keeps_galSend _ _ _ _ _ h0)) (keeps_galSend _ _ _ _ _ h0)))

theorem keeps_launchArm {s0 : State} (far : Bool) (msgs : List (List Sys2Proof.Byte)) {s : State} (h0 : Keeps s0 s) :
    Keeps s0 (launchArm far msgs s) := by
  unfold launchArm
  exact (keeps_forEach h0 (fun _ _ h1 => (keeps_sectionSend _ _ _ _ _ h1)))

theorem keeps_trainLaunch {s0 : State} {s : State} (h0 : Keeps s0 s) :
    Keeps s0 (trainLaunch s) := by
  unfold trainLaunch
  exact (keeps_ite h0 (keeps_onGal _ (keeps_tick1 (keeps_ite (keeps_launchArm _ _ (keeps_launchArm _ _
    (keeps_relaysLate (keeps_launchMessages h0)))) (keeps_launchArm _ _ (keeps_relaysLate (keeps_launchMessages
    h0)))))))

theorem keeps_chainBoundary {s0 : State} {s : State} (h0 : Keeps s0 s) :
    Keeps s0 (chainBoundary s) := by
  unfold chainBoundary
  exact (keeps_ite h0 (keeps_trainLaunch (keeps_listenBoundary h0)))

theorem keeps_enterFar {s0 : State} {s : State} (h0 : Keeps s0 s) :
    Keeps s0 (enterFar s) := by
  unfold enterFar
  exact (keeps_setRb _ _ _ (keeps_setPort _ _ (keeps_ite (keeps_setRb _ _ _ (keeps_setRb _ _ _ h0)) h0)))

theorem keeps_headOutbound {s0 : State} (n : Nat) (m : Nat) (p : List Sys2Proof.Byte) {s : State} (h0 : Keeps s0 s) :
    Keeps s0 (headOutbound n m p s).2 := by
  unfold headOutbound
  exact (keeps_forEach (keeps_tick1 (keeps_ite (keeps_refSample _ _ (keeps_ite (keeps_raise _ (keeps_onGal _
    (keeps_setRb _ _ _ (keeps_setRf _ _ _ (keeps_setRb _ _ _ (keeps_setRb _ _ _ (keeps_ite (keeps_enterFar
    (keeps_setRf _ _ _ (keeps_onGal _ (keeps_ite h0 (keeps_onGal _ (keeps_mk h0 rfl rfl rfl rfl rfl rfl rfl rfl
    rfl)))))) (keeps_setRf _ _ _ (keeps_onGal _ (keeps_ite h0 (keeps_onGal _ (keeps_mk h0 rfl rfl rfl rfl rfl rfl rfl
    rfl rfl)))))))))))) (keeps_setRf _ _ _ (keeps_setRb _ _ _ (keeps_setRb _ _ _ (keeps_ite (keeps_enterFar
    (keeps_setRf _ _ _ (keeps_onGal _ (keeps_ite h0 (keeps_onGal _ (keeps_mk h0 rfl rfl rfl rfl rfl rfl rfl rfl
    rfl)))))) (keeps_setRf _ _ _ (keeps_onGal _ (keeps_ite h0 (keeps_onGal _ (keeps_mk h0 rfl rfl rfl rfl rfl rfl rfl
    rfl rfl))))))))))) (keeps_ite (keeps_raise _ (keeps_onGal _ (keeps_setRb _ _ _ (keeps_setRf _ _ _ (keeps_setRb _ _
    _ (keeps_setRb _ _ _ (keeps_ite (keeps_enterFar (keeps_setRf _ _ _ (keeps_onGal _ (keeps_ite h0 (keeps_onGal _
    (keeps_mk h0 rfl rfl rfl rfl rfl rfl rfl rfl rfl)))))) (keeps_setRf _ _ _ (keeps_onGal _ (keeps_ite h0
    (keeps_onGal _ (keeps_mk h0 rfl rfl rfl rfl rfl rfl rfl rfl rfl)))))))))))) (keeps_setRf _ _ _ (keeps_setRb _ _ _
    (keeps_setRb _ _ _ (keeps_ite (keeps_enterFar (keeps_setRf _ _ _ (keeps_onGal _ (keeps_ite h0 (keeps_onGal _
    (keeps_mk h0 rfl rfl rfl rfl rfl rfl rfl rfl rfl)))))) (keeps_setRf _ _ _ (keeps_onGal _ (keeps_ite h0
    (keeps_onGal _ (keeps_mk h0 rfl rfl rfl rfl rfl rfl rfl rfl rfl)))))))))))) (fun _ _ h1 => (keeps_headMessage _
    h1)))

theorem keeps_upPut {s0 : State} (i : Nat) (p : List Byte × State) (h : Keeps s0 p.2) : Keeps s0 (upPut i p).2 := by
  unfold upPut
  split
  · exact h
  · exact keeps_ite1 (keeps_showMsgs (keeps_onGal _ h)) h

theorem keeps_statusWrite {s0 : State} (p : List Byte) {s : State} (h : Keeps s0 s) : Keeps s0 (statusWrite p s).2 :=
  keeps_upPut _ _ (keeps_upPut _ _ h)

theorem keeps_outbound {s0 : State} (n : Nat) (m : Nat) (sec : Nat) (j : Nat) (p : List Sys2Proof.Byte) {s : State}
    (h0 : Keeps s0 s) :
    Keeps s0 (outbound n m sec j p s).2 := by
  unfold outbound
  exact (keeps_ite1 h0 (keeps_ite1 (keeps_headOutbound _ _ _ h0) (keeps_clashes _ h0)))

theorem keeps_inbound {s0 : State} (sec : Nat) (j : Nat) (p : List Sys2Proof.Byte) {s : State} (h0 : Keeps s0 s) :
    Keeps s0 (inbound sec j p s).2 := by
  unfold inbound
  exact (keeps_ite1 (keeps_statusWrite _ (keeps_readSection _ _ _ _ h0)) (keeps_readSection _ _ _ _ h0))

theorem keeps_foreignTrain {s0 : State} (j : Nat) {s : State} (h0 : Keeps s0 s) :
    Keeps s0 (foreignTrain j s) := by
  unfold foreignTrain
  exact (keeps_raise _ (keeps_setTrain _ _ (keeps_setRb _ _ _ h0)))

theorem keeps_memberSection {s0 : State} (n : Nat) (m : Nat) (sec : Nat) (j : Nat) (far : Bool) (ret : Bool) (valid :
    Bool) (good : Bool) (sa : List Sys2Proof.Byte) (p : List Sys2Proof.Byte) {s : State} (h0 : Keeps s0 s) :
    Keeps s0 (memberSection n m sec j far ret valid good sa p s) := by
  unfold memberSection
  exact (keeps_ite h0 (keeps_ite (keeps_sectionSend _ _ _ _ _ (keeps_ite (keeps_sectionCame _ _ _ _ h0) h0))
    (keeps_ite (keeps_sectionSend _ _ _ _ _ (keeps_inbound _ _ _ h0)) (keeps_ite (keeps_sectionSend _ _ _ _ _
    (keeps_inbound _ _ _ (keeps_outbound _ _ _ _ _ (keeps_ite (keeps_foreignTrain _ h0) h0)))) (keeps_sectionSend _ _
    _ _ _ (keeps_outbound _ _ _ _ _ (keeps_ite (keeps_foreignTrain _ h0) h0)))))))

theorem keeps_relaySection {s0 : State} (far : Bool) (sec : Nat) (j : Nat) (p : List Sys2Proof.Byte) {s : State} (h0 :
    Keeps s0 s) :
    Keeps s0 (relaySection far sec j p s) := by
  unfold relaySection
  exact (keeps_ite h0 (keeps_ite (keeps_setRb _ _ _ h0) (keeps_ite (keeps_setRb _ _ _ h0) (keeps_onGal _ h0))))

theorem keeps_measureLag {s0 : State} {s : State} (h0 : Keeps s0 s) :
    Keeps s0 (measureLag s) := by
  unfold measureLag
  exact (by
      try extract_lets
      split
      exact (keeps_ite (keeps_setRf _ _ _ h0) h0)
      exact h0
    )

theorem keeps_headStatus {s0 : State} (far : Bool) (j : Nat) (p : List Sys2Proof.Byte) {s : State} (h0 : Keeps s0 s) :
    Keeps s0 (headStatus far j p s) := by
  unfold headStatus
  exact (keeps_ite (keeps_upMessage _ (keeps_upMessage _ (keeps_ite (keeps_setRf _ _ _ (keeps_forEach h0 (fun _ _ h1
    => (keeps_ite h1 (keeps_setRf _ _ _ h1))))) (keeps_setRf _ _ _ (keeps_forEach h0 (fun _ _ h2 => (keeps_ite h2
    (keeps_setRf _ _ _ h2)))))))) (keeps_measureLag (keeps_onGal _ (keeps_upMessage _ (keeps_upMessage _ (keeps_ite
    (keeps_setRf _ _ _ (keeps_forEach h0 (fun _ _ h3 => (keeps_ite h3 (keeps_setRf _ _ _ h3))))) (keeps_setRf _ _ _
    (keeps_forEach h0 (fun _ _ h4 => (keeps_ite h4 (keeps_setRf _ _ _ h4)))))))))))

theorem keeps_headReturn {s0 : State} (sec : Nat) (j : Nat) (far : Bool) (valid : Bool) (p : List Sys2Proof.Byte) {s :
    State} (h0 : Keeps s0 s) :
    Keeps s0 (headReturn sec j far valid p s) := by
  unfold headReturn
  exact (keeps_ite (keeps_sectionCame _ _ _ _ h0) (keeps_ite (keeps_headStatus _ _ _ (keeps_ite (keeps_relaySection _
    _ _ _ (keeps_readSection _ _ _ _ h0)) (keeps_readSection _ _ _ _ h0))) (keeps_ite (keeps_relaySection _ _ _ _
    (keeps_readSection _ _ _ _ h0)) (keeps_readSection _ _ _ _ h0))))

theorem keeps_countFcs {s0 : State} (n : Nat) (fcs : Nat) {s : State} (h0 : Keeps s0 s) :
    Keeps s0 (countFcs n fcs s) := by
  unfold countFcs
  exact (keeps_ite h0 (keeps_ite (keeps_bumpSat _ _ h0) (keeps_raise _ (keeps_bumpSat _ _ h0))))

theorem keeps_headConflict {s0 : State} {s : State} (h0 : Keeps s0 s) :
    Keeps s0 (headConflict s) := by
  unfold headConflict
  exact (keeps_raise _ (keeps_onGal _ (keeps_setRf _ _ _ (keeps_setRf _ _ _ (keeps_setRf _ _ _ (keeps_setRb _ _ _
    h0))))))

theorem keeps_sectionArrives {s0 : State} (n : Nat) (m : Nat) (sa : List Sys2Proof.Byte) (p : List Sys2Proof.Byte)
    (fcs : Nat) {s : State} (h0 : Keeps s0 s) :
    Keeps s0 (sectionArrives n m sa p fcs s) := by
  unfold sectionArrives
  exact (keeps_ite h0 (keeps_ite (keeps_ite (keeps_headReturn _ _ _ _ _ (keeps_ite (keeps_ite (keeps_setPort _ _
    (keeps_ite (keeps_onGal _ (keeps_ite (keeps_headConflict (keeps_countFcs _ _ h0)) (keeps_countFcs _ _ h0)))
    (keeps_ite (keeps_headConflict (keeps_countFcs _ _ h0)) (keeps_countFcs _ _ h0)))) (keeps_ite (keeps_onGal _
    (keeps_ite (keeps_headConflict (keeps_countFcs _ _ h0)) (keeps_countFcs _ _ h0))) (keeps_ite (keeps_headConflict
    (keeps_countFcs _ _ h0)) (keeps_countFcs _ _ h0)))) (keeps_trainInvalid _ _ (keeps_ite (keeps_setPort _ _
    (keeps_ite (keeps_onGal _ (keeps_ite (keeps_headConflict (keeps_countFcs _ _ h0)) (keeps_countFcs _ _ h0)))
    (keeps_ite (keeps_headConflict (keeps_countFcs _ _ h0)) (keeps_countFcs _ _ h0)))) (keeps_ite (keeps_onGal _
    (keeps_ite (keeps_headConflict (keeps_countFcs _ _ h0)) (keeps_countFcs _ _ h0))) (keeps_ite (keeps_headConflict
    (keeps_countFcs _ _ h0)) (keeps_countFcs _ _ h0))))))) (keeps_ite (keeps_ite (keeps_setPort _ _ (keeps_ite
    (keeps_onGal _ (keeps_ite (keeps_headConflict (keeps_countFcs _ _ h0)) (keeps_countFcs _ _ h0))) (keeps_ite
    (keeps_headConflict (keeps_countFcs _ _ h0)) (keeps_countFcs _ _ h0)))) (keeps_ite (keeps_onGal _ (keeps_ite
    (keeps_headConflict (keeps_countFcs _ _ h0)) (keeps_countFcs _ _ h0))) (keeps_ite (keeps_headConflict
    (keeps_countFcs _ _ h0)) (keeps_countFcs _ _ h0)))) (keeps_trainInvalid _ _ (keeps_ite (keeps_setPort _ _
    (keeps_ite (keeps_onGal _ (keeps_ite (keeps_headConflict (keeps_countFcs _ _ h0)) (keeps_countFcs _ _ h0)))
    (keeps_ite (keeps_headConflict (keeps_countFcs _ _ h0)) (keeps_countFcs _ _ h0)))) (keeps_ite (keeps_onGal _
    (keeps_ite (keeps_headConflict (keeps_countFcs _ _ h0)) (keeps_countFcs _ _ h0))) (keeps_ite (keeps_headConflict
    (keeps_countFcs _ _ h0)) (keeps_countFcs _ _ h0))))))) (keeps_memberSection _ _ _ _ _ _ _ _ _ _ (keeps_ite
    (keeps_ite (keeps_setPort _ _ (keeps_ite (keeps_onGal _ (keeps_ite (keeps_headConflict (keeps_countFcs _ _ h0))
    (keeps_countFcs _ _ h0))) (keeps_ite (keeps_headConflict (keeps_countFcs _ _ h0)) (keeps_countFcs _ _ h0))))
    (keeps_ite (keeps_onGal _ (keeps_ite (keeps_headConflict (keeps_countFcs _ _ h0)) (keeps_countFcs _ _ h0)))
    (keeps_ite (keeps_headConflict (keeps_countFcs _ _ h0)) (keeps_countFcs _ _ h0)))) (keeps_trainInvalid _ _
    (keeps_ite (keeps_setPort _ _ (keeps_ite (keeps_onGal _ (keeps_ite (keeps_headConflict (keeps_countFcs _ _ h0))
    (keeps_countFcs _ _ h0))) (keeps_ite (keeps_headConflict (keeps_countFcs _ _ h0)) (keeps_countFcs _ _ h0))))
    (keeps_ite (keeps_onGal _ (keeps_ite (keeps_headConflict (keeps_countFcs _ _ h0)) (keeps_countFcs _ _ h0)))
    (keeps_ite (keeps_headConflict (keeps_countFcs _ _ h0)) (keeps_countFcs _ _ h0)))))))))

end Sys2Proof.Machine
end

