-- ==== Sys2Proof/Laws/KeepsEthernet.lean ====
section
/-! SUPPORT. The operations of Machine/Ethernet.lean keep what every command keeps. -/

namespace Sys2Proof.Machine

open Sys2Proof

theorem keeps_ptpLeave {s0 : State} (n : Nat) (t : Nat) (e : Sys2Proof.Machine.EthFrame) {s : State} (h0 : Keeps s0 s)
    :
    Keeps s0 (ptpLeave n t e s).2 := by
  unfold ptpLeave
  exact (by
      try extract_lets
      split
      exact h0
      exact (keeps_ite1 h0 (keeps_ite1 (keeps_ite1 (keeps_ptsAdd _ h0) (keeps_ptsAdd _ h0)) (keeps_ite1 h0 (keeps_ite1
        (keeps_bumpSat _ _ h0) (keeps_ite1 h0 (keeps_ite1 h0 h0))))))
    )

theorem keeps_ethDrop {s0 : State} {s : State} (h0 : Keeps s0 s) :
    Keeps s0 (ethDrop s) := by
  unfold ethDrop
  exact (keeps_bumpSat _ _ h0)

theorem keeps_ethQueue {s0 : State} (n : Nat) (e : Sys2Proof.Machine.EthFrame) {s : State} (h0 : Keeps s0 s) :
    Keeps s0 (ethQueue n e s).2 := by
  unfold ethQueue
  exact (keeps_ite1 h0 (keeps_ite1 (keeps_ethDrop h0) (keeps_setPort _ _ h0)))

theorem keeps_ethRead {s0 : State} (ident : Nat) (w : Nat) {s : State} (h0 : Keeps s0 s) :
    Keeps s0 (ethRead ident w s).2 := by
  unfold ethRead
  exact (keeps_matrixRead _ _ h0)

theorem keeps_ethWrite {s0 : State} (ident : Nat) (w : Nat) (v : Sys2Proof.W40) {s : State} (h0 : Keeps s0 s) :
    Keeps s0 (ethWrite ident w v s) := by
  unfold ethWrite
  exact (keeps_matrixWrite _ _ _ h0)

theorem keeps_bufferWrite {s0 : State} (w n : Nat) (l : List Byte) {s : State} (h : Keeps s0 s) :
    Keeps s0 (bufferWrite w n l s) := by
  induction n generalizing w l s with
  | zero => exact h
  | succ n ih => exact keeps_ite h (ih _ _ (keeps_matrixWriteAt _ _ _ h))

theorem keeps_bufferRead {s0 : State} (w n : Nat) {s : State} (h : Keeps s0 s) : Keeps s0 (bufferRead w n s).2 := by
  induction n generalizing w s with
  | zero => exact h
  | succ n ih => exact ih _ (keeps_matrixReadAt _ _ h)

theorem keeps_hostReceive {s0 : State} (n : Nat) (f : List Sys2Proof.Byte) {s : State} (h0 : Keeps s0 s) :
    Keeps s0 (hostReceive n f s) := by
  unfold hostReceive
  exact (keeps_ite (keeps_ethDrop h0) (keeps_ite (keeps_ethDrop (keeps_ethRead _ _ h0)) (keeps_onGal _ (keeps_ethWrite
    _ _ _ (keeps_bufferWrite _ _ _ (keeps_ethRead _ _ (keeps_ethRead _ _ h0)))))))

theorem keeps_ethReceive {s0 : State} (n : Nat) (m : Nat) (f : List Sys2Proof.Byte) (good : Bool) {s : State} (h0 :
    Keeps s0 s) :
    Keeps s0 (ethReceive n m f good s) := by
  unfold ethReceive
  exact (keeps_ite h0 (keeps_ite (keeps_ethDrop h0) (keeps_ite (keeps_ite (keeps_hostReceive _ _ (by
      try extract_lets
      split
      exact (keeps_ite (keeps_ptsAdd _ h0) h0)
      exact h0
    )) (by
      try extract_lets
      split
      exact (keeps_ite (keeps_ptsAdd _ h0) h0)
      exact h0
    )) (keeps_ethQueue _ _ (keeps_ite (keeps_hostReceive _ _ (by
      try extract_lets
      split
      exact (keeps_ite (keeps_ptsAdd _ h0) h0)
      exact h0
    )) (by
      try extract_lets
      split
      exact (keeps_ite (keeps_ptsAdd _ h0) h0)
      exact h0
    ))))))

theorem keeps_ethTransmit {s0 : State} (n : Nat) {s : State} (h0 : Keeps s0 s) :
    Keeps s0 (ethTransmit n s) := by
  unfold ethTransmit
  exact (keeps_ite h0 (keeps_ite (keeps_ite (keeps_linkSend _ _ h0) h0) (by
      try extract_lets
      split
      exact h0
      exact (keeps_ite h0 (keeps_setPort _ _ (keeps_ptpLeave _ _ _ (keeps_setPort _ _ h0))))
    )))

theorem keeps_txDescriptor {s0 : State} (w : Nat) (d1 : Sys2Proof.W40) {s : State} (h0 : Keeps s0 s) :
    Keeps s0 (txDescriptor w d1 s) := by
  unfold txDescriptor
  exact (keeps_ethWrite _ _ _ (keeps_ite1 (keeps_ethQueue _ _ (keeps_ite1 (keeps_ethQueue _ _ (keeps_ite
    (keeps_ethDrop (keeps_bufferRead _ _ (keeps_ethRead _ _ h0))) (keeps_bufferRead _ _ (keeps_ethRead _ _ h0))))
    (keeps_ite (keeps_ethDrop (keeps_bufferRead _ _ (keeps_ethRead _ _ h0))) (keeps_bufferRead _ _ (keeps_ethRead _ _
    h0))))) (keeps_ite1 (keeps_ethQueue _ _ (keeps_ite (keeps_ethDrop (keeps_bufferRead _ _ (keeps_ethRead _ _ h0)))
    (keeps_bufferRead _ _ (keeps_ethRead _ _ h0)))) (keeps_ite (keeps_ethDrop (keeps_bufferRead _ _ (keeps_ethRead _ _
    h0))) (keeps_bufferRead _ _ (keeps_ethRead _ _ h0))))))

theorem keeps_txServe {s0 : State} (base len k : Nat) {s : State} (h : Keeps s0 s) : Keeps s0 (txServe base len k s) := by
  induction k generalizing s with
  | zero => exact h
  | succ k ih =>
    exact keeps_ite (keeps_ethRead _ _ h) (ih (keeps_onGal _ (keeps_txDescriptor _ _ (keeps_ethRead _ _ h))))

theorem keeps_txPoll {s0 : State} {s : State} (h0 : Keeps s0 s) :
    Keeps s0 (txPoll s) := by
  unfold txPoll
  exact (keeps_ite h0 (keeps_txServe _ _ _ h0))

end Sys2Proof.Machine
end

