-- ==== Sys2Proof/Laws/KeepsCycle.lean ====
section
/-! SUPPORT. The operations of Machine/Cycle.lean keep what every command keeps. -/

namespace Sys2Proof.Machine

open Sys2Proof

theorem keeps_unitBegin {s0 : State} (u : Nat) (r0 : Nat) (second : Bool) {s : State} (h0 : Keeps s0 s) :
    Keeps s0 (unitBegin u r0 second s) := by
  unfold unitBegin
  exact (keeps_ite (keeps_chmRelease _ (keeps_exchangeTake _ h0)) (keeps_ite (keeps_cleRelease _ _ _ _ h0) (keeps_ite
    (keeps_mixRelease h0) (keeps_ite (keeps_flwRelease h0) (keeps_ite (keeps_brgRelease h0) (keeps_lightRelease
    h0))))))

theorem keeps_unitStart {s0 : State} (u : Nat) {s : State} (h0 : Keeps s0 s) :
    Keeps s0 (unitStart u s) := by
  unfold unitStart
  exact (keeps_ite (keeps_exchangePut _ h0) h0)

theorem keeps_releaseUnit {s0 : State} (u : Nat) (r0 : Nat) (second : Bool) {s : State} (h0 : Keeps s0 s) :
    Keeps s0 (releaseUnit u r0 second s) := by
  unfold releaseUnit
  exact (by
      try extract_lets
      split
      exact (keeps_ite (keeps_unitBegin _ _ _ (keeps_setUnit _ _ (keeps_unitGate _ h0))) (keeps_unitStart _
        (keeps_unitBegin _ _ _ (keeps_setUnit _ _ (keeps_unitGate _ h0)))))
      exact (keeps_unitBegin _ _ _ (keeps_setUnit _ _ (keeps_unitGate _ h0)))
      exact (keeps_setUnit _ _ (keeps_unitGate _ h0))
    )

theorem keeps_startWaiting {s0 : State} (u : Nat) {s : State} (h0 : Keeps s0 s) :
    Keeps s0 (startWaiting u s) := by
  unfold startWaiting
  exact (keeps_ite h0 (keeps_ite (keeps_setUnit _ _ (keeps_raiseAux _ _ _ h0)) (keeps_ite (keeps_unitStart _
    (keeps_setUnit _ _ h0)) h0)))

theorem keeps_unitsOfDomain {s0 : State} (n : Nat) {s : State} (h0 : Keeps s0 s) :
    Keeps s0 (unitsOfDomain n s) := by
  unfold unitsOfDomain
  exact (keeps_forEach h0 (fun _ _ h1 => (keeps_startWaiting _ h1)))

theorem keeps_domainReady {s0 : State} (n : Nat) {s : State} (h0 : Keeps s0 s) :
    Keeps s0 (domainReady n s) := by
  unfold domainReady
  exact (keeps_unitsOfDomain _ (keeps_wakeComplete _ h0))

theorem keeps_domainSlept {s0 : State} (n : Nat) {s : State} (h0 : Keeps s0 s) :
    Keeps s0 (domainSlept n s) := by
  unfold domainSlept
  exact (keeps_unitsOfDomain _ (keeps_sleepEnd _ h0))

theorem keeps_swapReady {s0 : State} (n : Nat) {s : State} (h0 : Keeps s0 s) :
    Keeps s0 (swapReady n s) := by
  unfold swapReady
  exact (keeps_ite (keeps_startWaiting _ (keeps_chmSwap _ h0)) h0)

theorem keeps_chamberReturns {s0 : State} (n : Nat) {s : State} (h0 : Keeps s0 s) :
    Keeps s0 (chamberReturns n s) := by
  unfold chamberReturns
  exact (keeps_swapReady _ (keeps_chmAnswer _ h0))

theorem keeps_chamberTimeout {s0 : State} (n : Nat) {s : State} (h0 : Keeps s0 s) :
    Keeps s0 (chamberTimeout n s) := by
  unfold chamberTimeout
  exact (keeps_swapReady _ (keeps_chmTimeout _ h0))

theorem keeps_releaseNext {s0 : State} (u : Nat) {s : State} (h0 : Keeps s0 s) :
    Keeps s0 (releaseNext u s) := by
  unfold releaseNext
  exact (keeps_ite (keeps_releaseUnit _ _ _ h0) h0)

theorem keeps_successors {s0 : State} (u : Nat) (free : List Nat) {s : State} (h0 : Keeps s0 s) :
    Keeps s0 (successors u free s) := by
  unfold successors
  exact (keeps_ite (by
      try extract_lets
      split
      exact (keeps_releaseNext _ (keeps_forEach h0 (fun _ _ h1 => (keeps_releaseNext _ h1))))
      exact (keeps_forEach (keeps_forEach h0 (fun _ _ h2 => (keeps_releaseNext _ h2))) (fun _ _ h3 =>
        (keeps_releaseNext _ h3)))
    ) (keeps_ite (keeps_ite (keeps_releaseNext _ h0) h0) (keeps_ite (keeps_forEach h0 (fun _ _ h4 =>
    (keeps_releaseNext _ h4))) h0)))

theorem keeps_unitEnd {s0 : State} (u : Nat) (free : List Nat) {s : State} (h0 : Keeps s0 s) :
    Keeps s0 (unitEnd u free s) := by
  unfold unitEnd
  exact (keeps_autoSleep _ (keeps_successors _ _ (keeps_setUnit _ _ h0)))

theorem keeps_unitStop {s0 : State} (u : Nat) (k : Nat) {s : State} (h0 : Keeps s0 s) :
    Keeps s0 (unitStop u k s) := by
  unfold unitStop
  exact (keeps_ite (keeps_chmStop _ (keeps_exchangeMiss _ h0)) (keeps_ite (keeps_cleMiss _ h0) (keeps_ite
    (keeps_mixMiss h0) (keeps_ite (keeps_flwMiss _ h0) (keeps_ite (keeps_brgMiss h0) h0)))))

theorem keeps_unitMiss {s0 : State} (u : Nat) (k : Nat) {s : State} (h0 : Keeps s0 s) :
    Keeps s0 (unitMiss u k s) := by
  unfold unitMiss
  exact (keeps_ite h0 (keeps_unitEnd _ _ (keeps_ite (keeps_forEach (keeps_monitorMiss _ (keeps_unitStop _ _
    (keeps_waitTicks _ h0))) (fun _ _ h1 => (keeps_setUnit _ _ h1))) (keeps_monitorMiss _ (keeps_unitStop _ _
    (keeps_waitTicks _ h0))))))

theorem keeps_unitLate {s0 : State} (u : Nat) {s : State} (h0 : Keeps s0 s) :
    Keeps s0 (unitLate u s) := by
  unfold unitLate
  exact (keeps_ite (keeps_unitMiss _ _ (keeps_tick1 h0)) (keeps_unitMiss _ _ h0))

theorem keeps_unitComplete {s0 : State} (u : Nat) {s : State} (h0 : Keeps s0 s) :
    Keeps s0 (unitComplete u s) := by
  unfold unitComplete
  exact (keeps_ite h0 (by
      try extract_lets
      split
      exact (keeps_unitLate _ h0)
      exact (keeps_unitEnd _ _ (keeps_monitorDone _ _ (keeps_ite (keeps_exchangeOut _ h0) (keeps_ite
        (keeps_mixComplete h0) (keeps_ite (keeps_flwComplete h0) (keeps_ite (keeps_brgComplete h0)
        (keeps_lightComplete h0)))))))
    ))

theorem keeps_missUntil {s0 : State} (n t : Nat) {s : State} (h : Keeps s0 s) : Keeps s0 (missUntil n t s) := by
  induction n generalizing s with
  | zero => exact h
  | succ n ih =>
    unfold missUntil
    split
    · exact h
    · exact ih (keeps_unitLate _ h)

theorem keeps_missBefore {s0 : State} (t : Nat) {s : State} (h0 : Keeps s0 s) :
    Keeps s0 (missBefore t s) := by
  unfold missBefore
  exact (keeps_missUntil _ _ h0)

theorem keeps_missAll {s0 : State} {s : State} (h0 : Keeps s0 s) :
    Keeps s0 (missAll s) := by
  unfold missAll
  exact (keeps_missBefore _ h0)

theorem keeps_leadPass {s0 : State} (t : Nat) {s : State} (h0 : Keeps s0 s) :
    Keeps s0 (leadPass t s) := by
  unfold leadPass
  exact (keeps_leadWakes _ (keeps_waitTicks _ h0))

theorem keeps_runCut {s0 : State} (u : Nat) {s : State} (h0 : Keeps s0 s) :
    Keeps s0 (runCut u s) := by
  unfold runCut
  exact (keeps_ite h0 (keeps_unitEnd _ _ (keeps_monitorMiss _ (keeps_unitStop _ _ h0))))

theorem keeps_midCycle {s0 : State} {s : State} (h0 : Keeps s0 s) :
    Keeps s0 (midCycle s) := by
  unfold midCycle
  exact (keeps_ite (keeps_settleTicks h0) (keeps_adcEvent _ (keeps_cycleEvent _ (keeps_cleNext (keeps_cleMid _
    (keeps_forEach (keeps_mk (keeps_forEach (keeps_advanceTo _ _ (keeps_leadPass _ (keeps_missBefore _
    (keeps_settleTicks h0)))) (fun _ _ h1 => (keeps_runCut _ h1))) rfl rfl rfl rfl rfl rfl rfl rfl rfl) (fun _ _ h2 =>
    (keeps_releaseUnit _ _ _ h2))))))))

theorem keeps_unitDeadline {s0 : State} (u : Nat) (k : Nat) {s : State} (h0 : Keeps s0 s) :
    Keeps s0 (unitDeadline u k s) := by
  unfold unitDeadline
  exact (keeps_ite h0 (keeps_ite (keeps_unitMiss _ _ (keeps_settleTicks h0)) (keeps_ite (keeps_unitMiss _ _
    (keeps_midCycle (keeps_settleTicks h0))) (keeps_midCycle (keeps_settleTicks h0)))))

theorem keeps_tableRefused {s0 : State} {s : State} (h0 : Keeps s0 s) :
    Keeps s0 (tableRefused s) := by
  unfold tableRefused
  exact (keeps_raise _ (keeps_setRb _ _ _ h0))

theorem keeps_dlApply {s0 : State} {s : State} (h0 : Keeps s0 s) :
    Keeps s0 (dlApply s) := by
  unfold dlApply
  exact (keeps_setRb _ _ _ h0)

theorem keeps_tableSet {s0 : State} (ws : List Sys2Proof.W40) {s : State} (h0 : Keeps s0 s) :
    Keeps s0 (tableSet ws s) := by
  unfold tableSet
  exact (keeps_ite (keeps_mk (keeps_setRb _ _ _ (keeps_setReg _ _ (keeps_forEach h0 (fun _ _ h1 => (keeps_setRf _ _ _
    h1))))) rfl rfl rfl rfl rfl rfl rfl rfl rfl) (keeps_tableRefused h0))

theorem keeps_tableApply {s0 : State} {s : State} (h0 : Keeps s0 s) :
    Keeps s0 (tableApply s) := by
  unfold tableApply
  exact (keeps_ite h0 (keeps_ite (keeps_mk (keeps_setRb _ _ _ h0) rfl rfl rfl rfl rfl rfl rfl rfl rfl)
    (keeps_tableRefused (keeps_setRb _ _ _ h0))))

theorem keeps_timersSet {s0 : State} (ws : List Sys2Proof.W40) {s : State} (h0 : Keeps s0 s) :
    Keeps s0 (timersSet ws s) := by
  unfold timersSet
  exact (keeps_forEach h0 (fun _ _ h1 => (keeps_timCtlWrite _ _ (keeps_setReg _ _ (keeps_setReg _ _ h1)))))

theorem keeps_familyChange {s0 : State} {s : State} (h0 : Keeps s0 s) :
    Keeps s0 (familyChange s) := by
  unfold familyChange
  exact (by
      try extract_lets
      split
      exact h0
      exact (keeps_ite (keeps_mk h0 rfl rfl rfl rfl rfl rfl rfl rfl rfl) (keeps_mk (keeps_mk (keeps_endSet
        (keeps_setRf _ _ _ (keeps_mk (keeps_mk h0 rfl rfl rfl rfl rfl rfl rfl rfl rfl) rfl rfl rfl rfl rfl rfl rfl rfl
        rfl))) rfl rfl rfl rfl rfl rfl rfl rfl rfl) rfl rfl rfl rfl rfl rfl rfl rfl rfl))
    )

theorem keeps_setTimes {s0 : State} (ws : List Sys2Proof.W40) {s : State} (h0 : Keeps s0 s) :
    Keeps s0 (setTimes ws s) := by
  unfold setTimes
  exact (keeps_ite (keeps_timersSet _ (keeps_ite (keeps_tableSet _ h0) h0)) (keeps_ite (keeps_tableSet _ h0) h0))

theorem keeps_restoreStep {s0 : State} {s : State} (h0 : Keeps s0 s) :
    Keeps s0 (restoreStep s).2 := by
  unfold restoreStep
  exact (by
      try extract_lets
      split
      exact h0
      exact (keeps_setTimes _ (keeps_commitRestore h0))
    )

theorem keeps_commitStep {s0 : State} {s : State} (h : Keeps s0 s) : Keeps s0 (commitStep s).2 := by
  have k := keeps_commitBoundary (keeps_takeOutputs (keeps_talkSnapshot (keeps_restoreStep (keeps_presentValues h))))
  unfold commitStep
  dsimp only
  refine keeps_forEach (keeps_tableApply ?_) fun _ _ k => keeps_swapReady _ k
  split
  · exact keeps_setTimes _ k
  · exact k

theorem keeps_cleBoundary {s0 : State} (actChanged : Bool) {s : State} (h0 : Keeps s0 s) :
    Keeps s0 (cleBoundary actChanged s) := by
  unfold cleBoundary
  exact (keeps_ite h0 (keeps_forEach (keeps_ite (keeps_cleActChanged (keeps_forEach h0 (fun _ _ h1 => (keeps_cleConfig
    _ h1)))) (keeps_forEach h0 (fun _ _ h2 => (keeps_cleConfig _ h2)))) (fun _ _ h3 => (keeps_cleExchange _ _ h3))))

theorem keeps_releaseAll {s0 : State} (l : Bool) (regions : List Nat) {s : State} (h0 : Keeps s0 s) :
    Keeps s0 (releaseAll l regions s) := by
  unfold releaseAll
  exact (keeps_cleNext (keeps_forEach (keeps_ite (keeps_releaseUnit _ _ _ (keeps_releaseUnit _ _ _ (keeps_forEach
    (keeps_releaseUnit _ _ _ h0) (fun _ _ h1 => (keeps_releaseUnit _ _ _ h1))))) (keeps_releaseUnit _ _ _
    (keeps_forEach (keeps_releaseUnit _ _ _ h0) (fun _ _ h2 => (keeps_releaseUnit _ _ _ h2))))) (fun _ _ h3 =>
    (keeps_releaseUnit _ _ _ h3))))

theorem keeps_boundaryBlocks {s0 : State} (l : Bool) {s : State} (h0 : Keeps s0 s) :
    Keeps s0 (boundaryBlocks l s) := by
  unfold boundaryBlocks
  exact (keeps_ite (keeps_adcEvent _ (keeps_cycleEvent _ (keeps_timersTick _ (keeps_cairnEvent _ _
    (keeps_gateLBoundary (keeps_adcEvent _ (keeps_cycleEvent _ (keeps_timersTick _ (keeps_ite (keeps_cairnEvent _ _
    (keeps_chainBoundary (keeps_wtbBoundary (keeps_gateBoundary (keeps_forEach (keeps_datumBoundary (keeps_galBoundary
    (keeps_brgPublish (keeps_forEach (keeps_ite (keeps_mk h0 rfl rfl rfl rfl rfl rfl rfl rfl rfl) h0) (fun _ _ h1 =>
    (keeps_sapBoundary _ h1)))))) (fun _ _ h2 => (keeps_synBoundary _ h2))))))) (keeps_chainBoundary
    (keeps_wtbBoundary (keeps_gateBoundary (keeps_forEach (keeps_datumBoundary (keeps_galBoundary (keeps_brgPublish
    (keeps_forEach (keeps_ite (keeps_mk h0 rfl rfl rfl rfl rfl rfl rfl rfl rfl) h0) (fun _ _ h3 => (keeps_sapBoundary
    _ h3)))))) (fun _ _ h4 => (keeps_synBoundary _ h4))))))))))))))) (keeps_adcEvent _ (keeps_cycleEvent _
    (keeps_timersTick _ (keeps_ite (keeps_cairnEvent _ _ (keeps_chainBoundary (keeps_wtbBoundary (keeps_gateBoundary
    (keeps_forEach (keeps_datumBoundary (keeps_galBoundary (keeps_brgPublish (keeps_forEach (keeps_ite (keeps_mk h0
    rfl rfl rfl rfl rfl rfl rfl rfl rfl) h0) (fun _ _ h5 => (keeps_sapBoundary _ h5)))))) (fun _ _ h6 =>
    (keeps_synBoundary _ h6))))))) (keeps_chainBoundary (keeps_wtbBoundary (keeps_gateBoundary (keeps_forEach
    (keeps_datumBoundary (keeps_galBoundary (keeps_brgPublish (keeps_forEach (keeps_ite (keeps_mk h0 rfl rfl rfl rfl
    rfl rfl rfl rfl rfl) h0) (fun _ _ h7 => (keeps_sapBoundary _ h7)))))) (fun _ _ h8 => (keeps_synBoundary _
    h8)))))))))))

theorem keeps_cycleStart {s0 : State} {s : State} (h0 : Keeps s0 s) :
    Keeps s0 (cycleStart s) := by
  unfold cycleStart
  exact (keeps_mk (keeps_advanceTo _ _ (keeps_leadPass _ (keeps_stepXr (keeps_ringFill (keeps_missAll (keeps_midCycle
    h0)))))) rfl rfl rfl rfl rfl rfl rfl rfl rfl)

theorem keeps_cycleBoundary {s0 : State} {s : State} (h0 : Keeps s0 s) :
    Keeps s0 (cycleBoundary s) := by
  unfold cycleBoundary
  exact (keeps_ite h0 (keeps_releaseAll _ _ (keeps_cleBoundary _ (keeps_boundaryBlocks _ (keeps_commitStep
    (keeps_setRf _ _ _ (keeps_familyChange (keeps_cycleStart h0))))))))

theorem keeps_midInstant {s0 : State} {s : State} (h0 : Keeps s0 s) :
    Keeps s0 (midInstant s) := by
  unfold midInstant
  exact (keeps_ite h0 (keeps_midCycle h0))

theorem keeps_idleTick {s0 : State} {s : State} (h0 : Keeps s0 s) :
    Keeps s0 (idleTick s) := by
  unfold idleTick
  exact (keeps_ite (keeps_upTime _ h0) (keeps_ite (keeps_sumpReset h0) (by
      try extract_lets
      split
      exact (keeps_unitLate _ h0)
      exact (keeps_ite (keeps_cycleBoundary (keeps_forEach (keeps_frmoEdge (keeps_ppsoEdge (keeps_leadWakes _ h0)))
        (fun _ _ h1 => (keeps_pwmTick _ h1)))) (keeps_ite (keeps_midInstant (keeps_forEach (keeps_frmoEdge
        (keeps_ppsoEdge (keeps_leadWakes _ h0))) (fun _ _ h2 => (keeps_pwmTick _ h2)))) (keeps_timersDue
        (keeps_oneTick (keeps_forEach (keeps_frmoEdge (keeps_ppsoEdge (keeps_leadWakes _ h0))) (fun _ _ h3 =>
        (keeps_pwmTick _ h3)))))))
    )))

end Sys2Proof.Machine
end

