-- ==== Sys2Proof/Laws/KeepsDmx.lean ====
section
/-! SUPPORT. The operations of Machine/Dmx.lean keep what every command keeps. -/

namespace Sys2Proof.Machine

open Sys2Proof

theorem keeps_setDmx {s0 : State} (d : Nat) (x : Sys2Proof.Machine.Dmx) {s : State} (h0 : Keeps s0 s) :
    Keeps s0 (setDmx d x s) := by
  unfold setDmx
  exact (keeps_mk h0 rfl rfl rfl rfl rfl rfl rfl rfl rfl)

theorem keeps_dmxGo {s0 : State} (d : Nat) {s : State} (h0 : Keeps s0 s) :
    Keeps s0 (dmxGo d s) := by
  unfold dmxGo
  exact (keeps_ite h0 (keeps_ite (by
      try extract_lets
      split
      exact h0
      exact (keeps_ite (keeps_setRb _ _ _ (keeps_setDmx _ _ h0)) (keeps_setDmx _ _ h0))
    ) (keeps_setDmx _ _ h0)))

theorem keeps_dmxSwap {s0 : State} (d : Nat) {s : State} (h0 : Keeps s0 s) :
    Keeps s0 (dmxSwap d s) := by
  unfold dmxSwap
  exact (keeps_setDmx _ _ h0)

theorem keeps_dmxBreak {s0 : State} (d : Nat) {s : State} (h0 : Keeps s0 s) :
    Keeps s0 (dmxBreak d s) := by
  unfold dmxBreak
  exact (keeps_ite h0 (keeps_setRb _ _ _ (keeps_setDmx _ _ (keeps_tick1 (keeps_ite (keeps_forEach h0 (fun _ _ h1 =>
    (keeps_setReg _ _ h1))) h0)))))

theorem keeps_dmxTxEnd {s0 : State} (d : Nat) {s : State} (h0 : Keeps s0 s) :
    Keeps s0 (dmxTxEnd d s) := by
  unfold dmxTxEnd
  exact (keeps_ite h0 (keeps_setRb _ _ _ (keeps_setDmx _ _ h0)))

theorem keeps_dmxRx {s0 : State} (d : Nat) (brk : Nat) (mark : Nat) (bytes : List Sys2Proof.Byte) (fe : Bool) (ago :
    Nat) {s : State} (h0 : Keeps s0 s) :
    Keeps s0 (dmxRx d brk mark bytes fe ago s) := by
  unfold dmxRx
  exact (keeps_ite h0 (keeps_rosterEvent _ (keeps_setDmx _ _ (keeps_ite (keeps_forEach (keeps_ite (keeps_setRb _ _ _
    (keeps_setRf _ _ _ (keeps_setRf _ _ _ (keeps_forEach h0 (fun _ _ h1 => (keeps_ite (keeps_setReg _ _ h1)
    (keeps_setReg _ _ (keeps_tick1 h1)))))))) (keeps_setRf _ _ _ (keeps_setRf _ _ _ (keeps_forEach h0 (fun _ _ h2 =>
    (keeps_ite (keeps_setReg _ _ h2) (keeps_setReg _ _ (keeps_tick1 h2)))))))) (fun _ _ h3 => (keeps_setRf _ _ _ h3)))
    (keeps_ite (keeps_setRb _ _ _ (keeps_setRf _ _ _ (keeps_setRf _ _ _ (keeps_forEach h0 (fun _ _ h4 => (keeps_ite
    (keeps_setReg _ _ h4) (keeps_setReg _ _ (keeps_tick1 h4)))))))) (keeps_setRf _ _ _ (keeps_setRf _ _ _
    (keeps_forEach h0 (fun _ _ h5 => (keeps_ite (keeps_setReg _ _ h5) (keeps_setReg _ _ (keeps_tick1 h5))))))))))))

theorem keeps_dmxTimeout {s0 : State} (d : Nat) {s : State} (h0 : Keeps s0 s) :
    Keeps s0 (dmxTimeout d s) := by
  unfold dmxTimeout
  exact (keeps_ite (keeps_setRb _ _ _ (keeps_setDmx _ _ h0)) h0)

end Sys2Proof.Machine
end

