-- ==== Sys2Proof/Laws/KeepsGuideCore.lean ====
section
/-! SUPPORT. The operations of Machine/GuideCore.lean keep what every command keeps. -/

namespace Sys2Proof.Machine

open Sys2Proof

theorem keeps_onGde {s0 : State} (f : Gde → Gde) {s : State} (h : Keeps s0 s) (h1 : (f s.gde).imem = s.gde.imem)
    (h2 : (f s.gde).dmem = s.gde.dmem) (h3 : (f s.gde).banks = s.gde.banks) : Keeps s0 (onGde f s) :=
  keeps_frame h rfl rfl h1 h2 h3 rfl rfl rfl rfl

theorem keeps_onBank {s0 : State} (b : Nat) (f : Bank → Bank) {s : State} (h : Keeps s0 s) (hf : ∀ x, (f x).g = x.g) :
    Keeps s0 (onBank b f s) :=
  keeps_bankG b f h fun z => by rw [hf]; exact z

theorem keeps_setPc {s0 : State} (a : Sys2Proof.W32) {s : State} (h0 : Keeps s0 s) :
    Keeps s0 (setPc a s) := by
  unfold setPc
  exact (keeps_onBank _ _ h0 (fun _ => rfl))

theorem keeps_bankReg {s0 : State} (b n : Nat) (v : W32) {s : State} (h : Keeps s0 s) : Keeps s0 (bankReg b n v s) := by
  unfold bankReg
  split
  · exact h
  · rename_i hn
    exact keeps_bankG b (fun x => { x with g := tset x.g 0 n v }) h fun z => by
      simpa [tget_tset_ne _ _ _ _ (Ne.symm hn)] using z

theorem keeps_setG {s0 : State} (i : BitVec 5) (v : Sys2Proof.W32) {s : State} (h0 : Keeps s0 s) :
    Keeps s0 (setG i v s) := by
  unfold setG
  exact (keeps_bankReg _ _ _ h0)

theorem keeps_switchBank {s0 : State} (b : Nat) {s : State} (h0 : Keeps s0 s) :
    Keeps s0 (switchBank b s) := by
  unfold switchBank
  exact (keeps_setRb _ _ _ (keeps_setRf _ _ _ h0))

theorem keeps_showRoster {s0 : State} {s : State} (h0 : Keeps s0 s) :
    Keeps s0 (showRoster s) := by
  unfold showRoster
  exact (keeps_setReg _ _ (keeps_setReg _ _ (keeps_setReg _ _ (keeps_setReg _ _ (keeps_setReg _ _ h0)))))

theorem keeps_rosterDecide {s0 : State} {s : State} (h0 : Keeps s0 s) :
    Keeps s0 (rosterDecide s) := by
  unfold rosterDecide
  exact (keeps_onGde _ h0 rfl rfl rfl)

theorem keeps_dispatch {s0 : State} (n : Nat) {s : State} (h0 : Keeps s0 s) :
    Keeps s0 (dispatch n s) := by
  unfold dispatch
  exact (keeps_showRoster (keeps_switchBank _ (keeps_onGde _ (keeps_bankReg _ _ _ (keeps_bankReg _ _ _ (keeps_onBank _
    _ h0 (fun _ => rfl)))) rfl rfl rfl)))

theorem keeps_endInstance {s0 : State} {s : State} (h0 : Keeps s0 s) :
    Keeps s0 (endInstance s) := by
  unfold endInstance
  exact (by
      try extract_lets
      split
      exact (keeps_dispatch _ (keeps_onGde _ h0 rfl rfl rfl))
      exact (keeps_showRoster (keeps_switchBank _ (keeps_onGde _ h0 rfl rfl rfl)))
    )

theorem keeps_takeReady {s0 : State} (n : Nat) {s : State} (h0 : Keeps s0 s) :
    Keeps s0 (takeReady n s) := by
  unfold takeReady
  exact (keeps_ite (keeps_bumpWrap _ h0) (keeps_onGde _ h0 rfl rfl rfl))

theorem keeps_closeWindow {s0 : State} {s : State} (h0 : Keeps s0 s) :
    Keeps s0 (closeWindow s) := by
  unfold closeWindow
  exact (keeps_ite h0 (keeps_rosterDecide (keeps_showRoster (keeps_forEach (keeps_onGde _ (keeps_forEach h0 (fun _ _
    h1 => (keeps_bumpWrap _ h1))) rfl rfl rfl) (fun _ _ h2 => (keeps_forEach h2 (fun _ _ h3 => (keeps_takeReady _
    h3))))))))

theorem keeps_taskDispatch {s0 : State} {s : State} (h0 : Keeps s0 s) :
    Keeps s0 (taskDispatch s) := by
  unfold taskDispatch
  exact (by
      try extract_lets
      split
      exact (keeps_ite h0 (keeps_ite (keeps_dispatch _ h0) (keeps_rosterDecide h0)))
      exact h0
    )

theorem keeps_taskCfg {s0 : State} (n : Nat) (v : Sys2Proof.W32) {s : State} (h0 : Keeps s0 s) :
    Keeps s0 (taskCfg n v s) := by
  unfold taskCfg
  exact (keeps_ite (keeps_rosterCancel _ (keeps_ite (keeps_onGde _ (keeps_setReg _ _ h0) rfl rfl rfl) (keeps_setReg _
    _ h0))) (keeps_ite (keeps_onGde _ (keeps_setReg _ _ h0) rfl rfl rfl) (keeps_setReg _ _ h0)))

theorem keeps_takeException {s0 : State} (cause : Nat) (addr : Sys2Proof.W32) (imprecise : Bool) {s : State} (h0 :
    Keeps s0 s) :
    Keeps s0 (takeException cause addr imprecise s) := by
  unfold takeException
  exact (keeps_ite (keeps_raise _ (keeps_setRb _ _ _ h0)) (keeps_ite (keeps_ite (keeps_raise _ (keeps_onBank _ _ h0
    (fun _ => rfl))) (keeps_ite (keeps_onBank _ _ (keeps_raise _ (keeps_onBank _ _ h0 (fun _ => rfl))) (fun _ => rfl))
    (keeps_endInstance (keeps_raise _ (keeps_onBank _ _ h0 (fun _ => rfl)))))) (keeps_onBank _ _ h0 (fun _ => rfl))))

theorem keeps_exceptionReturn {s0 : State} {s : State} (h0 : Keeps s0 s) :
    Keeps s0 (exceptionReturn s) := by
  unfold exceptionReturn
  exact (keeps_onBank _ _ h0 (fun _ => rfl))

theorem keeps_nmiEnter {s0 : State} {s : State} (h0 : Keeps s0 s) :
    Keeps s0 (nmiEnter s) := by
  unfold nmiEnter
  exact (keeps_ite (keeps_switchBank _ (keeps_onBank _ _ (keeps_onGde _ h0 rfl rfl rfl) (fun _ => rfl))) h0)

theorem keeps_nmiReturn {s0 : State} {s : State} (h0 : Keeps s0 s) :
    Keeps s0 (nmiReturn s) := by
  unfold nmiReturn
  exact (keeps_rosterDecide (keeps_ite (keeps_onGde _ (keeps_setRb _ _ _ (keeps_onBank _ _ (keeps_switchBank _ h0)
    (fun _ => rfl))) rfl rfl rfl) (keeps_onBank _ _ (keeps_switchBank _ h0) (fun _ => rfl))))

theorem keeps_loadWrite {s0 : State} (b : Nat) (reg : Nat) (bytes : Nat) (signed : Bool) (v : Sys2Proof.W64) {s :
    State} (h0 : Keeps s0 s) :
    Keeps s0 (loadWrite b reg bytes signed v s) := by
  unfold loadWrite
  exact (keeps_ite (keeps_bankReg _ _ _ (keeps_bankReg _ _ _ h0)) (keeps_bankReg _ _ _ h0))

theorem keeps_loadAnswer {s0 : State} (i : Nat) {s : State} (h0 : Keeps s0 s) :
    Keeps s0 (loadAnswer i s) := by
  unfold loadAnswer
  exact (by
      try extract_lets
      split
      exact h0
      exact (keeps_ite h0 (keeps_ite (keeps_ite (keeps_freeEntry _ (keeps_onGde _ h0 rfl rfl rfl)) (keeps_loadWrite _
        _ _ _ _ (keeps_freeEntry _ (keeps_onGde _ h0 rfl rfl rfl)))) (keeps_errorResponse _ _ _ _ (keeps_ite
        (keeps_onBank _ _ (keeps_loadWrite _ _ _ _ _ (keeps_freeEntry _ (keeps_onGde _ h0 rfl rfl rfl))) (fun _ =>
        rfl)) (keeps_freeEntry _ (keeps_onGde _ h0 rfl rfl rfl))))))
    )

theorem keeps_loadEnds {s0 : State} (i : Nat) (error : Bool) {s : State} (h0 : Keeps s0 s) :
    Keeps s0 (loadEnds i error s) := by
  unfold loadEnds
  exact (keeps_ite (keeps_loadAnswer _ h0) h0)

theorem keeps_storeAnswer {s0 : State} (i : Nat) {s : State} (h0 : Keeps s0 s) :
    Keeps s0 (storeAnswer i s) := by
  unfold storeAnswer
  exact (by
      try extract_lets
      split
      exact h0
      exact (keeps_ite h0 (keeps_ite (keeps_freeEntry _ (keeps_onGde _ h0 rfl rfl rfl)) (keeps_errorResponse _ _ _ _
        (keeps_ite (keeps_bumpSat _ _ (keeps_setReg _ _ (keeps_freeEntry _ (keeps_onGde _ h0 rfl rfl rfl))))
        (keeps_freeEntry _ (keeps_onGde _ h0 rfl rfl rfl))))))
    )

theorem keeps_storeErrorEnds {s0 : State} {s : State} (h0 : Keeps s0 s) :
    Keeps s0 (storeErrorEnds s) := by
  unfold storeErrorEnds
  exact (by
      try extract_lets
      split
      exact (keeps_storeAnswer _ h0)
      exact h0
    )

theorem keeps_loadTimeout {s0 : State} (i : Nat) {s : State} (h0 : Keeps s0 s) :
    Keeps s0 (loadTimeout i s) := by
  unfold loadTimeout
  exact (by
      try extract_lets
      split
      exact h0
      exact (keeps_loadAnswer _ (keeps_onGde _ h0 rfl rfl rfl))
    )

theorem keeps_storeTimeout {s0 : State} (i : Nat) {s : State} (h0 : Keeps s0 s) :
    Keeps s0 (storeTimeout i s) := by
  unfold storeTimeout
  exact (by
      try extract_lets
      split
      exact h0
      exact (keeps_storeAnswer _ (keeps_onGde _ h0 rfl rfl rfl))
    )

end Sys2Proof.Machine
end

