-- ==== Sys2Proof/Laws/KeepsBus.lean ====
section
/-! SUPPORT. The operations of Machine/Bus.lean keep what every command keeps. -/

namespace Sys2Proof.Machine

open Sys2Proof

theorem keeps_regRead {s0 : State} (m : Nat) (a : Nat) {s : State} (h0 : Keeps s0 s) :
    Keeps s0 (regRead m a s).2 := by
  unfold regRead
  exact (keeps_ite1 (keeps_tbSnapshot _ h0) (keeps_ite1 h0 (keeps_ite1 h0 (by
      try extract_lets
      split
      exact h0
      exact (keeps_setReg _ _ h0)
    ))))

theorem keeps_wrRst {s0 : State} (a : Nat) (op : Nat) (v : Sys2Proof.W64) (new : Sys2Proof.W64) {s : State} (h0 :
    Keeps s0 s) :
    Keeps s0 (wrRst a op v new s) := by
  unfold wrRst
  exact (keeps_ite (keeps_rstCtlWrite _ h0) (keeps_ite (keeps_rstBlkWrite _ h0) (keeps_setReg _ _ h0)))

theorem keeps_wrPwr {s0 : State} (a : Nat) (new : Sys2Proof.W64) {s : State} (h0 : Keeps s0 s) :
    Keeps s0 (wrPwr a new s) := by
  unfold wrPwr
  exact (by
      try extract_lets
      split
      exact (keeps_powerMode _ _ (keeps_setReg _ _ h0))
      exact (keeps_setReg _ _ h0)
    )

theorem keeps_wrWtb {s0 : State} (a : Nat) (op : Nat) (v : Sys2Proof.W64) (new : Sys2Proof.W64) {s : State} (h0 :
    Keeps s0 s) :
    Keeps s0 (wrWtb a op v new s) := by
  unfold wrWtb
  exact (keeps_ite (keeps_ite (keeps_wtbMode _ (keeps_setReg _ _ h0)) (keeps_setReg _ _ h0)) (keeps_ite
    (keeps_wtbBound _ _ h0) (keeps_ite (keeps_wtbBound _ _ h0) (keeps_ite (keeps_wtbTarget _ h0) (keeps_ite (keeps_ite
    (keeps_setReg _ _ h0) h0) (keeps_ite (keeps_wtbTouch (keeps_setReg _ _ h0)) (keeps_setReg _ _ h0)))))))

theorem keeps_wrGal {s0 : State} (a : Nat) (op : Nat) (v : Sys2Proof.W64) (new : Sys2Proof.W64) {s : State} (h0 :
    Keeps s0 s) :
    Keeps s0 (wrGal a op v new s) := by
  unfold wrGal
  exact (keeps_ite (keeps_ite (keeps_galRestoreWrite (keeps_galEnableWrite _ (keeps_setReg _ _ h0)))
    (keeps_galEnableWrite _ (keeps_setReg _ _ h0))) (keeps_ite (keeps_ite (keeps_storedIdSet _ h0) h0) (keeps_ite
    (keeps_ite (keeps_mdioStart (keeps_setReg _ _ h0)) (keeps_setReg _ _ h0)) (keeps_ite (keeps_ite (keeps_txmsgGo h0)
    h0) (keeps_ite (keeps_ite (keeps_rxmsgPop h0) h0) (keeps_ite (keeps_ite (keeps_settxGo (keeps_setReg _ _ h0))
    (keeps_setReg _ _ h0)) (keeps_ite (keeps_ite (keeps_txPoll (keeps_setReg _ _ h0)) (keeps_setReg _ _ h0))
    (keeps_setReg _ _ h0))))))))

theorem keeps_cycCtlWrite {s0 : State} (op : Nat) (v : Sys2Proof.W64) (new : Sys2Proof.W64) {s : State} (h0 : Keeps s0
    s) :
    Keeps s0 (cycCtlWrite op v new s) := by
  unfold cycCtlWrite
  exact (keeps_ite (keeps_dlApply (keeps_ite (keeps_mk (keeps_setReg _ _ h0) rfl rfl rfl rfl rfl rfl rfl rfl rfl)
    (keeps_setReg _ _ h0))) (keeps_ite (keeps_mk (keeps_setReg _ _ h0) rfl rfl rfl rfl rfl rfl rfl rfl rfl)
    (keeps_setReg _ _ h0)))

theorem keeps_wrDtm {s0 : State} (a : Nat) (op : Nat) (v : Sys2Proof.W64) (new : Sys2Proof.W64) {s : State} (h0 :
    Keeps s0 s) :
    Keeps s0 (wrDtm a op v new s) := by
  unfold wrDtm
  exact (keeps_ite (keeps_cycCtlWrite _ _ _ h0) (keeps_ite (keeps_modeWrite _ (keeps_setReg _ _ h0)) (keeps_ite
    (keeps_tvWrite _ _ h0) (keeps_ite (keeps_addendWrite _ h0) (keeps_ite (keeps_ite (keeps_setGo h0) h0) (keeps_ite
    (keeps_ite (keeps_stepWrite _ h0) h0) (keeps_ite (keeps_ite (keeps_refSample _ _ h0) h0) (keeps_ite (keeps_ite
    (keeps_ptsPop h0) h0) (keeps_ite (keeps_ite (keeps_setGains (keeps_setReg _ _ h0)) (keeps_setReg _ _ h0))
    (keeps_ite (keeps_ite h0 (keeps_setReg _ _ h0)) (keeps_ite (keeps_ppsoWrite _ _ h0) (keeps_ite (keeps_frmoWrite _
    _ h0) (by
      try extract_lets
      split
      exact (keeps_ite (keeps_minClear _ h0) h0)
      exact (keeps_setReg _ _ h0)
    )))))))))))))

theorem keeps_wrCrn {s0 : State} (a : Nat) (op : Nat) (v : Sys2Proof.W64) (new : Sys2Proof.W64) {s : State} (h0 :
    Keeps s0 s) :
    Keeps s0 (wrCrn a op v new s) := by
  unfold wrCrn
  exact (keeps_ite (keeps_ite (keeps_cairnFlush h0) (keeps_ite (keeps_cairnPop h0) h0)) (keeps_setReg _ _ h0))

theorem keeps_wrSyn {s0 : State} (a : Nat) (op : Nat) (v : Sys2Proof.W64) (new : Sys2Proof.W64) {s : State} (h0 :
    Keeps s0 s) :
    Keeps s0 (wrSyn a op v new s) := by
  unfold wrSyn
  exact (by
      try extract_lets
      split
      exact (keeps_synCtlWrite _ _ h0)
      exact (keeps_synFracWrite _ _ h0)
      exact (keeps_synDivWrite _ _ h0)
      exact (keeps_ite (keeps_synStep _ _ h0) h0)
      exact (keeps_setReg _ _ h0)
    )

theorem keeps_logClr {s0 : State} {s : State} (h0 : Keeps s0 s) :
    Keeps s0 (logClr s) := by
  unfold logClr
  exact (keeps_setRb _ _ _ h0)

theorem keeps_wrSmp {s0 : State} (a : Nat) (op : Nat) (v : Sys2Proof.W64) (new : Sys2Proof.W64) {s : State} (h0 :
    Keeps s0 s) :
    Keeps s0 (wrSmp a op v new s) := by
  unfold wrSmp
  exact (keeps_ite (keeps_ite (keeps_logClr (keeps_setReg _ _ h0)) (keeps_setReg _ _ h0)) (keeps_ite
    (keeps_acknowledge _ h0) (keeps_setReg _ _ h0)))

theorem keeps_wrSec {s0 : State} (a : Nat) (op : Nat) (v : Sys2Proof.W64) (new : Sys2Proof.W64) {s : State} (h0 :
    Keeps s0 s) :
    Keeps s0 (wrSec a op v new s) := by
  unfold wrSec
  exact (keeps_ite (keeps_ite (keeps_rotGo _ _ h0) h0) (keeps_ite (keeps_ite h0 (keeps_violClear _ h0)) (keeps_ite
    (keeps_ite (keeps_reopen h0) h0) (keeps_ite (keeps_ceCtlWrite _ h0) (keeps_setReg _ _ h0)))))

theorem keeps_wrTim {s0 : State} (a : Nat) (new : Sys2Proof.W64) {s : State} (h0 : Keeps s0 s) :
    Keeps s0 (wrTim a new s) := by
  unfold wrTim
  exact (by
      try extract_lets
      split
      exact (keeps_timCtlWrite _ _ h0)
      exact (keeps_setReg _ _ h0)
    )

theorem keeps_wrSph {s0 : State} (a : Nat) (op : Nat) (v : Sys2Proof.W64) (new : Sys2Proof.W64) {s : State} (h0 :
    Keeps s0 s) :
    Keeps s0 (wrSph a op v new s) := by
  unfold wrSph
  exact (keeps_ite (keeps_forEach h0 (fun _ _ h1 => (keeps_sphTrigger _ h1))) (by
      try extract_lets
      split
      exact (keeps_ite (keeps_sphEnable _ (keeps_setReg _ _ h0)) (keeps_ite (keeps_sphDisable _ (keeps_setReg _ _ h0))
        (keeps_setReg _ _ h0)))
      exact (keeps_ite h0 (keeps_setReg _ _ h0))
      exact (keeps_setReg _ _ h0)
    ))

theorem keeps_peakClr {s0 : State} (m : Nat) {s : State} (h0 : Keeps s0 s) :
    Keeps s0 (peakClr m s) := by
  unfold peakClr
  exact (keeps_setRf _ _ _ h0)

theorem keeps_wrBmx {s0 : State} (a : Nat) (op : Nat) (v : Sys2Proof.W64) (new : Sys2Proof.W64) {s : State} (h0 :
    Keeps s0 s) :
    Keeps s0 (wrBmx a op v new s) := by
  unfold wrBmx
  exact (by
      try extract_lets
      split
      exact (keeps_ite (keeps_peakClr _ h0) h0)
      exact (keeps_setReg _ _ h0)
    )

theorem keeps_wrGde {s0 : State} (a : Nat) (op : Nat) (v : Sys2Proof.W64) (new : Sys2Proof.W64) {s : State} (h0 :
    Keeps s0 s) :
    Keeps s0 (wrGde a op v new s) := by
  unfold wrGde
  exact (keeps_ite (keeps_ite (keeps_rosterReady _ h0) h0) (keeps_ite (keeps_ite (keeps_rosterCancel _ h0) h0) (by
      try extract_lets
      split
      exact (keeps_taskCfg _ _ h0)
      exact (keeps_setReg _ _ h0)
    )))

theorem keeps_wrCfl {s0 : State} (a : Nat) (new : Sys2Proof.W64) {s : State} (h0 : Keeps s0 s) :
    Keeps s0 (wrCfl a new s) := by
  unfold wrCfl
  exact (keeps_ite (keeps_xpWrite _ h0) (keeps_setReg _ _ h0))

theorem keeps_flwCmd {s0 : State} (op : Nat) (slot : Nat) {s : State} (h0 : Keeps s0 s) :
    Keeps s0 (flwCmd op slot s) := by
  unfold flwCmd
  exact (keeps_ite (keeps_stage _ h0) (keeps_ite (keeps_discard _ h0) h0))

theorem keeps_wrFlw {s0 : State} (a : Nat) (op : Nat) (v : Sys2Proof.W64) (new : Sys2Proof.W64) {s : State} (h0 :
    Keeps s0 s) :
    Keeps s0 (wrFlw a op v new s) := by
  unfold wrFlw
  exact (keeps_ite (keeps_flwCmd _ _ h0) (keeps_ite (keeps_ite (keeps_commitWrite _ _ _ _ h0) h0) (keeps_ite
    (keeps_morphBaseWrite _ h0) (by
      try extract_lets
      split
      exact (keeps_slotBaseWrite _ _ h0)
      exact (keeps_setReg _ _ h0)
    ))))

theorem keeps_wrSap {s0 : State} (a : Nat) (new : Sys2Proof.W64) {s : State} (h0 : Keeps s0 s) :
    Keeps s0 (wrSap a new s) := by
  unfold wrSap
  exact (by
      try extract_lets
      split
      exact (keeps_sapEnableWrite _ _ (keeps_setReg _ _ h0))
      exact (keeps_setReg _ _ h0)
    )

theorem keeps_wrCle {s0 : State} (a : Nat) (op : Nat) (v : Sys2Proof.W64) (new : Sys2Proof.W64) {s : State} (h0 :
    Keeps s0 s) :
    Keeps s0 (wrCle a op v new s) := by
  unfold wrCle
  exact (keeps_ite (keeps_echoCtlWrite _ _ (keeps_setReg _ _ h0)) (by
      try extract_lets
      split
      exact (keeps_cleDirty _ (keeps_setReg _ _ h0))
      exact (keeps_setReg _ _ h0)
    ))

theorem keeps_wrPwm {s0 : State} (a : Nat) (new : Sys2Proof.W64) {s : State} (h0 : Keeps s0 s) :
    Keeps s0 (wrPwm a new s) := by
  unfold wrPwm
  exact (by
      try extract_lets
      split
      exact (keeps_pwmEnableWrite _ _ (keeps_setReg _ _ h0))
      exact (keeps_pwmWrite _ _ h0)
      exact (keeps_setReg _ _ h0)
    )

theorem keeps_wrLtn {s0 : State} (a : Nat) (op : Nat) (v : Sys2Proof.W64) (new : Sys2Proof.W64) {s : State} (h0 :
    Keeps s0 s) :
    Keeps s0 (wrLtn a op v new s) := by
  unfold wrLtn
  exact (by
      try extract_lets
      split
      exact (keeps_ltnEnableWrite _ _ (keeps_setReg _ _ h0))
      exact (keeps_ltnCommit _ _ _ h0)
      exact (keeps_cartEnable _ _ _ (keeps_tick1 (keeps_setReg _ _ h0)))
      exact (keeps_ite (keeps_cartReprobe _ _ (keeps_tick1 h0)) h0)
      exact (by
          try extract_lets
          split
          exact (keeps_ite (keeps_twGo _ (keeps_setReg _ _ h0)) (keeps_setReg _ _ h0))
          exact (keeps_setReg _ _ h0)
        )
    )

theorem keeps_wrAdc {s0 : State} (a : Nat) (op : Nat) (v : Sys2Proof.W64) (new : Sys2Proof.W64) {s : State} (h0 :
    Keeps s0 s) :
    Keeps s0 (wrAdc a op v new s) := by
  unfold wrAdc
  exact (by
      try extract_lets
      split
      exact (keeps_adcEnableWrite _ _ (keeps_setReg _ _ h0))
      exact (keeps_ite (keeps_regTrigger _ (keeps_ite (keeps_injTrigger _ h0) h0)) (keeps_ite (keeps_injTrigger _ h0)
        h0))
      exact (keeps_setReg _ _ h0)
    )

theorem keeps_wrDmx {s0 : State} (a : Nat) (op : Nat) (v : Sys2Proof.W64) (new : Sys2Proof.W64) {s : State} (h0 :
    Keeps s0 s) :
    Keeps s0 (wrDmx a op v new s) := by
  unfold wrDmx
  exact (by
      try extract_lets
      split
      exact (keeps_ite (keeps_dmxGo _ (keeps_ite (keeps_dmxSwap _ (keeps_setReg _ _ h0)) (keeps_setReg _ _ h0)))
        (keeps_ite (keeps_dmxSwap _ (keeps_setReg _ _ h0)) (keeps_setReg _ _ h0)))
      exact (keeps_ite (keeps_setReg _ _ h0) (keeps_setReg _ _ h0))
    )

theorem keeps_ldrCntClr {s0 : State} (n : Nat) {s : State} (h0 : Keeps s0 s) :
    Keeps s0 (ldrCntClr n s) := by
  unfold ldrCntClr
  exact (keeps_setReg _ _ h0)

theorem keeps_ldrCrcClr {s0 : State} (n : Nat) {s : State} (h0 : Keeps s0 s) :
    Keeps s0 (ldrCrcClr n s) := by
  unfold ldrCrcClr
  exact (keeps_setReg _ _ h0)

theorem keeps_wrChm {s0 : State} (a : Nat) (op : Nat) (v : Sys2Proof.W64) (new : Sys2Proof.W64) {s : State} (h0 :
    Keeps s0 s) :
    Keeps s0 (wrChm a op v new s) := by
  unfold wrChm
  exact (by
      try extract_lets
      split
      exact (keeps_ite (keeps_ldrCrcClr _ (keeps_ite (keeps_ldrCntClr _ h0) h0)) (keeps_ite (keeps_ldrCntClr _ h0)
        h0))
      exact (keeps_ite (keeps_chmFlush _ h0) h0)
      exact (keeps_setReg _ _ h0)
    )

theorem keeps_regAct {s0 : State} (a : Nat) (op : Nat) (v : Sys2Proof.W64) (new : Sys2Proof.W64) {s : State} (h0 :
    Keeps s0 s) :
    Keeps s0 (regAct a op v new s) := by
  unfold regAct
  exact (by
      try extract_lets
      split
      exact (keeps_wrRst _ _ _ _ h0)
      exact (keeps_wrPwr _ _ h0)
      exact (keeps_wrWtb _ _ _ _ h0)
      exact (keeps_wrGal _ _ _ _ h0)
      exact (keeps_wrDtm _ _ _ _ h0)
      exact (keeps_wrCrn _ _ _ _ h0)
      exact (keeps_wrSyn _ _ _ _ h0)
      exact (keeps_wrSmp _ _ _ _ h0)
      exact (keeps_ite (keeps_relWrite _ h0) (keeps_setReg _ _ h0))
      exact (keeps_wrSec _ _ _ _ h0)
      exact (keeps_wrSph _ _ _ _ h0)
      exact (keeps_wrBmx _ _ _ _ h0)
      exact (keeps_wrGde _ _ _ _ h0)
      exact (keeps_wrTim _ _ h0)
      exact (keeps_wrCfl _ _ h0)
      exact (keeps_wrFlw _ _ _ _ h0)
      exact (keeps_wrSap _ _ h0)
      exact (keeps_wrCle _ _ _ _ h0)
      exact (keeps_wrPwm _ _ h0)
      exact (keeps_wrLtn _ _ _ _ h0)
      exact (keeps_wrAdc _ _ _ _ h0)
      exact (keeps_wrDmx _ _ _ _ h0)
      exact (keeps_wrChm _ _ _ _ h0)
      exact (keeps_setReg _ _ h0)
    )

theorem keeps_regWrite {s0 : State} (a : Nat) (op : Nat) (v : Sys2Proof.W64) {s : State} (h0 : Keeps s0 s) :
    Keeps s0 (regWrite a op v s) := by
  unfold regWrite
  exact (by
      try extract_lets
      split
      exact h0
      exact (keeps_regAct _ _ _ _ (keeps_ite (keeps_raiseD _ _ h0) h0))
    )

theorem keeps_periphAccess {s0 : State} (m : Nat) (win : Nat) (off : Nat) (bytes : Nat) (write : Bool) (d :
    Sys2Proof.W64) {s : State} (h0 : Keeps s0 s) :
    Keeps s0 (periphAccess m win off bytes write d s).2 := by
  unfold periphAccess
  exact (by
      try extract_lets
      split
      exact h0
      exact (keeps_ite1 h0 (keeps_ite1 h0 (keeps_ite1 h0 (keeps_ite1 (keeps_setRb _ _ _ h0) (keeps_ite1
        (keeps_regWrite _ _ _ h0) (keeps_regRead _ _ h0))))))
    )

theorem keeps_memAccess {s0 : State} (imem : Bool) (off bytes : Nat) (write : Bool) (d : W64) {s : State}
    (h : Keeps s0 s) : Keeps s0 (memAccess imem off bytes write d s).2 := by
  unfold memAccess
  refine keeps_ite1 h (keeps_ite1 h (keeps_ite1 ?_ h))
  cases imem
  · exact keeps_gdeMem h id (wf_wrBytes _ _) id
  · exact keeps_gdeMem h (wf_wrBytes _ _) id id

theorem keeps_targetAccess {s0 : State} (m : Nat) (r : Region) (off bytes : Nat) (write : Bool) (d : W64)
    (coll : List (Nat × HwnAccess)) {s : State} (h : Keeps s0 s) : Keeps s0 (targetAccess m r off bytes write d coll s).2 := by
  cases r
  · exact keeps_memAccess _ _ _ _ _ h
  · exact keeps_memAccess _ _ _ _ _ h
  · exact keeps_hwnAccess _ _ _ _ _ h
  · exact keeps_cleAccess _ _ _ _ h
  · exact keeps_keyAccess _ _ _ _ h
  · exact keeps_chmAccess _ _ _ _ h
  · exact keeps_cavAccess _ _ _ _ _ h
  · exact keeps_periphAccess _ _ _ _ _ _ h

theorem keeps_routeAccess {s0 : State} (m : Nat) (a : Nat) (bytes : Nat) (write : Bool) (d : Sys2Proof.W64) (coll :
    List (Nat × Sys2Proof.HwnAccess)) {s : State} (h0 : Keeps s0 s) :
    Keeps s0 (routeAccess m a bytes write d coll s).2 := by
  unfold routeAccess
  exact (by
      try extract_lets
      split
      exact h0
      exact (keeps_ite1 h0 (keeps_targetAccess _ _ _ _ _ _ _ h0))
    )

theorem keeps_withEntry {s0 : State} (m : Nat) (f : Sys2Proof.Machine.State → Sys2Proof.Machine.Answer ×
    Sys2Proof.Machine.State) {s : State} (h0 : Keeps s0 s) (h_f : ∀ x0, Keeps s0 x0 → Keeps s0 (f x0).2) :
    Keeps s0 (withEntry m f s).2 := by
  unfold withEntry
  exact (keeps_freeEntry _ (h_f _ (keeps_takeEntry _ h0)))

theorem keeps_busAccess {s0 : State} (ident : Nat) (a : Nat) (bytes : Nat) (write : Bool) (d : Sys2Proof.W64) (coll :
    List (Nat × Sys2Proof.HwnAccess)) {s : State} (h0 : Keeps s0 s) :
    Keeps s0 (busAccess ident a bytes write d coll s).2 := by
  unfold busAccess
  exact (keeps_ite1 (keeps_withEntry _ _ h0 (fun _ h1 => (keeps_routeAccess _ _ _ _ _ _ h1))) (keeps_errorResponse _ _
    _ _ (keeps_withEntry _ _ h0 (fun _ h2 => (keeps_routeAccess _ _ _ _ _ _ h2)))))

end Sys2Proof.Machine
end

