-- ==== Sys2Proof/Laws/KeepsCommand.lean ====
section
/-! SUPPORT. The operations of Machine/Command.lean keep what every command keeps. -/

namespace Sys2Proof.Machine

open Sys2Proof

theorem keeps_ev {s0 : State} (f : Sys2Proof.Machine.State → Sys2Proof.Machine.State) {s : State} (h0 : Keeps s0 s)
    (h_f : ∀ x0, Keeps s0 x0 → Keeps s0 (f x0)) :
    Keeps s0 (ev f s) := by
  unfold ev
  exact (keeps_ite h0 (h_f _ h0))

theorem keeps_ctl {s0 : State} (a : Nat) (f : Sys2Proof.Machine.State → Sys2Proof.Machine.State) {s : State} (h0 :
    Keeps s0 s) (h_f : ∀ x0, Keeps s0 x0 → Keeps s0 (f x0)) :
    Keeps s0 (ctl a f s) := by
  unfold ctl
  exact (keeps_ite h0 (keeps_ite (keeps_answer _ _ (keeps_errorResponse _ _ _ _ h0)) (keeps_answer _ _ (h_f _ h0))))

end Sys2Proof.Machine
end

