-- ==== Sys2Proof/Laws/KeepsAudioExec.lean ====
section
/-! SUPPORT. The operations of Machine/AudioExec.lean keep what every command keeps. -/

namespace Sys2Proof.Machine

open Sys2Proof

theorem keeps_execCflXpDataWrite {s0 : State} (gain : Sys2Proof.W32) {s : State} (h0 : Keeps s0 s) :
    KeepsOut s0 (execCflXpDataWrite gain s) := by
  unfold execCflXpDataWrite
  exact (keeps_next (keeps_ctl _ _ h0 (fun _ h1 => (keeps_xpWrite _ h1))))

theorem keeps_execCflMuteWrite {s0 : State} (input : BitVec 8) (mute : Bool) {s : State} (h0 : Keeps s0 s) :
    KeepsOut s0 (execCflMuteWrite input mute s) := by
  unfold execCflMuteWrite
  exact (keeps_next (keeps_ctl _ _ h0 (fun _ h1 => (keeps_muteWrite _ _ h1))))

theorem keeps_execFlwStage {s0 : State} (slot : BitVec 4) {s : State} (h0 : Keeps s0 s) :
    KeepsOut s0 (execFlwStage slot s) := by
  unfold execFlwStage
  exact (keeps_next (keeps_ctl _ _ h0 (fun _ h1 => (keeps_stage _ h1))))

theorem keeps_execFlwDiscard {s0 : State} (slot : BitVec 4) {s : State} (h0 : Keeps s0 s) :
    KeepsOut s0 (execFlwDiscard slot s) := by
  unfold execFlwDiscard
  exact (keeps_next (keeps_ctl _ _ h0 (fun _ h1 => (keeps_discard _ h1))))

theorem keeps_execSetCheckDone {s0 : State} {s : State} (h0 : Keeps s0 s) :
    KeepsOut s0 (execSetCheckDone s) := by
  unfold execSetCheckDone
  exact (keeps_next (keeps_ev _ h0 (fun _ h1 => (keeps_checkDone h1))))

theorem keeps_execFlwLocalCommit {s0 : State} (slot : BitVec 4) (cyc : BitVec 48) {s : State} (h0 : Keeps s0 s) :
    KeepsOut s0 (execFlwLocalCommit slot cyc s) := by
  unfold execFlwLocalCommit
  exact (keeps_next (keeps_ctl _ _ h0 (fun _ h1 => (keeps_commitWrite _ _ _ _ h1))))

theorem keeps_execFlwChainCommit {s0 : State} (slot : BitVec 4) (dest : BitVec 8) (cyc : BitVec 48) {s : State} (h0 :
    Keeps s0 s) :
    KeepsOut s0 (execFlwChainCommit slot dest cyc s) := by
  unfold execFlwChainCommit
  exact (keeps_next (keeps_ctl _ _ h0 (fun _ h1 => (keeps_commitWrite _ _ _ _ h1))))

theorem keeps_execArmingStart {s0 : State} {s : State} (h0 : Keeps s0 s) :
    KeepsOut s0 (execArmingStart s) := by
  unfold execArmingStart
  exact (keeps_next (keeps_ev _ h0 (fun _ h1 => (keeps_armStart h1))))

theorem keeps_execArmingDone {s0 : State} {s : State} (h0 : Keeps s0 s) :
    KeepsOut s0 (execArmingDone s) := by
  unfold execArmingDone
  exact (keeps_next (keeps_ev _ h0 (fun _ h1 => (keeps_armDone h1))))

theorem keeps_execFlwSlotBaseWrite {s0 : State} (slot : BitVec 4) (word : BitVec 20) {s : State} (h0 : Keeps s0 s) :
    KeepsOut s0 (execFlwSlotBaseWrite slot word s) := by
  unfold execFlwSlotBaseWrite
  exact (keeps_next (keeps_ctl _ _ h0 (fun _ h1 => (keeps_slotBaseWrite _ _ h1))))

theorem keeps_execFlwMorphBaseWrite {s0 : State} (word : BitVec 20) {s : State} (h0 : Keeps s0 s) :
    KeepsOut s0 (execFlwMorphBaseWrite word s) := by
  unfold execFlwMorphBaseWrite
  exact (keeps_next (keeps_ctl _ _ h0 (fun _ h1 => (keeps_morphBaseWrite _ h1))))

theorem keeps_execSapEnable {s0 : State} (port : BitVec 3) {s : State} (h0 : Keeps s0 s) :
    KeepsOut s0 (execSapEnable port s) := by
  unfold execSapEnable
  exact (keeps_next (keeps_ctl _ _ h0 (fun _ h1 => (keeps_sapEnableWrite _ _ h1))))

theorem keeps_execSapDisable {s0 : State} (port : BitVec 3) {s : State} (h0 : Keeps s0 s) :
    KeepsOut s0 (execSapDisable port s) := by
  unfold execSapDisable
  exact (keeps_next (keeps_ctl _ _ h0 (fun _ h1 => (keeps_sapEnableWrite _ _ h1))))

theorem keeps_execSapClockArrival {s0 : State} (port : BitVec 3) {s : State} (h0 : Keeps s0 s) :
    KeepsOut s0 (execSapClockArrival port s) := by
  unfold execSapClockArrival
  exact (keeps_next (keeps_ev _ h0 (fun _ h1 => (keeps_sapClock _ h1))))

theorem keeps_execSapLeadEnd {s0 : State} (port : BitVec 3) {s : State} (h0 : Keeps s0 s) :
    KeepsOut s0 (execSapLeadEnd port s) := by
  unfold execSapLeadEnd
  exact (keeps_next (keeps_ev _ h0 (fun _ h1 => (keeps_sapLeadEnd _ h1))))

theorem keeps_execSapTrailEnd {s0 : State} (port : BitVec 3) {s : State} (h0 : Keeps s0 s) :
    KeepsOut s0 (execSapTrailEnd port s) := by
  unfold execSapTrailEnd
  exact (keeps_next (keeps_ev _ h0 (fun _ h1 => (keeps_sapTrailEnd _ h1))))

theorem keeps_execSapFrame {s0 : State} (port : BitVec 3) (di : List Bool) {s : State} (h0 : Keeps s0 s) :
    KeepsOut s0 (execSapFrame port di s) := by
  unfold execSapFrame
  exact (keeps_next (keeps_ev _ h0 (fun _ h1 => (keeps_sapFrame _ _ h1))))

theorem keeps_execSampleGridPoint {s0 : State} {s : State} (h0 : Keeps s0 s) :
    KeepsOut s0 (execSampleGridPoint s) := by
  unfold execSampleGridPoint
  exact (keeps_next (keeps_ev _ h0 (fun _ h1 => (keeps_gridPoint h1))))

theorem keeps_execSapClockLoss {s0 : State} (port : BitVec 3) {s : State} (h0 : Keeps s0 s) :
    KeepsOut s0 (execSapClockLoss port s) := by
  unfold execSapClockLoss
  exact (keeps_next (keeps_ev _ h0 (fun _ h1 => (keeps_sapFault _ _ h1))))

theorem keeps_execSapRateError {s0 : State} (port : BitVec 3) {s : State} (h0 : Keeps s0 s) :
    KeepsOut s0 (execSapRateError port s) := by
  unfold execSapRateError
  exact (keeps_next (keeps_ev _ h0 (fun _ h1 => (keeps_sapFault _ _ h1))))

theorem keeps_execDmxGo {s0 : State} (port : BitVec 1) {s : State} (h0 : Keeps s0 s) :
    KeepsOut s0 (execDmxGo port s) := by
  unfold execDmxGo
  exact (keeps_next (keeps_ctl _ _ h0 (fun _ h1 => (keeps_dmxGo _ h1))))

theorem keeps_execDmxSwap {s0 : State} (port : BitVec 1) {s : State} (h0 : Keeps s0 s) :
    KeepsOut s0 (execDmxSwap port s) := by
  unfold execDmxSwap
  exact (keeps_next (keeps_ctl _ _ h0 (fun _ h1 => (keeps_dmxSwap _ h1))))

theorem keeps_execDmxBreakStart {s0 : State} (port : BitVec 1) {s : State} (h0 : Keeps s0 s) :
    KeepsOut s0 (execDmxBreakStart port s) := by
  unfold execDmxBreakStart
  exact (keeps_next (keeps_ev _ h0 (fun _ h1 => (keeps_dmxBreak _ h1))))

theorem keeps_execDmxRxFrame {s0 : State} (port : BitVec 1) (brk : BitVec 32) (mark : BitVec 32) (bytes : List
    Sys2Proof.Byte) (framingError : Bool) (ago : BitVec 32) {s : State} (h0 : Keeps s0 s) :
    KeepsOut s0 (execDmxRxFrame port brk mark bytes framingError ago s) := by
  unfold execDmxRxFrame
  exact (keeps_next (keeps_ev _ h0 (fun _ h1 => (keeps_dmxRx _ _ _ _ _ _ h1))))

theorem keeps_execDmxRdmTimeout {s0 : State} (port : BitVec 1) {s : State} (h0 : Keeps s0 s) :
    KeepsOut s0 (execDmxRdmTimeout port s) := by
  unfold execDmxRdmTimeout
  exact (keeps_next (keeps_ev _ h0 (fun _ h1 => (keeps_dmxTimeout _ h1))))

theorem keeps_execDmxTxFrameEnd {s0 : State} (port : BitVec 1) {s : State} (h0 : Keeps s0 s) :
    KeepsOut s0 (execDmxTxFrameEnd port s) := by
  unfold execDmxTxFrameEnd
  exact (keeps_next (keeps_ev _ h0 (fun _ h1 => (keeps_dmxTxEnd _ h1))))

end Sys2Proof.Machine
end

