-- ==== Sys2Proof/Laws/KeepsMatrixRun.lean ====
section
/-! SUPPORT. The operations of Machine/MatrixRun.lean keep what every command keeps. -/

namespace Sys2Proof.Machine

open Sys2Proof

theorem keeps_onPosts {s0 : State} (ps : List Sys2Proof.Machine.GPost) (ss : List Sys2Proof.Machine.GStore) {s :
    State} (h0 : Keeps s0 s) :
    Keeps s0 (onPosts ps ss s) := by
  unfold onPosts
  exact (keeps_mk h0 rfl rfl rfl rfl rfl rfl rfl rfl rfl)

theorem keeps_postIssue {s0 : State} {s : State} (h0 : Keeps s0 s) :
    Keeps s0 (postIssue s) := by
  unfold postIssue
  exact (by
      try extract_lets
      split
      exact h0
      exact (keeps_ite (keeps_routeAccess _ _ _ _ _ _ (keeps_issueSeq (keeps_takeEntry _ (keeps_onPosts _ _ h0))))
        (keeps_onPosts _ _ (keeps_routeAccess _ _ _ _ _ _ (keeps_issueSeq (keeps_takeEntry _ (keeps_onPosts _ _
        h0))))))
    )

theorem keeps_postDrain {s0 : State} (n : Nat) {s : State} (h : Keeps s0 s) : Keeps s0 (postDrain n s) := by
  induction n generalizing s with
  | zero => exact h
  | succ n ih => exact keeps_ite h (ih (keeps_postIssue h))

theorem keeps_postStore {s0 : State} (p : Sys2Proof.Machine.GPost) {s : State} (h0 : Keeps s0 s) :
    Keeps s0 (postStore p s) := by
  unfold postStore
  exact (keeps_ite (keeps_postIssue (keeps_onPosts _ _ h0)) (keeps_countStall _ (keeps_onPosts _ _ h0)))

theorem keeps_takeTurn {s0 : State} (ident : Nat) {s : State} (h0 : Keeps s0 s) :
    Keeps s0 (takeTurn ident s) := by
  unfold takeTurn
  exact (keeps_ite (keeps_mk h0 rfl rfl rfl rfl rfl rfl rfl rfl rfl) h0)

theorem keeps_issueAt {s0 : State} (i : Nat) {s : State} (h0 : Keeps s0 s) :
    Keeps s0 (issueAt i s) := by
  unfold issueAt
  exact (by
      try extract_lets
      split
      exact h0
      exact (keeps_ite (keeps_routeAccess _ _ _ _ _ _ (keeps_takeTurn _ (keeps_issueSeq (keeps_takeEntry _ h0))))
        (keeps_mk (keeps_routeAccess _ _ _ _ _ _ (keeps_takeTurn _ (keeps_issueSeq (keeps_takeEntry _ h0)))) rfl rfl
        rfl rfl rfl rfl rfl rfl rfl))
    )

theorem keeps_issueWaiting {s0 : State} (m : Nat) {s : State} (h0 : Keeps s0 s) :
    Keeps s0 (issueWaiting m s) := by
  unfold issueWaiting
  exact (by
      try extract_lets
      split
      exact (keeps_issueAt _ (keeps_ite (keeps_postDrain _ h0) h0))
      exact (keeps_ite (keeps_postDrain _ h0) h0)
    )

theorem keeps_bmxIssue {s0 : State} (ident : Nat) (a : Nat) (bytes : Nat) (write : Bool) (d : Sys2Proof.W64) (coll :
    List (Nat × Sys2Proof.HwnAccess)) {s : State} (h0 : Keeps s0 s) :
    Keeps s0 (bmxIssue ident a bytes write d coll s) := by
  unfold bmxIssue
  exact (keeps_ite h0 (keeps_ite (keeps_issueAt _ (keeps_mk h0 rfl rfl rfl rfl rfl rfl rfl rfl rfl)) (keeps_countStall
    _ (keeps_mk h0 rfl rfl rfl rfl rfl rfl rfl rfl rfl))))

theorem keeps_busAs {s0 : State} (ident : Nat) (a : Nat) (bytes : Nat) (write : Bool) (d : Sys2Proof.W64) (coll : List
    (Nat × Sys2Proof.HwnAccess)) {s : State} (h0 : Keeps s0 s) :
    Keeps s0 (busAs ident a bytes write d coll s) := by
  unfold busAs
  exact (keeps_ite h0 (keeps_ite (keeps_bmxIssue _ _ _ _ _ _ h0) (keeps_answer _ _ (keeps_busAccess _ _ _ _ _ _ h0))))

theorem keeps_busCommand {s0 : State} (m : Nat) (a : Nat) (bytes : Nat) (write : Bool) (d : Sys2Proof.W64) (coll :
    List (Nat × Sys2Proof.HwnAccess)) {s : State} (h0 : Keeps s0 s) :
    Keeps s0 (busCommand m a bytes write d coll s) := by
  unfold busCommand
  exact (keeps_ite h0 (keeps_busAs _ _ _ _ _ _ h0))

theorem keeps_respond {s0 : State} (i : Nat) {s : State} (h : Keeps s0 s) : Keeps s0 (respond i s) := by
  unfold respond
  extract_lets t
  have k : Keeps s0 t := by
    unfold t
    split
    · exact keeps_ite (keeps_issueAt _ h) h
    · exact h
  clear_value t
  split
  · exact k
  · rename_i x _
    have ke : Keeps s0 { t with txns := t.txns.eraseIdx i } := keeps_frame k rfl rfl rfl rfl rfl rfl rfl rfl rfl
    have kv := keeps_ite (c := x.early = true) ke (keeps_freeEntry x.master ke)
    dsimp only
    refine keeps_ite k (keeps_ite (keeps_issueWaiting _ ?_) (keeps_errorResponse _ _ _ _ (keeps_issueWaiting _ ?_)))
    · exact keeps_ite kv (keeps_answer _ _ kv)
    · exact keeps_ite kv (keeps_answer _ _ kv)

theorem keeps_txnTimeout {s0 : State} (i : Nat) {s : State} (h0 : Keeps s0 s) :
    Keeps s0 (txnTimeout i s) := by
  unfold txnTimeout
  exact (by
      try extract_lets
      split
      exact h0
      exact (by
          try extract_lets
          split
          exact (keeps_respond _ (keeps_mk h0 rfl rfl rfl rfl rfl rfl rfl rfl rfl))
          exact h0
        )
    )

theorem keeps_sphIssue {s0 : State} (n : Nat) (k : Nat) (write : Bool) (d : Sys2Proof.W64) {s : State} (h0 : Keeps s0
    s) :
    Keeps s0 (sphIssue n k write d s) := by
  unfold sphIssue
  exact (keeps_ite (keeps_routeAccess _ _ _ _ _ _ (keeps_issueSeq (keeps_takeEntry _ (keeps_setSph _ _ h0))))
    (keeps_setSph _ _ (keeps_routeAccess _ _ _ _ _ _ (keeps_issueSeq (keeps_takeEntry _ (keeps_setSph _ _ h0))))))

theorem keeps_sphStalls {s0 : State} {s : State} (h0 : Keeps s0 s) :
    Keeps s0 (sphStalls s) := by
  unfold sphStalls
  exact (keeps_forEach h0 (fun _ _ h1 => (keeps_ite (keeps_countStall _ (keeps_setSph _ _ h1)) h1)))

theorem keeps_sphFill {s0 : State} (k : Nat) {s : State} (h : Keeps s0 s) : Keeps s0 (sphFill k s) := by
  induction k generalizing s with
  | zero => exact h
  | succ k ih =>
    unfold sphFill
    refine keeps_ite h (keeps_ite (keeps_sphStalls h) ?_)
    split
    · exact h
    · exact ih (keeps_sphIssue _ _ _ _ (keeps_frame h rfl rfl rfl rfl rfl rfl rfl rfl rfl))

theorem keeps_sphGo {s0 : State} {s : State} (h0 : Keeps s0 s) :
    Keeps s0 (sphGo s) := by
  unfold sphGo
  exact (keeps_sphFill _ h0)

theorem keeps_sphBlockDone {s0 : State} (n : Nat) {s : State} (h0 : Keeps s0 s) :
    Keeps s0 (sphBlockDone n s) := by
  unfold sphBlockDone
  exact (keeps_ite (keeps_sphStart _ (keeps_setRb _ _ _ (keeps_ite (keeps_rosterEvent _ (keeps_ite (keeps_setRb _ _ _
    (keeps_setRb _ _ _ (keeps_setRb _ _ _ (keeps_setRb _ _ _ (keeps_setRb _ _ _ h0))))) (keeps_setRf _ _ _
    (keeps_setRb _ _ _ (keeps_setRb _ _ _ h0))))) (keeps_ite (keeps_setRb _ _ _ (keeps_setRb _ _ _ (keeps_setRb _ _ _
    (keeps_setRb _ _ _ (keeps_setRb _ _ _ h0))))) (keeps_setRf _ _ _ (keeps_setRb _ _ _ (keeps_setRb _ _ _ h0)))))))
    (keeps_ite (keeps_rosterEvent _ (keeps_ite (keeps_setRb _ _ _ (keeps_setRb _ _ _ (keeps_setRb _ _ _ (keeps_setRb _
    _ _ (keeps_setRb _ _ _ h0))))) (keeps_setRf _ _ _ (keeps_setRb _ _ _ (keeps_setRb _ _ _ h0))))) (keeps_ite
    (keeps_setRb _ _ _ (keeps_setRb _ _ _ (keeps_setRb _ _ _ (keeps_setRb _ _ _ (keeps_setRb _ _ _ h0)))))
    (keeps_setRf _ _ _ (keeps_setRb _ _ _ (keeps_setRb _ _ _ h0))))))

theorem keeps_sphAcked {s0 : State} (n : Nat) {s : State} (h0 : Keeps s0 s) :
    Keeps s0 (sphAcked n s) := by
  unfold sphAcked
  exact (keeps_ite (keeps_sphStop _ _ _ (keeps_sphLeft _ (keeps_setSph _ _ h0))) (keeps_ite (keeps_sphLeft _
    (keeps_setSph _ _ h0)) (keeps_sphBlockDone _ (keeps_sphLeft _ (keeps_setSph _ _ h0)))))

theorem keeps_sphAnswer {s0 : State} (n : Nat) (i : Nat) {s : State} (h0 : Keeps s0 s) :
    Keeps s0 (sphAnswer n i s) := by
  unfold sphAnswer
  exact (by
      try extract_lets
      split
      exact h0
      exact (keeps_ite h0 (keeps_sphGo (keeps_ite (keeps_ite (keeps_ite (keeps_setSph _ _ h0) (keeps_freeEntry _
        (keeps_setSph _ _ h0))) (keeps_errorResponse _ _ _ _ (keeps_ite (keeps_setSph _ _ h0) (keeps_freeEntry _
        (keeps_setSph _ _ h0))))) (keeps_ite (keeps_sphStop _ _ _ (keeps_ite (keeps_ite (keeps_setSph _ _ h0)
        (keeps_freeEntry _ (keeps_setSph _ _ h0))) (keeps_errorResponse _ _ _ _ (keeps_ite (keeps_setSph _ _ h0)
        (keeps_freeEntry _ (keeps_setSph _ _ h0)))))) (keeps_ite (keeps_sphAcked _ (keeps_ite (keeps_ite (keeps_setSph
        _ _ h0) (keeps_freeEntry _ (keeps_setSph _ _ h0))) (keeps_errorResponse _ _ _ _ (keeps_ite (keeps_setSph _ _
        h0) (keeps_freeEntry _ (keeps_setSph _ _ h0)))))) (keeps_setSph _ _ (keeps_ite (keeps_ite (keeps_setSph _ _
        h0) (keeps_freeEntry _ (keeps_setSph _ _ h0))) (keeps_errorResponse _ _ _ _ (keeps_ite (keeps_setSph _ _ h0)
        (keeps_freeEntry _ (keeps_setSph _ _ h0)))))))))))
    )

theorem keeps_sphReturns {s0 : State} (n : Nat) (write : Bool) {s : State} (h0 : Keeps s0 s) :
    Keeps s0 (sphReturns n write s) := by
  unfold sphReturns
  exact (keeps_sphAnswer _ _ (keeps_sphGo h0))

theorem keeps_sphTimeout {s0 : State} (n : Nat) (i : Nat) {s : State} (h0 : Keeps s0 s) :
    Keeps s0 (sphTimeout n i s) := by
  unfold sphTimeout
  exact (by
      try extract_lets
      split
      exact h0
      exact (keeps_sphAnswer _ _ (keeps_setSph _ _ h0))
    )

end Sys2Proof.Machine
end

