-- ==== Sys2Proof/Laws/KeepsChamberExec.lean ====
section
/-! SUPPORT. The operations of Machine/ChamberExec.lean keep what every command keeps. -/

namespace Sys2Proof.Machine

open Sys2Proof

theorem keeps_chmShort {s0 : State} (n : Nat) (op : BitVec 6) (f : BitVec 25) (co : Sys2Proof.CoSlot) {s : State} (h0
    : Keeps s0 s) :
    Keeps s0 (chmShort n op f co s) := by
  unfold chmShort
  exact (keeps_chmBundle _ _ (keeps_chmFlip _ _ h0))

theorem keeps_chmLong {s0 : State} (n : Nat) (op : BitVec 4) (f : BitVec 58) (flip : Option Sys2Proof.ChmFlip) {s :
    State} (h0 : Keeps s0 s) :
    Keeps s0 (chmLong n op f flip s) := by
  unfold chmLong
  exact (keeps_chmBundle _ _ (keeps_chmFlip _ _ h0))

theorem keeps_execLoaderWrite {s0 : State} (tile : BitVec 4) (index : BitVec 13) (v : Sys2Proof.W64) {s : State} (h0 :
    Keeps s0 s) :
    KeepsOut s0 (execLoaderWrite tile index v s) := by
  unfold execLoaderWrite
  exact (keeps_next (keeps_busCommand _ _ _ _ _ _ h0))

theorem keeps_execLoaderCntClr {s0 : State} (tile : BitVec 4) {s : State} (h0 : Keeps s0 s) :
    KeepsOut s0 (execLoaderCntClr tile s) := by
  unfold execLoaderCntClr
  exact (keeps_next (keeps_ctl _ _ h0 (fun _ h1 => (keeps_ldrCntClr _ h1))))

theorem keeps_execLoaderCrcClr {s0 : State} (tile : BitVec 4) {s : State} (h0 : Keeps s0 s) :
    KeepsOut s0 (execLoaderCrcClr tile s) := by
  unfold execLoaderCrcClr
  exact (keeps_next (keeps_ctl _ _ h0 (fun _ h1 => (keeps_ldrCrcClr _ h1))))

theorem keeps_execChamberCavernLoadReturn {s0 : State} (tile : BitVec 4) {s : State} (h0 : Keeps s0 s) :
    KeepsOut s0 (execChamberCavernLoadReturn tile s) := by
  unfold execChamberCavernLoadReturn
  exact (keeps_next (keeps_ev _ h0 (fun _ h1 => (keeps_chamberReturns _ h1))))

theorem keeps_execChmNop {s0 : State} (tile : BitVec 4) (bundle : Sys2Proof.W64) (flip : Option Sys2Proof.ChmFlip) {s
    : State} (h0 : Keeps s0 s) :
    KeepsOut s0 (execChmNop tile bundle flip s) := by
  unfold execChmNop
  exact (keeps_next (keeps_ev _ h0 (fun _ h1 => (keeps_chmBundle _ _ (keeps_chmFlip _ _ h1)))))

theorem keeps_execChmAdd {s0 : State} (tile : BitVec 4) (f : BitVec 25) (co : Sys2Proof.CoSlot) {s : State} (h0 :
    Keeps s0 s) :
    KeepsOut s0 (execChmAdd tile f co s) := by
  unfold execChmAdd
  exact (keeps_next (keeps_ev _ h0 (fun _ h1 => (keeps_chmShort _ _ _ _ h1))))

theorem keeps_execChmSub {s0 : State} (tile : BitVec 4) (f : BitVec 25) (co : Sys2Proof.CoSlot) {s : State} (h0 :
    Keeps s0 s) :
    KeepsOut s0 (execChmSub tile f co s) := by
  unfold execChmSub
  exact (keeps_next (keeps_ev _ h0 (fun _ h1 => (keeps_chmShort _ _ _ _ h1))))

theorem keeps_execChmMin {s0 : State} (tile : BitVec 4) (f : BitVec 25) (co : Sys2Proof.CoSlot) {s : State} (h0 :
    Keeps s0 s) :
    KeepsOut s0 (execChmMin tile f co s) := by
  unfold execChmMin
  exact (keeps_next (keeps_ev _ h0 (fun _ h1 => (keeps_chmShort _ _ _ _ h1))))

theorem keeps_execChmMax {s0 : State} (tile : BitVec 4) (f : BitVec 25) (co : Sys2Proof.CoSlot) {s : State} (h0 :
    Keeps s0 s) :
    KeepsOut s0 (execChmMax tile f co s) := by
  unfold execChmMax
  exact (keeps_next (keeps_ev _ h0 (fun _ h1 => (keeps_chmShort _ _ _ _ h1))))

theorem keeps_execChmAbs {s0 : State} (tile : BitVec 4) (f : BitVec 25) (co : Sys2Proof.CoSlot) {s : State} (h0 :
    Keeps s0 s) :
    KeepsOut s0 (execChmAbs tile f co s) := by
  unfold execChmAbs
  exact (keeps_next (keeps_ev _ h0 (fun _ h1 => (keeps_chmShort _ _ _ _ h1))))

theorem keeps_execChmNeg {s0 : State} (tile : BitVec 4) (f : BitVec 25) (co : Sys2Proof.CoSlot) {s : State} (h0 :
    Keeps s0 s) :
    KeepsOut s0 (execChmNeg tile f co s) := by
  unfold execChmNeg
  exact (keeps_next (keeps_ev _ h0 (fun _ h1 => (keeps_chmShort _ _ _ _ h1))))

theorem keeps_execChmMul {s0 : State} (tile : BitVec 4) (f : BitVec 25) (co : Sys2Proof.CoSlot) {s : State} (h0 :
    Keeps s0 s) :
    KeepsOut s0 (execChmMul tile f co s) := by
  unfold execChmMul
  exact (keeps_next (keeps_ev _ h0 (fun _ h1 => (keeps_chmShort _ _ _ _ h1))))

theorem keeps_execChmAnd {s0 : State} (tile : BitVec 4) (f : BitVec 25) (co : Sys2Proof.CoSlot) {s : State} (h0 :
    Keeps s0 s) :
    KeepsOut s0 (execChmAnd tile f co s) := by
  unfold execChmAnd
  exact (keeps_next (keeps_ev _ h0 (fun _ h1 => (keeps_chmShort _ _ _ _ h1))))

theorem keeps_execChmOr {s0 : State} (tile : BitVec 4) (f : BitVec 25) (co : Sys2Proof.CoSlot) {s : State} (h0 : Keeps
    s0 s) :
    KeepsOut s0 (execChmOr tile f co s) := by
  unfold execChmOr
  exact (keeps_next (keeps_ev _ h0 (fun _ h1 => (keeps_chmShort _ _ _ _ h1))))

theorem keeps_execChmXor {s0 : State} (tile : BitVec 4) (f : BitVec 25) (co : Sys2Proof.CoSlot) {s : State} (h0 :
    Keeps s0 s) :
    KeepsOut s0 (execChmXor tile f co s) := by
  unfold execChmXor
  exact (keeps_next (keeps_ev _ h0 (fun _ h1 => (keeps_chmShort _ _ _ _ h1))))

theorem keeps_execChmCmp {s0 : State} (tile : BitVec 4) (f : BitVec 25) (co : Sys2Proof.CoSlot) {s : State} (h0 :
    Keeps s0 s) :
    KeepsOut s0 (execChmCmp tile f co s) := by
  unfold execChmCmp
  exact (keeps_next (keeps_ev _ h0 (fun _ h1 => (keeps_chmShort _ _ _ _ h1))))

theorem keeps_execChmTst {s0 : State} (tile : BitVec 4) (f : BitVec 25) (co : Sys2Proof.CoSlot) {s : State} (h0 :
    Keeps s0 s) :
    KeepsOut s0 (execChmTst tile f co s) := by
  unfold execChmTst
  exact (keeps_next (keeps_ev _ h0 (fun _ h1 => (keeps_chmShort _ _ _ _ h1))))

theorem keeps_execChmSel {s0 : State} (tile : BitVec 4) (f : BitVec 25) (co : Sys2Proof.CoSlot) {s : State} (h0 :
    Keeps s0 s) :
    KeepsOut s0 (execChmSel tile f co s) := by
  unfold execChmSel
  exact (keeps_next (keeps_ev _ h0 (fun _ h1 => (keeps_chmShort _ _ _ _ h1))))

theorem keeps_execChmShli {s0 : State} (tile : BitVec 4) (f : BitVec 25) (co : Sys2Proof.CoSlot) {s : State} (h0 :
    Keeps s0 s) :
    KeepsOut s0 (execChmShli tile f co s) := by
  unfold execChmShli
  exact (keeps_next (keeps_ev _ h0 (fun _ h1 => (keeps_chmShort _ _ _ _ h1))))

theorem keeps_execChmShri {s0 : State} (tile : BitVec 4) (f : BitVec 25) (co : Sys2Proof.CoSlot) {s : State} (h0 :
    Keeps s0 s) :
    KeepsOut s0 (execChmShri tile f co s) := by
  unfold execChmShri
  exact (keeps_next (keeps_ev _ h0 (fun _ h1 => (keeps_chmShort _ _ _ _ h1))))

theorem keeps_execChmLsri {s0 : State} (tile : BitVec 4) (f : BitVec 25) (co : Sys2Proof.CoSlot) {s : State} (h0 :
    Keeps s0 s) :
    KeepsOut s0 (execChmLsri tile f co s) := by
  unfold execChmLsri
  exact (keeps_next (keeps_ev _ h0 (fun _ h1 => (keeps_chmShort _ _ _ _ h1))))

theorem keeps_execChmSha {s0 : State} (tile : BitVec 4) (f : BitVec 25) (co : Sys2Proof.CoSlot) {s : State} (h0 :
    Keeps s0 s) :
    KeepsOut s0 (execChmSha tile f co s) := by
  unfold execChmSha
  exact (keeps_next (keeps_ev _ h0 (fun _ h1 => (keeps_chmShort _ _ _ _ h1))))

theorem keeps_execChmMov {s0 : State} (tile : BitVec 4) (f : BitVec 25) (co : Sys2Proof.CoSlot) {s : State} (h0 :
    Keeps s0 s) :
    KeepsOut s0 (execChmMov tile f co s) := by
  unfold execChmMov
  exact (keeps_next (keeps_ev _ h0 (fun _ h1 => (keeps_chmShort _ _ _ _ h1))))

theorem keeps_execChmMovi {s0 : State} (tile : BitVec 4) (f : BitVec 25) (co : Sys2Proof.CoSlot) {s : State} (h0 :
    Keeps s0 s) :
    KeepsOut s0 (execChmMovi tile f co s) := by
  unfold execChmMovi
  exact (keeps_next (keeps_ev _ h0 (fun _ h1 => (keeps_chmShort _ _ _ _ h1))))

theorem keeps_execChmNrm {s0 : State} (tile : BitVec 4) (f : BitVec 25) (co : Sys2Proof.CoSlot) {s : State} (h0 :
    Keeps s0 s) :
    KeepsOut s0 (execChmNrm tile f co s) := by
  unfold execChmNrm
  exact (keeps_next (keeps_ev _ h0 (fun _ h1 => (keeps_chmShort _ _ _ _ h1))))

theorem keeps_execChmPack {s0 : State} (tile : BitVec 4) (f : BitVec 25) (co : Sys2Proof.CoSlot) {s : State} (h0 :
    Keeps s0 s) :
    KeepsOut s0 (execChmPack tile f co s) := by
  unfold execChmPack
  exact (keeps_next (keeps_ev _ h0 (fun _ h1 => (keeps_chmShort _ _ _ _ h1))))

theorem keeps_execChmUnpk {s0 : State} (tile : BitVec 4) (f : BitVec 25) (co : Sys2Proof.CoSlot) {s : State} (h0 :
    Keeps s0 s) :
    KeepsOut s0 (execChmUnpk tile f co s) := by
  unfold execChmUnpk
  exact (keeps_next (keeps_ev _ h0 (fun _ h1 => (keeps_chmShort _ _ _ _ h1))))

theorem keeps_execChmExt {s0 : State} (tile : BitVec 4) (f : BitVec 25) (co : Sys2Proof.CoSlot) {s : State} (h0 :
    Keeps s0 s) :
    KeepsOut s0 (execChmExt tile f co s) := by
  unfold execChmExt
  exact (keeps_next (keeps_ev _ h0 (fun _ h1 => (keeps_chmShort _ _ _ _ h1))))

theorem keeps_execChmExt4 {s0 : State} (tile : BitVec 4) (f : BitVec 25) (co : Sys2Proof.CoSlot) {s : State} (h0 :
    Keeps s0 s) :
    KeepsOut s0 (execChmExt4 tile f co s) := by
  unfold execChmExt4
  exact (keeps_next (keeps_ev _ h0 (fun _ h1 => (keeps_chmShort _ _ _ _ h1))))

theorem keeps_execChmAclr {s0 : State} (tile : BitVec 4) (f : BitVec 25) (co : Sys2Proof.CoSlot) {s : State} (h0 :
    Keeps s0 s) :
    KeepsOut s0 (execChmAclr tile f co s) := by
  unfold execChmAclr
  exact (keeps_next (keeps_ev _ h0 (fun _ h1 => (keeps_chmShort _ _ _ _ h1))))

theorem keeps_execChmAmov {s0 : State} (tile : BitVec 4) (f : BitVec 25) (co : Sys2Proof.CoSlot) {s : State} (h0 :
    Keeps s0 s) :
    KeepsOut s0 (execChmAmov tile f co s) := by
  unfold execChmAmov
  exact (keeps_next (keeps_ev _ h0 (fun _ h1 => (keeps_chmShort _ _ _ _ h1))))

theorem keeps_execChmAadd {s0 : State} (tile : BitVec 4) (f : BitVec 25) (co : Sys2Proof.CoSlot) {s : State} (h0 :
    Keeps s0 s) :
    KeepsOut s0 (execChmAadd tile f co s) := by
  unfold execChmAadd
  exact (keeps_next (keeps_ev _ h0 (fun _ h1 => (keeps_chmShort _ _ _ _ h1))))

theorem keeps_execChmAsub {s0 : State} (tile : BitVec 4) (f : BitVec 25) (co : Sys2Proof.CoSlot) {s : State} (h0 :
    Keeps s0 s) :
    KeepsOut s0 (execChmAsub tile f co s) := by
  unfold execChmAsub
  exact (keeps_next (keeps_ev _ h0 (fun _ h1 => (keeps_chmShort _ _ _ _ h1))))

theorem keeps_execChmAld {s0 : State} (tile : BitVec 4) (f : BitVec 25) (co : Sys2Proof.CoSlot) {s : State} (h0 :
    Keeps s0 s) :
    KeepsOut s0 (execChmAld tile f co s) := by
  unfold execChmAld
  exact (keeps_next (keeps_ev _ h0 (fun _ h1 => (keeps_chmShort _ _ _ _ h1))))

theorem keeps_execChmAshr {s0 : State} (tile : BitVec 4) (f : BitVec 25) (co : Sys2Proof.CoSlot) {s : State} (h0 :
    Keeps s0 s) :
    KeepsOut s0 (execChmAshr tile f co s) := by
  unfold execChmAshr
  exact (keeps_next (keeps_ev _ h0 (fun _ h1 => (keeps_chmShort _ _ _ _ h1))))

theorem keeps_execChmAget {s0 : State} (tile : BitVec 4) (f : BitVec 25) (co : Sys2Proof.CoSlot) {s : State} (h0 :
    Keeps s0 s) :
    KeepsOut s0 (execChmAget tile f co s) := by
  unfold execChmAget
  exact (keeps_next (keeps_ev _ h0 (fun _ h1 => (keeps_chmShort _ _ _ _ h1))))

theorem keeps_execChmAput {s0 : State} (tile : BitVec 4) (f : BitVec 25) (co : Sys2Proof.CoSlot) {s : State} (h0 :
    Keeps s0 s) :
    KeepsOut s0 (execChmAput tile f co s) := by
  unfold execChmAput
  exact (keeps_next (keeps_ev _ h0 (fun _ h1 => (keeps_chmShort _ _ _ _ h1))))

theorem keeps_execChmMset {s0 : State} (tile : BitVec 4) (f : BitVec 25) (co : Sys2Proof.CoSlot) {s : State} (h0 :
    Keeps s0 s) :
    KeepsOut s0 (execChmMset tile f co s) := by
  unfold execChmMset
  exact (keeps_next (keeps_ev _ h0 (fun _ h1 => (keeps_chmShort _ _ _ _ h1))))

theorem keeps_execChmMneg {s0 : State} (tile : BitVec 4) (f : BitVec 25) (co : Sys2Proof.CoSlot) {s : State} (h0 :
    Keeps s0 s) :
    KeepsOut s0 (execChmMneg tile f co s) := by
  unfold execChmMneg
  exact (keeps_next (keeps_ev _ h0 (fun _ h1 => (keeps_chmShort _ _ _ _ h1))))

theorem keeps_execChmMacc {s0 : State} (tile : BitVec 4) (f : BitVec 25) (co : Sys2Proof.CoSlot) {s : State} (h0 :
    Keeps s0 s) :
    KeepsOut s0 (execChmMacc tile f co s) := by
  unfold execChmMacc
  exact (keeps_next (keeps_ev _ h0 (fun _ h1 => (keeps_chmShort _ _ _ _ h1))))

theorem keeps_execChmMsub {s0 : State} (tile : BitVec 4) (f : BitVec 25) (co : Sys2Proof.CoSlot) {s : State} (h0 :
    Keeps s0 s) :
    KeepsOut s0 (execChmMsub tile f co s) := by
  unfold execChmMsub
  exact (keeps_next (keeps_ev _ h0 (fun _ h1 => (keeps_chmShort _ _ _ _ h1))))

theorem keeps_execChmLd {s0 : State} (tile : BitVec 4) (f : BitVec 25) (co : Sys2Proof.CoSlot) {s : State} (h0 : Keeps
    s0 s) :
    KeepsOut s0 (execChmLd tile f co s) := by
  unfold execChmLd
  exact (keeps_next (keeps_ev _ h0 (fun _ h1 => (keeps_chmShort _ _ _ _ h1))))

theorem keeps_execChmSt {s0 : State} (tile : BitVec 4) (f : BitVec 25) (co : Sys2Proof.CoSlot) {s : State} (h0 : Keeps
    s0 s) :
    KeepsOut s0 (execChmSt tile f co s) := by
  unfold execChmSt
  exact (keeps_next (keeps_ev _ h0 (fun _ h1 => (keeps_chmShort _ _ _ _ h1))))

theorem keeps_execChmMtc {s0 : State} (tile : BitVec 4) (f : BitVec 25) (co : Sys2Proof.CoSlot) {s : State} (h0 :
    Keeps s0 s) :
    KeepsOut s0 (execChmMtc tile f co s) := by
  unfold execChmMtc
  exact (keeps_next (keeps_ev _ h0 (fun _ h1 => (keeps_chmShort _ _ _ _ h1))))

theorem keeps_execChmMfc {s0 : State} (tile : BitVec 4) (f : BitVec 25) (co : Sys2Proof.CoSlot) {s : State} (h0 :
    Keeps s0 s) :
    KeepsOut s0 (execChmMfc tile f co s) := by
  unfold execChmMfc
  exact (keeps_next (keeps_ev _ h0 (fun _ h1 => (keeps_chmShort _ _ _ _ h1))))

theorem keeps_execChmSetcg {s0 : State} (tile : BitVec 4) (f : BitVec 25) (co : Sys2Proof.CoSlot) {s : State} (h0 :
    Keeps s0 s) :
    KeepsOut s0 (execChmSetcg tile f co s) := by
  unfold execChmSetcg
  exact (keeps_next (keeps_ev _ h0 (fun _ h1 => (keeps_chmShort _ _ _ _ h1))))

theorem keeps_execChmEvget {s0 : State} (tile : BitVec 4) (f : BitVec 25) (co : Sys2Proof.CoSlot) {s : State} (h0 :
    Keeps s0 s) :
    KeepsOut s0 (execChmEvget tile f co s) := by
  unfold execChmEvget
  exact (keeps_next (keeps_ev _ h0 (fun _ h1 => (keeps_chmShort _ _ _ _ h1))))

theorem keeps_execChmBr {s0 : State} (tile : BitVec 4) (f : BitVec 25) (co : Sys2Proof.CoSlot) {s : State} (h0 : Keeps
    s0 s) :
    KeepsOut s0 (execChmBr tile f co s) := by
  unfold execChmBr
  exact (keeps_next (keeps_ev _ h0 (fun _ h1 => (keeps_chmShort _ _ _ _ h1))))

theorem keeps_execChmRep {s0 : State} (tile : BitVec 4) (f : BitVec 25) (co : Sys2Proof.CoSlot) {s : State} (h0 :
    Keeps s0 s) :
    KeepsOut s0 (execChmRep tile f co s) := by
  unfold execChmRep
  exact (keeps_next (keeps_ev _ h0 (fun _ h1 => (keeps_chmShort _ _ _ _ h1))))

theorem keeps_execChmRepr {s0 : State} (tile : BitVec 4) (f : BitVec 25) (co : Sys2Proof.CoSlot) {s : State} (h0 :
    Keeps s0 s) :
    KeepsOut s0 (execChmRepr tile f co s) := by
  unfold execChmRepr
  exact (keeps_next (keeps_ev _ h0 (fun _ h1 => (keeps_chmShort _ _ _ _ h1))))

theorem keeps_execChmEnd {s0 : State} (tile : BitVec 4) (f : BitVec 25) (co : Sys2Proof.CoSlot) {s : State} (h0 :
    Keeps s0 s) :
    KeepsOut s0 (execChmEnd tile f co s) := by
  unfold execChmEnd
  exact (keeps_next (keeps_ev _ h0 (fun _ h1 => (keeps_chmShort _ _ _ _ h1))))

theorem keeps_execChmRot {s0 : State} (tile : BitVec 4) (f : BitVec 25) (co : Sys2Proof.CoSlot) {s : State} (h0 :
    Keeps s0 s) :
    KeepsOut s0 (execChmRot tile f co s) := by
  unfold execChmRot
  exact (keeps_next (keeps_ev _ h0 (fun _ h1 => (keeps_chmShort _ _ _ _ h1))))

theorem keeps_execChmLongMac {s0 : State} (tile : BitVec 4) (f : BitVec 58) (flip : Option Sys2Proof.ChmFlip) {s :
    State} (h0 : Keeps s0 s) :
    KeepsOut s0 (execChmLongMac tile f flip s) := by
  unfold execChmLongMac
  exact (keeps_next (keeps_ev _ h0 (fun _ h1 => (keeps_chmLong _ _ _ _ h1))))

theorem keeps_execChmLdi {s0 : State} (tile : BitVec 4) (f : BitVec 58) (flip : Option Sys2Proof.ChmFlip) {s : State}
    (h0 : Keeps s0 s) :
    KeepsOut s0 (execChmLdi tile f flip s) := by
  unfold execChmLdi
  exact (keeps_next (keeps_ev _ h0 (fun _ h1 => (keeps_chmLong _ _ _ _ h1))))

theorem keeps_execChmCset {s0 : State} (tile : BitVec 4) (f : BitVec 58) (flip : Option Sys2Proof.ChmFlip) {s : State}
    (h0 : Keeps s0 s) :
    KeepsOut s0 (execChmCset tile f flip s) := by
  unfold execChmCset
  exact (keeps_next (keeps_ev _ h0 (fun _ h1 => (keeps_chmLong _ _ _ _ h1))))

theorem keeps_execChmEvqFlush {s0 : State} (tile : BitVec 4) {s : State} (h0 : Keeps s0 s) :
    KeepsOut s0 (execChmEvqFlush tile s) := by
  unfold execChmEvqFlush
  exact (keeps_next (keeps_ctl _ _ h0 (fun _ h1 => (keeps_chmFlush _ h1))))

end Sys2Proof.Machine
end

