-- ==== Sys2Proof/Laws/KeepsGuideOps.lean ====
section
/-! SUPPORT. The operations of Machine/GuideOps.lean keep what every command keeps. -/

namespace Sys2Proof.Machine

open Sys2Proof

theorem keeps_guideIssue {s0 : State} (len : Nat) (l : List (BitVec 5)) (f : Sys2Proof.Machine.State →
    Sys2Proof.Machine.State) {s : State} (h0 : Keeps s0 s) (h_f : ∀ x0, Keeps s0 x0 → Keeps s0 (f x0)) :
    Keeps s0 (guideIssue len l f s) := by
  unfold guideIssue
  exact (keeps_ite h0 (by
      try extract_lets
      split
      exact (keeps_takeException _ _ _ (keeps_onBank _ _ h0 (fun _ => rfl)))
      exact (keeps_ite (keeps_takeException _ _ _ h0) (keeps_ite h0 (h_f _ h0)))
    ))

theorem keeps_guideNext {s0 : State} (len : Nat) {s : State} (h0 : Keeps s0 s) :
    Keeps s0 (guideNext len s) := by
  unfold guideNext
  exact (keeps_setPc _ h0)

theorem keeps_guideIllegal {s0 : State} {s : State} (h0 : Keeps s0 s) :
    Keeps s0 (guideIllegal s) := by
  unfold guideIllegal
  exact (keeps_takeException _ _ _ h0)

theorem keeps_guideWrite {s0 : State} (len : Nat) (gd : BitVec 5) (l : List (BitVec 5)) (v : Sys2Proof.Machine.State →
    Sys2Proof.W32) {s : State} (h0 : Keeps s0 s) :
    Keeps s0 (guideWrite len gd l v s) := by
  unfold guideWrite
  exact (keeps_guideIssue _ _ _ h0 (fun _ h1 => (keeps_guideNext _ (keeps_setG _ _ h1))))

theorem keeps_guideAlu {s0 : State} (gd : BitVec 5) (ga : BitVec 5) (gb : BitVec 5) (f : Sys2Proof.W32 → Sys2Proof.W32
    → Sys2Proof.W32) {s : State} (h0 : Keeps s0 s) :
    Keeps s0 (guideAlu gd ga gb f s) := by
  unfold guideAlu
  exact (keeps_guideWrite _ _ _ _ h0)

theorem keeps_guideAluK {s0 : State} (len : Nat) (gd : BitVec 5) (ga : BitVec 5) (k : Sys2Proof.W32) (f :
    Sys2Proof.W32 → Sys2Proof.W32 → Sys2Proof.W32) {s : State} (h0 : Keeps s0 s) :
    Keeps s0 (guideAluK len gd ga k f s) := by
  unfold guideAluK
  exact (keeps_guideWrite _ _ _ _ h0)

theorem keeps_setAstat {s0 : State} (dz : Bool) (dov : Bool) {s : State} (h0 : Keeps s0 s) :
    Keeps s0 (setAstat dz dov s) := by
  unfold setAstat
  exact (keeps_onBank _ _ h0 (fun _ => rfl))

theorem keeps_guideDivide {s0 : State} (signed : Bool) (gd : BitVec 5) (ga : BitVec 5) (gb : BitVec 5) (f :
    Sys2Proof.W32 → Sys2Proof.W32 → Sys2Proof.W32) {s : State} (h0 : Keeps s0 s) :
    Keeps s0 (guideDivide signed gd ga gb f s) := by
  unfold guideDivide
  exact (keeps_guideIssue _ _ _ h0 (fun _ h1 => (keeps_guideNext _ (keeps_setG _ _ (keeps_setAstat _ _ h1)))))

theorem keeps_guideShiftK {s0 : State} (gd : BitVec 5) (ga : BitVec 5) (imm : BitVec 15) (f : Sys2Proof.W32 →
    Sys2Proof.W32 → Sys2Proof.W32) {s : State} (h0 : Keeps s0 s) :
    Keeps s0 (guideShiftK gd ga imm f s) := by
  unfold guideShiftK
  exact (keeps_ite (keeps_guideAluK _ _ _ _ _ h0) (keeps_guideIssue _ _ _ h0 (fun _ h1 => (keeps_guideIllegal h1))))

theorem keeps_guideWait {s0 : State} {s : State} (h0 : Keeps s0 s) :
    Keeps s0 (guideWait s) := by
  unfold guideWait
  exact (keeps_ite h0 (keeps_countStall _ (keeps_onGde _ h0 rfl rfl rfl)))

theorem keeps_loadAt {s0 : State} (len : Nat) (n : Nat) (signed : Bool) (gd : BitVec 5) (a : Sys2Proof.W32) {s :
    State} (h0 : Keeps s0 s) :
    Keeps s0 (loadAt len n signed gd a s) := by
  unfold loadAt
  exact (keeps_ite (keeps_takeException _ _ _ h0) (by
      try extract_lets
      split
      exact (keeps_guideNext _ (keeps_loadWrite _ _ _ _ _ h0))
      exact (keeps_ite (keeps_guideWait h0) (keeps_ite (keeps_routeAccess _ _ _ _ _ _ (keeps_issueSeq (keeps_takeEntry
        _ (keeps_guideNext _ h0)))) (keeps_onGde _ (keeps_routeAccess _ _ _ _ _ _ (keeps_issueSeq (keeps_takeEntry _
        (keeps_guideNext _ h0)))) rfl rfl rfl)))
    ))

theorem keeps_storeAt {s0 : State} (len : Nat) (n : Nat) (a : Sys2Proof.W32) (v : Sys2Proof.W64) {s : State} (h0 :
    Keeps s0 s) :
    Keeps s0 (storeAt len n a v s) := by
  unfold storeAt
  exact (keeps_ite (keeps_takeException _ _ _ h0) (by
      try extract_lets
      split
      exact (keeps_memAccess _ _ _ _ _ (keeps_guideNext _ h0))
      exact (keeps_ite h0 (keeps_postStore _ (keeps_guideNext _ h0)))
    ))

theorem keeps_guideLoad {s0 : State} (len : Nat) (n : Nat) (signed : Bool) (gd : BitVec 5) (ga : BitVec 5) (imm :
    Sys2Proof.W32) {s : State} (h0 : Keeps s0 s) :
    Keeps s0 (guideLoad len n signed gd ga imm s) := by
  unfold guideLoad
  exact (keeps_guideIssue _ _ _ h0 (fun _ h1 => (keeps_loadAt _ _ _ _ _ h1)))

theorem keeps_guideStore {s0 : State} (len : Nat) (n : Nat) (gb : BitVec 5) (ga : BitVec 5) (imm : Sys2Proof.W32) {s :
    State} (h0 : Keeps s0 s) :
    Keeps s0 (guideStore len n gb ga imm s) := by
  unfold guideStore
  exact (keeps_guideIssue _ _ _ h0 (fun _ h1 => (keeps_storeAt _ _ _ _ h1)))

theorem keeps_guideBranch {s0 : State} (len : Nat) (ga : BitVec 5) (gb : BitVec 5) (off : Sys2Proof.W32) (c :
    Sys2Proof.W32 → Sys2Proof.W32 → Bool) {s : State} (h0 : Keeps s0 s) :
    Keeps s0 (guideBranch len ga gb off c s) := by
  unfold guideBranch
  exact (keeps_guideIssue _ _ _ h0 (fun _ h1 => (keeps_ite (keeps_setPc _ h1) (keeps_guideNext _ h1))))

theorem keeps_guideJump {s0 : State} (len : Nat) (off : Sys2Proof.W32) {s : State} (h0 : Keeps s0 s) :
    Keeps s0 (guideJump len off s) := by
  unfold guideJump
  exact (keeps_guideIssue _ _ _ h0 (fun _ h1 => (keeps_setPc _ h1)))

theorem keeps_guideJumpReg {s0 : State} (len : Nat) (gd : BitVec 5) (ga : BitVec 5) (imm : Sys2Proof.W32) {s : State}
    (h0 : Keeps s0 s) :
    Keeps s0 (guideJumpReg len gd ga imm s) := by
  unfold guideJumpReg
  exact (keeps_guideIssue _ _ _ h0 (fun _ h1 => (keeps_setPc _ (keeps_setG _ _ h1))))

theorem keeps_guideSystem {s0 : State} (gd ga gb : BitVec 5) (f : State → State) {s : State} (h : Keeps s0 s)
    (h_f : ∀ t, Keeps s0 t → Keeps s0 (f t)) : Keeps s0 (guideSystem gd ga gb f s) := by
  unfold guideSystem
  split
  · exact keeps_guideIssue _ _ _ h h_f
  · exact keeps_guideIssue _ _ _ h fun _ k => keeps_guideIllegal k

theorem keeps_drainAct {s0 : State} {s : State} (h0 : Keeps s0 s) :
    Keeps s0 (drainAct s) := by
  unfold drainAct
  exact (keeps_ite (keeps_guideNext _ h0) h0)

theorem keeps_nmiretAct {s0 : State} {s : State} (h0 : Keeps s0 s) :
    Keeps s0 (nmiretAct s) := by
  unfold nmiretAct
  exact (keeps_ite (keeps_nmiReturn h0) (keeps_guideIllegal h0))

theorem keeps_tendAct {s0 : State} {s : State} (h0 : Keeps s0 s) :
    Keeps s0 (tendAct s) := by
  unfold tendAct
  exact (keeps_ite (keeps_guideIllegal h0) (keeps_endInstance h0))

theorem keeps_waitAct {s0 : State} {s : State} (h0 : Keeps s0 s) :
    Keeps s0 (waitAct s) := by
  unfold waitAct
  exact (keeps_ite (keeps_onGde _ (keeps_guideNext _ h0) rfl rfl rfl) (keeps_guideIllegal h0))

theorem keeps_guideMfs {s0 : State} (gd : BitVec 5) (ga : BitVec 5) (num : BitVec 14) {s : State} (h0 : Keeps s0 s) :
    Keeps s0 (guideMfs gd ga num s) := by
  unfold guideMfs
  exact (keeps_guideIssue _ _ _ h0 (fun _ h1 => (keeps_ite (by
      try extract_lets
      split
      exact (keeps_guideNext _ (keeps_setG _ _ h1))
      exact (keeps_guideIllegal h1)
    ) (keeps_guideIllegal h1))))

theorem keeps_sysWrite {s0 : State} {n : Nat} {v : W32} {s u : State} (h : Keeps s0 s) (e : sysWrite n v s = some u) :
    Keeps s0 u := by
  unfold sysWrite at e
  split at e
  · simp only [Option.some.injEq] at e; subst e; exact keeps_onBank _ _ h fun _ => rfl
  · split at e
    · simp only [Option.some.injEq] at e; subst e; exact keeps_onGde _ h rfl rfl rfl
    · simp at e
  · split at e
    · simp only [Option.some.injEq] at e; subst e; exact keeps_onGde _ h rfl rfl rfl
    · simp at e
  · simp only [Option.some.injEq] at e; subst e; exact keeps_onBank _ _ h fun _ => rfl
  · simp at e

theorem keeps_guideMts {s0 : State} (gd ga : BitVec 5) (num : BitVec 14) {s : State} (h : Keeps s0 s) :
    Keeps s0 (guideMts gd ga num s) := by
  refine keeps_guideIssue _ _ _ h fun t k => keeps_ite ?_ (keeps_guideIllegal k)
  split
  · rename_i e
    exact keeps_guideNext _ (keeps_sysWrite k e)
  · exact keeps_guideIllegal k

theorem keeps_guideTrap {s0 : State} (gd : BitVec 5) (ga : BitVec 5) (imm : BitVec 15) {s : State} (h0 : Keeps s0 s) :
    Keeps s0 (guideTrap gd ga imm s) := by
  unfold guideTrap
  exact (keeps_guideIssue _ _ _ h0 (fun _ h1 => (keeps_ite (keeps_takeException _ _ _ h1) (keeps_guideIllegal h1))))

end Sys2Proof.Machine
end

