-- ==== Sys2Proof/Laws/KeepsGuideExec.lean ====
section
/-! SUPPORT. The operations of Machine/GuideExec.lean keep what every command keeps. -/

namespace Sys2Proof.Machine

open Sys2Proof

theorem keeps_execGdeAdd {s0 : State} (gd : BitVec 5) (ga : BitVec 5) (gb : BitVec 5) {s : State} (h0 : Keeps s0 s) :
    KeepsOut s0 (execGdeAdd gd ga gb s) := by
  unfold execGdeAdd
  exact (keeps_next (keeps_guideAlu _ _ _ _ h0))

theorem keeps_execGdeSub {s0 : State} (gd : BitVec 5) (ga : BitVec 5) (gb : BitVec 5) {s : State} (h0 : Keeps s0 s) :
    KeepsOut s0 (execGdeSub gd ga gb s) := by
  unfold execGdeSub
  exact (keeps_next (keeps_guideAlu _ _ _ _ h0))

theorem keeps_execGdeAnd {s0 : State} (gd : BitVec 5) (ga : BitVec 5) (gb : BitVec 5) {s : State} (h0 : Keeps s0 s) :
    KeepsOut s0 (execGdeAnd gd ga gb s) := by
  unfold execGdeAnd
  exact (keeps_next (keeps_guideAlu _ _ _ _ h0))

theorem keeps_execGdeOr {s0 : State} (gd : BitVec 5) (ga : BitVec 5) (gb : BitVec 5) {s : State} (h0 : Keeps s0 s) :
    KeepsOut s0 (execGdeOr gd ga gb s) := by
  unfold execGdeOr
  exact (keeps_next (keeps_guideAlu _ _ _ _ h0))

theorem keeps_execGdeXor {s0 : State} (gd : BitVec 5) (ga : BitVec 5) (gb : BitVec 5) {s : State} (h0 : Keeps s0 s) :
    KeepsOut s0 (execGdeXor gd ga gb s) := by
  unfold execGdeXor
  exact (keeps_next (keeps_guideAlu _ _ _ _ h0))

theorem keeps_execGdeShl {s0 : State} (gd : BitVec 5) (ga : BitVec 5) (gb : BitVec 5) {s : State} (h0 : Keeps s0 s) :
    KeepsOut s0 (execGdeShl gd ga gb s) := by
  unfold execGdeShl
  exact (keeps_next (keeps_guideAlu _ _ _ _ h0))

theorem keeps_execGdeShr {s0 : State} (gd : BitVec 5) (ga : BitVec 5) (gb : BitVec 5) {s : State} (h0 : Keeps s0 s) :
    KeepsOut s0 (execGdeShr gd ga gb s) := by
  unfold execGdeShr
  exact (keeps_next (keeps_guideAlu _ _ _ _ h0))

theorem keeps_execGdeSra {s0 : State} (gd : BitVec 5) (ga : BitVec 5) (gb : BitVec 5) {s : State} (h0 : Keeps s0 s) :
    KeepsOut s0 (execGdeSra gd ga gb s) := by
  unfold execGdeSra
  exact (keeps_next (keeps_guideAlu _ _ _ _ h0))

theorem keeps_execGdeLts {s0 : State} (gd : BitVec 5) (ga : BitVec 5) (gb : BitVec 5) {s : State} (h0 : Keeps s0 s) :
    KeepsOut s0 (execGdeLts gd ga gb s) := by
  unfold execGdeLts
  exact (keeps_next (keeps_guideAlu _ _ _ _ h0))

theorem keeps_execGdeLtu {s0 : State} (gd : BitVec 5) (ga : BitVec 5) (gb : BitVec 5) {s : State} (h0 : Keeps s0 s) :
    KeepsOut s0 (execGdeLtu gd ga gb s) := by
  unfold execGdeLtu
  exact (keeps_next (keeps_guideAlu _ _ _ _ h0))

theorem keeps_execGdeMul {s0 : State} (gd : BitVec 5) (ga : BitVec 5) (gb : BitVec 5) {s : State} (h0 : Keeps s0 s) :
    KeepsOut s0 (execGdeMul gd ga gb s) := by
  unfold execGdeMul
  exact (keeps_next (keeps_guideAlu _ _ _ _ h0))

theorem keeps_execGdeMhs {s0 : State} (gd : BitVec 5) (ga : BitVec 5) (gb : BitVec 5) {s : State} (h0 : Keeps s0 s) :
    KeepsOut s0 (execGdeMhs gd ga gb s) := by
  unfold execGdeMhs
  exact (keeps_next (keeps_guideAlu _ _ _ _ h0))

theorem keeps_execGdeMhu {s0 : State} (gd : BitVec 5) (ga : BitVec 5) (gb : BitVec 5) {s : State} (h0 : Keeps s0 s) :
    KeepsOut s0 (execGdeMhu gd ga gb s) := by
  unfold execGdeMhu
  exact (keeps_next (keeps_guideAlu _ _ _ _ h0))

theorem keeps_execGdeDiv {s0 : State} (gd : BitVec 5) (ga : BitVec 5) (gb : BitVec 5) {s : State} (h0 : Keeps s0 s) :
    KeepsOut s0 (execGdeDiv gd ga gb s) := by
  unfold execGdeDiv
  exact (keeps_next (keeps_guideDivide _ _ _ _ _ h0))

theorem keeps_execGdeDivu {s0 : State} (gd : BitVec 5) (ga : BitVec 5) (gb : BitVec 5) {s : State} (h0 : Keeps s0 s) :
    KeepsOut s0 (execGdeDivu gd ga gb s) := by
  unfold execGdeDivu
  exact (keeps_next (keeps_guideDivide _ _ _ _ _ h0))

theorem keeps_execGdeRem {s0 : State} (gd : BitVec 5) (ga : BitVec 5) (gb : BitVec 5) {s : State} (h0 : Keeps s0 s) :
    KeepsOut s0 (execGdeRem gd ga gb s) := by
  unfold execGdeRem
  exact (keeps_next (keeps_guideDivide _ _ _ _ _ h0))

theorem keeps_execGdeRemu {s0 : State} (gd : BitVec 5) (ga : BitVec 5) (gb : BitVec 5) {s : State} (h0 : Keeps s0 s) :
    KeepsOut s0 (execGdeRemu gd ga gb s) := by
  unfold execGdeRemu
  exact (keeps_next (keeps_guideDivide _ _ _ _ _ h0))

theorem keeps_execGdeMin {s0 : State} (gd : BitVec 5) (ga : BitVec 5) (gb : BitVec 5) {s : State} (h0 : Keeps s0 s) :
    KeepsOut s0 (execGdeMin gd ga gb s) := by
  unfold execGdeMin
  exact (keeps_next (keeps_guideAlu _ _ _ _ h0))

theorem keeps_execGdeMax {s0 : State} (gd : BitVec 5) (ga : BitVec 5) (gb : BitVec 5) {s : State} (h0 : Keeps s0 s) :
    KeepsOut s0 (execGdeMax gd ga gb s) := by
  unfold execGdeMax
  exact (keeps_next (keeps_guideAlu _ _ _ _ h0))

theorem keeps_execGdeClz {s0 : State} (gd : BitVec 5) (ga : BitVec 5) (gb : BitVec 5) {s : State} (h0 : Keeps s0 s) :
    KeepsOut s0 (execGdeClz gd ga gb s) := by
  unfold execGdeClz
  exact (keeps_next (keeps_ite (keeps_guideWrite _ _ _ _ h0) (keeps_guideIssue _ _ _ h0 (fun _ h1 =>
    (keeps_guideIllegal h1)))))

theorem keeps_execGdeAddi {s0 : State} (gd : BitVec 5) (ga : BitVec 5) (imm : BitVec 15) {s : State} (h0 : Keeps s0 s)
    :
    KeepsOut s0 (execGdeAddi gd ga imm s) := by
  unfold execGdeAddi
  exact (keeps_next (keeps_guideAluK _ _ _ _ _ h0))

theorem keeps_execGdeLtsi {s0 : State} (gd : BitVec 5) (ga : BitVec 5) (imm : BitVec 15) {s : State} (h0 : Keeps s0 s)
    :
    KeepsOut s0 (execGdeLtsi gd ga imm s) := by
  unfold execGdeLtsi
  exact (keeps_next (keeps_guideAluK _ _ _ _ _ h0))

theorem keeps_execGdeLtui {s0 : State} (gd : BitVec 5) (ga : BitVec 5) (imm : BitVec 15) {s : State} (h0 : Keeps s0 s)
    :
    KeepsOut s0 (execGdeLtui gd ga imm s) := by
  unfold execGdeLtui
  exact (keeps_next (keeps_guideAluK _ _ _ _ _ h0))

theorem keeps_execGdeAndi {s0 : State} (gd : BitVec 5) (ga : BitVec 5) (imm : BitVec 15) {s : State} (h0 : Keeps s0 s)
    :
    KeepsOut s0 (execGdeAndi gd ga imm s) := by
  unfold execGdeAndi
  exact (keeps_next (keeps_guideAluK _ _ _ _ _ h0))

theorem keeps_execGdeOri {s0 : State} (gd : BitVec 5) (ga : BitVec 5) (imm : BitVec 15) {s : State} (h0 : Keeps s0 s)
    :
    KeepsOut s0 (execGdeOri gd ga imm s) := by
  unfold execGdeOri
  exact (keeps_next (keeps_guideAluK _ _ _ _ _ h0))

theorem keeps_execGdeXori {s0 : State} (gd : BitVec 5) (ga : BitVec 5) (imm : BitVec 15) {s : State} (h0 : Keeps s0 s)
    :
    KeepsOut s0 (execGdeXori gd ga imm s) := by
  unfold execGdeXori
  exact (keeps_next (keeps_guideAluK _ _ _ _ _ h0))

theorem keeps_execGdeShli {s0 : State} (gd : BitVec 5) (ga : BitVec 5) (imm : BitVec 15) {s : State} (h0 : Keeps s0 s)
    :
    KeepsOut s0 (execGdeShli gd ga imm s) := by
  unfold execGdeShli
  exact (keeps_next (keeps_guideShiftK _ _ _ _ h0))

theorem keeps_execGdeShri {s0 : State} (gd : BitVec 5) (ga : BitVec 5) (imm : BitVec 15) {s : State} (h0 : Keeps s0 s)
    :
    KeepsOut s0 (execGdeShri gd ga imm s) := by
  unfold execGdeShri
  exact (keeps_next (keeps_guideShiftK _ _ _ _ h0))

theorem keeps_execGdeSrai {s0 : State} (gd : BitVec 5) (ga : BitVec 5) (imm : BitVec 15) {s : State} (h0 : Keeps s0 s)
    :
    KeepsOut s0 (execGdeSrai gd ga imm s) := by
  unfold execGdeSrai
  exact (keeps_next (keeps_guideShiftK _ _ _ _ h0))

theorem keeps_execGdeHimm {s0 : State} (gd : BitVec 5) (imm : BitVec 20) {s : State} (h0 : Keeps s0 s) :
    KeepsOut s0 (execGdeHimm gd imm s) := by
  unfold execGdeHimm
  exact (keeps_next (keeps_guideWrite _ _ _ _ h0))

theorem keeps_execGdePcadd {s0 : State} (gd : BitVec 5) (imm : BitVec 20) {s : State} (h0 : Keeps s0 s) :
    KeepsOut s0 (execGdePcadd gd imm s) := by
  unfold execGdePcadd
  exact (keeps_next (keeps_guideWrite _ _ _ _ h0))

theorem keeps_execGdeLdb {s0 : State} (gd : BitVec 5) (ga : BitVec 5) (imm : BitVec 15) {s : State} (h0 : Keeps s0 s)
    :
    KeepsOut s0 (execGdeLdb gd ga imm s) := by
  unfold execGdeLdb
  exact (keeps_next (keeps_guideLoad _ _ _ _ _ _ h0))

theorem keeps_execGdeLdbu {s0 : State} (gd : BitVec 5) (ga : BitVec 5) (imm : BitVec 15) {s : State} (h0 : Keeps s0 s)
    :
    KeepsOut s0 (execGdeLdbu gd ga imm s) := by
  unfold execGdeLdbu
  exact (keeps_next (keeps_guideLoad _ _ _ _ _ _ h0))

theorem keeps_execGdeLdh {s0 : State} (gd : BitVec 5) (ga : BitVec 5) (imm : BitVec 15) {s : State} (h0 : Keeps s0 s)
    :
    KeepsOut s0 (execGdeLdh gd ga imm s) := by
  unfold execGdeLdh
  exact (keeps_next (keeps_guideLoad _ _ _ _ _ _ h0))

theorem keeps_execGdeLdhu {s0 : State} (gd : BitVec 5) (ga : BitVec 5) (imm : BitVec 15) {s : State} (h0 : Keeps s0 s)
    :
    KeepsOut s0 (execGdeLdhu gd ga imm s) := by
  unfold execGdeLdhu
  exact (keeps_next (keeps_guideLoad _ _ _ _ _ _ h0))

theorem keeps_execGdeLdw {s0 : State} (gd : BitVec 5) (ga : BitVec 5) (imm : BitVec 15) {s : State} (h0 : Keeps s0 s)
    :
    KeepsOut s0 (execGdeLdw gd ga imm s) := by
  unfold execGdeLdw
  exact (keeps_next (keeps_guideLoad _ _ _ _ _ _ h0))

theorem keeps_execGdeLdw2 {s0 : State} (gd : BitVec 5) (ga : BitVec 5) (imm : BitVec 15) {s : State} (h0 : Keeps s0 s)
    :
    KeepsOut s0 (execGdeLdw2 gd ga imm s) := by
  unfold execGdeLdw2
  exact (keeps_next (keeps_ite (keeps_guideIssue _ _ _ h0 (fun _ h1 => (keeps_guideIllegal h1))) (keeps_guideIssue _ _
    _ h0 (fun _ h2 => (keeps_loadAt _ _ _ _ _ h2)))))

theorem keeps_execGdeStb {s0 : State} (gb : BitVec 5) (ga : BitVec 5) (imm : BitVec 15) {s : State} (h0 : Keeps s0 s)
    :
    KeepsOut s0 (execGdeStb gb ga imm s) := by
  unfold execGdeStb
  exact (keeps_next (keeps_guideStore _ _ _ _ _ h0))

theorem keeps_execGdeSth {s0 : State} (gb : BitVec 5) (ga : BitVec 5) (imm : BitVec 15) {s : State} (h0 : Keeps s0 s)
    :
    KeepsOut s0 (execGdeSth gb ga imm s) := by
  unfold execGdeSth
  exact (keeps_next (keeps_guideStore _ _ _ _ _ h0))

theorem keeps_execGdeStw {s0 : State} (gb : BitVec 5) (ga : BitVec 5) (imm : BitVec 15) {s : State} (h0 : Keeps s0 s)
    :
    KeepsOut s0 (execGdeStw gb ga imm s) := by
  unfold execGdeStw
  exact (keeps_next (keeps_guideStore _ _ _ _ _ h0))

theorem keeps_execGdeStw2 {s0 : State} (gb : BitVec 5) (ga : BitVec 5) (imm : BitVec 15) {s : State} (h0 : Keeps s0 s)
    :
    KeepsOut s0 (execGdeStw2 gb ga imm s) := by
  unfold execGdeStw2
  exact (keeps_next (keeps_ite (keeps_guideIssue _ _ _ h0 (fun _ h1 => (keeps_guideIllegal h1))) (keeps_guideIssue _ _
    _ h0 (fun _ h2 => (keeps_storeAt _ _ _ _ h2)))))

theorem keeps_execGdeBreq {s0 : State} (ga : BitVec 5) (gb : BitVec 5) (off : BitVec 15) {s : State} (h0 : Keeps s0 s)
    :
    KeepsOut s0 (execGdeBreq ga gb off s) := by
  unfold execGdeBreq
  exact (keeps_next (keeps_guideBranch _ _ _ _ _ h0))

theorem keeps_execGdeBrne {s0 : State} (ga : BitVec 5) (gb : BitVec 5) (off : BitVec 15) {s : State} (h0 : Keeps s0 s)
    :
    KeepsOut s0 (execGdeBrne ga gb off s) := by
  unfold execGdeBrne
  exact (keeps_next (keeps_guideBranch _ _ _ _ _ h0))

theorem keeps_execGdeBrlt {s0 : State} (ga : BitVec 5) (gb : BitVec 5) (off : BitVec 15) {s : State} (h0 : Keeps s0 s)
    :
    KeepsOut s0 (execGdeBrlt ga gb off s) := by
  unfold execGdeBrlt
  exact (keeps_next (keeps_guideBranch _ _ _ _ _ h0))

theorem keeps_execGdeBrge {s0 : State} (ga : BitVec 5) (gb : BitVec 5) (off : BitVec 15) {s : State} (h0 : Keeps s0 s)
    :
    KeepsOut s0 (execGdeBrge ga gb off s) := by
  unfold execGdeBrge
  exact (keeps_next (keeps_guideBranch _ _ _ _ _ h0))

theorem keeps_execGdeBrltu {s0 : State} (ga : BitVec 5) (gb : BitVec 5) (off : BitVec 15) {s : State} (h0 : Keeps s0
    s) :
    KeepsOut s0 (execGdeBrltu ga gb off s) := by
  unfold execGdeBrltu
  exact (keeps_next (keeps_guideBranch _ _ _ _ _ h0))

theorem keeps_execGdeBrgeu {s0 : State} (ga : BitVec 5) (gb : BitVec 5) (off : BitVec 15) {s : State} (h0 : Keeps s0
    s) :
    KeepsOut s0 (execGdeBrgeu ga gb off s) := by
  unfold execGdeBrgeu
  exact (keeps_next (keeps_guideBranch _ _ _ _ _ h0))

theorem keeps_execGdeJmp {s0 : State} (off : BitVec 25) {s : State} (h0 : Keeps s0 s) :
    KeepsOut s0 (execGdeJmp off s) := by
  unfold execGdeJmp
  exact (keeps_next (keeps_guideJump _ _ h0))

theorem keeps_execGdeCall {s0 : State} (off : BitVec 25) {s : State} (h0 : Keeps s0 s) :
    KeepsOut s0 (execGdeCall off s) := by
  unfold execGdeCall
  exact (keeps_next (keeps_guideIssue _ _ _ h0 (fun _ h1 => (keeps_setPc _ (keeps_setG _ _ h1)))))

theorem keeps_execGdeJmpr {s0 : State} (gd : BitVec 5) (ga : BitVec 5) (imm : BitVec 15) {s : State} (h0 : Keeps s0 s)
    :
    KeepsOut s0 (execGdeJmpr gd ga imm s) := by
  unfold execGdeJmpr
  exact (keeps_next (keeps_guideJumpReg _ _ _ _ h0))

theorem keeps_execGdeDrain {s0 : State} (gd : BitVec 5) (ga : BitVec 5) (gb : BitVec 5) {s : State} (h0 : Keeps s0 s)
    :
    KeepsOut s0 (execGdeDrain gd ga gb s) := by
  unfold execGdeDrain
  exact (keeps_next (keeps_guideSystem _ _ _ _ h0 (fun _ h1 => (keeps_drainAct h1))))

theorem keeps_execGdeExret {s0 : State} (gd : BitVec 5) (ga : BitVec 5) (gb : BitVec 5) {s : State} (h0 : Keeps s0 s)
    :
    KeepsOut s0 (execGdeExret gd ga gb s) := by
  unfold execGdeExret
  exact (keeps_next (keeps_guideSystem _ _ _ _ h0 (fun _ h1 => (keeps_exceptionReturn h1))))

theorem keeps_execGdeNmiret {s0 : State} (gd : BitVec 5) (ga : BitVec 5) (gb : BitVec 5) {s : State} (h0 : Keeps s0 s)
    :
    KeepsOut s0 (execGdeNmiret gd ga gb s) := by
  unfold execGdeNmiret
  exact (keeps_next (keeps_guideSystem _ _ _ _ h0 (fun _ h1 => (keeps_nmiretAct h1))))

theorem keeps_execGdeTend {s0 : State} (gd : BitVec 5) (ga : BitVec 5) (gb : BitVec 5) {s : State} (h0 : Keeps s0 s) :
    KeepsOut s0 (execGdeTend gd ga gb s) := by
  unfold execGdeTend
  exact (keeps_next (keeps_guideSystem _ _ _ _ h0 (fun _ h1 => (keeps_tendAct h1))))

theorem keeps_execGdeWait {s0 : State} (gd : BitVec 5) (ga : BitVec 5) (gb : BitVec 5) {s : State} (h0 : Keeps s0 s) :
    KeepsOut s0 (execGdeWait gd ga gb s) := by
  unfold execGdeWait
  exact (keeps_next (keeps_guideSystem _ _ _ _ h0 (fun _ h1 => (keeps_waitAct h1))))

theorem keeps_execGdeMfs {s0 : State} (gd : BitVec 5) (ga : BitVec 5) (num : BitVec 14) {s : State} (h0 : Keeps s0 s)
    :
    KeepsOut s0 (execGdeMfs gd ga num s) := by
  unfold execGdeMfs
  exact (keeps_next (keeps_guideMfs _ _ _ h0))

theorem keeps_execGdeMts {s0 : State} (gd : BitVec 5) (ga : BitVec 5) (num : BitVec 14) {s : State} (h0 : Keeps s0 s)
    :
    KeepsOut s0 (execGdeMts gd ga num s) := by
  unfold execGdeMts
  exact (keeps_next (keeps_guideMts _ _ _ h0))

theorem keeps_execGdeTrap {s0 : State} (gd : BitVec 5) (ga : BitVec 5) (imm : BitVec 15) {s : State} (h0 : Keeps s0 s)
    :
    KeepsOut s0 (execGdeTrap gd ga imm s) := by
  unfold execGdeTrap
  exact (keeps_next (keeps_guideTrap _ _ _ h0))

theorem keeps_execGdeAddq {s0 : State} (gd : BitVec 5) (imm : BitVec 6) {s : State} (h0 : Keeps s0 s) :
    KeepsOut s0 (execGdeAddq gd imm s) := by
  unfold execGdeAddq
  exact (keeps_next (keeps_guideAluK _ _ _ _ _ h0))

theorem keeps_execGdeLdq {s0 : State} (gd : BitVec 5) (imm : BitVec 6) {s : State} (h0 : Keeps s0 s) :
    KeepsOut s0 (execGdeLdq gd imm s) := by
  unfold execGdeLdq
  exact (keeps_next (keeps_guideLoad _ _ _ _ _ _ h0))

theorem keeps_execGdeStq {s0 : State} (gb : BitVec 5) (imm : BitVec 6) {s : State} (h0 : Keeps s0 s) :
    KeepsOut s0 (execGdeStq gb imm s) := by
  unfold execGdeStq
  exact (keeps_next (keeps_guideStore _ _ _ _ _ h0))

theorem keeps_execGdeBzq {s0 : State} (ga : BitVec 5) (off : BitVec 6) {s : State} (h0 : Keeps s0 s) :
    KeepsOut s0 (execGdeBzq ga off s) := by
  unfold execGdeBzq
  exact (keeps_next (keeps_guideBranch _ _ _ _ _ h0))

theorem keeps_execGdeBnzq {s0 : State} (ga : BitVec 5) (off : BitVec 6) {s : State} (h0 : Keeps s0 s) :
    KeepsOut s0 (execGdeBnzq ga off s) := by
  unfold execGdeBnzq
  exact (keeps_next (keeps_guideBranch _ _ _ _ _ h0))

theorem keeps_execGdeBraq {s0 : State} (off : BitVec 11) {s : State} (h0 : Keeps s0 s) :
    KeepsOut s0 (execGdeBraq off s) := by
  unfold execGdeBraq
  exact (keeps_next (keeps_guideJump _ _ h0))

theorem keeps_execGdeAddrq {s0 : State} (gd : BitVec 5) (ga : BitVec 5) {s : State} (h0 : Keeps s0 s) :
    KeepsOut s0 (execGdeAddrq gd ga s) := by
  unfold execGdeAddrq
  exact (keeps_next (keeps_guideWrite _ _ _ _ h0))

theorem keeps_execGdeSubrq {s0 : State} (gd : BitVec 5) (ga : BitVec 5) {s : State} (h0 : Keeps s0 s) :
    KeepsOut s0 (execGdeSubrq gd ga s) := by
  unfold execGdeSubrq
  exact (keeps_next (keeps_guideWrite _ _ _ _ h0))

theorem keeps_execGdeJrq {s0 : State} (ga : BitVec 5) (z : BitVec 5) {s : State} (h0 : Keeps s0 s) :
    KeepsOut s0 (execGdeJrq ga z s) := by
  unfold execGdeJrq
  exact (keeps_next (keeps_ite (keeps_guideJumpReg _ _ _ _ h0) (keeps_guideIssue _ _ _ h0 (fun _ h1 =>
    (keeps_guideIllegal h1)))))

theorem keeps_execGdeJcq {s0 : State} (ga : BitVec 5) (z : BitVec 5) {s : State} (h0 : Keeps s0 s) :
    KeepsOut s0 (execGdeJcq ga z s) := by
  unfold execGdeJcq
  exact (keeps_next (keeps_ite (keeps_guideJumpReg _ _ _ _ h0) (keeps_guideIssue _ _ _ h0 (fun _ h1 =>
    (keeps_guideIllegal h1)))))

theorem keeps_execGdeMovq {s0 : State} (gd : BitVec 5) (z : Bool) (ga : BitVec 5) {s : State} (h0 : Keeps s0 s) :
    KeepsOut s0 (execGdeMovq gd z ga s) := by
  unfold execGdeMovq
  exact (keeps_next (keeps_ite (keeps_guideIssue _ _ _ h0 (fun _ h1 => (keeps_guideIllegal h1))) (keeps_guideAluK _ _
    _ _ _ h0)))

theorem keeps_execGdeLiq {s0 : State} (gd : BitVec 5) (imm : BitVec 6) {s : State} (h0 : Keeps s0 s) :
    KeepsOut s0 (execGdeLiq gd imm s) := by
  unfold execGdeLiq
  exact (keeps_next (keeps_guideWrite _ _ _ _ h0))

theorem keeps_execGdeShlq {s0 : State} (gd : BitVec 5) (amt : BitVec 5) {s : State} (h0 : Keeps s0 s) :
    KeepsOut s0 (execGdeShlq gd amt s) := by
  unfold execGdeShlq
  exact (keeps_next (keeps_guideWrite _ _ _ _ h0))

theorem keeps_execGdeShrq {s0 : State} (gd : BitVec 5) (amt : BitVec 5) {s : State} (h0 : Keeps s0 s) :
    KeepsOut s0 (execGdeShrq gd amt s) := by
  unfold execGdeShrq
  exact (keeps_next (keeps_guideWrite _ _ _ _ h0))

theorem keeps_execGdeIllegalInstruction {s0 : State} {s : State} (h0 : Keeps s0 s) :
    KeepsOut s0 (execGdeIllegalInstruction s) := by
  unfold execGdeIllegalInstruction
  exact (keeps_next (keeps_guideIssue _ _ _ h0 (fun _ h1 => (keeps_guideIllegal h1))))

end Sys2Proof.Machine
end

