-- ==== Sys2Proof/Laws/KeepsGuideCode.lean ====
section
/-! SUPPORT. The operations of Machine/GuideCode.lean keep what every command keeps. -/

namespace Sys2Proof.Machine

open Sys2Proof

theorem keeps_guideRun {s0 : State} (i : Instr) {s : State} (h : Keeps s0 s) : KeepsOut s0 (guideRun i s) := by
  cases i with
  | gdeAdd gd ga gb => exact keeps_execGdeAdd _ _ _ h
  | gdeSub gd ga gb => exact keeps_execGdeSub _ _ _ h
  | gdeAnd gd ga gb => exact keeps_execGdeAnd _ _ _ h
  | gdeOr gd ga gb => exact keeps_execGdeOr _ _ _ h
  | gdeXor gd ga gb => exact keeps_execGdeXor _ _ _ h
  | gdeShl gd ga gb => exact keeps_execGdeShl _ _ _ h
  | gdeShr gd ga gb => exact keeps_execGdeShr _ _ _ h
  | gdeSra gd ga gb => exact keeps_execGdeSra _ _ _ h
  | gdeLts gd ga gb => exact keeps_execGdeLts _ _ _ h
  | gdeLtu gd ga gb => exact keeps_execGdeLtu _ _ _ h
  | gdeMul gd ga gb => exact keeps_execGdeMul _ _ _ h
  | gdeMhs gd ga gb => exact keeps_execGdeMhs _ _ _ h
  | gdeMhu gd ga gb => exact keeps_execGdeMhu _ _ _ h
  | gdeDiv gd ga gb => exact keeps_execGdeDiv _ _ _ h
  | gdeDivu gd ga gb => exact keeps_execGdeDivu _ _ _ h
  | gdeRem gd ga gb => exact keeps_execGdeRem _ _ _ h
  | gdeRemu gd ga gb => exact keeps_execGdeRemu _ _ _ h
  | gdeMin gd ga gb => exact keeps_execGdeMin _ _ _ h
  | gdeMax gd ga gb => exact keeps_execGdeMax _ _ _ h
  | gdeClz gd ga gb => exact keeps_execGdeClz _ _ _ h
  | gdeAddi gd ga imm => exact keeps_execGdeAddi _ _ _ h
  | gdeLtsi gd ga imm => exact keeps_execGdeLtsi _ _ _ h
  | gdeLtui gd ga imm => exact keeps_execGdeLtui _ _ _ h
  | gdeAndi gd ga imm => exact keeps_execGdeAndi _ _ _ h
  | gdeOri gd ga imm => exact keeps_execGdeOri _ _ _ h
  | gdeXori gd ga imm => exact keeps_execGdeXori _ _ _ h
  | gdeShli gd ga imm => exact keeps_execGdeShli _ _ _ h
  | gdeShri gd ga imm => exact keeps_execGdeShri _ _ _ h
  | gdeSrai gd ga imm => exact keeps_execGdeSrai _ _ _ h
  | gdeHimm gd imm => exact keeps_execGdeHimm _ _ h
  | gdePcadd gd imm => exact keeps_execGdePcadd _ _ h
  | gdeLdb gd ga imm => exact keeps_execGdeLdb _ _ _ h
  | gdeLdbu gd ga imm => exact keeps_execGdeLdbu _ _ _ h
  | gdeLdh gd ga imm => exact keeps_execGdeLdh _ _ _ h
  | gdeLdhu gd ga imm => exact keeps_execGdeLdhu _ _ _ h
  | gdeLdw gd ga imm => exact keeps_execGdeLdw _ _ _ h
  | gdeLdw2 gd ga imm => exact keeps_execGdeLdw2 _ _ _ h
  | gdeStb gb ga imm => exact keeps_execGdeStb _ _ _ h
  | gdeSth gb ga imm => exact keeps_execGdeSth _ _ _ h
  | gdeStw gb ga imm => exact keeps_execGdeStw _ _ _ h
  | gdeStw2 gb ga imm => exact keeps_execGdeStw2 _ _ _ h
  | gdeBreq ga gb off => exact keeps_execGdeBreq _ _ _ h
  | gdeBrne ga gb off => exact keeps_execGdeBrne _ _ _ h
  | gdeBrlt ga gb off => exact keeps_execGdeBrlt _ _ _ h
  | gdeBrge ga gb off => exact keeps_execGdeBrge _ _ _ h
  | gdeBrltu ga gb off => exact keeps_execGdeBrltu _ _ _ h
  | gdeBrgeu ga gb off => exact keeps_execGdeBrgeu _ _ _ h
  | gdeJmp off => exact keeps_execGdeJmp _ h
  | gdeCall off => exact keeps_execGdeCall _ h
  | gdeJmpr gd ga imm => exact keeps_execGdeJmpr _ _ _ h
  | gdeDrain gd ga gb => exact keeps_execGdeDrain _ _ _ h
  | gdeExret gd ga gb => exact keeps_execGdeExret _ _ _ h
  | gdeNmiret gd ga gb => exact keeps_execGdeNmiret _ _ _ h
  | gdeTend gd ga gb => exact keeps_execGdeTend _ _ _ h
  | gdeWait gd ga gb => exact keeps_execGdeWait _ _ _ h
  | gdeMfs gd ga num => exact keeps_execGdeMfs _ _ _ h
  | gdeMts gd ga num => exact keeps_execGdeMts _ _ _ h
  | gdeTrap gd ga imm => exact keeps_execGdeTrap _ _ _ h
  | gdeAddq gd imm => exact keeps_execGdeAddq _ _ h
  | gdeLdq gd imm => exact keeps_execGdeLdq _ _ h
  | gdeStq gb imm => exact keeps_execGdeStq _ _ h
  | gdeBzq ga off => exact keeps_execGdeBzq _ _ h
  | gdeBnzq ga off => exact keeps_execGdeBnzq _ _ h
  | gdeBraq off => exact keeps_execGdeBraq _ h
  | gdeAddrq gd ga => exact keeps_execGdeAddrq _ _ h
  | gdeSubrq gd ga => exact keeps_execGdeSubrq _ _ h
  | gdeJrq ga z => exact keeps_execGdeJrq _ _ h
  | gdeJcq ga z => exact keeps_execGdeJcq _ _ h
  | gdeMovq gd z ga => exact keeps_execGdeMovq _ _ _ h
  | gdeLiq gd imm => exact keeps_execGdeLiq _ _ h
  | gdeShlq gd amt => exact keeps_execGdeShlq _ _ h
  | gdeShrq gd amt => exact keeps_execGdeShrq _ _ h
  | gdeIllegalInstruction => exact keeps_execGdeIllegalInstruction h
  | _ => exact keeps_next h

end Sys2Proof.Machine
end

