-- ==== Sys2Proof/Laws/KeepsDebug.lean ====
section
/-! SUPPORT. The operations of Machine/Debug.lean keep what every command keeps. -/

namespace Sys2Proof.Machine

open Sys2Proof

theorem keeps_tapLoad {s0 : State} (c : Nat) (l : List Sys2Proof.Byte) {s : State} (h0 : Keeps s0 s) :
    Keeps s0 (tapLoad c l s) := by
  unfold tapLoad
  exact (keeps_mk h0 rfl rfl rfl rfl rfl rfl rfl rfl rfl)

theorem keeps_tapTest {s0 : State} (c : Nat) (l : List Sys2Proof.Byte) (f : Sys2Proof.Machine.State →
    Sys2Proof.Machine.State) {s : State} (h0 : Keeps s0 s) (h_f : ∀ x0, Keeps s0 x0 → Keeps s0 (f x0)) :
    Keeps s0 (tapTest c l f s) := by
  unfold tapTest
  exact (keeps_ite (h_f _ (keeps_tapLoad _ _ h0)) (keeps_tapLoad _ _ h0))

theorem keeps_boundaryScan {s0 : State} (c : Nat) (balls : BitVec 666) (shift : BitVec 666) {s : State} (h0 : Keeps s0
    s) :
    Keeps s0 (boundaryScan c balls shift s) := by
  unfold boundaryScan
  exact (keeps_tapTest _ _ _ h0 (fun _ h1 => (keeps_mk h1 rfl rfl rfl rfl rfl rfl rfl rfl rfl)))

theorem keeps_tapChallenge {s0 : State} {s : State} (h0 : Keeps s0 s) :
    Keeps s0 (tapChallenge s) := by
  unfold tapChallenge
  exact (keeps_ite (keeps_tapLoad _ _ h0) (keeps_tapLoad _ _ (keeps_debugChallenge h0)))

theorem keeps_dbgctl {s0 : State} (f : Sys2Proof.Machine.State → Sys2Proof.Machine.State) {s : State} (h0 : Keeps s0
    s) (h_f : ∀ x0, Keeps s0 x0 → Keeps s0 (f x0)) :
    Keeps s0 (dbgctl f s) := by
  unfold dbgctl
  exact (keeps_tapTest _ _ _ h0 (fun _ h1 => (keeps_ite h1 (h_f _ h1))))

theorem keeps_haltAct {s0 : State} {s : State} (h0 : Keeps s0 s) :
    Keeps s0 (haltAct s) := by
  unfold haltAct
  exact (keeps_onGde _ h0 rfl rfl rfl)

theorem keeps_resumeAct {s0 : State} {s : State} (h0 : Keeps s0 s) :
    Keeps s0 (resumeAct s) := by
  unfold resumeAct
  exact (keeps_onGde _ h0 rfl rfl rfl)

theorem keeps_rehalt {s0 : State} {s : State} (h0 : Keeps s0 s) :
    Keeps s0 (rehalt s) := by
  unfold rehalt
  exact (keeps_ite h0 (keeps_haltAct h0))

theorem keeps_stepAct {s0 : State} {s : State} (h : Keeps s0 s)
    (hr : ∀ i t u, Keeps s0 t → guideRun i t = .next u → Keeps s0 u) : Keeps s0 (stepAct s) := by
  unfold stepAct
  extract_lets t
  have k : Keeps s0 t := keeps_taskDispatch (keeps_nmiEnter (keeps_resumeAct h))
  refine keeps_ite h (keeps_ite h ?_)
  split
  · rename_i u e
    exact keeps_rehalt (hr _ _ _ k e)
  · exact h

theorem keeps_dbgmemEnd {s0 : State} (dr : BitVec 100) (d : Sys2Proof.W64) (c : Nat) {s : State} (h0 : Keeps s0 s) :
    Keeps s0 (dbgmemEnd dr d c s) := by
  unfold dbgmemEnd
  exact (keeps_mk h0 rfl rfl rfl rfl rfl rfl rfl rfl rfl)

theorem keeps_dbgmemIssue {s0 : State} (dr : BitVec 100) {s : State} (h0 : Keeps s0 s) :
    Keeps s0 (dbgmemIssue dr s) := by
  unfold dbgmemIssue
  exact (keeps_ite (keeps_dbgmemEnd _ _ _ h0) (by
      try extract_lets
      split
      exact (keeps_dbgmemEnd _ _ _ (keeps_memAccess _ _ _ _ _ h0))
      exact (keeps_ite (keeps_ite h0 (keeps_countStall _ (keeps_mk h0 rfl rfl rfl rfl rfl rfl rfl rfl rfl)))
        (keeps_dbgmemEnd _ _ _ (keeps_busAccess _ _ _ _ _ _ h0)))
    ))

theorem keeps_dbgmemUpdate {s0 : State} (dr : BitVec 100) {s : State} (h0 : Keeps s0 s) :
    Keeps s0 (dbgmemUpdate dr s) := by
  unfold dbgmemUpdate
  exact (keeps_ite h0 (keeps_ite (keeps_dbgmemEnd _ _ _ h0) (keeps_dbgmemIssue _ h0)))

theorem keeps_dbgmemRetry {s0 : State} {s : State} (h0 : Keeps s0 s) :
    Keeps s0 (dbgmemRetry s) := by
  unfold dbgmemRetry
  exact (by
      try extract_lets
      split
      exact (keeps_dbgmemIssue _ h0)
      exact h0
    )

theorem keeps_guideEntryFreed {s0 : State} {s : State} (h0 : Keeps s0 s) :
    Keeps s0 (guideEntryFreed s) := by
  unfold guideEntryFreed
  exact (keeps_issueWaiting _ (keeps_dbgmemRetry h0))

theorem keeps_execTapReset {s0 : State} {s : State} (h0 : Keeps s0 s) :
    KeepsOut s0 (execTapReset s) := by
  unfold execTapReset
  exact (keeps_next (keeps_mk h0 rfl rfl rfl rfl rfl rfl rfl rfl rfl))

theorem keeps_execJtagIdcode {s0 : State} {s : State} (h0 : Keeps s0 s) :
    KeepsOut s0 (execJtagIdcode s) := by
  unfold execJtagIdcode
  exact (keeps_next (keeps_tapLoad _ _ h0))

theorem keeps_execJtagBypass {s0 : State} {s : State} (h0 : Keeps s0 s) :
    KeepsOut s0 (execJtagBypass s) := by
  unfold execJtagBypass
  exact (keeps_next (keeps_tapLoad _ _ h0))

theorem keeps_execJtagExtest {s0 : State} (balls : BitVec 666) (shift : BitVec 666) {s : State} (h0 : Keeps s0 s) :
    KeepsOut s0 (execJtagExtest balls shift s) := by
  unfold execJtagExtest
  exact (keeps_next (keeps_boundaryScan _ _ _ h0))

theorem keeps_execJtagSamplePreload {s0 : State} (balls : BitVec 666) (shift : BitVec 666) {s : State} (h0 : Keeps s0
    s) :
    KeepsOut s0 (execJtagSamplePreload balls shift s) := by
  unfold execJtagSamplePreload
  exact (keeps_next (keeps_boundaryScan _ _ _ h0))

theorem keeps_execJtagHighz {s0 : State} {s : State} (h0 : Keeps s0 s) :
    KeepsOut s0 (execJtagHighz s) := by
  unfold execJtagHighz
  exact (keeps_next (keeps_tapTest _ _ _ h0 (fun _ h1 => h1)))

theorem keeps_execJtagClamp {s0 : State} {s : State} (h0 : Keeps s0 s) :
    KeepsOut s0 (execJtagClamp s) := by
  unfold execJtagClamp
  exact (keeps_next (keeps_tapTest _ _ _ h0 (fun _ h1 => h1)))

theorem keeps_execJtagChal {s0 : State} {s : State} (h0 : Keeps s0 s) :
    KeepsOut s0 (execJtagChal s) := by
  unfold execJtagChal
  exact (keeps_next (keeps_tapChallenge h0))

theorem keeps_execJtagResp {s0 : State} (pub : List Sys2Proof.Byte) (sig : List Sys2Proof.Byte) {s : State} (h0 :
    Keeps s0 s) :
    KeepsOut s0 (execJtagResp pub sig s) := by
  unfold execJtagResp
  exact (keeps_next (keeps_tapLoad _ _ (keeps_ite h0 (keeps_debugResponse _ _ h0))))

theorem keeps_execDebugVerifyDone {s0 : State} {s : State} (h0 : Keeps s0 s) :
    KeepsOut s0 (execDebugVerifyDone s) := by
  unfold execDebugVerifyDone
  exact (keeps_next (keeps_debugVerified h0))

theorem keeps_execDbgHalt {s0 : State} {s : State} (h0 : Keeps s0 s) :
    KeepsOut s0 (execDbgHalt s) := by
  unfold execDbgHalt
  exact (keeps_next (keeps_dbgctl _ h0 (fun _ h1 => (keeps_haltAct h1))))

theorem keeps_execDbgResume {s0 : State} {s : State} (h0 : Keeps s0 s) :
    KeepsOut s0 (execDbgResume s) := by
  unfold execDbgResume
  exact (keeps_next (keeps_dbgctl _ h0 (fun _ h1 => (keeps_resumeAct h1))))

theorem keeps_execDbgStep {s0 s : State} (h : Keeps s0 s) : KeepsOut s0 (execDbgStep s) :=
  keeps_next (keeps_dbgctl _ h fun _ k => keeps_stepAct k fun _ _ _ q e => keeps_guideRun _ q _ e)

theorem keeps_execDbgmemGo {s0 : State} (dr : BitVec 100) {s : State} (h0 : Keeps s0 s) :
    KeepsOut s0 (execDbgmemGo dr s) := by
  unfold execDbgmemGo
  exact (keeps_next (keeps_tapTest _ _ _ h0 (fun _ h1 => (keeps_dbgmemUpdate _ h1))))

end Sys2Proof.Machine
end

