-- ==== Sys2Proof/Laws/KeepsDriveExec.lean ====
section
/-! SUPPORT. The operations of Machine/DriveExec.lean keep what every command keeps. -/

namespace Sys2Proof.Machine

open Sys2Proof

theorem keeps_execPwmReload {s0 : State} (group : BitVec 4) {s : State} (h0 : Keeps s0 s) :
    KeepsOut s0 (execPwmReload group s) := by
  unfold execPwmReload
  exact (keeps_next (keeps_ev _ h0 (fun _ h1 => (keeps_pwmReload _ h1))))

theorem keeps_execPwmCentre {s0 : State} (group : BitVec 4) {s : State} (h0 : Keeps s0 s) :
    KeepsOut s0 (execPwmCentre group s) := by
  unfold execPwmCentre
  exact (keeps_next (keeps_ev _ h0 (fun _ h1 => (keeps_pwmCentre _ h1))))

theorem keeps_execPwmDpWrite {s0 : State} (output : BitVec 6) (duty : Sys2Proof.W32) (period : Sys2Proof.W32) {s :
    State} (h0 : Keeps s0 s) :
    KeepsOut s0 (execPwmDpWrite output duty period s) := by
  unfold execPwmDpWrite
  exact (keeps_next (keeps_ite (keeps_ctl _ _ h0 (fun _ h1 => (keeps_pwmWrite _ _ h1))) h0))

theorem keeps_execPwmHoldClear {s0 : State} (group : BitVec 4) {s : State} (h0 : Keeps s0 s) :
    KeepsOut s0 (execPwmHoldClear group s) := by
  unfold execPwmHoldClear
  exact (keeps_next (keeps_ctl _ _ h0 (fun _ h1 => (keeps_pwmHoldWrite _ _ h1))))

theorem keeps_execPwmEnable {s0 : State} (group : BitVec 4) {s : State} (h0 : Keeps s0 s) :
    KeepsOut s0 (execPwmEnable group s) := by
  unfold execPwmEnable
  exact (keeps_next (keeps_ctl _ _ h0 (fun _ h1 => (keeps_pwmEnableWrite _ _ h1))))

theorem keeps_execPwmDisable {s0 : State} (group : BitVec 4) {s : State} (h0 : Keeps s0 s) :
    KeepsOut s0 (execPwmDisable group s) := by
  unfold execPwmDisable
  exact (keeps_next (keeps_ctl _ _ h0 (fun _ h1 => (keeps_pwmEnableWrite _ _ h1))))

theorem keeps_execLanternDataStart {s0 : State} (port : BitVec 2) (first : BitVec 14) (lack : BitVec 14) {s : State}
    (h0 : Keeps s0 s) :
    KeepsOut s0 (execLanternDataStart port first lack s) := by
  unfold execLanternDataStart
  exact (keeps_next (keeps_ev _ h0 (fun _ h1 => (keeps_ltnDataStart _ _ _ h1))))

theorem keeps_execLanternBlankStart {s0 : State} (port : BitVec 2) {s : State} (h0 : Keeps s0 s) :
    KeepsOut s0 (execLanternBlankStart port s) := by
  unfold execLanternBlankStart
  exact (keeps_next (keeps_ev _ h0 (fun _ h1 => (keeps_ltnBlankStart _ h1))))

theorem keeps_execLtnFbCommit {s0 : State} (port : BitVec 2) (base : BitVec 20) (npixm1 : BitVec 11) {s : State} (h0 :
    Keeps s0 s) :
    KeepsOut s0 (execLtnFbCommit port base npixm1 s) := by
  unfold execLtnFbCommit
  exact (keeps_next (keeps_ctl _ _ h0 (fun _ h1 => (keeps_ltnCommit _ _ _ h1))))

theorem keeps_execLtnEnable {s0 : State} (port : BitVec 2) {s : State} (h0 : Keeps s0 s) :
    KeepsOut s0 (execLtnEnable port s) := by
  unfold execLtnEnable
  exact (keeps_next (keeps_ctl _ _ h0 (fun _ h1 => (keeps_ltnEnableWrite _ _ h1))))

theorem keeps_execLtnDisable {s0 : State} (port : BitVec 2) {s : State} (h0 : Keeps s0 s) :
    KeepsOut s0 (execLtnDisable port s) := by
  unfold execLtnDisable
  exact (keeps_next (keeps_ctl _ _ h0 (fun _ h1 => (keeps_ltnEnableWrite _ _ h1))))

theorem keeps_execAdcRswt {s0 : State} (adc : BitVec 1) {s : State} (h0 : Keeps s0 s) :
    KeepsOut s0 (execAdcRswt adc s) := by
  unfold execAdcRswt
  exact (keeps_next (keeps_ctl _ _ h0 (fun _ h1 => (keeps_regTrigger _ h1))))

theorem keeps_execAdcIswt {s0 : State} (adc : BitVec 1) {s : State} (h0 : Keeps s0 s) :
    KeepsOut s0 (execAdcIswt adc s) := by
  unfold execAdcIswt
  exact (keeps_next (keeps_ctl _ _ h0 (fun _ h1 => (keeps_injTrigger _ h1))))

theorem keeps_execAdcSamplingStart {s0 : State} (adc : BitVec 1) {s : State} (h0 : Keeps s0 s) :
    KeepsOut s0 (execAdcSamplingStart adc s) := by
  unfold execAdcSamplingStart
  exact (keeps_next (keeps_ev _ h0 (fun _ h1 => (keeps_adcSample _ h1))))

theorem keeps_execAdcConversionEnd {s0 : State} (adc : BitVec 1) (uv : BitVec 32) {s : State} (h0 : Keeps s0 s) :
    KeepsOut s0 (execAdcConversionEnd adc uv s) := by
  unfold execAdcConversionEnd
  exact (keeps_next (keeps_ev _ h0 (fun _ h1 => (keeps_adcEnd _ _ h1))))

theorem keeps_execAdcEnable {s0 : State} (adc : BitVec 1) {s : State} (h0 : Keeps s0 s) :
    KeepsOut s0 (execAdcEnable adc s) := by
  unfold execAdcEnable
  exact (keeps_next (keeps_ctl _ _ h0 (fun _ h1 => (keeps_adcEnableWrite _ _ h1))))

theorem keeps_execAdcReady {s0 : State} (adc : BitVec 1) {s : State} (h0 : Keeps s0 s) :
    KeepsOut s0 (execAdcReady adc s) := by
  unfold execAdcReady
  exact (keeps_next (keeps_ev _ h0 (fun _ h1 => (keeps_adcReady _ h1))))

theorem keeps_execAdcDisable {s0 : State} (adc : BitVec 1) {s : State} (h0 : Keeps s0 s) :
    KeepsOut s0 (execAdcDisable adc s) := by
  unfold execAdcDisable
  exact (keeps_next (keeps_ctl _ _ h0 (fun _ h1 => (keeps_adcEnableWrite _ _ h1))))

theorem keeps_execComparatorTrip {s0 : State} (cmp : BitVec 4) (uv : BitVec 32) {s : State} (h0 : Keeps s0 s) :
    KeepsOut s0 (execComparatorTrip cmp uv s) := by
  unfold execComparatorTrip
  exact (keeps_next (keeps_ite (keeps_ev _ h0 (fun _ h1 => (keeps_cmpTrip _ _ h1))) h0))

theorem keeps_execComparatorRelease {s0 : State} (cmp : BitVec 4) (uv : BitVec 32) {s : State} (h0 : Keeps s0 s) :
    KeepsOut s0 (execComparatorRelease cmp uv s) := by
  unfold execComparatorRelease
  exact (keeps_next (keeps_ite (keeps_ev _ h0 (fun _ h1 => (keeps_cmpRelease _ _ h1))) h0))

theorem keeps_execGteRelWrite {s0 : State} (mask : BitVec 16) {s : State} (h0 : Keeps s0 s) :
    KeepsOut s0 (execGteRelWrite mask s) := by
  unfold execGteRelWrite
  exact (keeps_next (keeps_ctl _ _ h0 (fun _ h1 => (keeps_relWrite _ h1))))

theorem keeps_execCartPresenceLoss {s0 : State} (cart : BitVec 2) {s : State} (h0 : Keeps s0 s) :
    KeepsOut s0 (execCartPresenceLoss cart s) := by
  unfold execCartPresenceLoss
  exact (keeps_next (keeps_ev _ h0 (fun _ h1 => (keeps_cartLost _ h1))))

theorem keeps_execCartPresenceSettled {s0 : State} (cart : BitVec 2) {s : State} (h0 : Keeps s0 s) :
    KeepsOut s0 (execCartPresenceSettled cart s) := by
  unfold execCartPresenceSettled
  exact (keeps_next (keeps_ev _ h0 (fun _ h1 => (keeps_cartSettled _ h1))))

theorem keeps_execCartProbe {s0 : State} (cart : BitVec 2) (element : Sys2Proof.CartElement) {s : State} (h0 : Keeps
    s0 s) :
    KeepsOut s0 (execCartProbe cart element s) := by
  unfold execCartProbe
  exact (keeps_next (keeps_ev _ h0 (fun _ h1 => (keeps_cartProbe _ _ h1))))

theorem keeps_execCartReauth {s0 : State} (cart : BitVec 2) (element : Sys2Proof.CartElement) {s : State} (h0 : Keeps
    s0 s) :
    KeepsOut s0 (execCartReauth cart element s) := by
  unfold execCartReauth
  exact (keeps_next (keeps_ev _ h0 (fun _ h1 => (keeps_cartReauth _ _ h1))))

theorem keeps_execCartSample {s0 : State} (cart : BitVec 2) (tj : Option (BitVec 16)) (fails : BitVec 3) {s : State}
    (h0 : Keeps s0 s) :
    KeepsOut s0 (execCartSample cart tj fails s) := by
  unfold execCartSample
  exact (keeps_next (keeps_ev _ h0 (fun _ h1 => (keeps_cartSample _ _ _ h1))))

theorem keeps_execCartReprobe {s0 : State} (cart : BitVec 2) (fails : BitVec 3) {s : State} (h0 : Keeps s0 s) :
    KeepsOut s0 (execCartReprobe cart fails s) := by
  unfold execCartReprobe
  exact (keeps_next (keeps_ctl _ _ h0 (fun _ h1 => (keeps_cartReprobe _ _ h1))))

theorem keeps_execCartEnable {s0 : State} (cart : BitVec 2) (on : Bool) (fails : BitVec 3) {s : State} (h0 : Keeps s0
    s) :
    KeepsOut s0 (execCartEnable cart on fails s) := by
  unfold execCartEnable
  exact (keeps_next (keeps_ctl _ _ h0 (fun _ h1 => (keeps_cartEnable _ _ _ h1))))

theorem keeps_execTwGo {s0 : State} (ctl : BitVec 3) {s : State} (h0 : Keeps s0 s) :
    KeepsOut s0 (execTwGo ctl s) := by
  unfold execTwGo
  exact (keeps_next (keeps_ite (keeps_ctl _ _ h0 (fun _ h1 => (keeps_twGo _ h1))) h0))

theorem keeps_execTwTransactionDone {s0 : State} (ctl : BitVec 3) (nack : Bool) (tmo : Bool) (nbytes : BitVec 5)
    (bytes : List Sys2Proof.Byte) {s : State} (h0 : Keeps s0 s) :
    KeepsOut s0 (execTwTransactionDone ctl nack tmo nbytes bytes s) := by
  unfold execTwTransactionDone
  exact (keeps_next (keeps_ite (keeps_ev _ h0 (fun _ h1 => (keeps_twDone _ _ _ _ _ h1))) h0))

end Sys2Proof.Machine
end

