-- ==== Sys2Proof/Laws/KeepsGalleryExec.lean ====
section
/-! SUPPORT. The operations of Machine/GalleryExec.lean keep what every command keeps. -/

namespace Sys2Proof.Machine

open Sys2Proof

theorem keeps_galMsg {s0 : State} (f : Sys2Proof.Machine.State → Sys2Proof.Machine.State) {s : State} (h0 : Keeps s0
    s) (h_f : ∀ x0, Keeps s0 x0 → Keeps s0 (f x0)) :
    Keeps s0 (galMsg f s) := by
  unfold galMsg
  exact (keeps_ite (h_f _ h0) h0)

theorem keeps_userMsg {s0 : State} (dest : Nat) (data : List Sys2Proof.Byte) {s : State} (h0 : Keeps s0 s) :
    Keeps s0 (userMsg dest data s) := by
  unfold userMsg
  exact (keeps_ite (keeps_rxMessage _ h0) h0)

theorem keeps_settxWrite {s0 : State} (src : Nat) (dst : Nat) (dest : Nat) {s : State} (h0 : Keeps s0 s) :
    Keeps s0 (settxWrite src dst dest s) := by
  unfold settxWrite
  exact (keeps_settxGo (keeps_setRf _ _ _ (keeps_setRf _ _ _ (keeps_setRf _ _ _ h0))))

theorem keeps_execGalEnable {s0 : State} (on : Bool) {s : State} (h0 : Keeps s0 s) :
    KeepsOut s0 (execGalEnable on s) := by
  unfold execGalEnable
  exact (keeps_next (keeps_ctl _ _ h0 (fun _ h1 => (keeps_galEnableWrite _ h1))))

theorem keeps_execTrainSection {s0 : State} (port : BitVec 1) (eighths : BitVec 3) (sa : List Sys2Proof.Byte) (payload
    : List Sys2Proof.Byte) (fcs : BitVec 2) {s : State} (h0 : Keeps s0 s) :
    KeepsOut s0 (execTrainSection port eighths sa payload fcs s) := by
  unfold execTrainSection
  exact (keeps_next (keeps_ev _ h0 (fun _ h1 => (keeps_sectionArrives _ _ _ _ _ h1))))

theorem keeps_execBlockLate {s0 : State} {s : State} (h0 : Keeps s0 s) :
    KeepsOut s0 (execBlockLate s) := by
  unfold execBlockLate
  exact (keeps_next (keeps_ev _ h0 (fun _ h1 => (keeps_blockLateNow h1))))

theorem keeps_execMsgCommit {s0 : State} (dest : Sys2Proof.Byte) (slot : BitVec 4) (cyc : BitVec 48) {s : State} (h0 :
    Keeps s0 s) :
    KeepsOut s0 (execMsgCommit dest slot cyc s) := by
  unfold execMsgCommit
  exact (keeps_next (keeps_ev _ h0 (fun _ h1 => (keeps_galMsg _ h1 (fun _ h2 => (keeps_commitMsg _ _ _ h2))))))

theorem keeps_execMsgSetdata {s0 : State} (dest : Sys2Proof.Byte) (slot : BitVec 4) (word : BitVec 16) (words : List
    Sys2Proof.W40) {s : State} (h0 : Keeps s0 s) :
    KeepsOut s0 (execMsgSetdata dest slot word words s) := by
  unfold execMsgSetdata
  exact (keeps_next (keeps_ev _ h0 (fun _ h1 => (keeps_galMsg _ h1 (fun _ h2 => (keeps_setdataMsg _ _ _ _ h2))))))

theorem keeps_execMsgSetend {s0 : State} (dest : Sys2Proof.Byte) (slot : BitVec 4) {s : State} (h0 : Keeps s0 s) :
    KeepsOut s0 (execMsgSetend dest slot s) := by
  unfold execMsgSetend
  exact (keeps_next (keeps_ev _ h0 (fun _ h1 => (keeps_galMsg _ h1 (fun _ h2 => (keeps_setendMsg _ _ h2))))))

theorem keeps_execMsgAssign {s0 : State} (mac : List Sys2Proof.Byte) (ident : Sys2Proof.Byte) {s : State} (h0 : Keeps
    s0 s) :
    KeepsOut s0 (execMsgAssign mac ident s) := by
  unfold execMsgAssign
  exact (keeps_next (keeps_ev _ h0 (fun _ h1 => (keeps_galMsg _ h1 (fun _ h2 => (keeps_assignMsg _ _ h2))))))

theorem keeps_execMsgIdent {s0 : State} (pos : Sys2Proof.Byte) {s : State} (h0 : Keeps s0 s) :
    KeepsOut s0 (execMsgIdent pos s) := by
  unfold execMsgIdent
  exact (keeps_next (keeps_ev _ h0 (fun _ h1 => (keeps_galMsg _ h1 (fun _ h2 => (keeps_identMsg _ h2))))))

theorem keeps_execMsgUser {s0 : State} (dest : Sys2Proof.Byte) (data : List Sys2Proof.Byte) {s : State} (h0 : Keeps s0
    s) :
    KeepsOut s0 (execMsgUser dest data s) := by
  unfold execMsgUser
  exact (keeps_next (keeps_ev _ h0 (fun _ h1 => (keeps_galMsg _ h1 (fun _ h2 => (keeps_userMsg _ _ h2))))))

theorem keeps_execLinkFrameReceive {s0 : State} (port : BitVec 1) (eighths : BitVec 3) (payload : List Sys2Proof.Byte)
    (good : Bool) {s : State} (h0 : Keeps s0 s) :
    KeepsOut s0 (execLinkFrameReceive port eighths payload good s) := by
  unfold execLinkFrameReceive
  exact (keeps_next (keeps_ev _ h0 (fun _ h1 => (keeps_linkReceive _ _ _ _ h1))))

theorem keeps_execGlinkLoss {s0 : State} (port : BitVec 1) {s : State} (h0 : Keeps s0 s) :
    KeepsOut s0 (execGlinkLoss port s) := by
  unfold execGlinkLoss
  exact (keeps_next (keeps_ev _ h0 (fun _ h1 => (keeps_glinkLost _ h1))))

theorem keeps_execGalRestore {s0 : State} {s : State} (h0 : Keeps s0 s) :
    KeepsOut s0 (execGalRestore s) := by
  unfold execGalRestore
  exact (keeps_next (keeps_ctl _ _ h0 (fun _ h1 => (keeps_galRestoreWrite h1))))

theorem keeps_execStoredIdWrite {s0 : State} (ident : Sys2Proof.Byte) {s : State} (h0 : Keeps s0 s) :
    KeepsOut s0 (execStoredIdWrite ident s) := by
  unfold execStoredIdWrite
  exact (keeps_next (keeps_ctl _ _ h0 (fun _ h1 => (keeps_storedIdSet _ h1))))

theorem keeps_execGalTxmsgGo {s0 : State} {s : State} (h0 : Keeps s0 s) :
    KeepsOut s0 (execGalTxmsgGo s) := by
  unfold execGalTxmsgGo
  exact (keeps_next (keeps_ctl _ _ h0 (fun _ h1 => (keeps_txmsgGo h1))))

theorem keeps_execGalRxmsgPop {s0 : State} {s : State} (h0 : Keeps s0 s) :
    KeepsOut s0 (execGalRxmsgPop s) := by
  unfold execGalRxmsgPop
  exact (keeps_next (keeps_ctl _ _ h0 (fun _ h1 => (keeps_rxmsgPop h1))))

theorem keeps_execGalSettxGo {s0 : State} (src : BitVec 4) (dst : BitVec 4) (dest : Sys2Proof.Byte) {s : State} (h0 :
    Keeps s0 s) :
    KeepsOut s0 (execGalSettxGo src dst dest s) := by
  unfold execGalSettxGo
  exact (keeps_next (keeps_ctl _ _ h0 (fun _ h1 => (keeps_settxWrite _ _ _ h1))))

theorem keeps_execGalMdioGo {s0 : State} (write : Bool) (phy : BitVec 5) (reg : BitVec 5) (data : BitVec 16) {s :
    State} (h0 : Keeps s0 s) :
    KeepsOut s0 (execGalMdioGo write phy reg data s) := by
  unfold execGalMdioGo
  exact (keeps_next (keeps_ctl _ _ h0 (fun _ h1 => (keeps_mdioGo _ _ _ _ h1))))

theorem keeps_execMdioTransactionDone {s0 : State} (data : BitVec 16) {s : State} (h0 : Keeps s0 s) :
    KeepsOut s0 (execMdioTransactionDone data s) := by
  unfold execMdioTransactionDone
  exact (keeps_next (keeps_ev _ h0 (fun _ h1 => (keeps_mdioDone _ h1))))

theorem keeps_execPhyStatusChange {s0 : State} (port : BitVec 1) (up : Bool) (fdx : Bool) (speed : BitVec 2) {s :
    State} (h0 : Keeps s0 s) :
    KeepsOut s0 (execPhyStatusChange port up fdx speed s) := by
  unfold execPhyStatusChange
  exact (keeps_next (keeps_ev _ h0 (fun _ h1 => (keeps_phyChange _ _ _ _ h1))))

theorem keeps_execEthFrameReceive {s0 : State} (port : BitVec 1) (eighths : BitVec 3) (bytes : List Sys2Proof.Byte)
    (good : Bool) {s : State} (h0 : Keeps s0 s) :
    KeepsOut s0 (execEthFrameReceive port eighths bytes good s) := by
  unfold execEthFrameReceive
  exact (keeps_next (keeps_ev _ h0 (fun _ h1 => (keeps_ethReceive _ _ _ _ h1))))

theorem keeps_execEthFrameTransmit {s0 : State} (port : BitVec 1) {s : State} (h0 : Keeps s0 s) :
    KeepsOut s0 (execEthFrameTransmit port s) := by
  unfold execEthFrameTransmit
  exact (keeps_next (keeps_ev _ h0 (fun _ h1 => (keeps_ethTransmit _ h1))))

theorem keeps_execEthTxpoll {s0 : State} {s : State} (h0 : Keeps s0 s) :
    KeepsOut s0 (execEthTxpoll s) := by
  unfold execEthTxpoll
  exact (keeps_next (keeps_ctl _ _ h0 (fun _ h1 => (keeps_txPoll h1))))

end Sys2Proof.Machine
end

