-- ==== Sys2Proof/Laws/KeepsLawExec.lean ====
section
/-! SUPPORT. The operations of Machine/LawExec.lean keep what every command keeps. -/

namespace Sys2Proof.Machine

open Sys2Proof

theorem keeps_lawNop {s0 : State} (w : Sys2Proof.W32) {s : State} (h0 : Keeps s0 s) :
    Keeps s0 (lawNop w s) := by
  unfold lawNop
  exact (keeps_lawIssue _ _ h0)

theorem keeps_swapRequest {s0 : State} (lo : Nat) (mask : BitVec 16) {s : State} (h0 : Keeps s0 s) :
    Keeps s0 (swapRequest lo mask s) := by
  unfold swapRequest
  exact (keeps_setReg _ _ h0)

theorem keeps_execCleNop {s0 : State} (w : Sys2Proof.W32) {s : State} (h0 : Keeps s0 s) :
    KeepsOut s0 (execCleNop w s) := by
  unfold execCleNop
  exact (keeps_next (keeps_ev _ h0 (fun _ h1 => (keeps_lawNop _ h1))))

theorem keeps_execCleEnd {s0 : State} (f : BitVec 26) {s : State} (h0 : Keeps s0 s) :
    KeepsOut s0 (execCleEnd f s) := by
  unfold execCleEnd
  exact (keeps_next (keeps_ev _ h0 (fun _ h1 => (keeps_lawIssue _ _ h1))))

theorem keeps_execCleAdd {s0 : State} (f : BitVec 26) {s : State} (h0 : Keeps s0 s) :
    KeepsOut s0 (execCleAdd f s) := by
  unfold execCleAdd
  exact (keeps_next (keeps_ev _ h0 (fun _ h1 => (keeps_lawIssue _ _ h1))))

theorem keeps_execCleSub {s0 : State} (f : BitVec 26) {s : State} (h0 : Keeps s0 s) :
    KeepsOut s0 (execCleSub f s) := by
  unfold execCleSub
  exact (keeps_next (keeps_ev _ h0 (fun _ h1 => (keeps_lawIssue _ _ h1))))

theorem keeps_execCleMin {s0 : State} (f : BitVec 26) {s : State} (h0 : Keeps s0 s) :
    KeepsOut s0 (execCleMin f s) := by
  unfold execCleMin
  exact (keeps_next (keeps_ev _ h0 (fun _ h1 => (keeps_lawIssue _ _ h1))))

theorem keeps_execCleMax {s0 : State} (f : BitVec 26) {s : State} (h0 : Keeps s0 s) :
    KeepsOut s0 (execCleMax f s) := by
  unfold execCleMax
  exact (keeps_next (keeps_ev _ h0 (fun _ h1 => (keeps_lawIssue _ _ h1))))

theorem keeps_execCleNeg {s0 : State} (f : BitVec 26) {s : State} (h0 : Keeps s0 s) :
    KeepsOut s0 (execCleNeg f s) := by
  unfold execCleNeg
  exact (keeps_next (keeps_ev _ h0 (fun _ h1 => (keeps_lawIssue _ _ h1))))

theorem keeps_execCleMov {s0 : State} (f : BitVec 26) {s : State} (h0 : Keeps s0 s) :
    KeepsOut s0 (execCleMov f s) := by
  unfold execCleMov
  exact (keeps_next (keeps_ev _ h0 (fun _ h1 => (keeps_lawIssue _ _ h1))))

theorem keeps_execCleSel {s0 : State} (f : BitVec 26) {s : State} (h0 : Keeps s0 s) :
    KeepsOut s0 (execCleSel f s) := by
  unfold execCleSel
  exact (keeps_next (keeps_ev _ h0 (fun _ h1 => (keeps_lawIssue _ _ h1))))

theorem keeps_execCleMul {s0 : State} (f : BitVec 26) {s : State} (h0 : Keeps s0 s) :
    KeepsOut s0 (execCleMul f s) := by
  unfold execCleMul
  exact (keeps_next (keeps_ev _ h0 (fun _ h1 => (keeps_lawIssue _ _ h1))))

theorem keeps_execCleMac {s0 : State} (f : BitVec 26) {s : State} (h0 : Keeps s0 s) :
    KeepsOut s0 (execCleMac f s) := by
  unfold execCleMac
  exact (keeps_next (keeps_ev _ h0 (fun _ h1 => (keeps_lawIssue _ _ h1))))

theorem keeps_execCleMsb {s0 : State} (f : BitVec 26) {s : State} (h0 : Keeps s0 s) :
    KeepsOut s0 (execCleMsb f s) := by
  unfold execCleMsb
  exact (keeps_next (keeps_ev _ h0 (fun _ h1 => (keeps_lawIssue _ _ h1))))

theorem keeps_execCleMulv {s0 : State} (f : BitVec 26) {s : State} (h0 : Keeps s0 s) :
    KeepsOut s0 (execCleMulv f s) := by
  unfold execCleMulv
  exact (keeps_next (keeps_ev _ h0 (fun _ h1 => (keeps_lawIssue _ _ h1))))

theorem keeps_execCleMacv {s0 : State} (f : BitVec 26) {s : State} (h0 : Keeps s0 s) :
    KeepsOut s0 (execCleMacv f s) := by
  unfold execCleMacv
  exact (keeps_next (keeps_ev _ h0 (fun _ h1 => (keeps_lawIssue _ _ h1))))

theorem keeps_execCleMsbv {s0 : State} (f : BitVec 26) {s : State} (h0 : Keeps s0 s) :
    KeepsOut s0 (execCleMsbv f s) := by
  unfold execCleMsbv
  exact (keeps_next (keeps_ev _ h0 (fun _ h1 => (keeps_lawIssue _ _ h1))))

theorem keeps_execCleExt {s0 : State} (f : BitVec 26) {s : State} (h0 : Keeps s0 s) :
    KeepsOut s0 (execCleExt f s) := by
  unfold execCleExt
  exact (keeps_next (keeps_ev _ h0 (fun _ h1 => (keeps_lawIssue _ _ h1))))

theorem keeps_execCleLdacc {s0 : State} (f : BitVec 26) {s : State} (h0 : Keeps s0 s) :
    KeepsOut s0 (execCleLdacc f s) := by
  unfold execCleLdacc
  exact (keeps_next (keeps_ev _ h0 (fun _ h1 => (keeps_lawIssue _ _ h1))))

theorem keeps_execCleLdk {s0 : State} (f : BitVec 26) {s : State} (h0 : Keeps s0 s) :
    KeepsOut s0 (execCleLdk f s) := by
  unfold execCleLdk
  exact (keeps_next (keeps_ev _ h0 (fun _ h1 => (keeps_lawIssue _ _ h1))))

theorem keeps_execCleIn {s0 : State} (f : BitVec 26) {s : State} (h0 : Keeps s0 s) :
    KeepsOut s0 (execCleIn f s) := by
  unfold execCleIn
  exact (keeps_next (keeps_ev _ h0 (fun _ h1 => (keeps_lawIssue _ _ h1))))

theorem keeps_execCleOut {s0 : State} (f : BitVec 26) {s : State} (h0 : Keeps s0 s) :
    KeepsOut s0 (execCleOut f s) := by
  unfold execCleOut
  exact (keeps_next (keeps_ev _ h0 (fun _ h1 => (keeps_lawIssue _ _ h1))))

theorem keeps_execCleLds {s0 : State} (f : BitVec 26) {s : State} (h0 : Keeps s0 s) :
    KeepsOut s0 (execCleLds f s) := by
  unfold execCleLds
  exact (keeps_next (keeps_ev _ h0 (fun _ h1 => (keeps_lawIssue _ _ h1))))

theorem keeps_execCleSts {s0 : State} (f : BitVec 26) {s : State} (h0 : Keeps s0 s) :
    KeepsOut s0 (execCleSts f s) := by
  unfold execCleSts
  exact (keeps_next (keeps_ev _ h0 (fun _ h1 => (keeps_lawIssue _ _ h1))))

theorem keeps_execCleBq {s0 : State} (f : BitVec 26) {s : State} (h0 : Keeps s0 s) :
    KeepsOut s0 (execCleBq f s) := by
  unfold execCleBq
  exact (keeps_next (keeps_ev _ h0 (fun _ h1 => (keeps_lawIssue _ _ h1))))

theorem keeps_execCleSincos {s0 : State} (f : BitVec 26) {s : State} (h0 : Keeps s0 s) :
    KeepsOut s0 (execCleSincos f s) := by
  unfold execCleSincos
  exact (keeps_next (keeps_ev _ h0 (fun _ h1 => (keeps_lawIssue _ _ h1))))

theorem keeps_execCleAtan2 {s0 : State} (f : BitVec 26) {s : State} (h0 : Keeps s0 s) :
    KeepsOut s0 (execCleAtan2 f s) := by
  unfold execCleAtan2
  exact (keeps_next (keeps_ev _ h0 (fun _ h1 => (keeps_lawIssue _ _ h1))))

theorem keeps_execCleClarke {s0 : State} (f : BitVec 26) {s : State} (h0 : Keeps s0 s) :
    KeepsOut s0 (execCleClarke f s) := by
  unfold execCleClarke
  exact (keeps_next (keeps_ev _ h0 (fun _ h1 => (keeps_lawIssue _ _ h1))))

theorem keeps_execClePark {s0 : State} (f : BitVec 26) {s : State} (h0 : Keeps s0 s) :
    KeepsOut s0 (execClePark f s) := by
  unfold execClePark
  exact (keeps_next (keeps_ev _ h0 (fun _ h1 => (keeps_lawIssue _ _ h1))))

theorem keeps_execCleIpark {s0 : State} (f : BitVec 26) {s : State} (h0 : Keeps s0 s) :
    KeepsOut s0 (execCleIpark f s) := by
  unfold execCleIpark
  exact (keeps_next (keeps_ev _ h0 (fun _ h1 => (keeps_lawIssue _ _ h1))))

theorem keeps_execCleSvm {s0 : State} (f : BitVec 26) {s : State} (h0 : Keeps s0 s) :
    KeepsOut s0 (execCleSvm f s) := by
  unfold execCleSvm
  exact (keeps_next (keeps_ev _ h0 (fun _ h1 => (keeps_lawIssue _ _ h1))))

theorem keeps_execCleInj {s0 : State} (f : BitVec 26) {s : State} (h0 : Keeps s0 s) :
    KeepsOut s0 (execCleInj f s) := by
  unfold execCleInj
  exact (keeps_next (keeps_ev _ h0 (fun _ h1 => (keeps_lawIssue _ _ h1))))

theorem keeps_execCleCap {s0 : State} (f : BitVec 26) {s : State} (h0 : Keeps s0 s) :
    KeepsOut s0 (execCleCap f s) := by
  unfold execCleCap
  exact (keeps_next (keeps_ev _ h0 (fun _ h1 => (keeps_lawIssue _ _ h1))))

theorem keeps_execCleSwapReq {s0 : State} (mask : BitVec 16) {s : State} (h0 : Keeps s0 s) :
    KeepsOut s0 (execCleSwapReq mask s) := by
  unfold execCleSwapReq
  exact (keeps_next (keeps_ctl _ _ h0 (fun _ h1 => (keeps_swapRequest _ _ h1))))

theorem keeps_execCleSwapCmt {s0 : State} (mask : BitVec 16) {s : State} (h0 : Keeps s0 s) :
    KeepsOut s0 (execCleSwapCmt mask s) := by
  unfold execCleSwapCmt
  exact (keeps_next (keeps_ctl _ _ h0 (fun _ h1 => (keeps_swapRequest _ _ h1))))

theorem keeps_execCleStateWrite {s0 : State} (slot : BitVec 4) (word : BitVec 4) (v : Sys2Proof.W32) {s : State} (h0 :
    Keeps s0 s) :
    KeepsOut s0 (execCleStateWrite slot word v s) := by
  unfold execCleStateWrite
  exact (keeps_next (keeps_busCommand _ _ _ _ _ _ h0))

theorem keeps_execEchoGo {s0 : State} {s : State} (h0 : Keeps s0 s) :
    KeepsOut s0 (execEchoGo s) := by
  unfold execEchoGo
  exact (keeps_next (keeps_ctl _ _ h0 (fun _ h1 => (keeps_echoCtlWrite _ _ h1))))

theorem keeps_execEchoAbort {s0 : State} {s : State} (h0 : Keeps s0 s) :
    KeepsOut s0 (execEchoAbort s) := by
  unfold execEchoAbort
  exact (keeps_next (keeps_ctl _ _ h0 (fun _ h1 => (keeps_echoCtlWrite _ _ h1))))

end Sys2Proof.Machine
end

