-- ==== Sys2Proof/Laws/KeepsMemoryExec.lean ====
section
/-! SUPPORT. The operations of Machine/MemoryExec.lean keep what every command keeps. -/

namespace Sys2Proof.Machine

open Sys2Proof

theorem keeps_cavernCommand {s0 : State} (ident : Nat) (win : Nat) (off : BitVec 23) (wide : Bool) (write : Bool) (v :
    Sys2Proof.W64) (flips : BitVec 48) {s : State} (h0 : Keeps s0 s) :
    Keeps s0 (cavernCommand ident win off wide write v flips s) := by
  unfold cavernCommand
  exact (keeps_ite h0 (keeps_busAs _ _ _ _ _ _ (keeps_cavFlip _ _ h0)))

theorem keeps_scrubCommand {s0 : State} (flips : BitVec 48) {s : State} (h0 : Keeps s0 s) :
    Keeps s0 (scrubCommand flips s) := by
  unfold scrubCommand
  exact (keeps_scrubStep (keeps_cavFlip _ _ h0))

theorem keeps_spiStatusRead {s0 : State} {s : State} (h0 : Keeps s0 s) :
    Keeps s0 (spiStatusRead s) := by
  unfold spiStatusRead
  exact (keeps_ite (keeps_mk h0 rfl rfl rfl rfl rfl rfl rfl rfl rfl) h0)

theorem keeps_spiBadCommand {s0 : State} (code : Sys2Proof.Byte) (addr : BitVec 16) {s : State} (h0 : Keeps s0 s) :
    Keeps s0 (spiBadCommand code addr s) := by
  unfold spiBadCommand
  exact (by
      try extract_lets
      split
      exact (keeps_ite (keeps_spiBad h0) h0)
      exact (keeps_spiStatusRead h0)
      exact (keeps_spiRead _ _ _ _ h0)
      exact (keeps_spiRead _ _ _ _ h0)
      exact (keeps_spiWrite _ _ _ _ h0)
    )

theorem keeps_spiEnd {s0 : State} {s : State} (h0 : Keeps s0 s) :
    Keeps s0 (spiEnd s) := by
  unfold spiEnd
  exact (keeps_ite (keeps_mk h0 rfl rfl rfl rfl rfl rfl rfl rfl rfl) h0)

theorem keeps_siphonOff {s0 : State} (n : Nat) {s : State} (h0 : Keeps s0 s) :
    Keeps s0 (siphonOff n s) := by
  unfold siphonOff
  exact (keeps_ite (keeps_sphDisable _ h0) h0)

theorem keeps_siphonMask {s0 : State} (m : BitVec 16) {s : State} (h0 : Keeps s0 s) :
    Keeps s0 (siphonMask m s) := by
  unfold siphonMask
  exact (keeps_sphGo (keeps_forEach h0 (fun _ _ h1 => (keeps_sphTrigger _ h1))))

theorem keeps_respondTo {s0 : State} (x : Sys2Proof.TxnRef) {s : State} (h0 : Keeps s0 s) :
    Keeps s0 (respondTo x s) := by
  unfold respondTo
  exact (by
      try extract_lets
      split
      exact (keeps_respond _ h0)
      exact (keeps_guideEntryFreed (keeps_loadAnswer _ h0))
      exact (keeps_guideEntryFreed (keeps_storeAnswer _ h0))
      exact (keeps_sphAnswer _ _ h0)
      exact (keeps_issueWaiting _ (keeps_chamberReturns _ h0))
    )

theorem keeps_timeoutOf {s0 : State} (x : Sys2Proof.TxnRef) {s : State} (h0 : Keeps s0 s) :
    Keeps s0 (timeoutOf x s) := by
  unfold timeoutOf
  exact (by
      try extract_lets
      split
      exact (keeps_txnTimeout _ h0)
      exact (keeps_guideEntryFreed (keeps_loadTimeout _ h0))
      exact (keeps_guideEntryFreed (keeps_storeTimeout _ h0))
      exact (keeps_sphTimeout _ _ h0)
      exact (keeps_issueWaiting _ (keeps_chamberTimeout _ h0))
    )

theorem keeps_execCavernRead {s0 : State} (ident : BitVec 6) (off : BitVec 23) (wide : Bool) (flips : BitVec 48) {s :
    State} (h0 : Keeps s0 s) :
    KeepsOut s0 (execCavernRead ident off wide flips s) := by
  unfold execCavernRead
  exact (keeps_next (keeps_cavernCommand _ _ _ _ _ _ _ h0))

theorem keeps_execCavernWrite {s0 : State} (ident : BitVec 6) (off : BitVec 23) (wide : Bool) (v : Sys2Proof.W64)
    (flips : BitVec 48) {s : State} (h0 : Keeps s0 s) :
    KeepsOut s0 (execCavernWrite ident off wide v flips s) := by
  unfold execCavernWrite
  exact (keeps_next (keeps_cavernCommand _ _ _ _ _ _ _ h0))

theorem keeps_execCavernBitSetWrite {s0 : State} (ident : BitVec 6) (off : BitVec 23) (wide : Bool) (v :
    Sys2Proof.W64) (flips : BitVec 48) {s : State} (h0 : Keeps s0 s) :
    KeepsOut s0 (execCavernBitSetWrite ident off wide v flips s) := by
  unfold execCavernBitSetWrite
  exact (keeps_next (keeps_cavernCommand _ _ _ _ _ _ _ h0))

theorem keeps_execCavernBitClearWrite {s0 : State} (ident : BitVec 6) (off : BitVec 23) (wide : Bool) (v :
    Sys2Proof.W64) (flips : BitVec 48) {s : State} (h0 : Keeps s0 s) :
    KeepsOut s0 (execCavernBitClearWrite ident off wide v flips s) := by
  unfold execCavernBitClearWrite
  exact (keeps_next (keeps_cavernCommand _ _ _ _ _ _ _ h0))

theorem keeps_execPatrolScrub {s0 : State} (flips : BitVec 48) {s : State} (h0 : Keeps s0 s) :
    KeepsOut s0 (execPatrolScrub flips s) := by
  unfold execPatrolScrub
  exact (keeps_next (keeps_ev _ h0 (fun _ h1 => (keeps_scrubCommand _ h1))))

theorem keeps_execHostPortAAccess {s0 : State} (master : BitVec 3) (off : BitVec 14) (bytes : BitVec 4) (write : Bool)
    (v : Sys2Proof.W64) (coll : List (Nat × Sys2Proof.HwnAccess)) {s : State} (h0 : Keeps s0 s) :
    KeepsOut s0 (execHostPortAAccess master off bytes write v coll s) := by
  unfold execHostPortAAccess
  exact (keeps_next (keeps_busCommand _ _ _ _ _ _ h0))

theorem keeps_execSpiRead {s0 : State} (addr : BitVec 16) (count : BitVec 13) (coll : List (Nat ×
    Sys2Proof.HwnAccess)) {s : State} (h0 : Keeps s0 s) :
    KeepsOut s0 (execSpiRead addr count coll s) := by
  unfold execSpiRead
  exact (keeps_next (keeps_ev _ h0 (fun _ h1 => (keeps_spiRead _ _ _ _ h1))))

theorem keeps_execSpiQread {s0 : State} (addr : BitVec 16) (count : BitVec 13) (coll : List (Nat ×
    Sys2Proof.HwnAccess)) {s : State} (h0 : Keeps s0 s) :
    KeepsOut s0 (execSpiQread addr count coll s) := by
  unfold execSpiQread
  exact (keeps_next (keeps_ev _ h0 (fun _ h1 => (keeps_spiRead _ _ _ _ h1))))

theorem keeps_execSpiWrite {s0 : State} (addr : BitVec 16) (words : List Sys2Proof.W32) (coll : List (Nat ×
    Sys2Proof.HwnAccess)) {s : State} (h0 : Keeps s0 s) :
    KeepsOut s0 (execSpiWrite addr words coll s) := by
  unfold execSpiWrite
  exact (keeps_next (keeps_ev _ h0 (fun _ h1 => (keeps_hostPoll (keeps_spiWrite _ _ _ _ h1)))))

theorem keeps_execSpiQwrite {s0 : State} (addr : BitVec 16) (words : List Sys2Proof.W32) (coll : List (Nat ×
    Sys2Proof.HwnAccess)) {s : State} (h0 : Keeps s0 s) :
    KeepsOut s0 (execSpiQwrite addr words coll s) := by
  unfold execSpiQwrite
  exact (keeps_next (keeps_ev _ h0 (fun _ h1 => (keeps_hostPoll (keeps_spiWrite _ _ _ _ h1)))))

theorem keeps_execSpiRdsr {s0 : State} {s : State} (h0 : Keeps s0 s) :
    KeepsOut s0 (execSpiRdsr s) := by
  unfold execSpiRdsr
  exact (keeps_next (keeps_ev _ h0 (fun _ h1 => (keeps_spiStatusRead h1))))

theorem keeps_execSpiBadCommand {s0 : State} (code : Sys2Proof.Byte) (addr : BitVec 16) {s : State} (h0 : Keeps s0 s)
    :
    KeepsOut s0 (execSpiBadCommand code addr s) := by
  unfold execSpiBadCommand
  exact (keeps_next (keeps_ev _ h0 (fun _ h1 => (keeps_spiBadCommand _ _ h1))))

theorem keeps_execSpiTransactionEnd {s0 : State} {s : State} (h0 : Keeps s0 s) :
    KeepsOut s0 (execSpiTransactionEnd s) := by
  unfold execSpiTransactionEnd
  exact (keeps_next (keeps_ev _ h0 (fun _ h1 => (keeps_spiEnd h1))))

theorem keeps_execParallelRead {s0 : State} (ha : BitVec 13) (coll : Option Sys2Proof.HwnAccess) {s : State} (h0 :
    Keeps s0 s) :
    KeepsOut s0 (execParallelRead ha coll s) := by
  unfold execParallelRead
  exact (keeps_next (keeps_ev _ h0 (fun _ h1 => (keeps_parRead _ _ h1))))

theorem keeps_execParallelWrite {s0 : State} (ha : BitVec 13) (v : BitVec 16) (coll : Option Sys2Proof.HwnAccess) {s :
    State} (h0 : Keeps s0 s) :
    KeepsOut s0 (execParallelWrite ha v coll s) := by
  unfold execParallelWrite
  exact (keeps_next (keeps_ev _ h0 (fun _ h1 => (keeps_hostPoll (keeps_parWrite _ _ _ h1)))))

theorem keeps_execSiphonEnable {s0 : State} (channel : BitVec 4) {s : State} (h0 : Keeps s0 s) :
    KeepsOut s0 (execSiphonEnable channel s) := by
  unfold execSiphonEnable
  exact (keeps_next (keeps_ctl _ _ h0 (fun _ h1 => (keeps_sphEnable _ h1))))

theorem keeps_execSiphonDisable {s0 : State} (channel : BitVec 4) {s : State} (h0 : Keeps s0 s) :
    KeepsOut s0 (execSiphonDisable channel s) := by
  unfold execSiphonDisable
  exact (keeps_next (keeps_ctl _ _ h0 (fun _ h1 => (keeps_siphonOff _ h1))))

theorem keeps_execSphTrig {s0 : State} (mask : BitVec 16) {s : State} (h0 : Keeps s0 s) :
    KeepsOut s0 (execSphTrig mask s) := by
  unfold execSphTrig
  exact (keeps_next (keeps_ctl _ _ h0 (fun _ h1 => (keeps_siphonMask _ h1))))

theorem keeps_execSiphonTrigger {s0 : State} (channel : BitVec 4) {s : State} (h0 : Keeps s0 s) :
    KeepsOut s0 (execSiphonTrigger channel s) := by
  unfold execSiphonTrigger
  exact (keeps_next (keeps_ev _ h0 (fun _ h1 => (keeps_sphGo (keeps_sphTrigger _ h1)))))

theorem keeps_execSiphonReadReturn {s0 : State} (channel : BitVec 4) {s : State} (h0 : Keeps s0 s) :
    KeepsOut s0 (execSiphonReadReturn channel s) := by
  unfold execSiphonReadReturn
  exact (keeps_next (keeps_ev _ h0 (fun _ h1 => (keeps_sphReturns _ _ h1))))

theorem keeps_execSiphonWriteAck {s0 : State} (channel : BitVec 4) {s : State} (h0 : Keeps s0 s) :
    KeepsOut s0 (execSiphonWriteAck channel s) := by
  unfold execSiphonWriteAck
  exact (keeps_next (keeps_ev _ h0 (fun _ h1 => (keeps_sphReturns _ _ h1))))

theorem keeps_execBmxTransactionIssue {s0 : State} (ident : BitVec 6) (addr : Sys2Proof.W32) (bytes : BitVec 4) (write
    : Bool) (v : Sys2Proof.W64) {s : State} (h0 : Keeps s0 s) :
    KeepsOut s0 (execBmxTransactionIssue ident addr bytes write v s) := by
  unfold execBmxTransactionIssue
  exact (keeps_next (keeps_bmxIssue _ _ _ _ _ _ h0))

theorem keeps_execBmxTransactionResponse {s0 : State} (txn : Sys2Proof.TxnRef) {s : State} (h0 : Keeps s0 s) :
    KeepsOut s0 (execBmxTransactionResponse txn s) := by
  unfold execBmxTransactionResponse
  exact (keeps_next (keeps_ev _ h0 (fun _ h1 => (keeps_respondTo _ h1))))

theorem keeps_execBmxTimeout {s0 : State} (txn : Sys2Proof.TxnRef) {s : State} (h0 : Keeps s0 s) :
    KeepsOut s0 (execBmxTimeout txn s) := by
  unfold execBmxTimeout
  exact (keeps_next (keeps_ev _ h0 (fun _ h1 => (keeps_timeoutOf _ h1))))

theorem keeps_execPeakClr {s0 : State} (master : BitVec 3) {s : State} (h0 : Keeps s0 s) :
    KeepsOut s0 (execPeakClr master s) := by
  unfold execPeakClr
  exact (keeps_next (keeps_ite (keeps_ctl _ _ h0 (fun _ h1 => (keeps_peakClr _ h1))) h0))

end Sys2Proof.Machine
end

