-- ==== Sys2Proof/Laws/KeepsSecurityExec.lean ====
section
/-! SUPPORT. The operations of Machine/SecurityExec.lean keep what every command keeps. -/

namespace Sys2Proof.Machine

open Sys2Proof

theorem keeps_logCommit {s0 : State} (good : Nat) {s : State} (h0 : Keeps s0 s) :
    Keeps s0 (logCommit good s) := by
  unfold logCommit
  exact (keeps_ite h0 (by
      try extract_lets
      split
      exact h0
      exact (keeps_ite (keeps_commitRecord _ _ (keeps_touchEntries _ _ (keeps_setRb _ _ _ (keeps_setRf _ _ _ (keeps_mk
        h0 rfl rfl rfl rfl rfl rfl rfl rfl rfl))))) (keeps_errorResponse _ _ _ _ (keeps_commitRecord _ _
        (keeps_touchEntries _ _ (keeps_setRb _ _ _ (keeps_setRf _ _ _ (keeps_mk h0 rfl rfl rfl rfl rfl rfl rfl rfl
        rfl)))))))
    ))

theorem keeps_logCleared {s0 : State} {s : State} (h0 : Keeps s0 s) :
    Keeps s0 (logCleared s) := by
  unfold logCleared
  exact (keeps_ite (keeps_setRb _ _ _ (keeps_setRf _ _ _ (keeps_forEach h0 (fun _ _ h1 => (keeps_cavPut _ _
    (keeps_touchEntry _ h1)))))) h0)

theorem keeps_ceStart {s0 : State} (op : Nat) (ksel : Nat) {s : State} (h0 : Keeps s0 s) :
    Keeps s0 (ceStart op ksel s) := by
  unfold ceStart
  exact (keeps_ceCtlWrite _ h0)

theorem keeps_execSmpAck {s0 : State} (mask : BitVec 8) {s : State} (h0 : Keeps s0 s) :
    KeepsOut s0 (execSmpAck mask s) := by
  unfold execSmpAck
  exact (keeps_next (keeps_ctl _ _ h0 (fun _ h1 => (keeps_acknowledge _ h1))))

theorem keeps_execSmpLock {s0 : State} {s : State} (h0 : Keeps s0 s) :
    KeepsOut s0 (execSmpLock s) := by
  unfold execSmpLock
  exact (keeps_next (keeps_ctl _ _ h0 (fun _ h1 => (keeps_setRb _ _ _ h1))))

theorem keeps_execLogRecordCommit {s0 : State} (good : BitVec 3) {s : State} (h0 : Keeps s0 s) :
    KeepsOut s0 (execLogRecordCommit good s) := by
  unfold execLogRecordCommit
  exact (keeps_next (keeps_ev _ h0 (fun _ h1 => (keeps_logCommit _ h1))))

theorem keeps_execLogClr {s0 : State} {s : State} (h0 : Keeps s0 s) :
    KeepsOut s0 (execLogClr s) := by
  unfold execLogClr
  exact (keeps_next (keeps_ctl _ _ h0 (fun _ h1 => (keeps_logClr h1))))

theorem keeps_execLogClearDone {s0 : State} {s : State} (h0 : Keeps s0 s) :
    KeepsOut s0 (execLogClearDone s) := by
  unfold execLogClearDone
  exact (keeps_next (keeps_ev _ h0 (fun _ h1 => (keeps_logCleared h1))))

theorem keeps_execKeystoreWindowWrite {s0 : State} (master : BitVec 3) (off : BitVec 16) (wide : Bool) (v :
    Sys2Proof.W64) {s : State} (h0 : Keeps s0 s) :
    KeepsOut s0 (execKeystoreWindowWrite master off wide v s) := by
  unfold execKeystoreWindowWrite
  exact (keeps_next (keeps_busCommand _ _ _ _ _ _ h0))

theorem keeps_execRollbackRaise {s0 : State} (profile : Bool) (v : Sys2Proof.W32) {s : State} (h0 : Keeps s0 s) :
    KeepsOut s0 (execRollbackRaise profile v s) := by
  unfold execRollbackRaise
  exact (keeps_next (keeps_busCommand _ _ _ _ _ _ h0))

theorem keeps_execKeystoreWriteDone {s0 : State} (bad : Bool) {s : State} (h0 : Keeps s0 s) :
    KeepsOut s0 (execKeystoreWriteDone bad s) := by
  unfold execKeystoreWriteDone
  exact (keeps_next (keeps_ev _ h0 (fun _ h1 => (keeps_keyWriteDone _ h1))))

theorem keeps_execSecInstall {s0 : State} (slot : BitVec 2) {s : State} (h0 : Keeps s0 s) :
    KeepsOut s0 (execSecInstall slot s) := by
  unfold execSecInstall
  exact (keeps_next (keeps_ctl _ _ h0 (fun _ h1 => (keeps_rotGo _ _ h1))))

theorem keeps_execSecRetire {s0 : State} (slot : BitVec 2) {s : State} (h0 : Keeps s0 s) :
    KeepsOut s0 (execSecRetire slot s) := by
  unfold execSecRetire
  exact (keeps_next (keeps_ctl _ _ h0 (fun _ h1 => (keeps_rotGo _ _ h1))))

theorem keeps_execSecRoot {s0 : State} {s : State} (h0 : Keeps s0 s) :
    KeepsOut s0 (execSecRoot s) := by
  unfold execSecRoot
  exact (keeps_next (keeps_ctl _ _ h0 (fun _ h1 => (keeps_rotGo _ _ h1))))

theorem keeps_execCeSha256 {s0 : State} (ksel : BitVec 4) {s : State} (h0 : Keeps s0 s) :
    KeepsOut s0 (execCeSha256 ksel s) := by
  unfold execCeSha256
  exact (keeps_next (keeps_ctl _ _ h0 (fun _ h1 => (keeps_ceStart _ _ h1))))

theorem keeps_execCeHmac {s0 : State} (ksel : BitVec 4) {s : State} (h0 : Keeps s0 s) :
    KeepsOut s0 (execCeHmac ksel s) := by
  unfold execCeHmac
  exact (keeps_next (keeps_ctl _ _ h0 (fun _ h1 => (keeps_ceStart _ _ h1))))

theorem keeps_execCeGcmEncrypt {s0 : State} (ksel : BitVec 4) {s : State} (h0 : Keeps s0 s) :
    KeepsOut s0 (execCeGcmEncrypt ksel s) := by
  unfold execCeGcmEncrypt
  exact (keeps_next (keeps_ctl _ _ h0 (fun _ h1 => (keeps_ceStart _ _ h1))))

theorem keeps_execCeGcmDecrypt {s0 : State} (ksel : BitVec 4) {s : State} (h0 : Keeps s0 s) :
    KeepsOut s0 (execCeGcmDecrypt ksel s) := by
  unfold execCeGcmDecrypt
  exact (keeps_next (keeps_ctl _ _ h0 (fun _ h1 => (keeps_ceStart _ _ h1))))

theorem keeps_execCeEcdsaVerify {s0 : State} (ksel : BitVec 4) {s : State} (h0 : Keeps s0 s) :
    KeepsOut s0 (execCeEcdsaVerify ksel s) := by
  unfold execCeEcdsaVerify
  exact (keeps_next (keeps_ctl _ _ h0 (fun _ h1 => (keeps_ceStart _ _ h1))))

theorem keeps_execCeRandomFill {s0 : State} (ksel : BitVec 4) {s : State} (h0 : Keeps s0 s) :
    KeepsOut s0 (execCeRandomFill ksel s) := by
  unfold execCeRandomFill
  exact (keeps_next (keeps_ctl _ _ h0 (fun _ h1 => (keeps_ceStart _ _ h1))))

theorem keeps_execCeOperationDone {s0 : State} {s : State} (h0 : Keeps s0 s) :
    KeepsOut s0 (execCeOperationDone s) := by
  unfold execCeOperationDone
  exact (keeps_next (keeps_ev _ h0 (fun _ h1 => (keeps_ceDone h1))))

theorem keeps_execRngTestFailure {s0 : State} {s : State} (h0 : Keeps s0 s) :
    KeepsOut s0 (execRngTestFailure s) := by
  unfold execRngTestFailure
  exact (keeps_next (keeps_ev _ h0 (fun _ h1 => (keeps_rngFail h1))))

theorem keeps_execRngStartupDone {s0 : State} {s : State} (h0 : Keeps s0 s) :
    KeepsOut s0 (execRngStartupDone s) := by
  unfold execRngStartupDone
  exact (keeps_next (keeps_ev _ h0 (fun _ h1 => (keeps_rngStarted h1))))

theorem keeps_execTamperInput {s0 : State} (ball : BitVec 2) (level : Bool) (held : BitVec 32) {s : State} (h0 : Keeps
    s0 s) :
    KeepsOut s0 (execTamperInput ball level held s) := by
  unfold execTamperInput
  exact (keeps_next (keeps_tamperActive _ _ _ h0))

theorem keeps_execTamperInputRelease {s0 : State} (ball : BitVec 2) {s : State} (h0 : Keeps s0 s) :
    KeepsOut s0 (execTamperInputRelease ball s) := by
  unfold execTamperInputRelease
  exact (keeps_next (keeps_tamperReleased _ h0))

theorem keeps_execShieldMeshFault {s0 : State} {s : State} (h0 : Keeps s0 s) :
    KeepsOut s0 (execShieldMeshFault s) := by
  unfold execShieldMeshFault
  exact (keeps_next (keeps_meshFault h0))

theorem keeps_execSecLock {s0 : State} {s : State} (h0 : Keeps s0 s) :
    KeepsOut s0 (execSecLock s) := by
  unfold execSecLock
  exact (keeps_next (keeps_ctl _ _ h0 (fun _ h1 => (keeps_setRb _ _ _ h1))))

theorem keeps_execSecReopen {s0 : State} {s : State} (h0 : Keeps s0 s) :
    KeepsOut s0 (execSecReopen s) := by
  unfold execSecReopen
  exact (keeps_next (keeps_ctl _ _ h0 (fun _ h1 => (keeps_reopen h1))))

end Sys2Proof.Machine
end

