-- ==== Sys2Proof/Laws/KeepsSystemExec.lean ====
section
/-! SUPPORT. The operations of Machine/SystemExec.lean keep what every command keeps. -/

namespace Sys2Proof.Machine

open Sys2Proof

theorem keeps_execPowerOnReset {s0 : State} (vsel : BitVec 5) {s : State} (h0 : Keeps s0 s) :
    KeepsOut s0 (execPowerOnReset vsel s) := by
  unfold execPowerOnReset
  exact (keeps_next (keeps_powerOn _ h0))

theorem keeps_execPinReset {s0 : State} (low : Bool) {s : State} (h0 : Keeps s0 s) :
    KeepsOut s0 (execPinReset low s) := by
  unfold execPinReset
  exact (keeps_next (keeps_pinReset _ h0))

theorem keeps_execSoftwareChipReset {s0 : State} (v : Sys2Proof.W32) {s : State} (h0 : Keeps s0 s) :
    KeepsOut s0 (execSoftwareChipReset v s) := by
  unfold execSoftwareChipReset
  exact (keeps_next (keeps_ctl _ _ h0 (fun _ h1 => (keeps_rstCtlWrite _ h1))))

theorem keeps_execBlockReset {s0 : State} (v : Sys2Proof.W32) {s : State} (h0 : Keeps s0 s) :
    KeepsOut s0 (execBlockReset v s) := by
  unfold execBlockReset
  exact (keeps_next (keeps_ctl _ _ h0 (fun _ h1 => (keeps_rstBlkWrite _ h1))))

theorem keeps_execBlockResetEnd {s0 : State} (block : BitVec 6) {s : State} (h0 : Keeps s0 s) :
    KeepsOut s0 (execBlockResetEnd block s) := by
  unfold execBlockResetEnd
  exact (keeps_next (keeps_ev _ h0 (fun _ h1 => (keeps_blockResetEnd _ h1))))

theorem keeps_execSumpChipReset {s0 : State} {s : State} (h0 : Keeps s0 s) :
    KeepsOut s0 (execSumpChipReset s) := by
  unfold execSumpChipReset
  exact (keeps_next (keeps_sumpReset h0))

theorem keeps_execBootSequence {s0 : State} (bootsel : Bool) (hmode : Bool) (flash : Sys2Proof.Cells 8) {s : State}
    (h0 : Keeps s0 s) :
    KeepsOut s0 (execBootSequence bootsel hmode flash s) := by
  unfold execBootSequence
  exact (keeps_next (keeps_bootSequence _ _ _ h0))

theorem keeps_execHostChunkFull {s0 : State} (nn : BitVec 16) {s : State} (h0 : Keeps s0 s) :
    KeepsOut s0 (execHostChunkFull nn s) := by
  unfold execHostChunkFull
  exact (keeps_next (keeps_ev _ h0 (fun _ h1 => (keeps_hostPoll (keeps_hwnPut _ _ h1)))))

theorem keeps_execHostChunkFullLast {s0 : State} (nn : BitVec 16) {s : State} (h0 : Keeps s0 s) :
    KeepsOut s0 (execHostChunkFullLast nn s) := by
  unfold execHostChunkFullLast
  exact (keeps_next (keeps_ev _ h0 (fun _ h1 => (keeps_hostPoll (keeps_hwnPut _ _ h1)))))

theorem keeps_execRegisterWrite {s0 : State} (master : BitVec 3) (addr : Sys2Proof.W32) (wide : Bool) (v :
    Sys2Proof.W64) {s : State} (h0 : Keeps s0 s) :
    KeepsOut s0 (execRegisterWrite master addr wide v s) := by
  unfold execRegisterWrite
  exact (keeps_next (keeps_busCommand _ _ _ _ _ _ h0))

theorem keeps_execRcRead {s0 : State} (master : BitVec 3) (addr : Sys2Proof.W32) (wide : Bool) {s : State} (h0 : Keeps
    s0 s) :
    KeepsOut s0 (execRcRead master addr wide s) := by
  unfold execRcRead
  exact (keeps_next (keeps_busCommand _ _ _ _ _ _ h0))

theorem keeps_execRegisterBitSetWrite {s0 : State} (addr : Sys2Proof.W32) (wide : Bool) (v : Sys2Proof.W64) {s :
    State} (h0 : Keeps s0 s) :
    KeepsOut s0 (execRegisterBitSetWrite addr wide v s) := by
  unfold execRegisterBitSetWrite
  exact (keeps_next (keeps_busCommand _ _ _ _ _ _ h0))

theorem keeps_execRegisterBitClearWrite {s0 : State} (addr : Sys2Proof.W32) (wide : Bool) (v : Sys2Proof.W64) {s :
    State} (h0 : Keeps s0 s) :
    KeepsOut s0 (execRegisterBitClearWrite addr wide v s) := by
  unfold execRegisterBitClearWrite
  exact (keeps_next (keeps_busCommand _ _ _ _ _ _ h0))

theorem keeps_execAliasRead {s0 : State} (master : BitVec 3) (addr : Sys2Proof.W32) (wide : Bool) {s : State} (h0 :
    Keeps s0 s) :
    KeepsOut s0 (execAliasRead master addr wide s) := by
  unfold execAliasRead
  exact (keeps_next (keeps_busCommand _ _ _ _ _ _ h0))

theorem keeps_execCycleBoundary {s0 : State} {s : State} (h0 : Keeps s0 s) :
    KeepsOut s0 (execCycleBoundary s) := by
  unfold execCycleBoundary
  exact (keeps_next (keeps_cycleBoundary h0))

theorem keeps_execMidCycleInstant {s0 : State} {s : State} (h0 : Keeps s0 s) :
    KeepsOut s0 (execMidCycleInstant s) := by
  unfold execMidCycleInstant
  exact (keeps_next (keeps_midInstant h0))

theorem keeps_execUnitCompletion {s0 : State} (monitor : BitVec 6) {s : State} (h0 : Keeps s0 s) :
    KeepsOut s0 (execUnitCompletion monitor s) := by
  unfold execUnitCompletion
  exact (keeps_next (keeps_ev _ h0 (fun _ h1 => (keeps_unitComplete _ h1))))

theorem keeps_execUnitDeadlineMiss {s0 : State} (monitor : BitVec 6) (written : BitVec 16) {s : State} (h0 : Keeps s0
    s) :
    KeepsOut s0 (execUnitDeadlineMiss monitor written s) := by
  unfold execUnitDeadlineMiss
  exact (keeps_next (keeps_ev _ h0 (fun _ h1 => (keeps_unitDeadline _ _ h1))))

theorem keeps_execDlApply {s0 : State} {s : State} (h0 : Keeps s0 s) :
    KeepsOut s0 (execDlApply s) := by
  unfold execDlApply
  exact (keeps_next (keeps_ctl _ _ h0 (fun _ h1 => (keeps_dlApply h1))))

theorem keeps_execMinClr {s0 : State} (monitor : BitVec 6) {s : State} (h0 : Keeps s0 s) :
    KeepsOut s0 (execMinClr monitor s) := by
  unfold execMinClr
  exact (keeps_next (keeps_ite (keeps_ctl _ _ h0 (fun _ h1 => (keeps_minClear _ h1))) h0))

theorem keeps_execPwrModeOn {s0 : State} (dom : BitVec 8) {s : State} (h0 : Keeps s0 s) :
    KeepsOut s0 (execPwrModeOn dom s) := by
  unfold execPwrModeOn
  exact (keeps_next (keeps_ctl _ _ h0 (fun _ h1 => (keeps_powerMode _ _ h1))))

theorem keeps_execPwrModeAuto {s0 : State} (dom : BitVec 8) {s : State} (h0 : Keeps s0 s) :
    KeepsOut s0 (execPwrModeAuto dom s) := by
  unfold execPwrModeAuto
  exact (keeps_next (keeps_ctl _ _ h0 (fun _ h1 => (keeps_powerMode _ _ h1))))

theorem keeps_execPwrModeRetain {s0 : State} (dom : BitVec 8) {s : State} (h0 : Keeps s0 s) :
    KeepsOut s0 (execPwrModeRetain dom s) := by
  unfold execPwrModeRetain
  exact (keeps_next (keeps_ctl _ _ h0 (fun _ h1 => (keeps_powerMode _ _ h1))))

theorem keeps_execPwrModeOff {s0 : State} (dom : BitVec 8) {s : State} (h0 : Keeps s0 s) :
    KeepsOut s0 (execPwrModeOff dom s) := by
  unfold execPwrModeOff
  exact (keeps_next (keeps_ctl _ _ h0 (fun _ h1 => (keeps_powerMode _ _ h1))))

theorem keeps_execPwrHoldWrite {s0 : State} (dom : BitVec 8) (hold : Bool) {s : State} (h0 : Keeps s0 s) :
    KeepsOut s0 (execPwrHoldWrite dom hold s) := by
  unfold execPwrHoldWrite
  exact (keeps_next (keeps_ctl _ _ h0 (fun _ h1 => (keeps_powerHold _ _ h1))))

theorem keeps_execDomainWake {s0 : State} (dom : BitVec 8) {s : State} (h0 : Keeps s0 s) :
    KeepsOut s0 (execDomainWake dom s) := by
  unfold execDomainWake
  exact (keeps_next (keeps_ev _ h0 (fun _ h1 => (keeps_leadWake _ h1))))

theorem keeps_execDomainWakeComplete {s0 : State} (dom : BitVec 8) {s : State} (h0 : Keeps s0 s) :
    KeepsOut s0 (execDomainWakeComplete dom s) := by
  unfold execDomainWakeComplete
  exact (keeps_next (keeps_ite (keeps_ev _ h0 (fun _ h1 => (keeps_domainReady _ h1))) h0))

theorem keeps_execSleepTransitionEnd {s0 : State} (dom : BitVec 8) {s : State} (h0 : Keeps s0 s) :
    KeepsOut s0 (execSleepTransitionEnd dom s) := by
  unfold execSleepTransitionEnd
  exact (keeps_next (keeps_ite (keeps_ev _ h0 (fun _ h1 => (keeps_domainSlept _ h1))) h0))

theorem keeps_execWtbSettleEnd {s0 : State} {s : State} (h0 : Keeps s0 s) :
    KeepsOut s0 (execWtbSettleEnd s) := by
  unfold execWtbSettleEnd
  exact (keeps_next (keeps_ev _ h0 (fun _ h1 => (keeps_wtbSettled h1))))

theorem keeps_execWtbBoundWrite {s0 : State} (ceil : Bool) (code : BitVec 8) {s : State} (h0 : Keeps s0 s) :
    KeepsOut s0 (execWtbBoundWrite ceil code s) := by
  unfold execWtbBoundWrite
  exact (keeps_next (keeps_ctl _ _ h0 (fun _ h1 => (keeps_wtbBound _ _ h1))))

theorem keeps_execWtbTargetWrite {s0 : State} (code : BitVec 8) {s : State} (h0 : Keeps s0 s) :
    KeepsOut s0 (execWtbTargetWrite code s) := by
  unfold execWtbTargetWrite
  exact (keeps_next (keeps_ctl _ _ h0 (fun _ h1 => (keeps_wtbTarget _ h1))))

theorem keeps_execWtbModeWrite {s0 : State} (mode : BitVec 2) {s : State} (h0 : Keeps s0 s) :
    KeepsOut s0 (execWtbModeWrite mode s) := by
  unfold execWtbModeWrite
  exact (keeps_next (keeps_ctl _ _ h0 (fun _ h1 => (keeps_wtbMode _ h1))))

theorem keeps_execAvsbusTransactionDone {s0 : State} (good : Bool) {s : State} (h0 : Keeps s0 s) :
    KeepsOut s0 (execAvsbusTransactionDone good s) := by
  unfold execAvsbusTransactionDone
  exact (keeps_next (keeps_ev _ h0 (fun _ h1 => (keeps_avsDone _ h1))))

theorem keeps_execGuideLoadComplete {s0 : State} (index : BitVec 3) {s : State} (h0 : Keeps s0 s) :
    KeepsOut s0 (execGuideLoadComplete index s) := by
  unfold execGuideLoadComplete
  exact (keeps_next (keeps_ev _ h0 (fun _ h1 => (keeps_guideEntryFreed (keeps_loadEnds _ _ h1)))))

theorem keeps_execGuideLoadError {s0 : State} (index : BitVec 3) {s : State} (h0 : Keeps s0 s) :
    KeepsOut s0 (execGuideLoadError index s) := by
  unfold execGuideLoadError
  exact (keeps_next (keeps_ev _ h0 (fun _ h1 => (keeps_guideEntryFreed (keeps_loadEnds _ _ h1)))))

theorem keeps_execPostedStoreError {s0 : State} {s : State} (h0 : Keeps s0 s) :
    KeepsOut s0 (execPostedStoreError s) := by
  unfold execPostedStoreError
  exact (keeps_next (keeps_ev _ h0 (fun _ h1 => (keeps_guideEntryFreed (keeps_storeErrorEnds h1)))))

theorem keeps_execNmiEntry {s0 : State} {s : State} (h0 : Keeps s0 s) :
    KeepsOut s0 (execNmiEntry s) := by
  unfold execNmiEntry
  exact (keeps_next (keeps_ev _ h0 (fun _ h1 => (keeps_nmiEnter h1))))

theorem keeps_execRosterReady {s0 : State} (slot : BitVec 6) {s : State} (h0 : Keeps s0 s) :
    KeepsOut s0 (execRosterReady slot s) := by
  unfold execRosterReady
  exact (keeps_next (keeps_ctl _ _ h0 (fun _ h1 => (keeps_rosterReady _ h1))))

theorem keeps_execRosterCancel {s0 : State} (slot : BitVec 6) {s : State} (h0 : Keeps s0 s) :
    KeepsOut s0 (execRosterCancel slot s) := by
  unfold execRosterCancel
  exact (keeps_next (keeps_ctl _ _ h0 (fun _ h1 => (keeps_rosterCancel _ h1))))

theorem keeps_execArbitrationWindowClose {s0 : State} {s : State} (h0 : Keeps s0 s) :
    KeepsOut s0 (execArbitrationWindowClose s) := by
  unfold execArbitrationWindowClose
  exact (keeps_next (keeps_ev _ h0 (fun _ h1 => (keeps_closeWindow h1))))

theorem keeps_execTaskDispatch {s0 : State} {s : State} (h0 : Keeps s0 s) :
    KeepsOut s0 (execTaskDispatch s) := by
  unfold execTaskDispatch
  exact (keeps_next (keeps_ev _ h0 (fun _ h1 => (keeps_taskDispatch h1))))

theorem keeps_execTaskCfgWrite {s0 : State} (slot : BitVec 6) (v : Sys2Proof.W32) {s : State} (h0 : Keeps s0 s) :
    KeepsOut s0 (execTaskCfgWrite slot v s) := by
  unfold execTaskCfgWrite
  exact (keeps_next (keeps_ctl _ _ h0 (fun _ h1 => (keeps_taskCfg _ _ h1))))

theorem keeps_execTimerExpiry {s0 : State} (timer : BitVec 3) {s : State} (h0 : Keeps s0 s) :
    KeepsOut s0 (execTimerExpiry timer s) := by
  unfold execTimerExpiry
  exact (keeps_next (keeps_ev _ h0 (fun _ h1 => (keeps_timerExpire _ h1))))

theorem keeps_execTimerWrap {s0 : State} (timer : BitVec 3) {s : State} (h0 : Keeps s0 s) :
    KeepsOut s0 (execTimerWrap timer s) := by
  unfold execTimerWrap
  exact (keeps_next (keeps_ev _ h0 (fun _ h1 => (keeps_timerWraps _ h1))))

theorem keeps_execTimerEdgeCapture {s0 : State} (timer : BitVec 3) (pin : BitVec 4) (rising : Bool) (held : BitVec 32)
    {s : State} (h0 : Keeps s0 s) :
    KeepsOut s0 (execTimerEdgeCapture timer pin rising held s) := by
  unfold execTimerEdgeCapture
  exact (keeps_next (keeps_ev _ h0 (fun _ h1 => (keeps_timerEdge _ _ _ _ h1))))

end Sys2Proof.Machine
end

