-- ==== Sys2Proof/Laws/KeepsTimeExec.lean ====
section
/-! SUPPORT. The operations of Machine/TimeExec.lean keep what every command keeps. -/

namespace Sys2Proof.Machine

open Sys2Proof

theorem keeps_forSyn {s0 : State} (n : BitVec 2) (f : Nat → Sys2Proof.Machine.State → Sys2Proof.Machine.State) {s :
    State} (h0 : Keeps s0 s) (h_f : ∀ x0 x1, Keeps s0 x1 → Keeps s0 (f x0 x1)) :
    Keeps s0 (forSyn n f s) := by
  unfold forSyn
  exact (keeps_ite (h_f _ _ h0) h0)

theorem keeps_synConfigure {s0 : State} (ctl : Sys2Proof.W32) (frac : BitVec 24) (div : Sys2Proof.W32) (n : Nat) {s :
    State} (h0 : Keeps s0 s) :
    Keeps s0 (synConfigure ctl frac div n s) := by
  unfold synConfigure
  exact (keeps_regWrite _ _ _ (keeps_regWrite _ _ _ (keeps_regWrite _ _ _ h0)))

theorem keeps_execDtmSetGo {s0 : State} {s : State} (h0 : Keeps s0 s) :
    KeepsOut s0 (execDtmSetGo s) := by
  unfold execDtmSetGo
  exact (keeps_next (keeps_ctl _ _ h0 (fun _ h1 => (keeps_setGo h1))))

theorem keeps_execTimebaseSetApply {s0 : State} {s : State} (h0 : Keeps s0 s) :
    KeepsOut s0 (execTimebaseSetApply s) := by
  unfold execTimebaseSetApply
  exact (keeps_next (keeps_ev _ h0 (fun _ h1 => (keeps_applySet h1))))

theorem keeps_execDtmStepWrite {s0 : State} (v : Sys2Proof.W64) {s : State} (h0 : Keeps s0 s) :
    KeepsOut s0 (execDtmStepWrite v s) := by
  unfold execDtmStepWrite
  exact (keeps_next (keeps_ctl _ _ h0 (fun _ h1 => (keeps_stepWrite _ h1))))

theorem keeps_execTimebaseStepApply {s0 : State} {s : State} (h0 : Keeps s0 s) :
    KeepsOut s0 (execTimebaseStepApply s) := by
  unfold execTimebaseStepApply
  exact (keeps_next (keeps_ev _ h0 (fun _ h1 => (keeps_applyStep h1))))

theorem keeps_execDtmAddendWrite {s0 : State} (v : Sys2Proof.W32) {s : State} (h0 : Keeps s0 s) :
    KeepsOut s0 (execDtmAddendWrite v s) := by
  unfold execDtmAddendWrite
  exact (keeps_next (keeps_ctl _ _ h0 (fun _ h1 => (keeps_addendWrite _ h1))))

theorem keeps_execDtmTbNsRead {s0 : State} (master : BitVec 3) {s : State} (h0 : Keeps s0 s) :
    KeepsOut s0 (execDtmTbNsRead master s) := by
  unfold execDtmTbNsRead
  exact (keeps_next (keeps_busCommand _ _ _ _ _ _ h0))

theorem keeps_execDtmTvSet {s0 : State} {s : State} (h0 : Keeps s0 s) :
    KeepsOut s0 (execDtmTvSet s) := by
  unfold execDtmTvSet
  exact (keeps_next (keeps_ctl _ _ h0 (fun _ h1 => (keeps_tvWrite _ _ h1))))

theorem keeps_execDtmTvClr {s0 : State} {s : State} (h0 : Keeps s0 s) :
    KeepsOut s0 (execDtmTvClr s) := by
  unfold execDtmTvClr
  exact (keeps_next (keeps_ctl _ _ h0 (fun _ h1 => (keeps_tvWrite _ _ h1))))

theorem keeps_execDtmModeWrite {s0 : State} (servo : Bool) {s : State} (h0 : Keeps s0 s) :
    KeepsOut s0 (execDtmModeWrite servo s) := by
  unfold execDtmModeWrite
  exact (keeps_next (keeps_ctl _ _ h0 (fun _ h1 => (keeps_modeWrite _ h1))))

theorem keeps_execDtmPtpOfsWrite {s0 : State} (v : Sys2Proof.W64) {s : State} (h0 : Keeps s0 s) :
    KeepsOut s0 (execDtmPtpOfsWrite v s) := by
  unfold execDtmPtpOfsWrite
  exact (keeps_next (keeps_ctl _ _ h0 (fun _ h1 => (keeps_refSample _ _ h1))))

theorem keeps_execHoldoverSecond {s0 : State} {s : State} (h0 : Keeps s0 s) :
    KeepsOut s0 (execHoldoverSecond s) := by
  unfold execHoldoverSecond
  exact (keeps_next (keeps_ev _ h0 (fun _ h1 => (keeps_holdSecond h1))))

theorem keeps_execPpsInputEdge {s0 : State} (eighths : BitVec 3) (rising : Bool) (held : BitVec 32) {s : State} (h0 :
    Keeps s0 s) :
    KeepsOut s0 (execPpsInputEdge eighths rising held s) := by
  unfold execPpsInputEdge
  exact (keeps_next (keeps_ev _ h0 (fun _ h1 => (keeps_ppsEdge _ _ _ h1))))

theorem keeps_execWclkInputEdge {s0 : State} (eighths : BitVec 3) (rising : Bool) (held : BitVec 32) {s : State} (h0 :
    Keeps s0 s) :
    KeepsOut s0 (execWclkInputEdge eighths rising held s) := by
  unfold execWclkInputEdge
  exact (keeps_next (keeps_ev _ h0 (fun _ h1 => (keeps_wclkEdge _ _ _ h1))))

theorem keeps_execPpsoEdge {s0 : State} {s : State} (h0 : Keeps s0 s) :
    KeepsOut s0 (execPpsoEdge s) := by
  unfold execPpsoEdge
  exact (keeps_next (keeps_ev _ h0 (fun _ h1 => (keeps_ppsoEdge h1))))

theorem keeps_execFrmoEdge {s0 : State} {s : State} (h0 : Keeps s0 s) :
    KeepsOut s0 (execFrmoEdge s) := by
  unfold execFrmoEdge
  exact (keeps_next (keeps_ev _ h0 (fun _ h1 => (keeps_frmoEdge h1))))

theorem keeps_execPtsPop {s0 : State} {s : State} (h0 : Keeps s0 s) :
    KeepsOut s0 (execPtsPop s) := by
  unfold execPtsPop
  exact (keeps_next (keeps_ctl _ _ h0 (fun _ h1 => (keeps_ptsPop h1))))

theorem keeps_execCairnPinEdge {s0 : State} (pin : BitVec 4) (eighths : BitVec 3) (rising : Bool) (held : BitVec 32)
    {s : State} (h0 : Keeps s0 s) :
    KeepsOut s0 (execCairnPinEdge pin eighths rising held s) := by
  unfold execCairnPinEdge
  exact (keeps_next (keeps_ev _ h0 (fun _ h1 => (keeps_cairnPin _ _ _ _ h1))))

theorem keeps_execCairnCommit {s0 : State} {s : State} (h0 : Keeps s0 s) :
    KeepsOut s0 (execCairnCommit s) := by
  unfold execCairnCommit
  exact (keeps_next (keeps_ev _ h0 (fun _ h1 => (keeps_cairnCommit h1))))

theorem keeps_execCairnPop {s0 : State} {s : State} (h0 : Keeps s0 s) :
    KeepsOut s0 (execCairnPop s) := by
  unfold execCairnPop
  exact (keeps_next (keeps_ctl _ _ h0 (fun _ h1 => (keeps_cairnPop h1))))

theorem keeps_execCairnFlush {s0 : State} {s : State} (h0 : Keeps s0 s) :
    KeepsOut s0 (execCairnFlush s) := by
  unfold execCairnFlush
  exact (keeps_next (keeps_ctl _ _ h0 (fun _ h1 => (keeps_cairnFlush h1))))

theorem keeps_execSynConfigWrite {s0 : State} (syn : BitVec 2) (ctl : Sys2Proof.W32) (frac : BitVec 24) (div :
    Sys2Proof.W32) {s : State} (h0 : Keeps s0 s) :
    KeepsOut s0 (execSynConfigWrite syn ctl frac div s) := by
  unfold execSynConfigWrite
  exact (keeps_next (keeps_ctl _ _ h0 (fun _ h1 => (keeps_forSyn _ _ h1 (fun _ _ h2 => (keeps_synConfigure _ _ _ _
    h2))))))

theorem keeps_execSynLock {s0 : State} (syn : BitVec 2) {s : State} (h0 : Keeps s0 s) :
    KeepsOut s0 (execSynLock syn s) := by
  unfold execSynLock
  exact (keeps_next (keeps_ev _ h0 (fun _ h1 => (keeps_forSyn _ _ h1 (fun _ _ h2 => (keeps_synLock _ h2))))))

theorem keeps_execSynUnlock {s0 : State} (syn : BitVec 2) {s : State} (h0 : Keeps s0 s) :
    KeepsOut s0 (execSynUnlock syn s) := by
  unfold execSynUnlock
  exact (keeps_next (keeps_ev _ h0 (fun _ h1 => (keeps_forSyn _ _ h1 (fun _ _ h2 => (keeps_synUnlock _ h2))))))

theorem keeps_execSynStepWrite {s0 : State} (syn : BitVec 2) (v : BitVec 16) {s : State} (h0 : Keeps s0 s) :
    KeepsOut s0 (execSynStepWrite syn v s) := by
  unfold execSynStepWrite
  exact (keeps_next (keeps_ctl _ _ h0 (fun _ h1 => (keeps_forSyn _ _ h1 (fun _ _ h2 => (keeps_synStep _ _ h2))))))

end Sys2Proof.Machine
end

