-- ==== Sys2Proof/WellFormed.lean ====
section
/-! DEFINITION. Which commands are well formed: the operands name what exists. -/

namespace Sys2Proof

/-- The widths of an access (R4, R107). -/
def okWidth (n : Nat) : Bool := n == 1 || n == 2 || n == 4 || n == 8

/-- An element's ID block, key and life slots have their lengths (R461, R462, R468). -/
def okElement (e : CartElement) : Bool :=
  e.id.length == 544 && e.key.length == 32 && e.lifeA.length == 16 && e.lifeB.length == 16

/-- The operands of a command name what the spec gives the device. -/
def wellFormed (i : Instr) : Bool :=
  match i with
  | .blockResetEnd block => decide (block.toNat < 36)
  | .registerWrite master _ _ _ => decide (master.toNat < 6)
  | .rcRead master _ _ => decide (master.toNat < 6)
  | .aliasRead master _ _ => decide (master.toNat < 6)
  | .unitCompletion monitor => decide (monitor.toNat < 36)
  | .unitDeadlineMiss monitor _ => decide (monitor.toNat < 36)
  | .minClr monitor => decide (monitor.toNat < 36)
  | .pwrModeOn dom => decide (dom.toNat < 136)
  | .pwrModeAuto dom => decide (dom.toNat < 136)
  | .pwrModeRetain dom => decide (dom.toNat < 136)
  | .pwrModeOff dom => decide (dom.toNat < 136)
  | .pwrHoldWrite dom _ => decide (dom.toNat < 136)
  | .domainWake dom => decide (dom.toNat < 136)
  | .domainWakeComplete dom => decide (dom.toNat < 136)
  | .sleepTransitionEnd dom => decide (dom.toNat < 136)
  | .cavernRead ident _ _ _ => decide (ident.toNat < 60)
  | .cavernWrite ident _ _ _ _ => decide (ident.toNat < 60)
  | .cavernBitSetWrite ident _ _ _ _ => decide (ident.toNat < 60)
  | .cavernBitClearWrite ident _ _ _ _ => decide (ident.toNat < 60)
  | .hostPortAAccess master _ bytes _ _ _ => decide (master.toNat < 6) && okWidth bytes.toNat
  | .bmxTransactionIssue ident _ bytes _ _ => decide (ident.toNat < 60) && okWidth bytes.toNat
  | .peakClr master => decide (master.toNat < 6)
  | .dmxRxFrame _ _ _ bytes _ _ => decide (bytes.length ≤ 513)
  | .trainSection _ _ sa _ _ => sa.length == 6
  | .msgSetdata _ _ _ words => decide (words.length ≤ 4)
  | .msgAssign mac _ => mac.length == 6
  | .msgUser _ data => decide (data.length ≤ 30)
  | .dtmTbNsRead master => decide (master.toNat < 6)
  | .synConfigWrite syn _ _ _ => decide (syn.toNat < 3)
  | .synLock syn => decide (syn.toNat < 3)
  | .synUnlock syn => decide (syn.toNat < 3)
  | .synStepWrite syn _ => decide (syn.toNat < 3)
  | .pwmDpWrite output _ _ => decide (output.toNat < 36)
  | .comparatorTrip cmp _ => decide (cmp.toNat < 12)
  | .comparatorRelease cmp _ => decide (cmp.toNat < 12)
  | .cartProbe _ element => okElement element
  | .cartReauth _ element => okElement element
  | .twGo ctl => decide (ctl.toNat < 5)
  | .twTransactionDone ctl _ _ _ _ => decide (ctl.toNat < 5)
  | .keystoreWindowWrite master _ _ _ => decide (master.toNat < 6)
  | .jtagResp pub sig => pub.length == 64 && sig.length == 64
  | .powerOnReset .. | .pinReset .. | .softwareChipReset .. | .blockReset .. | .sumpChipReset
  | .bootSequence .. | .hostChunkFull .. | .hostChunkFullLast .. | .registerBitSetWrite .. | .registerBitClearWrite ..
  | .cycleBoundary | .midCycleInstant | .dlApply | .wtbSettleEnd | .wtbBoundWrite ..
  | .wtbTargetWrite .. | .wtbModeWrite .. | .avsbusTransactionDone .. | .gdeAdd .. | .gdeSub ..
  | .gdeAnd .. | .gdeOr .. | .gdeXor .. | .gdeShl .. | .gdeShr ..
  | .gdeSra .. | .gdeLts .. | .gdeLtu .. | .gdeMul .. | .gdeMhs ..
  | .gdeMhu .. | .gdeDiv .. | .gdeDivu .. | .gdeRem .. | .gdeRemu ..
  | .gdeMin .. | .gdeMax .. | .gdeClz .. | .gdeAddi .. | .gdeLtsi ..
  | .gdeLtui .. | .gdeAndi .. | .gdeOri .. | .gdeXori .. | .gdeShli ..
  | .gdeShri .. | .gdeSrai .. | .gdeHimm .. | .gdePcadd .. | .gdeLdb ..
  | .gdeLdbu .. | .gdeLdh .. | .gdeLdhu .. | .gdeLdw .. | .gdeLdw2 ..
  | .gdeStb .. | .gdeSth .. | .gdeStw .. | .gdeStw2 .. | .gdeBreq ..
  | .gdeBrne .. | .gdeBrlt .. | .gdeBrge .. | .gdeBrltu .. | .gdeBrgeu ..
  | .gdeJmp .. | .gdeCall .. | .gdeJmpr .. | .gdeDrain .. | .gdeExret ..
  | .gdeNmiret .. | .gdeTend .. | .gdeWait .. | .gdeMfs .. | .gdeMts ..
  | .gdeTrap .. | .gdeAddq .. | .gdeLdq .. | .gdeStq .. | .gdeBzq ..
  | .gdeBnzq .. | .gdeBraq .. | .gdeAddrq .. | .gdeSubrq .. | .gdeJrq ..
  | .gdeJcq .. | .gdeMovq .. | .gdeLiq .. | .gdeShlq .. | .gdeShrq ..
  | .guideLoadComplete .. | .guideLoadError .. | .postedStoreError | .nmiEntry | .rosterReady ..
  | .rosterCancel .. | .arbitrationWindowClose | .taskDispatch | .taskCfgWrite .. | .timerExpiry ..
  | .timerWrap .. | .timerEdgeCapture .. | .patrolScrub .. | .spiRead .. | .spiQread ..
  | .spiWrite .. | .spiQwrite .. | .spiRdsr | .spiBadCommand .. | .spiTransactionEnd
  | .parallelRead .. | .parallelWrite .. | .siphonEnable .. | .siphonDisable .. | .sphTrig ..
  | .siphonTrigger .. | .siphonReadReturn .. | .siphonWriteAck .. | .bmxTransactionResponse .. | .bmxTimeout ..
  | .loaderWrite .. | .loaderCntClr .. | .loaderCrcClr .. | .chamberCavernLoadReturn .. | .chmNop ..
  | .chmAdd .. | .chmSub .. | .chmMin .. | .chmMax .. | .chmAbs ..
  | .chmNeg .. | .chmMul .. | .chmAnd .. | .chmOr .. | .chmXor ..
  | .chmCmp .. | .chmTst .. | .chmSel .. | .chmShli .. | .chmShri ..
  | .chmLsri .. | .chmSha .. | .chmMov .. | .chmMovi .. | .chmNrm ..
  | .chmPack .. | .chmUnpk .. | .chmExt .. | .chmExt4 .. | .chmAclr ..
  | .chmAmov .. | .chmAadd .. | .chmAsub .. | .chmAld .. | .chmAshr ..
  | .chmAget .. | .chmAput .. | .chmMset .. | .chmMneg .. | .chmMacc ..
  | .chmMsub .. | .chmLd .. | .chmSt .. | .chmMtc .. | .chmMfc ..
  | .chmSetcg .. | .chmEvget .. | .chmBr .. | .chmRep .. | .chmRepr ..
  | .chmEnd .. | .chmRot .. | .chmLongMac .. | .chmLdi .. | .chmCset ..
  | .chmEvqFlush .. | .cflXpDataWrite .. | .cflMuteWrite .. | .flwStage .. | .flwDiscard ..
  | .setCheckDone | .flwLocalCommit .. | .flwChainCommit .. | .armingStart | .armingDone
  | .flwSlotBaseWrite .. | .flwMorphBaseWrite .. | .sapEnable .. | .sapDisable .. | .sapClockArrival ..
  | .sapLeadEnd .. | .sapTrailEnd .. | .sapFrame .. | .sampleGridPoint | .sapClockLoss ..
  | .sapRateError .. | .dmxGo .. | .dmxSwap .. | .dmxBreakStart .. | .dmxRdmTimeout ..
  | .galEnable .. | .blockLate | .msgCommit .. | .msgSetend .. | .msgIdent ..
  | .linkFrameReceive .. | .glinkLoss .. | .galRestore | .storedIdWrite .. | .galTxmsgGo
  | .galRxmsgPop | .galSettxGo .. | .galMdioGo .. | .mdioTransactionDone .. | .phyStatusChange ..
  | .ethFrameReceive .. | .ethFrameTransmit .. | .ethTxpoll | .dtmSetGo | .timebaseSetApply
  | .dtmStepWrite .. | .timebaseStepApply | .dtmAddendWrite .. | .dtmTvSet | .dtmTvClr
  | .dtmModeWrite .. | .dtmPtpOfsWrite .. | .holdoverSecond | .ppsInputEdge .. | .wclkInputEdge ..
  | .ppsoEdge | .frmoEdge | .ptsPop | .cairnPinEdge .. | .cairnCommit
  | .cairnPop | .cairnFlush | .cleNop .. | .cleEnd .. | .cleAdd ..
  | .cleSub .. | .cleMin .. | .cleMax .. | .cleNeg .. | .cleMov ..
  | .cleSel .. | .cleMul .. | .cleMac .. | .cleMsb .. | .cleMulv ..
  | .cleMacv .. | .cleMsbv .. | .cleExt .. | .cleLdacc .. | .cleLdk ..
  | .cleIn .. | .cleOut .. | .cleLds .. | .cleSts .. | .cleBq ..
  | .cleSincos .. | .cleAtan2 .. | .cleClarke .. | .clePark .. | .cleIpark ..
  | .cleSvm .. | .cleInj .. | .cleCap .. | .cleSwapReq .. | .cleSwapCmt ..
  | .cleStateWrite .. | .echoGo | .echoAbort | .pwmReload .. | .pwmCentre ..
  | .pwmHoldClear .. | .pwmEnable .. | .pwmDisable .. | .lanternDataStart .. | .lanternBlankStart ..
  | .ltnFbCommit .. | .ltnEnable .. | .ltnDisable .. | .adcRswt .. | .adcIswt ..
  | .adcSamplingStart .. | .adcConversionEnd .. | .adcEnable .. | .adcReady .. | .adcDisable ..
  | .gteRelWrite .. | .cartPresenceLoss .. | .cartPresenceSettled .. | .cartSample .. | .cartReprobe ..
  | .cartEnable .. | .smpAck .. | .smpLock | .logRecordCommit .. | .logClr
  | .logClearDone | .rollbackRaise .. | .keystoreWriteDone .. | .secInstall .. | .secRetire ..
  | .secRoot | .ceSha256 .. | .ceHmac .. | .ceGcmEncrypt .. | .ceGcmDecrypt ..
  | .ceEcdsaVerify .. | .ceRandomFill .. | .ceOperationDone | .rngTestFailure | .rngStartupDone
  | .tamperInput .. | .shieldMeshFault | .secLock | .secReopen | .tapReset
  | .jtagIdcode | .jtagBypass | .jtagExtest .. | .jtagSamplePreload .. | .jtagHighz
  | .jtagClamp | .jtagChal | .debugVerifyDone | .dbgHalt | .dbgResume
  | .dbgStep | .dbgmemGo .. | .gdeIllegalInstruction | .dmxTxFrameEnd .. | .tamperInputRelease .. => true

end Sys2Proof
end

