-- ==== Sys2Proof/Laws/PerInstr.lean ====
section
/-! SUPPORT. What holds of every command as syntax, one lemma a constructor: the form of its Guide word. -/

namespace Sys2Proof.Laws

open Sys2Proof Sys2Proof.Machine

theorem bit0_append {n : Nat} (x : BitVec n) (b : BitVec 1) : (x ++ b).getLsbD 0 = b.getLsbD 0 := by
  rw [BitVec.getLsbD_append]; simp

theorem bit0_fmtA (gd ga gb : BitVec 5) (sub : BitVec 10) (op : BitVec 6) :
    (fmtA gd ga gb sub op).getLsbD 0 = true := bit0_append ..

theorem bit0_fmtI (r q : BitVec 5) (x : BitVec 15) (op : BitVec 6) : (fmtI r q x op).getLsbD 0 = true := bit0_append ..

theorem bit0_fmtU (gd : BitVec 5) (x : BitVec 20) (op : BitVec 6) : (fmtU gd x op).getLsbD 0 = true := bit0_append ..

theorem bit0_fmtJ (x : BitVec 25) (op : BitVec 6) : (fmtJ x op).getLsbD 0 = true := bit0_append ..

theorem bit0_fmtQ (op : BitVec 4) (r : BitVec 5) (x : BitVec 6) : (fmtQ op r x).getLsbD 0 = false := bit0_append ..

/-- A command has at most one Guide word: a 32-bit one, whose bit 0 is set, or a 16-bit one, whose bit 0 is clear; a
command that has one is well formed whatever its operands (R111, R112, R114). -/
def GuideForm.Statement (i : Instr) : Prop :=
  (∀ w, guideWord i = some w → w.getLsbD 0 = true ∧ guideHalf i = none ∧ wellFormed i = true) ∧
    ∀ h, guideHalf i = some h → h.getLsbD 0 = false ∧ guideWord i = none ∧ wellFormed i = true

theorem GuideForm.of_none {i : Instr} (h : guideWord i = none) (g : guideHalf i = none) : GuideForm.Statement i :=
  ⟨fun _ e => by (rw [h] at e; cases e), fun _ e => by (rw [g] at e; cases e)⟩

theorem GuideForm.of_word {i : Instr} {x : W32} (h : guideWord i = some x) (g : guideHalf i = none)
    (b : x.getLsbD 0 = true) (wf : wellFormed i = true) : GuideForm.Statement i :=
  ⟨fun w e => by (rw [h] at e; cases e; exact ⟨b, g, wf⟩), fun _ e => by (rw [g] at e; cases e)⟩

theorem GuideForm.of_half {i : Instr} {x : BitVec 16} (h : guideWord i = none) (g : guideHalf i = some x)
    (b : x.getLsbD 0 = false) (wf : wellFormed i = true) : GuideForm.Statement i :=
  ⟨fun _ e => by (rw [h] at e; cases e), fun w e => by (rw [g] at e; cases e; exact ⟨b, h, wf⟩)⟩

theorem GuideForm.powerOnReset (vsel : BitVec 5) : GuideForm.Statement (.powerOnReset vsel) :=
  GuideForm.of_none rfl rfl
theorem GuideForm.pinReset (low : Bool) : GuideForm.Statement (.pinReset low) := GuideForm.of_none rfl rfl
theorem GuideForm.softwareChipReset (v : W32) : GuideForm.Statement (.softwareChipReset v) :=
  GuideForm.of_none rfl rfl
theorem GuideForm.blockReset (v : W32) : GuideForm.Statement (.blockReset v) := GuideForm.of_none rfl rfl
theorem GuideForm.blockResetEnd (block : BitVec 6) : GuideForm.Statement (.blockResetEnd block) :=
  GuideForm.of_none rfl rfl
theorem GuideForm.sumpChipReset : GuideForm.Statement .sumpChipReset := GuideForm.of_none rfl rfl
theorem GuideForm.bootSequence (bootsel hmode : Bool) (flash : Cells 8) : GuideForm.Statement (.bootSequence bootsel hmode flash) :=
  GuideForm.of_none rfl rfl
theorem GuideForm.hostChunkFull (nn : BitVec 16) : GuideForm.Statement (.hostChunkFull nn) :=
  GuideForm.of_none rfl rfl
theorem GuideForm.hostChunkFullLast (nn : BitVec 16) : GuideForm.Statement (.hostChunkFullLast nn) :=
  GuideForm.of_none rfl rfl
theorem GuideForm.registerWrite (master : BitVec 3) (addr : W32) (wide : Bool) (v : W64) : GuideForm.Statement (.registerWrite master addr wide v) :=
  GuideForm.of_none rfl rfl
theorem GuideForm.rcRead (master : BitVec 3) (addr : W32) (wide : Bool) : GuideForm.Statement (.rcRead master addr wide) :=
  GuideForm.of_none rfl rfl
theorem GuideForm.registerBitSetWrite (addr : W32) (wide : Bool) (v : W64) : GuideForm.Statement (.registerBitSetWrite addr wide v) :=
  GuideForm.of_none rfl rfl
theorem GuideForm.registerBitClearWrite (addr : W32) (wide : Bool) (v : W64) : GuideForm.Statement (.registerBitClearWrite addr wide v) :=
  GuideForm.of_none rfl rfl
theorem GuideForm.aliasRead (master : BitVec 3) (addr : W32) (wide : Bool) : GuideForm.Statement (.aliasRead master addr wide) :=
  GuideForm.of_none rfl rfl
theorem GuideForm.cycleBoundary : GuideForm.Statement .cycleBoundary := GuideForm.of_none rfl rfl
theorem GuideForm.midCycleInstant : GuideForm.Statement .midCycleInstant := GuideForm.of_none rfl rfl
theorem GuideForm.unitCompletion (monitor : BitVec 6) : GuideForm.Statement (.unitCompletion monitor) :=
  GuideForm.of_none rfl rfl
theorem GuideForm.unitDeadlineMiss (monitor : BitVec 6) (written : BitVec 16) : GuideForm.Statement (.unitDeadlineMiss monitor written) :=
  GuideForm.of_none rfl rfl
theorem GuideForm.dlApply : GuideForm.Statement .dlApply := GuideForm.of_none rfl rfl
theorem GuideForm.minClr (monitor : BitVec 6) : GuideForm.Statement (.minClr monitor) := GuideForm.of_none rfl rfl
theorem GuideForm.pwrModeOn (dom : BitVec 8) : GuideForm.Statement (.pwrModeOn dom) := GuideForm.of_none rfl rfl
theorem GuideForm.pwrModeAuto (dom : BitVec 8) : GuideForm.Statement (.pwrModeAuto dom) := GuideForm.of_none rfl rfl
theorem GuideForm.pwrModeRetain (dom : BitVec 8) : GuideForm.Statement (.pwrModeRetain dom) :=
  GuideForm.of_none rfl rfl
theorem GuideForm.pwrModeOff (dom : BitVec 8) : GuideForm.Statement (.pwrModeOff dom) := GuideForm.of_none rfl rfl
theorem GuideForm.pwrHoldWrite (dom : BitVec 8) (hold : Bool) : GuideForm.Statement (.pwrHoldWrite dom hold) :=
  GuideForm.of_none rfl rfl
theorem GuideForm.domainWake (dom : BitVec 8) : GuideForm.Statement (.domainWake dom) := GuideForm.of_none rfl rfl
theorem GuideForm.domainWakeComplete (dom : BitVec 8) : GuideForm.Statement (.domainWakeComplete dom) :=
  GuideForm.of_none rfl rfl
theorem GuideForm.sleepTransitionEnd (dom : BitVec 8) : GuideForm.Statement (.sleepTransitionEnd dom) :=
  GuideForm.of_none rfl rfl
theorem GuideForm.wtbSettleEnd : GuideForm.Statement .wtbSettleEnd := GuideForm.of_none rfl rfl
theorem GuideForm.wtbBoundWrite (ceil : Bool) (code : BitVec 8) : GuideForm.Statement (.wtbBoundWrite ceil code) :=
  GuideForm.of_none rfl rfl
theorem GuideForm.wtbTargetWrite (code : BitVec 8) : GuideForm.Statement (.wtbTargetWrite code) :=
  GuideForm.of_none rfl rfl
theorem GuideForm.wtbModeWrite (mode : BitVec 2) : GuideForm.Statement (.wtbModeWrite mode) :=
  GuideForm.of_none rfl rfl
theorem GuideForm.avsbusTransactionDone (good : Bool) : GuideForm.Statement (.avsbusTransactionDone good) :=
  GuideForm.of_none rfl rfl
theorem GuideForm.gdeAdd (gd ga gb : BitVec 5) : GuideForm.Statement (.gdeAdd gd ga gb) :=
  GuideForm.of_word rfl rfl (bit0_fmtA ..) rfl
theorem GuideForm.gdeSub (gd ga gb : BitVec 5) : GuideForm.Statement (.gdeSub gd ga gb) :=
  GuideForm.of_word rfl rfl (bit0_fmtA ..) rfl
theorem GuideForm.gdeAnd (gd ga gb : BitVec 5) : GuideForm.Statement (.gdeAnd gd ga gb) :=
  GuideForm.of_word rfl rfl (bit0_fmtA ..) rfl
theorem GuideForm.gdeOr (gd ga gb : BitVec 5) : GuideForm.Statement (.gdeOr gd ga gb) :=
  GuideForm.of_word rfl rfl (bit0_fmtA ..) rfl
theorem GuideForm.gdeXor (gd ga gb : BitVec 5) : GuideForm.Statement (.gdeXor gd ga gb) :=
  GuideForm.of_word rfl rfl (bit0_fmtA ..) rfl
theorem GuideForm.gdeShl (gd ga gb : BitVec 5) : GuideForm.Statement (.gdeShl gd ga gb) :=
  GuideForm.of_word rfl rfl (bit0_fmtA ..) rfl
theorem GuideForm.gdeShr (gd ga gb : BitVec 5) : GuideForm.Statement (.gdeShr gd ga gb) :=
  GuideForm.of_word rfl rfl (bit0_fmtA ..) rfl
theorem GuideForm.gdeSra (gd ga gb : BitVec 5) : GuideForm.Statement (.gdeSra gd ga gb) :=
  GuideForm.of_word rfl rfl (bit0_fmtA ..) rfl
theorem GuideForm.gdeLts (gd ga gb : BitVec 5) : GuideForm.Statement (.gdeLts gd ga gb) :=
  GuideForm.of_word rfl rfl (bit0_fmtA ..) rfl
theorem GuideForm.gdeLtu (gd ga gb : BitVec 5) : GuideForm.Statement (.gdeLtu gd ga gb) :=
  GuideForm.of_word rfl rfl (bit0_fmtA ..) rfl
theorem GuideForm.gdeMul (gd ga gb : BitVec 5) : GuideForm.Statement (.gdeMul gd ga gb) :=
  GuideForm.of_word rfl rfl (bit0_fmtA ..) rfl
theorem GuideForm.gdeMhs (gd ga gb : BitVec 5) : GuideForm.Statement (.gdeMhs gd ga gb) :=
  GuideForm.of_word rfl rfl (bit0_fmtA ..) rfl
theorem GuideForm.gdeMhu (gd ga gb : BitVec 5) : GuideForm.Statement (.gdeMhu gd ga gb) :=
  GuideForm.of_word rfl rfl (bit0_fmtA ..) rfl
theorem GuideForm.gdeDiv (gd ga gb : BitVec 5) : GuideForm.Statement (.gdeDiv gd ga gb) :=
  GuideForm.of_word rfl rfl (bit0_fmtA ..) rfl
theorem GuideForm.gdeDivu (gd ga gb : BitVec 5) : GuideForm.Statement (.gdeDivu gd ga gb) :=
  GuideForm.of_word rfl rfl (bit0_fmtA ..) rfl
theorem GuideForm.gdeRem (gd ga gb : BitVec 5) : GuideForm.Statement (.gdeRem gd ga gb) :=
  GuideForm.of_word rfl rfl (bit0_fmtA ..) rfl
theorem GuideForm.gdeRemu (gd ga gb : BitVec 5) : GuideForm.Statement (.gdeRemu gd ga gb) :=
  GuideForm.of_word rfl rfl (bit0_fmtA ..) rfl
theorem GuideForm.gdeMin (gd ga gb : BitVec 5) : GuideForm.Statement (.gdeMin gd ga gb) :=
  GuideForm.of_word rfl rfl (bit0_fmtA ..) rfl
theorem GuideForm.gdeMax (gd ga gb : BitVec 5) : GuideForm.Statement (.gdeMax gd ga gb) :=
  GuideForm.of_word rfl rfl (bit0_fmtA ..) rfl
theorem GuideForm.gdeClz (gd ga gb : BitVec 5) : GuideForm.Statement (.gdeClz gd ga gb) :=
  GuideForm.of_word rfl rfl (bit0_fmtA ..) rfl
theorem GuideForm.gdeAddi (gd ga : BitVec 5) (imm : BitVec 15) : GuideForm.Statement (.gdeAddi gd ga imm) :=
  GuideForm.of_word rfl rfl (bit0_fmtI ..) rfl
theorem GuideForm.gdeLtsi (gd ga : BitVec 5) (imm : BitVec 15) : GuideForm.Statement (.gdeLtsi gd ga imm) :=
  GuideForm.of_word rfl rfl (bit0_fmtI ..) rfl
theorem GuideForm.gdeLtui (gd ga : BitVec 5) (imm : BitVec 15) : GuideForm.Statement (.gdeLtui gd ga imm) :=
  GuideForm.of_word rfl rfl (bit0_fmtI ..) rfl
theorem GuideForm.gdeAndi (gd ga : BitVec 5) (imm : BitVec 15) : GuideForm.Statement (.gdeAndi gd ga imm) :=
  GuideForm.of_word rfl rfl (bit0_fmtI ..) rfl
theorem GuideForm.gdeOri (gd ga : BitVec 5) (imm : BitVec 15) : GuideForm.Statement (.gdeOri gd ga imm) :=
  GuideForm.of_word rfl rfl (bit0_fmtI ..) rfl
theorem GuideForm.gdeXori (gd ga : BitVec 5) (imm : BitVec 15) : GuideForm.Statement (.gdeXori gd ga imm) :=
  GuideForm.of_word rfl rfl (bit0_fmtI ..) rfl
theorem GuideForm.gdeShli (gd ga : BitVec 5) (imm : BitVec 15) : GuideForm.Statement (.gdeShli gd ga imm) :=
  GuideForm.of_word rfl rfl (bit0_fmtI ..) rfl
theorem GuideForm.gdeShri (gd ga : BitVec 5) (imm : BitVec 15) : GuideForm.Statement (.gdeShri gd ga imm) :=
  GuideForm.of_word rfl rfl (bit0_fmtI ..) rfl
theorem GuideForm.gdeSrai (gd ga : BitVec 5) (imm : BitVec 15) : GuideForm.Statement (.gdeSrai gd ga imm) :=
  GuideForm.of_word rfl rfl (bit0_fmtI ..) rfl
theorem GuideForm.gdeHimm (gd : BitVec 5) (imm : BitVec 20) : GuideForm.Statement (.gdeHimm gd imm) :=
  GuideForm.of_word rfl rfl (bit0_fmtU ..) rfl
theorem GuideForm.gdePcadd (gd : BitVec 5) (imm : BitVec 20) : GuideForm.Statement (.gdePcadd gd imm) :=
  GuideForm.of_word rfl rfl (bit0_fmtU ..) rfl
theorem GuideForm.gdeLdb (gd ga : BitVec 5) (imm : BitVec 15) : GuideForm.Statement (.gdeLdb gd ga imm) :=
  GuideForm.of_word rfl rfl (bit0_fmtI ..) rfl
theorem GuideForm.gdeLdbu (gd ga : BitVec 5) (imm : BitVec 15) : GuideForm.Statement (.gdeLdbu gd ga imm) :=
  GuideForm.of_word rfl rfl (bit0_fmtI ..) rfl
theorem GuideForm.gdeLdh (gd ga : BitVec 5) (imm : BitVec 15) : GuideForm.Statement (.gdeLdh gd ga imm) :=
  GuideForm.of_word rfl rfl (bit0_fmtI ..) rfl
theorem GuideForm.gdeLdhu (gd ga : BitVec 5) (imm : BitVec 15) : GuideForm.Statement (.gdeLdhu gd ga imm) :=
  GuideForm.of_word rfl rfl (bit0_fmtI ..) rfl
theorem GuideForm.gdeLdw (gd ga : BitVec 5) (imm : BitVec 15) : GuideForm.Statement (.gdeLdw gd ga imm) :=
  GuideForm.of_word rfl rfl (bit0_fmtI ..) rfl
theorem GuideForm.gdeLdw2 (gd ga : BitVec 5) (imm : BitVec 15) : GuideForm.Statement (.gdeLdw2 gd ga imm) :=
  GuideForm.of_word rfl rfl (bit0_fmtI ..) rfl
theorem GuideForm.gdeStb (gb ga : BitVec 5) (imm : BitVec 15) : GuideForm.Statement (.gdeStb gb ga imm) :=
  GuideForm.of_word rfl rfl (bit0_fmtI ..) rfl
theorem GuideForm.gdeSth (gb ga : BitVec 5) (imm : BitVec 15) : GuideForm.Statement (.gdeSth gb ga imm) :=
  GuideForm.of_word rfl rfl (bit0_fmtI ..) rfl
theorem GuideForm.gdeStw (gb ga : BitVec 5) (imm : BitVec 15) : GuideForm.Statement (.gdeStw gb ga imm) :=
  GuideForm.of_word rfl rfl (bit0_fmtI ..) rfl
theorem GuideForm.gdeStw2 (gb ga : BitVec 5) (imm : BitVec 15) : GuideForm.Statement (.gdeStw2 gb ga imm) :=
  GuideForm.of_word rfl rfl (bit0_fmtI ..) rfl
theorem GuideForm.gdeBreq (ga gb : BitVec 5) (off : BitVec 15) : GuideForm.Statement (.gdeBreq ga gb off) :=
  GuideForm.of_word rfl rfl (bit0_fmtI ..) rfl
theorem GuideForm.gdeBrne (ga gb : BitVec 5) (off : BitVec 15) : GuideForm.Statement (.gdeBrne ga gb off) :=
  GuideForm.of_word rfl rfl (bit0_fmtI ..) rfl
theorem GuideForm.gdeBrlt (ga gb : BitVec 5) (off : BitVec 15) : GuideForm.Statement (.gdeBrlt ga gb off) :=
  GuideForm.of_word rfl rfl (bit0_fmtI ..) rfl
theorem GuideForm.gdeBrge (ga gb : BitVec 5) (off : BitVec 15) : GuideForm.Statement (.gdeBrge ga gb off) :=
  GuideForm.of_word rfl rfl (bit0_fmtI ..) rfl
theorem GuideForm.gdeBrltu (ga gb : BitVec 5) (off : BitVec 15) : GuideForm.Statement (.gdeBrltu ga gb off) :=
  GuideForm.of_word rfl rfl (bit0_fmtI ..) rfl
theorem GuideForm.gdeBrgeu (ga gb : BitVec 5) (off : BitVec 15) : GuideForm.Statement (.gdeBrgeu ga gb off) :=
  GuideForm.of_word rfl rfl (bit0_fmtI ..) rfl
theorem GuideForm.gdeJmp (off : BitVec 25) : GuideForm.Statement (.gdeJmp off) :=
  GuideForm.of_word rfl rfl (bit0_fmtJ ..) rfl
theorem GuideForm.gdeCall (off : BitVec 25) : GuideForm.Statement (.gdeCall off) :=
  GuideForm.of_word rfl rfl (bit0_fmtJ ..) rfl
theorem GuideForm.gdeJmpr (gd ga : BitVec 5) (imm : BitVec 15) : GuideForm.Statement (.gdeJmpr gd ga imm) :=
  GuideForm.of_word rfl rfl (bit0_fmtI ..) rfl
theorem GuideForm.gdeDrain (gd ga gb : BitVec 5) : GuideForm.Statement (.gdeDrain gd ga gb) :=
  GuideForm.of_word rfl rfl (bit0_fmtA ..) rfl
theorem GuideForm.gdeExret (gd ga gb : BitVec 5) : GuideForm.Statement (.gdeExret gd ga gb) :=
  GuideForm.of_word rfl rfl (bit0_fmtA ..) rfl
theorem GuideForm.gdeNmiret (gd ga gb : BitVec 5) : GuideForm.Statement (.gdeNmiret gd ga gb) :=
  GuideForm.of_word rfl rfl (bit0_fmtA ..) rfl
theorem GuideForm.gdeTend (gd ga gb : BitVec 5) : GuideForm.Statement (.gdeTend gd ga gb) :=
  GuideForm.of_word rfl rfl (bit0_fmtA ..) rfl
theorem GuideForm.gdeWait (gd ga gb : BitVec 5) : GuideForm.Statement (.gdeWait gd ga gb) :=
  GuideForm.of_word rfl rfl (bit0_fmtA ..) rfl
theorem GuideForm.gdeMfs (gd ga : BitVec 5) (num : BitVec 14) : GuideForm.Statement (.gdeMfs gd ga num) :=
  GuideForm.of_word rfl rfl (bit0_fmtI ..) rfl
theorem GuideForm.gdeMts (gd ga : BitVec 5) (num : BitVec 14) : GuideForm.Statement (.gdeMts gd ga num) :=
  GuideForm.of_word rfl rfl (bit0_fmtI ..) rfl
theorem GuideForm.gdeTrap (gd ga : BitVec 5) (imm : BitVec 15) : GuideForm.Statement (.gdeTrap gd ga imm) :=
  GuideForm.of_word rfl rfl (bit0_fmtI ..) rfl
theorem GuideForm.gdeAddq (gd : BitVec 5) (imm : BitVec 6) : GuideForm.Statement (.gdeAddq gd imm) :=
  GuideForm.of_half rfl rfl (bit0_fmtQ ..) rfl
theorem GuideForm.gdeLdq (gd : BitVec 5) (imm : BitVec 6) : GuideForm.Statement (.gdeLdq gd imm) :=
  GuideForm.of_half rfl rfl (bit0_fmtQ ..) rfl
theorem GuideForm.gdeStq (gb : BitVec 5) (imm : BitVec 6) : GuideForm.Statement (.gdeStq gb imm) :=
  GuideForm.of_half rfl rfl (bit0_fmtQ ..) rfl
theorem GuideForm.gdeBzq (ga : BitVec 5) (off : BitVec 6) : GuideForm.Statement (.gdeBzq ga off) :=
  GuideForm.of_half rfl rfl (bit0_fmtQ ..) rfl
theorem GuideForm.gdeBnzq (ga : BitVec 5) (off : BitVec 6) : GuideForm.Statement (.gdeBnzq ga off) :=
  GuideForm.of_half rfl rfl (bit0_fmtQ ..) rfl
theorem GuideForm.gdeBraq (off : BitVec 11) : GuideForm.Statement (.gdeBraq off) :=
  GuideForm.of_half (x :=
  6#4 ++ off ++ 0#1) rfl rfl (bit0_append ..) rfl
theorem GuideForm.gdeAddrq (gd ga : BitVec 5) : GuideForm.Statement (.gdeAddrq gd ga) :=
  GuideForm.of_half rfl rfl (bit0_fmtQ ..) rfl
theorem GuideForm.gdeSubrq (gd ga : BitVec 5) : GuideForm.Statement (.gdeSubrq gd ga) :=
  GuideForm.of_half rfl rfl (bit0_fmtQ ..) rfl
theorem GuideForm.gdeJrq (ga z : BitVec 5) : GuideForm.Statement (.gdeJrq ga z) :=
  GuideForm.of_half rfl rfl (bit0_fmtQ ..) rfl
theorem GuideForm.gdeJcq (ga z : BitVec 5) : GuideForm.Statement (.gdeJcq ga z) :=
  GuideForm.of_half rfl rfl (bit0_fmtQ ..) rfl
theorem GuideForm.gdeMovq (gd : BitVec 5) (z : Bool) (ga : BitVec 5) : GuideForm.Statement (.gdeMovq gd z ga) :=
  GuideForm.of_half rfl rfl (bit0_fmtQ ..) rfl
theorem GuideForm.gdeLiq (gd : BitVec 5) (imm : BitVec 6) : GuideForm.Statement (.gdeLiq gd imm) :=
  GuideForm.of_half rfl rfl (bit0_fmtQ ..) rfl
theorem GuideForm.gdeShlq (gd amt : BitVec 5) : GuideForm.Statement (.gdeShlq gd amt) :=
  GuideForm.of_half rfl rfl (bit0_fmtQ ..) rfl
theorem GuideForm.gdeShrq (gd amt : BitVec 5) : GuideForm.Statement (.gdeShrq gd amt) :=
  GuideForm.of_half rfl rfl (bit0_fmtQ ..) rfl
theorem GuideForm.guideLoadComplete (index : BitVec 3) : GuideForm.Statement (.guideLoadComplete index) :=
  GuideForm.of_none rfl rfl
theorem GuideForm.guideLoadError (index : BitVec 3) : GuideForm.Statement (.guideLoadError index) :=
  GuideForm.of_none rfl rfl
theorem GuideForm.postedStoreError : GuideForm.Statement .postedStoreError := GuideForm.of_none rfl rfl
theorem GuideForm.nmiEntry : GuideForm.Statement .nmiEntry := GuideForm.of_none rfl rfl
theorem GuideForm.rosterReady (slot : BitVec 6) : GuideForm.Statement (.rosterReady slot) := GuideForm.of_none rfl rfl
theorem GuideForm.rosterCancel (slot : BitVec 6) : GuideForm.Statement (.rosterCancel slot) :=
  GuideForm.of_none rfl rfl
theorem GuideForm.arbitrationWindowClose : GuideForm.Statement .arbitrationWindowClose := GuideForm.of_none rfl rfl
theorem GuideForm.taskDispatch : GuideForm.Statement .taskDispatch := GuideForm.of_none rfl rfl
theorem GuideForm.taskCfgWrite (slot : BitVec 6) (v : W32) : GuideForm.Statement (.taskCfgWrite slot v) :=
  GuideForm.of_none rfl rfl
theorem GuideForm.timerExpiry (timer : BitVec 3) : GuideForm.Statement (.timerExpiry timer) :=
  GuideForm.of_none rfl rfl
theorem GuideForm.timerWrap (timer : BitVec 3) : GuideForm.Statement (.timerWrap timer) := GuideForm.of_none rfl rfl
theorem GuideForm.timerEdgeCapture (timer : BitVec 3) (pin : BitVec 4) (rising : Bool) (held : BitVec 32) : GuideForm.Statement (.timerEdgeCapture timer pin rising held) :=
  GuideForm.of_none rfl rfl
theorem GuideForm.cavernRead (ident : BitVec 6) (off : BitVec 23) (wide : Bool) (flips : BitVec 48) : GuideForm.Statement (.cavernRead ident off wide flips) :=
  GuideForm.of_none rfl rfl
theorem GuideForm.cavernWrite (ident : BitVec 6) (off : BitVec 23) (wide : Bool) (v : W64) (flips : BitVec 48) : GuideForm.Statement (.cavernWrite ident off wide v flips) :=
  GuideForm.of_none rfl rfl
theorem GuideForm.cavernBitSetWrite (ident : BitVec 6) (off : BitVec 23) (wide : Bool) (v : W64) (flips : BitVec 48) : GuideForm.Statement (.cavernBitSetWrite ident off wide v flips) :=
  GuideForm.of_none rfl rfl
theorem GuideForm.cavernBitClearWrite (ident : BitVec 6) (off : BitVec 23) (wide : Bool) (v : W64) (flips : BitVec 48) : GuideForm.Statement (.cavernBitClearWrite ident off wide v flips) :=
  GuideForm.of_none rfl rfl
theorem GuideForm.patrolScrub (flips : BitVec 48) : GuideForm.Statement (.patrolScrub flips) :=
  GuideForm.of_none rfl rfl
theorem GuideForm.hostPortAAccess (master : BitVec 3) (off : BitVec 14) (bytes : BitVec 4) (write : Bool) (v : W64) (coll : List (Nat × HwnAccess)) : GuideForm.Statement (.hostPortAAccess master off bytes write v coll) :=
  GuideForm.of_none rfl rfl
theorem GuideForm.spiRead (addr : BitVec 16) (count : BitVec 13) (coll : List (Nat × HwnAccess)) : GuideForm.Statement (.spiRead addr count coll) :=
  GuideForm.of_none rfl rfl
theorem GuideForm.spiQread (addr : BitVec 16) (count : BitVec 13) (coll : List (Nat × HwnAccess)) : GuideForm.Statement (.spiQread addr count coll) :=
  GuideForm.of_none rfl rfl
theorem GuideForm.spiWrite (addr : BitVec 16) (words : List W32) (coll : List (Nat × HwnAccess)) : GuideForm.Statement (.spiWrite addr words coll) :=
  GuideForm.of_none rfl rfl
theorem GuideForm.spiQwrite (addr : BitVec 16) (words : List W32) (coll : List (Nat × HwnAccess)) : GuideForm.Statement (.spiQwrite addr words coll) :=
  GuideForm.of_none rfl rfl
theorem GuideForm.spiRdsr : GuideForm.Statement .spiRdsr := GuideForm.of_none rfl rfl
theorem GuideForm.spiBadCommand (code : Byte) (addr : BitVec 16) : GuideForm.Statement (.spiBadCommand code addr) :=
  GuideForm.of_none rfl rfl
theorem GuideForm.spiTransactionEnd : GuideForm.Statement .spiTransactionEnd := GuideForm.of_none rfl rfl
theorem GuideForm.parallelRead (ha : BitVec 13) (coll : Option HwnAccess) : GuideForm.Statement (.parallelRead ha coll) :=
  GuideForm.of_none rfl rfl
theorem GuideForm.parallelWrite (ha : BitVec 13) (v : BitVec 16) (coll : Option HwnAccess) : GuideForm.Statement (.parallelWrite ha v coll) :=
  GuideForm.of_none rfl rfl
theorem GuideForm.siphonEnable (channel : BitVec 4) : GuideForm.Statement (.siphonEnable channel) :=
  GuideForm.of_none rfl rfl
theorem GuideForm.siphonDisable (channel : BitVec 4) : GuideForm.Statement (.siphonDisable channel) :=
  GuideForm.of_none rfl rfl
theorem GuideForm.sphTrig (mask : BitVec 16) : GuideForm.Statement (.sphTrig mask) := GuideForm.of_none rfl rfl
theorem GuideForm.siphonTrigger (channel : BitVec 4) : GuideForm.Statement (.siphonTrigger channel) :=
  GuideForm.of_none rfl rfl
theorem GuideForm.siphonReadReturn (channel : BitVec 4) : GuideForm.Statement (.siphonReadReturn channel) :=
  GuideForm.of_none rfl rfl
theorem GuideForm.siphonWriteAck (channel : BitVec 4) : GuideForm.Statement (.siphonWriteAck channel) :=
  GuideForm.of_none rfl rfl
theorem GuideForm.bmxTransactionIssue (ident : BitVec 6) (addr : W32) (bytes : BitVec 4) (write : Bool) (v : W64) : GuideForm.Statement (.bmxTransactionIssue ident addr bytes write v) :=
  GuideForm.of_none rfl rfl
theorem GuideForm.bmxTransactionResponse (txn : TxnRef) : GuideForm.Statement (.bmxTransactionResponse txn) :=
  GuideForm.of_none rfl rfl
theorem GuideForm.bmxTimeout (txn : TxnRef) : GuideForm.Statement (.bmxTimeout txn) := GuideForm.of_none rfl rfl
theorem GuideForm.peakClr (master : BitVec 3) : GuideForm.Statement (.peakClr master) := GuideForm.of_none rfl rfl
theorem GuideForm.loaderWrite (tile : BitVec 4) (index : BitVec 13) (v : W64) : GuideForm.Statement (.loaderWrite tile index v) :=
  GuideForm.of_none rfl rfl
theorem GuideForm.loaderCntClr (tile : BitVec 4) : GuideForm.Statement (.loaderCntClr tile) :=
  GuideForm.of_none rfl rfl
theorem GuideForm.loaderCrcClr (tile : BitVec 4) : GuideForm.Statement (.loaderCrcClr tile) :=
  GuideForm.of_none rfl rfl
theorem GuideForm.chamberCavernLoadReturn (tile : BitVec 4) : GuideForm.Statement (.chamberCavernLoadReturn tile) :=
  GuideForm.of_none rfl rfl
theorem GuideForm.chmNop (tile : BitVec 4) (bundle : W64) (flip : Option ChmFlip) : GuideForm.Statement (.chmNop tile bundle flip) :=
  GuideForm.of_none rfl rfl
theorem GuideForm.chmAdd (tile : BitVec 4) (f : BitVec 25) (co : CoSlot) : GuideForm.Statement (.chmAdd tile f co) :=
  GuideForm.of_none rfl rfl
theorem GuideForm.chmSub (tile : BitVec 4) (f : BitVec 25) (co : CoSlot) : GuideForm.Statement (.chmSub tile f co) :=
  GuideForm.of_none rfl rfl
theorem GuideForm.chmMin (tile : BitVec 4) (f : BitVec 25) (co : CoSlot) : GuideForm.Statement (.chmMin tile f co) :=
  GuideForm.of_none rfl rfl
theorem GuideForm.chmMax (tile : BitVec 4) (f : BitVec 25) (co : CoSlot) : GuideForm.Statement (.chmMax tile f co) :=
  GuideForm.of_none rfl rfl
theorem GuideForm.chmAbs (tile : BitVec 4) (f : BitVec 25) (co : CoSlot) : GuideForm.Statement (.chmAbs tile f co) :=
  GuideForm.of_none rfl rfl
theorem GuideForm.chmNeg (tile : BitVec 4) (f : BitVec 25) (co : CoSlot) : GuideForm.Statement (.chmNeg tile f co) :=
  GuideForm.of_none rfl rfl
theorem GuideForm.chmMul (tile : BitVec 4) (f : BitVec 25) (co : CoSlot) : GuideForm.Statement (.chmMul tile f co) :=
  GuideForm.of_none rfl rfl
theorem GuideForm.chmAnd (tile : BitVec 4) (f : BitVec 25) (co : CoSlot) : GuideForm.Statement (.chmAnd tile f co) :=
  GuideForm.of_none rfl rfl
theorem GuideForm.chmOr (tile : BitVec 4) (f : BitVec 25) (co : CoSlot) : GuideForm.Statement (.chmOr tile f co) :=
  GuideForm.of_none rfl rfl
theorem GuideForm.chmXor (tile : BitVec 4) (f : BitVec 25) (co : CoSlot) : GuideForm.Statement (.chmXor tile f co) :=
  GuideForm.of_none rfl rfl
theorem GuideForm.chmCmp (tile : BitVec 4) (f : BitVec 25) (co : CoSlot) : GuideForm.Statement (.chmCmp tile f co) :=
  GuideForm.of_none rfl rfl
theorem GuideForm.chmTst (tile : BitVec 4) (f : BitVec 25) (co : CoSlot) : GuideForm.Statement (.chmTst tile f co) :=
  GuideForm.of_none rfl rfl
theorem GuideForm.chmSel (tile : BitVec 4) (f : BitVec 25) (co : CoSlot) : GuideForm.Statement (.chmSel tile f co) :=
  GuideForm.of_none rfl rfl
theorem GuideForm.chmShli (tile : BitVec 4) (f : BitVec 25) (co : CoSlot) : GuideForm.Statement (.chmShli tile f co) :=
  GuideForm.of_none rfl rfl
theorem GuideForm.chmShri (tile : BitVec 4) (f : BitVec 25) (co : CoSlot) : GuideForm.Statement (.chmShri tile f co) :=
  GuideForm.of_none rfl rfl
theorem GuideForm.chmLsri (tile : BitVec 4) (f : BitVec 25) (co : CoSlot) : GuideForm.Statement (.chmLsri tile f co) :=
  GuideForm.of_none rfl rfl
theorem GuideForm.chmSha (tile : BitVec 4) (f : BitVec 25) (co : CoSlot) : GuideForm.Statement (.chmSha tile f co) :=
  GuideForm.of_none rfl rfl
theorem GuideForm.chmMov (tile : BitVec 4) (f : BitVec 25) (co : CoSlot) : GuideForm.Statement (.chmMov tile f co) :=
  GuideForm.of_none rfl rfl
theorem GuideForm.chmMovi (tile : BitVec 4) (f : BitVec 25) (co : CoSlot) : GuideForm.Statement (.chmMovi tile f co) :=
  GuideForm.of_none rfl rfl
theorem GuideForm.chmNrm (tile : BitVec 4) (f : BitVec 25) (co : CoSlot) : GuideForm.Statement (.chmNrm tile f co) :=
  GuideForm.of_none rfl rfl
theorem GuideForm.chmPack (tile : BitVec 4) (f : BitVec 25) (co : CoSlot) : GuideForm.Statement (.chmPack tile f co) :=
  GuideForm.of_none rfl rfl
theorem GuideForm.chmUnpk (tile : BitVec 4) (f : BitVec 25) (co : CoSlot) : GuideForm.Statement (.chmUnpk tile f co) :=
  GuideForm.of_none rfl rfl
theorem GuideForm.chmExt (tile : BitVec 4) (f : BitVec 25) (co : CoSlot) : GuideForm.Statement (.chmExt tile f co) :=
  GuideForm.of_none rfl rfl
theorem GuideForm.chmExt4 (tile : BitVec 4) (f : BitVec 25) (co : CoSlot) : GuideForm.Statement (.chmExt4 tile f co) :=
  GuideForm.of_none rfl rfl
theorem GuideForm.chmAclr (tile : BitVec 4) (f : BitVec 25) (co : CoSlot) : GuideForm.Statement (.chmAclr tile f co) :=
  GuideForm.of_none rfl rfl
theorem GuideForm.chmAmov (tile : BitVec 4) (f : BitVec 25) (co : CoSlot) : GuideForm.Statement (.chmAmov tile f co) :=
  GuideForm.of_none rfl rfl
theorem GuideForm.chmAadd (tile : BitVec 4) (f : BitVec 25) (co : CoSlot) : GuideForm.Statement (.chmAadd tile f co) :=
  GuideForm.of_none rfl rfl
theorem GuideForm.chmAsub (tile : BitVec 4) (f : BitVec 25) (co : CoSlot) : GuideForm.Statement (.chmAsub tile f co) :=
  GuideForm.of_none rfl rfl
theorem GuideForm.chmAld (tile : BitVec 4) (f : BitVec 25) (co : CoSlot) : GuideForm.Statement (.chmAld tile f co) :=
  GuideForm.of_none rfl rfl
theorem GuideForm.chmAshr (tile : BitVec 4) (f : BitVec 25) (co : CoSlot) : GuideForm.Statement (.chmAshr tile f co) :=
  GuideForm.of_none rfl rfl
theorem GuideForm.chmAget (tile : BitVec 4) (f : BitVec 25) (co : CoSlot) : GuideForm.Statement (.chmAget tile f co) :=
  GuideForm.of_none rfl rfl
theorem GuideForm.chmAput (tile : BitVec 4) (f : BitVec 25) (co : CoSlot) : GuideForm.Statement (.chmAput tile f co) :=
  GuideForm.of_none rfl rfl
theorem GuideForm.chmMset (tile : BitVec 4) (f : BitVec 25) (co : CoSlot) : GuideForm.Statement (.chmMset tile f co) :=
  GuideForm.of_none rfl rfl
theorem GuideForm.chmMneg (tile : BitVec 4) (f : BitVec 25) (co : CoSlot) : GuideForm.Statement (.chmMneg tile f co) :=
  GuideForm.of_none rfl rfl
theorem GuideForm.chmMacc (tile : BitVec 4) (f : BitVec 25) (co : CoSlot) : GuideForm.Statement (.chmMacc tile f co) :=
  GuideForm.of_none rfl rfl
theorem GuideForm.chmMsub (tile : BitVec 4) (f : BitVec 25) (co : CoSlot) : GuideForm.Statement (.chmMsub tile f co) :=
  GuideForm.of_none rfl rfl
theorem GuideForm.chmLd (tile : BitVec 4) (f : BitVec 25) (co : CoSlot) : GuideForm.Statement (.chmLd tile f co) :=
  GuideForm.of_none rfl rfl
theorem GuideForm.chmSt (tile : BitVec 4) (f : BitVec 25) (co : CoSlot) : GuideForm.Statement (.chmSt tile f co) :=
  GuideForm.of_none rfl rfl
theorem GuideForm.chmMtc (tile : BitVec 4) (f : BitVec 25) (co : CoSlot) : GuideForm.Statement (.chmMtc tile f co) :=
  GuideForm.of_none rfl rfl
theorem GuideForm.chmMfc (tile : BitVec 4) (f : BitVec 25) (co : CoSlot) : GuideForm.Statement (.chmMfc tile f co) :=
  GuideForm.of_none rfl rfl
theorem GuideForm.chmSetcg (tile : BitVec 4) (f : BitVec 25) (co : CoSlot) : GuideForm.Statement (.chmSetcg tile f co) :=
  GuideForm.of_none rfl rfl
theorem GuideForm.chmEvget (tile : BitVec 4) (f : BitVec 25) (co : CoSlot) : GuideForm.Statement (.chmEvget tile f co) :=
  GuideForm.of_none rfl rfl
theorem GuideForm.chmBr (tile : BitVec 4) (f : BitVec 25) (co : CoSlot) : GuideForm.Statement (.chmBr tile f co) :=
  GuideForm.of_none rfl rfl
theorem GuideForm.chmRep (tile : BitVec 4) (f : BitVec 25) (co : CoSlot) : GuideForm.Statement (.chmRep tile f co) :=
  GuideForm.of_none rfl rfl
theorem GuideForm.chmRepr (tile : BitVec 4) (f : BitVec 25) (co : CoSlot) : GuideForm.Statement (.chmRepr tile f co) :=
  GuideForm.of_none rfl rfl
theorem GuideForm.chmEnd (tile : BitVec 4) (f : BitVec 25) (co : CoSlot) : GuideForm.Statement (.chmEnd tile f co) :=
  GuideForm.of_none rfl rfl
theorem GuideForm.chmRot (tile : BitVec 4) (f : BitVec 25) (co : CoSlot) : GuideForm.Statement (.chmRot tile f co) :=
  GuideForm.of_none rfl rfl
theorem GuideForm.chmLongMac (tile : BitVec 4) (f : BitVec 58) (flip : Option ChmFlip) : GuideForm.Statement (.chmLongMac tile f flip) :=
  GuideForm.of_none rfl rfl
theorem GuideForm.chmLdi (tile : BitVec 4) (f : BitVec 58) (flip : Option ChmFlip) : GuideForm.Statement (.chmLdi tile f flip) :=
  GuideForm.of_none rfl rfl
theorem GuideForm.chmCset (tile : BitVec 4) (f : BitVec 58) (flip : Option ChmFlip) : GuideForm.Statement (.chmCset tile f flip) :=
  GuideForm.of_none rfl rfl
theorem GuideForm.chmEvqFlush (tile : BitVec 4) : GuideForm.Statement (.chmEvqFlush tile) := GuideForm.of_none rfl rfl
theorem GuideForm.cflXpDataWrite (gain : W32) : GuideForm.Statement (.cflXpDataWrite gain) :=
  GuideForm.of_none rfl rfl
theorem GuideForm.cflMuteWrite (input : BitVec 8) (mute : Bool) : GuideForm.Statement (.cflMuteWrite input mute) :=
  GuideForm.of_none rfl rfl
theorem GuideForm.flwStage (slot : BitVec 4) : GuideForm.Statement (.flwStage slot) := GuideForm.of_none rfl rfl
theorem GuideForm.flwDiscard (slot : BitVec 4) : GuideForm.Statement (.flwDiscard slot) := GuideForm.of_none rfl rfl
theorem GuideForm.setCheckDone : GuideForm.Statement .setCheckDone := GuideForm.of_none rfl rfl
theorem GuideForm.flwLocalCommit (slot : BitVec 4) (cyc : BitVec 48) : GuideForm.Statement (.flwLocalCommit slot cyc) :=
  GuideForm.of_none rfl rfl
theorem GuideForm.flwChainCommit (slot : BitVec 4) (dest : BitVec 8) (cyc : BitVec 48) : GuideForm.Statement (.flwChainCommit slot dest cyc) :=
  GuideForm.of_none rfl rfl
theorem GuideForm.armingStart : GuideForm.Statement .armingStart := GuideForm.of_none rfl rfl
theorem GuideForm.armingDone : GuideForm.Statement .armingDone := GuideForm.of_none rfl rfl
theorem GuideForm.flwSlotBaseWrite (slot : BitVec 4) (word : BitVec 20) : GuideForm.Statement (.flwSlotBaseWrite slot word) :=
  GuideForm.of_none rfl rfl
theorem GuideForm.flwMorphBaseWrite (word : BitVec 20) : GuideForm.Statement (.flwMorphBaseWrite word) :=
  GuideForm.of_none rfl rfl
theorem GuideForm.sapEnable (port : BitVec 3) : GuideForm.Statement (.sapEnable port) := GuideForm.of_none rfl rfl
theorem GuideForm.sapDisable (port : BitVec 3) : GuideForm.Statement (.sapDisable port) := GuideForm.of_none rfl rfl
theorem GuideForm.sapClockArrival (port : BitVec 3) : GuideForm.Statement (.sapClockArrival port) :=
  GuideForm.of_none rfl rfl
theorem GuideForm.sapLeadEnd (port : BitVec 3) : GuideForm.Statement (.sapLeadEnd port) := GuideForm.of_none rfl rfl
theorem GuideForm.sapTrailEnd (port : BitVec 3) : GuideForm.Statement (.sapTrailEnd port) := GuideForm.of_none rfl rfl
theorem GuideForm.sapFrame (port : BitVec 3) (di : List Bool) : GuideForm.Statement (.sapFrame port di) :=
  GuideForm.of_none rfl rfl
theorem GuideForm.sampleGridPoint : GuideForm.Statement .sampleGridPoint := GuideForm.of_none rfl rfl
theorem GuideForm.sapClockLoss (port : BitVec 3) : GuideForm.Statement (.sapClockLoss port) :=
  GuideForm.of_none rfl rfl
theorem GuideForm.sapRateError (port : BitVec 3) : GuideForm.Statement (.sapRateError port) :=
  GuideForm.of_none rfl rfl
theorem GuideForm.dmxGo (port : BitVec 1) : GuideForm.Statement (.dmxGo port) := GuideForm.of_none rfl rfl
theorem GuideForm.dmxSwap (port : BitVec 1) : GuideForm.Statement (.dmxSwap port) := GuideForm.of_none rfl rfl
theorem GuideForm.dmxBreakStart (port : BitVec 1) : GuideForm.Statement (.dmxBreakStart port) :=
  GuideForm.of_none rfl rfl
theorem GuideForm.dmxRxFrame (port : BitVec 1) (brk mark : BitVec 32) (bytes : List Byte) (framingError : Bool) (ago : BitVec 32) : GuideForm.Statement (.dmxRxFrame port brk mark bytes framingError ago) :=
  GuideForm.of_none rfl rfl
theorem GuideForm.dmxRdmTimeout (port : BitVec 1) : GuideForm.Statement (.dmxRdmTimeout port) :=
  GuideForm.of_none rfl rfl
theorem GuideForm.galEnable (on : Bool) : GuideForm.Statement (.galEnable on) := GuideForm.of_none rfl rfl
theorem GuideForm.trainSection (port : BitVec 1) (eighths : BitVec 3) (sa : List Byte) (payload : List Byte) (fcs : BitVec 2) : GuideForm.Statement (.trainSection port eighths sa payload fcs) :=
  GuideForm.of_none rfl rfl
theorem GuideForm.blockLate : GuideForm.Statement .blockLate := GuideForm.of_none rfl rfl
theorem GuideForm.msgCommit (dest : Byte) (slot : BitVec 4) (cyc : BitVec 48) : GuideForm.Statement (.msgCommit dest slot cyc) :=
  GuideForm.of_none rfl rfl
theorem GuideForm.msgSetdata (dest : Byte) (slot : BitVec 4) (word : BitVec 16) (words : List W40) : GuideForm.Statement (.msgSetdata dest slot word words) :=
  GuideForm.of_none rfl rfl
theorem GuideForm.msgSetend (dest : Byte) (slot : BitVec 4) : GuideForm.Statement (.msgSetend dest slot) :=
  GuideForm.of_none rfl rfl
theorem GuideForm.msgAssign (mac : List Byte) (ident : Byte) : GuideForm.Statement (.msgAssign mac ident) :=
  GuideForm.of_none rfl rfl
theorem GuideForm.msgIdent (pos : Byte) : GuideForm.Statement (.msgIdent pos) := GuideForm.of_none rfl rfl
theorem GuideForm.msgUser (dest : Byte) (data : List Byte) : GuideForm.Statement (.msgUser dest data) :=
  GuideForm.of_none rfl rfl
theorem GuideForm.linkFrameReceive (port : BitVec 1) (eighths : BitVec 3) (payload : List Byte) (good : Bool) : GuideForm.Statement (.linkFrameReceive port eighths payload good) :=
  GuideForm.of_none rfl rfl
theorem GuideForm.glinkLoss (port : BitVec 1) : GuideForm.Statement (.glinkLoss port) := GuideForm.of_none rfl rfl
theorem GuideForm.galRestore : GuideForm.Statement .galRestore := GuideForm.of_none rfl rfl
theorem GuideForm.storedIdWrite (ident : Byte) : GuideForm.Statement (.storedIdWrite ident) :=
  GuideForm.of_none rfl rfl
theorem GuideForm.galTxmsgGo : GuideForm.Statement .galTxmsgGo := GuideForm.of_none rfl rfl
theorem GuideForm.galRxmsgPop : GuideForm.Statement .galRxmsgPop := GuideForm.of_none rfl rfl
theorem GuideForm.galSettxGo (src dst : BitVec 4) (dest : Byte) : GuideForm.Statement (.galSettxGo src dst dest) :=
  GuideForm.of_none rfl rfl
theorem GuideForm.galMdioGo (write : Bool) (phy reg : BitVec 5) (data : BitVec 16) : GuideForm.Statement (.galMdioGo write phy reg data) :=
  GuideForm.of_none rfl rfl
theorem GuideForm.mdioTransactionDone (data : BitVec 16) : GuideForm.Statement (.mdioTransactionDone data) :=
  GuideForm.of_none rfl rfl
theorem GuideForm.phyStatusChange (port : BitVec 1) (up fdx : Bool) (speed : BitVec 2) : GuideForm.Statement (.phyStatusChange port up fdx speed) :=
  GuideForm.of_none rfl rfl
theorem GuideForm.ethFrameReceive (port : BitVec 1) (eighths : BitVec 3) (bytes : List Byte) (good : Bool) : GuideForm.Statement (.ethFrameReceive port eighths bytes good) :=
  GuideForm.of_none rfl rfl
theorem GuideForm.ethFrameTransmit (port : BitVec 1) : GuideForm.Statement (.ethFrameTransmit port) :=
  GuideForm.of_none rfl rfl
theorem GuideForm.ethTxpoll : GuideForm.Statement .ethTxpoll := GuideForm.of_none rfl rfl
theorem GuideForm.dtmSetGo : GuideForm.Statement .dtmSetGo := GuideForm.of_none rfl rfl
theorem GuideForm.timebaseSetApply : GuideForm.Statement .timebaseSetApply := GuideForm.of_none rfl rfl
theorem GuideForm.dtmStepWrite (v : W64) : GuideForm.Statement (.dtmStepWrite v) := GuideForm.of_none rfl rfl
theorem GuideForm.timebaseStepApply : GuideForm.Statement .timebaseStepApply := GuideForm.of_none rfl rfl
theorem GuideForm.dtmAddendWrite (v : W32) : GuideForm.Statement (.dtmAddendWrite v) := GuideForm.of_none rfl rfl
theorem GuideForm.dtmTbNsRead (master : BitVec 3) : GuideForm.Statement (.dtmTbNsRead master) :=
  GuideForm.of_none rfl rfl
theorem GuideForm.dtmTvSet : GuideForm.Statement .dtmTvSet := GuideForm.of_none rfl rfl
theorem GuideForm.dtmTvClr : GuideForm.Statement .dtmTvClr := GuideForm.of_none rfl rfl
theorem GuideForm.dtmModeWrite (servo : Bool) : GuideForm.Statement (.dtmModeWrite servo) := GuideForm.of_none rfl rfl
theorem GuideForm.dtmPtpOfsWrite (v : W64) : GuideForm.Statement (.dtmPtpOfsWrite v) := GuideForm.of_none rfl rfl
theorem GuideForm.holdoverSecond : GuideForm.Statement .holdoverSecond := GuideForm.of_none rfl rfl
theorem GuideForm.ppsInputEdge (eighths : BitVec 3) (rising : Bool) (held : BitVec 32) : GuideForm.Statement (.ppsInputEdge eighths rising held) :=
  GuideForm.of_none rfl rfl
theorem GuideForm.wclkInputEdge (eighths : BitVec 3) (rising : Bool) (held : BitVec 32) : GuideForm.Statement (.wclkInputEdge eighths rising held) :=
  GuideForm.of_none rfl rfl
theorem GuideForm.ppsoEdge : GuideForm.Statement .ppsoEdge := GuideForm.of_none rfl rfl
theorem GuideForm.frmoEdge : GuideForm.Statement .frmoEdge := GuideForm.of_none rfl rfl
theorem GuideForm.ptsPop : GuideForm.Statement .ptsPop := GuideForm.of_none rfl rfl
theorem GuideForm.cairnPinEdge (pin : BitVec 4) (eighths : BitVec 3) (rising : Bool) (held : BitVec 32) : GuideForm.Statement (.cairnPinEdge pin eighths rising held) :=
  GuideForm.of_none rfl rfl
theorem GuideForm.cairnCommit : GuideForm.Statement .cairnCommit := GuideForm.of_none rfl rfl
theorem GuideForm.cairnPop : GuideForm.Statement .cairnPop := GuideForm.of_none rfl rfl
theorem GuideForm.cairnFlush : GuideForm.Statement .cairnFlush := GuideForm.of_none rfl rfl
theorem GuideForm.synConfigWrite (syn : BitVec 2) (ctl : W32) (frac : BitVec 24) (div : W32) : GuideForm.Statement (.synConfigWrite syn ctl frac div) :=
  GuideForm.of_none rfl rfl
theorem GuideForm.synLock (syn : BitVec 2) : GuideForm.Statement (.synLock syn) := GuideForm.of_none rfl rfl
theorem GuideForm.synUnlock (syn : BitVec 2) : GuideForm.Statement (.synUnlock syn) := GuideForm.of_none rfl rfl
theorem GuideForm.synStepWrite (syn : BitVec 2) (v : BitVec 16) : GuideForm.Statement (.synStepWrite syn v) :=
  GuideForm.of_none rfl rfl
theorem GuideForm.cleNop (w : W32) : GuideForm.Statement (.cleNop w) := GuideForm.of_none rfl rfl
theorem GuideForm.cleEnd (f : BitVec 26) : GuideForm.Statement (.cleEnd f) := GuideForm.of_none rfl rfl
theorem GuideForm.cleAdd (f : BitVec 26) : GuideForm.Statement (.cleAdd f) := GuideForm.of_none rfl rfl
theorem GuideForm.cleSub (f : BitVec 26) : GuideForm.Statement (.cleSub f) := GuideForm.of_none rfl rfl
theorem GuideForm.cleMin (f : BitVec 26) : GuideForm.Statement (.cleMin f) := GuideForm.of_none rfl rfl
theorem GuideForm.cleMax (f : BitVec 26) : GuideForm.Statement (.cleMax f) := GuideForm.of_none rfl rfl
theorem GuideForm.cleNeg (f : BitVec 26) : GuideForm.Statement (.cleNeg f) := GuideForm.of_none rfl rfl
theorem GuideForm.cleMov (f : BitVec 26) : GuideForm.Statement (.cleMov f) := GuideForm.of_none rfl rfl
theorem GuideForm.cleSel (f : BitVec 26) : GuideForm.Statement (.cleSel f) := GuideForm.of_none rfl rfl
theorem GuideForm.cleMul (f : BitVec 26) : GuideForm.Statement (.cleMul f) := GuideForm.of_none rfl rfl
theorem GuideForm.cleMac (f : BitVec 26) : GuideForm.Statement (.cleMac f) := GuideForm.of_none rfl rfl
theorem GuideForm.cleMsb (f : BitVec 26) : GuideForm.Statement (.cleMsb f) := GuideForm.of_none rfl rfl
theorem GuideForm.cleMulv (f : BitVec 26) : GuideForm.Statement (.cleMulv f) := GuideForm.of_none rfl rfl
theorem GuideForm.cleMacv (f : BitVec 26) : GuideForm.Statement (.cleMacv f) := GuideForm.of_none rfl rfl
theorem GuideForm.cleMsbv (f : BitVec 26) : GuideForm.Statement (.cleMsbv f) := GuideForm.of_none rfl rfl
theorem GuideForm.cleExt (f : BitVec 26) : GuideForm.Statement (.cleExt f) := GuideForm.of_none rfl rfl
theorem GuideForm.cleLdacc (f : BitVec 26) : GuideForm.Statement (.cleLdacc f) := GuideForm.of_none rfl rfl
theorem GuideForm.cleLdk (f : BitVec 26) : GuideForm.Statement (.cleLdk f) := GuideForm.of_none rfl rfl
theorem GuideForm.cleIn (f : BitVec 26) : GuideForm.Statement (.cleIn f) := GuideForm.of_none rfl rfl
theorem GuideForm.cleOut (f : BitVec 26) : GuideForm.Statement (.cleOut f) := GuideForm.of_none rfl rfl
theorem GuideForm.cleLds (f : BitVec 26) : GuideForm.Statement (.cleLds f) := GuideForm.of_none rfl rfl
theorem GuideForm.cleSts (f : BitVec 26) : GuideForm.Statement (.cleSts f) := GuideForm.of_none rfl rfl
theorem GuideForm.cleBq (f : BitVec 26) : GuideForm.Statement (.cleBq f) := GuideForm.of_none rfl rfl
theorem GuideForm.cleSincos (f : BitVec 26) : GuideForm.Statement (.cleSincos f) := GuideForm.of_none rfl rfl
theorem GuideForm.cleAtan2 (f : BitVec 26) : GuideForm.Statement (.cleAtan2 f) := GuideForm.of_none rfl rfl
theorem GuideForm.cleClarke (f : BitVec 26) : GuideForm.Statement (.cleClarke f) := GuideForm.of_none rfl rfl
theorem GuideForm.clePark (f : BitVec 26) : GuideForm.Statement (.clePark f) := GuideForm.of_none rfl rfl
theorem GuideForm.cleIpark (f : BitVec 26) : GuideForm.Statement (.cleIpark f) := GuideForm.of_none rfl rfl
theorem GuideForm.cleSvm (f : BitVec 26) : GuideForm.Statement (.cleSvm f) := GuideForm.of_none rfl rfl
theorem GuideForm.cleInj (f : BitVec 26) : GuideForm.Statement (.cleInj f) := GuideForm.of_none rfl rfl
theorem GuideForm.cleCap (f : BitVec 26) : GuideForm.Statement (.cleCap f) := GuideForm.of_none rfl rfl
theorem GuideForm.cleSwapReq (mask : BitVec 16) : GuideForm.Statement (.cleSwapReq mask) := GuideForm.of_none rfl rfl
theorem GuideForm.cleSwapCmt (mask : BitVec 16) : GuideForm.Statement (.cleSwapCmt mask) := GuideForm.of_none rfl rfl
theorem GuideForm.cleStateWrite (slot word : BitVec 4) (v : W32) : GuideForm.Statement (.cleStateWrite slot word v) :=
  GuideForm.of_none rfl rfl
theorem GuideForm.echoGo : GuideForm.Statement .echoGo := GuideForm.of_none rfl rfl
theorem GuideForm.echoAbort : GuideForm.Statement .echoAbort := GuideForm.of_none rfl rfl
theorem GuideForm.pwmReload (group : BitVec 4) : GuideForm.Statement (.pwmReload group) := GuideForm.of_none rfl rfl
theorem GuideForm.pwmCentre (group : BitVec 4) : GuideForm.Statement (.pwmCentre group) := GuideForm.of_none rfl rfl
theorem GuideForm.pwmDpWrite (output : BitVec 6) (duty : W32) (period : W32) : GuideForm.Statement (.pwmDpWrite output duty period) :=
  GuideForm.of_none rfl rfl
theorem GuideForm.pwmHoldClear (group : BitVec 4) : GuideForm.Statement (.pwmHoldClear group) :=
  GuideForm.of_none rfl rfl
theorem GuideForm.pwmEnable (group : BitVec 4) : GuideForm.Statement (.pwmEnable group) := GuideForm.of_none rfl rfl
theorem GuideForm.pwmDisable (group : BitVec 4) : GuideForm.Statement (.pwmDisable group) := GuideForm.of_none rfl rfl
theorem GuideForm.lanternDataStart (port : BitVec 2) (first lack : BitVec 14) : GuideForm.Statement (.lanternDataStart port first lack) :=
  GuideForm.of_none rfl rfl
theorem GuideForm.lanternBlankStart (port : BitVec 2) : GuideForm.Statement (.lanternBlankStart port) :=
  GuideForm.of_none rfl rfl
theorem GuideForm.ltnFbCommit (port : BitVec 2) (base : BitVec 20) (npixm1 : BitVec 11) : GuideForm.Statement (.ltnFbCommit port base npixm1) :=
  GuideForm.of_none rfl rfl
theorem GuideForm.ltnEnable (port : BitVec 2) : GuideForm.Statement (.ltnEnable port) := GuideForm.of_none rfl rfl
theorem GuideForm.ltnDisable (port : BitVec 2) : GuideForm.Statement (.ltnDisable port) := GuideForm.of_none rfl rfl
theorem GuideForm.adcRswt (adc : BitVec 1) : GuideForm.Statement (.adcRswt adc) := GuideForm.of_none rfl rfl
theorem GuideForm.adcIswt (adc : BitVec 1) : GuideForm.Statement (.adcIswt adc) := GuideForm.of_none rfl rfl
theorem GuideForm.adcSamplingStart (adc : BitVec 1) : GuideForm.Statement (.adcSamplingStart adc) :=
  GuideForm.of_none rfl rfl
theorem GuideForm.adcConversionEnd (adc : BitVec 1) (uv : BitVec 32) : GuideForm.Statement (.adcConversionEnd adc uv) :=
  GuideForm.of_none rfl rfl
theorem GuideForm.adcEnable (adc : BitVec 1) : GuideForm.Statement (.adcEnable adc) := GuideForm.of_none rfl rfl
theorem GuideForm.adcReady (adc : BitVec 1) : GuideForm.Statement (.adcReady adc) := GuideForm.of_none rfl rfl
theorem GuideForm.adcDisable (adc : BitVec 1) : GuideForm.Statement (.adcDisable adc) := GuideForm.of_none rfl rfl
theorem GuideForm.comparatorTrip (cmp : BitVec 4) (uv : BitVec 32) : GuideForm.Statement (.comparatorTrip cmp uv) :=
  GuideForm.of_none rfl rfl
theorem GuideForm.comparatorRelease (cmp : BitVec 4) (uv : BitVec 32) : GuideForm.Statement (.comparatorRelease cmp uv) :=
  GuideForm.of_none rfl rfl
theorem GuideForm.gteRelWrite (mask : BitVec 16) : GuideForm.Statement (.gteRelWrite mask) :=
  GuideForm.of_none rfl rfl
theorem GuideForm.cartPresenceLoss (cart : BitVec 2) : GuideForm.Statement (.cartPresenceLoss cart) :=
  GuideForm.of_none rfl rfl
theorem GuideForm.cartPresenceSettled (cart : BitVec 2) : GuideForm.Statement (.cartPresenceSettled cart) :=
  GuideForm.of_none rfl rfl
theorem GuideForm.cartProbe (cart : BitVec 2) (element : CartElement) : GuideForm.Statement (.cartProbe cart element) :=
  GuideForm.of_none rfl rfl
theorem GuideForm.cartReauth (cart : BitVec 2) (element : CartElement) : GuideForm.Statement (.cartReauth cart element) :=
  GuideForm.of_none rfl rfl
theorem GuideForm.cartSample (cart : BitVec 2) (tj : Option (BitVec 16)) (fails : BitVec 3) : GuideForm.Statement (.cartSample cart tj fails) :=
  GuideForm.of_none rfl rfl
theorem GuideForm.cartReprobe (cart : BitVec 2) (fails : BitVec 3) : GuideForm.Statement (.cartReprobe cart fails) :=
  GuideForm.of_none rfl rfl
theorem GuideForm.cartEnable (cart : BitVec 2) (on : Bool) (fails : BitVec 3) : GuideForm.Statement (.cartEnable cart on fails) :=
  GuideForm.of_none rfl rfl
theorem GuideForm.twGo (ctl : BitVec 3) : GuideForm.Statement (.twGo ctl) := GuideForm.of_none rfl rfl
theorem GuideForm.twTransactionDone (ctl : BitVec 3) (nack tmo : Bool) (nbytes : BitVec 5) (bytes : List Byte) : GuideForm.Statement (.twTransactionDone ctl nack tmo nbytes bytes) :=
  GuideForm.of_none rfl rfl
theorem GuideForm.smpAck (mask : BitVec 8) : GuideForm.Statement (.smpAck mask) := GuideForm.of_none rfl rfl
theorem GuideForm.smpLock : GuideForm.Statement .smpLock := GuideForm.of_none rfl rfl
theorem GuideForm.logRecordCommit (good : BitVec 3) : GuideForm.Statement (.logRecordCommit good) :=
  GuideForm.of_none rfl rfl
theorem GuideForm.logClr : GuideForm.Statement .logClr := GuideForm.of_none rfl rfl
theorem GuideForm.logClearDone : GuideForm.Statement .logClearDone := GuideForm.of_none rfl rfl
theorem GuideForm.keystoreWindowWrite (master : BitVec 3) (off : BitVec 16) (wide : Bool) (v : W64) : GuideForm.Statement (.keystoreWindowWrite master off wide v) :=
  GuideForm.of_none rfl rfl
theorem GuideForm.rollbackRaise (profile : Bool) (v : W32) : GuideForm.Statement (.rollbackRaise profile v) :=
  GuideForm.of_none rfl rfl
theorem GuideForm.keystoreWriteDone (bad : Bool) : GuideForm.Statement (.keystoreWriteDone bad) :=
  GuideForm.of_none rfl rfl
theorem GuideForm.secInstall (slot : BitVec 2) : GuideForm.Statement (.secInstall slot) := GuideForm.of_none rfl rfl
theorem GuideForm.secRetire (slot : BitVec 2) : GuideForm.Statement (.secRetire slot) := GuideForm.of_none rfl rfl
theorem GuideForm.secRoot : GuideForm.Statement .secRoot := GuideForm.of_none rfl rfl
theorem GuideForm.ceSha256 (ksel : BitVec 4) : GuideForm.Statement (.ceSha256 ksel) := GuideForm.of_none rfl rfl
theorem GuideForm.ceHmac (ksel : BitVec 4) : GuideForm.Statement (.ceHmac ksel) := GuideForm.of_none rfl rfl
theorem GuideForm.ceGcmEncrypt (ksel : BitVec 4) : GuideForm.Statement (.ceGcmEncrypt ksel) :=
  GuideForm.of_none rfl rfl
theorem GuideForm.ceGcmDecrypt (ksel : BitVec 4) : GuideForm.Statement (.ceGcmDecrypt ksel) :=
  GuideForm.of_none rfl rfl
theorem GuideForm.ceEcdsaVerify (ksel : BitVec 4) : GuideForm.Statement (.ceEcdsaVerify ksel) :=
  GuideForm.of_none rfl rfl
theorem GuideForm.ceRandomFill (ksel : BitVec 4) : GuideForm.Statement (.ceRandomFill ksel) :=
  GuideForm.of_none rfl rfl
theorem GuideForm.ceOperationDone : GuideForm.Statement .ceOperationDone := GuideForm.of_none rfl rfl
theorem GuideForm.rngTestFailure : GuideForm.Statement .rngTestFailure := GuideForm.of_none rfl rfl
theorem GuideForm.rngStartupDone : GuideForm.Statement .rngStartupDone := GuideForm.of_none rfl rfl
theorem GuideForm.tamperInput (ball : BitVec 2) (level : Bool) (held : BitVec 32) : GuideForm.Statement (.tamperInput ball level held) :=
  GuideForm.of_none rfl rfl
theorem GuideForm.shieldMeshFault : GuideForm.Statement .shieldMeshFault := GuideForm.of_none rfl rfl
theorem GuideForm.secLock : GuideForm.Statement .secLock := GuideForm.of_none rfl rfl
theorem GuideForm.secReopen : GuideForm.Statement .secReopen := GuideForm.of_none rfl rfl
theorem GuideForm.tapReset : GuideForm.Statement .tapReset := GuideForm.of_none rfl rfl
theorem GuideForm.jtagIdcode : GuideForm.Statement .jtagIdcode := GuideForm.of_none rfl rfl
theorem GuideForm.jtagBypass : GuideForm.Statement .jtagBypass := GuideForm.of_none rfl rfl
theorem GuideForm.jtagExtest (balls shift : BitVec 666) : GuideForm.Statement (.jtagExtest balls shift) :=
  GuideForm.of_none rfl rfl
theorem GuideForm.jtagSamplePreload (balls shift : BitVec 666) : GuideForm.Statement (.jtagSamplePreload balls shift) :=
  GuideForm.of_none rfl rfl
theorem GuideForm.jtagHighz : GuideForm.Statement .jtagHighz := GuideForm.of_none rfl rfl
theorem GuideForm.jtagClamp : GuideForm.Statement .jtagClamp := GuideForm.of_none rfl rfl
theorem GuideForm.jtagChal : GuideForm.Statement .jtagChal := GuideForm.of_none rfl rfl
theorem GuideForm.jtagResp (pub sig : List Byte) : GuideForm.Statement (.jtagResp pub sig) :=
  GuideForm.of_none rfl rfl
theorem GuideForm.debugVerifyDone : GuideForm.Statement .debugVerifyDone := GuideForm.of_none rfl rfl
theorem GuideForm.dbgHalt : GuideForm.Statement .dbgHalt := GuideForm.of_none rfl rfl
theorem GuideForm.dbgResume : GuideForm.Statement .dbgResume := GuideForm.of_none rfl rfl
theorem GuideForm.dbgStep : GuideForm.Statement .dbgStep := GuideForm.of_none rfl rfl
theorem GuideForm.dbgmemGo (dr : BitVec 100) : GuideForm.Statement (.dbgmemGo dr) := GuideForm.of_none rfl rfl
theorem GuideForm.gdeIllegalInstruction : GuideForm.Statement .gdeIllegalInstruction := GuideForm.of_none rfl rfl
theorem GuideForm.dmxTxFrameEnd (port : BitVec 1) : GuideForm.Statement (.dmxTxFrameEnd port) :=
  GuideForm.of_none rfl rfl
theorem GuideForm.tamperInputRelease (ball : BitVec 2) : GuideForm.Statement (.tamperInputRelease ball) :=
  GuideForm.of_none rfl rfl

end Sys2Proof.Laws
end

