-- ==== Sys2Proof/Machine/Balls.lean ====
section
/-! DEFINITION. The balls of the package: which signal or supply each carries, ball order, banks, types and pulls, and
the boundary-scan cells (R522 to R530, R536, R537). -/

namespace Sys2Proof.Machine

open Sys2Proof

/-! ### Signals (R522 to R526) -/

/-- The signals of the balls. p is true for the P ball of a pair; a Lantern pair is its lane: 0 CK, 1 D0, 2 D1. -/
inductive Signal where
  | pwm (n : Nat) | cko (k : Nat) (p : Bool) | ltn (n lane : Nat) (p : Bool)
  | cartScl (c : Nat) | cartSda (c : Nat) | cartNprs (c : Nat)
  | sapBck (n : Nat) | sapFs (n : Nat) | sapDi (n : Nat) | sapDo (n : Nat) | mcki (k : Nat)
  | dmxTx (d : Nat) | dmxRx (d : Nat) | dmxDe (d : Nat) | ppsi | wclk | ppso | frmo | tsin (k : Nat) | vid (k : Nat)
  | xspiClk | xspiNcs | xspiDqs | xspiIo (k : Nat) | xspiNrst | avsClk | avsMdata | avsSdata
  | tck | tms | tdi | tdo | ntrst | tw4Scl | tw4Sda
  | galTxc (n : Nat) | galTxCtl (n : Nat) | galTxd (n k : Nat) | galRxc (n : Nat) | galRxCtl (n : Nat) | galRxd (n k : Nat)
  | galNprst (n : Nat) | galMdc | galMdio
  | nreset | nerr | bootsel | hmode | tamp (k : Nat) | vsel (k : Nat) | xi | xo | test | dnc (k : Nat)
  | ain (k : Nat) | adcRefc | nhcs | hbusy | nhint | hsck | hio (k : Nat) | nhrd | nhwr | ha (k : Nat) | hd (k : Nat)
  deriving DecidableEq, Repr

/-- The supplies and grounds of the balls (R527). -/
inductive Supply where
  | vcore | vss | vaon | vana | vssa | vioa | viob | vioc | viod | vioe
  deriving DecidableEq, Repr

/-- What a ball carries. -/
inductive Ball where
  | sig (x : Signal) | power (p : Supply)
  deriving DecidableEq, Repr

/-- The six balls of Lantern port n: CK, D0 and D1, each P then N (R523). -/
def ltnBall (n i : Nat) : Signal := .ltn n (i / 2) (i % 2 == 0)

/-- The four balls of serial audio port n (R524). -/
def sapBall (n i : Nat) : Signal := if i = 0 then .sapBck n else if i = 1 then .sapFs n else if i = 2 then .sapDi n else .sapDo n

/-- The twelve balls of Gallery port n (R525). -/
def galBall (n i : Nat) : Signal :=
  if i = 0 then .galTxc n else if i = 1 then .galTxCtl n else if i < 6 then .galTxd n (i - 2)
  else if i = 6 then .galRxc n else if i = 7 then .galRxCtl n else .galRxd n (i - 8)

/-- The north side: rows A to D, with row indices 1 to 4 (R523). -/
def northBall (r c : Nat) : Ball :=
  if r = 1 then .sig (.pwm (c - 1))
  else if r = 2 then .sig (if c ≤ 14 then .pwm (c + 21) else .cko ((c - 15) / 2) ((c - 15) % 2 == 0))
  else if r = 3 then .sig (if c ≤ 4 then .cko (4 + (c - 1) / 2) ((c - 1) % 2 == 0) else ltnBall ((c - 5) / 6) ((c - 5) % 6))
  else if c ≤ 2 ∨ 21 ≤ c then .power .vss
  else if c ≤ 8 then .sig (ltnBall 3 (c - 3))
  else
    let k := (c - 9) / 3
    .sig (if c % 3 = 0 then .cartScl k else if c % 3 = 1 then .cartSda k else .cartNprs k)

/-- Row Y of the south side (R524). -/
def southControl : List Signal :=
  [.xspiClk, .xspiNcs, .xspiDqs] ++ (idxs 0 8).map Signal.xspiIo ++
    [.xspiNrst, .avsClk, .avsMdata, .avsSdata, .tck, .tms, .tdi, .tdo, .ntrst, .tw4Scl, .tw4Sda]

/-- The south side: rows Y, AA, AB and AC, with row indices 19 to 22 (R524). -/
def southBall (r c : Nat) : Signal :=
  if r = 22 then (if c ≤ 20 then sapBall ((c - 1) / 4) ((c - 1) % 4) else .mcki (c - 21))
  else if r = 21 then
    if c ≤ 12 then sapBall (5 + (c - 1) / 4) ((c - 1) % 4)
    else
      ([.dmxTx 0, .dmxRx 0, .dmxDe 0, .dmxTx 1, .dmxRx 1, .dmxDe 1, .ppsi, .wclk, .ppso, .frmo] : List Signal).getD (c - 13)
        .frmo
  else if r = 20 then (if c ≤ 16 then .tsin (c - 1) else .vid (c - 17))
  else
    southControl.getD (c - 1) .tw4Sda

/-- The west side after the Gallery ports (R525). -/
def westControl : List Signal :=
  [.galNprst 0, .galNprst 1, .galMdc, .galMdio, .nreset, .nerr, .bootsel, .hmode] ++ (idxs 0 4).map Signal.tamp ++
    (idxs 0 5).map Signal.vsel ++ [.xi, .xo, .test, .dnc 0, .dnc 1]

/-- The west side: columns 1 to 4 of rows E to W, with row indices 5 to 18 (R525). -/
def westBall (r c : Nat) : Ball :=
  let i := 4 * (r - 5) + (c - 1)
  if i < 12 then .sig (galBall 0 i)
  else if i < 24 then .sig (galBall 1 (i - 12))
  else
    match westControl[i - 24]? with
    | some x => .sig x
    | none => .power .vss

/-- The signals of the east side (R526). -/
def eastSignals : List Signal :=
  (idxs 0 16).map Signal.ain ++ [.adcRefc, .nhcs, .hbusy, .nhint, .hsck] ++ (idxs 0 4).map Signal.hio ++ [.nhrd, .nhwr] ++
    (idxs 0 13).map Signal.ha ++ (idxs 0 16).map Signal.hd

/-- The east side: columns 19 to 22 of rows E to W (R526). -/
def eastBall (r c : Nat) : Signal := eastSignals.getD (4 * (r - 5) + (c - 19)) (.hd 15)

/-- A ball lies in the VCORE region (R527). -/
def coreRegion (r c : Nat) : Bool :=
  (decide (8 ≤ c) && decide (c ≤ 15) && decide (6 ≤ r) && decide (r ≤ 17)) ||
    ((c == 6 || c == 7) && decide (10 ≤ r) && decide (r ≤ 17)) ||
    ((c == 16 || c == 17) && decide (14 ≤ r) && decide (r ≤ 17))

/-- The inner balls: rows E to W, columns 5 to 18 (R527). -/
def innerBall (r c : Nat) : Supply :=
  if c = 5 ∧ [6, 8, 10, 12, 14, 16].contains r then .vioa
  else if r = 18 ∧ 5 ≤ c ∧ c ≤ 10 then .viob
  else if r = 18 ∧ 13 ≤ c ∧ c ≤ 18 then .vioc
  else if c = 18 ∧ [6, 8, 10, 12, 14, 16].contains r then .viod
  else if r = 5 ∧ [6, 8, 10, 12, 14, 16].contains c then .vioe
  else if c = 6 ∧ 6 ≤ r ∧ r ≤ 9 then .vaon
  else if c = 17 ∧ 6 ≤ r ∧ r ≤ 13 then .vana
  else if c = 16 ∧ 6 ≤ r ∧ r ≤ 13 then .vssa
  else if coreRegion r c && (r + c) % 2 == 0 && !((r == 10 || r == 12) && (c == 12 || c == 14)) then .vcore
  else .vss

/-- The ball of row index r and column c, both from 1 to 22. -/
def ballAt (r c : Nat) : Ball :=
  if r ≤ 4 then northBall r c
  else if 19 ≤ r then .sig (southBall r c)
  else if c ≤ 4 then westBall r c
  else if 19 ≤ c then .sig (eastBall r c)
  else .power (innerBall r c)

/-- The 484 balls in ball order: rows A to AC, and within a row ascending columns. -/
def balls : List Ball := (idxs 1 22).flatMap fun r => (idxs 1 22).map fun c => ballAt r c

/-- The signals of the balls in ball order. -/
def signals : List Signal := balls.filterMap fun
  | .sig x => some x
  | .power _ => none

/-! ### Banks, types and pulls (R528, R530) -/

/-- The banks and the supplies that take their place for the other balls. -/
inductive IoBank where
  | a | b | c | d | e | aon | ana
  deriving DecidableEq, Repr

/-- The type of a ball. -/
inductive BallType where
  | output | lvds | openDrain | input | bidir | crystal | analog
  deriving DecidableEq, Repr

/-- The bank of a signal; XI, XO and the balls that are never connected are counted as always on. -/
def Signal.bank : Signal → IoBank
  | .pwm _ | .cko .. | .ltn .. | .cartScl _ | .cartSda _ | .cartNprs _ => .e
  | .sapBck _ | .sapFs _ | .sapDi _ | .sapDo _ | .mcki _ | .dmxTx _ | .dmxRx _ | .dmxDe _ | .ppsi | .wclk | .ppso | .frmo
  | .tsin _ => .b
  | .vid _ | .xspiClk | .xspiNcs | .xspiDqs | .xspiIo _ | .xspiNrst | .avsClk | .avsMdata | .avsSdata | .tck | .tms | .tdi
  | .tdo | .ntrst | .tw4Scl | .tw4Sda => .c
  | .nhcs | .hbusy | .nhint | .hsck | .hio _ | .nhrd | .nhwr | .ha _ | .hd _ => .d
  | .galTxc _ | .galTxCtl _ | .galTxd .. | .galRxc _ | .galRxCtl _ | .galRxd .. | .galNprst _ | .galMdc | .galMdio => .a
  | .nreset | .nerr | .bootsel | .hmode | .tamp _ | .vsel _ | .xi | .xo | .test | .dnc _ => .aon
  | .ain _ | .adcRefc => .ana

/-- The type of a signal's ball; a DNC ball has none and is counted as analog. -/
def Signal.type : Signal → BallType
  | .pwm _ | .cko .. | .sapDo _ | .dmxTx _ | .dmxDe _ | .ppso | .frmo | .xspiClk | .xspiNcs | .xspiNrst | .avsClk | .avsMdata
  | .vid _ | .tdo | .hbusy | .galTxc _ | .galTxCtl _ | .galTxd .. | .galNprst _ | .galMdc => .output
  | .ltn .. => .lvds
  | .cartScl _ | .cartSda _ | .tw4Scl | .tw4Sda | .nhint | .nerr => .openDrain
  | .sapBck _ | .sapFs _ | .xspiDqs | .xspiIo _ | .hio _ | .hd _ | .galMdio => .bidir
  | .cartNprs _ | .sapDi _ | .mcki _ | .dmxRx _ | .ppsi | .wclk | .tsin _ | .avsSdata | .tck | .tms | .tdi | .ntrst | .nhcs
  | .hsck | .nhrd | .nhwr | .ha _ | .galRxc _ | .galRxCtl _ | .galRxd .. | .nreset | .bootsel | .hmode | .tamp _ | .vsel _
  | .test => .input
  | .xi | .xo => .crystal
  | .ain _ | .adcRefc | .dnc _ => .analog

/-- The ball carries the weak pull-down. -/
def Signal.pulled : Signal → Bool
  | .pwm _ | .cko .. | .ltn .. | .xspiClk | .xspiNcs | .xspiNrst | .hbusy | .galTxc _ | .galTxCtl _ | .galTxd ..
  | .galNprst _ | .nerr | .xi | .xo | .ain _ | .adcRefc | .dnc _ => false
  | _ => true

/-- The balls that carry guarded outputs (R537). -/
def Signal.guarded : Signal → Bool
  | .pwm _ | .ltn .. | .sapDo _ => true
  | _ => false

/-! ### The boundary-scan register (R536) -/

/-- A ball that the boundary-scan register leaves out. -/
def Signal.unscanned : Signal → Bool
  | .tck | .tms | .tdi | .tdo | .ntrst | .nreset | .test | .xi | .xo | .ain _ | .adcRefc | .dnc _ => true
  | _ => false

/-- A cell captures the input, gives the output, or enables the driver. -/
inductive CellKind where
  | input | output | enable
  deriving DecidableEq, Repr

/-- The cells of a ball: three of a single-ended one, two at the P ball of an LVDS pair, none at its N ball. -/
def cellsOf (x : Signal) : List (Signal × CellKind) :=
  if x.unscanned then []
  else
    match x with
    | .cko _ p | .ltn _ _ p => if p then [(x, .output), (x, .enable)] else []
    | _ => [(x, .input), (x, .output), (x, .enable)]

/-- The cells in order; cell 0 is the first that is shifted out. -/
def scanCells : List (Signal × CellKind) := signals.flatMap cellsOf

/-- The signal at whose cells a ball's level stands: the P ball's for the N ball of a pair. -/
def Signal.cellOwner : Signal → Signal
  | .cko k _ => .cko k true
  | .ltn n l _ => .ltn n l true
  | x => x

/-- A ball is the N ball of a pair, which complements the P ball. -/
def Signal.complement : Signal → Bool
  | .cko _ p | .ltn _ _ p => !p
  | _ => false

/-! ### The lines of the serial host and boot ports (R529) -/

/-- The bits of a byte, most significant first (R157). -/
def msbFirst (b : Byte) : List Bool := (List.range 8).map fun i => b.getLsbD (7 - i)

/-- A byte that the host SPI slave sends, clock by clock, with the line of each bit: HIO1 in the single-line commands; in
QREAD a nibble a clock, the high one first, HIO0 carrying its least significant bit. -/
def hioSends (quad : Bool) (b : Byte) : List (List (Nat × Bool)) :=
  if quad then [4, 0].map fun o => (List.range 4).map fun k => (k, b.getLsbD (o + k))
  else (msbFirst b).map fun v => [(1, v)]

/-- The byte that it receives: from HIO0 in the single-line commands, where HIO2 and HIO3 are ignored; from HIO0 to HIO3
in QWRITE. A clock gives the levels of HIO0 to HIO3. -/
def hioTakes (quad : Bool) (clocks : List (BitVec 4)) : Byte :=
  if quad then clocks.getD 0 0 ++ clocks.getD 1 0
  else (clocks.take 8).foldl (fun a c => (a <<< 1) ||| (if c.getLsbD 0 then 1 else 0)) 0#8

/-- A byte that the xSPI boot interface sends in 1-1-1 mode, on XSPI_IO0, and the byte that it receives from the levels of
XSPI_IO0 to XSPI_IO7: those of XSPI_IO1. -/
def xspiSends (b : Byte) : List (List (Nat × Bool)) := (msbFirst b).map fun v => [(0, v)]
def xspiTakes (clocks : List Byte) : Byte :=
  (clocks.take 8).foldl (fun a c => (a <<< 1) ||| (if c.getLsbD 1 then 1 else 0)) 0#8

end Sys2Proof.Machine
end

