-- ==== Sys2Proof/Machine/Pins.lean ====
section
/-! DEFINITION. What the device drives on each of its balls (R104, R528, R529, R536 to R538), a function of the state, and the
rates of the clocks among them. Inputs are operands of the commands. -/

namespace Sys2Proof.Machine

open Sys2Proof

/-- What an output driver does (R528): off, so that the pull acts; an open-drain ball released; a level; or the
waveform that the ball's own rule gives. -/
inductive Drive where
  | off | released | low | high | wave
  deriving DecidableEq, Repr

/-- The level of an output. -/
def levelOf (b : Bool) : Drive := if b then .high else .low

/-- A two-wire controller moves a transaction on its bus (R457). -/
def twMoves (s : State) (k : Nat) : Drive := if s.rb (rLTN_TW_STAT k) LTN_TW_STAT.BUSY then .wave else .released

/-- The clock of SYNn runs: it is enabled and in lock, and held low otherwise (R389). -/
def synRuns (s : State) (n : Nat) : Bool := s.rb (rSYN_CTL n) SYN_CTL.EN && s.rb (rSYN_STAT n) SYN_STAT.LOCK

/-- The synthesizer of clock output k; a SRC of 3 acts as 0 (R392). -/
def ckoSyn (s : State) (k : Nat) : Nat := s.rf (rSYN_CKO k) SYN_CKO.SRC % 3

/-- A ball of clock output k (R392). -/
def ckoDrive (s : State) (k : Nat) (p : Bool) : Drive :=
  let clock := if synRuns s (ckoSyn s k) then Drive.wave else .low
  match s.rf (rSYN_CKO k) SYN_CKO.FMT with
  | 1 => if p then clock else .off
  | 2 => clock
  | _ =>
    match s.rf (rSYN_CKO k) SYN_CKO.DIS with
    | 1 => .low
    | 2 => .high
    | _ => .off

/-- DO of serial audio port n (R307, R308). -/
def sapDoDrive (s : State) (n : Nat) : Drive :=
  if sapState s n ≠ 0 then .wave
  else if !(sapOf s n).parked then .off
  else if cfgOf SAP_CTL.HIZ (sapOf s n).ctl = 1 then .off
  else .low

/-- BCK and FS of serial audio port n: a master drives them while it has started, and low once it has stopped or while
its clock source does not run (R298, R307 to R309). -/
def sapClkDrive (s : State) (n : Nat) : Drive :=
  if !sapMaster (sapOf s n) then .off
  else if sapState s n ≠ 0 then (if sapSourceOn s n then .wave else .low)
  else if (sapOf s n).parked then .low else .off

/-- AVSBus is in use: IFACE selects it and the mode in effect is MANUAL or AUTO (R75, R76). -/
def avsOn (s : State) : Bool := s.rf rWTB_CTL WTB_CTL.IFACE == 0 && decide (s.wtb.mode % 3 ≠ 0)

/-- AVS_CLK and AVS_MDATA: they move in a transaction and are high between two (DESIGN CHOICE, notes/assumptions/106.md). -/
def avsDrive (s : State) : Drive := if !avsOn s then .off else if s.wtb.avs.isSome then .wave else .high

/-- HIOk: the slave sends on HIO1 in the single-line commands and on all four lines in QREAD (R529). -/
def hioDrive (s : State) (k : Nat) : Drive :=
  if s.hwn.spiOpen && s.hwn.sends && (s.hwn.quad || k == 1) then .wave else .off

/-- A ball of the RGMII transmit side (R317). -/
def rgmiiDrive (s : State) : Drive := if txcRuns s then .wave else .low

/-- DMXd_TX (R311, R312): mark between frames. -/
def dmxDrive (s : State) (d : Nat) : Drive :=
  if s.rf (rDMX_CTL d) DMX_CTL.MODE = 0 then .off
  else if (dmxOf s d).tx = [] then .high
  else levelOf (dmxLevel (dmxOf s d) (s.dtm.ticks - (dmxOf s d).began))

/-- A ball of Lantern port n: the clock runs while the port does, and the data lanes are low in blanking (R430, R431,
R437). -/
def ltnDrive (s : State) (n lane : Nat) (p : Bool) : Drive :=
  if !(ltnOf s n).on || !s.domOn (ltnDomain n) then .off
  else if lane = 0 || (ltnOf s n).sending then .wave
  else levelOf (!p)

/-- A ball in its functional state, the Guide having been released (R528). -/
def runDrive (s : State) : Signal → Drive
  | .pwm n => if pwmHigh s n = [] then .low else .wave
  | .cko k p => ckoDrive s k p
  | .ltn n lane p => ltnDrive s n lane p
  | .cartScl c | .cartSda c => twMoves s c
  | .tw4Scl | .tw4Sda => twMoves s 4
  | .sapBck n | .sapFs n => sapClkDrive s n
  | .sapDo n => sapDoDrive s n
  | .dmxTx d => dmxDrive s d
  | .dmxDe d => if s.rf (rDMX_CTL d) DMX_CTL.MODE = 0 then .off else levelOf (dmxOf s d).de
  | .ppso => if pulseDriven (s.rb rDTM_PPSO_CTL DTM_PPSO_CTL.EN) s.dtm.ppso s.dtm.tb then levelOf s.dtm.ppso.high else .off
  | .frmo => if pulseDriven (s.rb rDTM_FRMO_CTL DTM_FRMO_CTL.EN) s.dtm.frmo s.dtm.tb then levelOf s.dtm.frmo.high else .off
  | .xspiClk => .low
  | .xspiNcs | .xspiNrst => .high
  | .avsClk | .avsMdata => avsDrive s
  | .vid k =>
    match s.wtb.vid with
    | some c => levelOf (c.testBit k)
    | none => .off
  | .hio k => hioDrive s k
  | .hbusy => levelOf s.hwn.hbusy
  | .nhint => if nHintLow s then .low else .released
  | .galTxc _ | .galTxCtl _ | .galTxd _ _ => rgmiiDrive s
  | .galNprst n => levelOf (s.rb (rGAL_PORT n) GAL_PORT.PRST_REL)
  | .galMdc => if !s.gal.mdc then .off else if s.gal.mdio.isSome then .wave else .low
  | .galMdio => if s.gal.mdio.isSome then .wave else .off
  | .nerr => if s.rf rSMP_NERR SMP_NERR.CLASS = 0 then .released else .low
  -- inputs; HD0 to HD15 and XSPI drive only within a command, TDO only in Shift-IR and Shift-DR
  | .xspiDqs | .xspiIo _ | .hd _ | .tdo | .cartNprs _ | .sapDi _ | .mcki _ | .dmxRx _ | .ppsi | .wclk | .tsin _ | .avsSdata
  | .tck | .tms | .tdi | .ntrst | .galRxc _ | .galRxCtl _ | .galRxd _ _ | .nreset | .bootsel | .hmode | .tamp _ | .vsel _
  | .xi | .xo | .test | .dnc _ | .ain _ | .adcRefc | .nhcs | .hsck | .nhrd | .nhwr | .ha _ => .off

/-- A ball during reset and boot (R104, R528). The xSPI balls move as the boot sequencer drives them while it reads the
flash, which no state between two commands shows. -/
def bootDrive (s : State) (x : Signal) : Drive :=
  match x with
  | .pwm _ | .xspiClk | .galTxc _ | .galTxCtl _ | .galTxd _ _ | .galNprst _ => .low
  | .xspiNcs => .high
  | .xspiNrst => levelOf (s.rst.phase == .hostWait)
  | .hbusy => levelOf s.hwn.hbusy
  | .hio k => hioDrive s k
  | _ => if x.type = .openDrain then .released else .off

/-! ### Test access (R535 to R538) -/

/-- A ball that carries a guarded output under EXTEST, CLAMP and HIGHZ: the Gate's safe level (R537). -/
def safeDrive : Signal → Drive
  | .ltn .. => .off
  | _ => .low

/-- The level in a cell of the boundary-scan register. -/
def cellLevel (s : State) (x : Signal) (k : CellKind) : Bool := s.jtag.cells.getLsbD (scanCells.idxOf (x, k))

/-- A ball under EXTEST and CLAMP: driven from its cells. An enable cell of 1 turns the driver on, a ball without an
output driver stays as it is, and an open-drain ball drives only low (DEDUCED, notes/assumptions/106.md). -/
def cellDrive (s : State) (x : Signal) : Drive :=
  if x.type = .input then .off
  else if !cellLevel s x.cellOwner .enable then (if x.type = .openDrain then .released else .off)
  else
    let v := cellLevel s x.cellOwner .output != x.complement
    if x.type = .openDrain && v then .released else levelOf v

/-- What the device drives on a ball: its functional state, but under EXTEST, CLAMP and HIGHZ the test state of every
ball that the boundary-scan register covers (R535 to R538). -/
def pinDrive (s : State) (x : Signal) : Drive :=
  let f := if s.running then runDrive s x else bootDrive s x
  if x.unscanned then f
  else
    match tapActs s with
    | 0x00 | 0x05 => if x.guarded then safeDrive x else cellDrive s x
    | 0x04 => if x.guarded then safeDrive x else if x.type = .openDrain then .released else .off
    | _ => f

/-! ### The clocks on the balls -/

/-- A rate of n/d Hz. -/
def hertz (n d : Nat) : Frac := Frac.quot n d

/-- The rate of clock output k while it runs: the clock of its synthesizer, divided by CDIV + 1 (R392). -/
def ckoHz (s : State) (k : Nat) : Frac := (synHz s (ckoSyn s k)).mul (Frac.quot 1 (s.rf (rSYN_CKO k) SYN_CKO.CDIV + 1))

/-- BCK of a master port whose source clock runs at f: f divided by DIV + 1 (R298). -/
def bckHz (s : State) (n : Nat) (f : Frac) : Frac := f.mul (Frac.quot 1 (cfgOf SAP_CLK.DIV (sapOf s n).clk + 1))

/-- BCK of a master port fed by a synthesizer. -/
def bckSynHz (s : State) (n : Nat) : Frac := bckHz s n (synHz s (cfgOf SAP_CLK.SRC (sapOf s n).clk))

/-- GALn_TXC: 125 MHz, or 25 MHz or 2.5 MHz on a management port (R317). -/
def txcHz (s : State) (n : Nat) : Frac := hertz (1000 * txcKilohertz s n) 1

end Sys2Proof.Machine
end

