-- ==== Sys2Proof/Tests/Slice0.lean ====
section
/-! SUPPORT. Tests: ill-formed commands are refused, words of the encoding tables decode, and for every obligation a
state and operands that meet the hypotheses of its clauses (witness_<obligation>). -/

namespace Sys2Proof.Tests

set_option Elab.async false

open Sys2Proof Sys2Proof.Machine

/-! ### Ill-formed commands, one for each check of WellFormed.lean -/

/-- A cartridge element whose fields have their lengths. -/
def element : CartElement :=
  { id := List.replicate 544 0, key := List.replicate 32 0, fails := 0, lifeA := List.replicate 16 0
    lifeB := List.replicate 16 0 }

theorem test_illformed_block : wellFormed (.blockResetEnd 36) = false := by decide

theorem test_illformed_master : (wellFormed (.registerWrite 6 0 false 0) || wellFormed (.rcRead 7 0 false) ||
    wellFormed (.aliasRead 6 0 false) || wellFormed (.peakClr 6) || wellFormed (.dtmTbNsRead 6) ||
    wellFormed (.keystoreWindowWrite 6 0 false 0)) = false := by decide

theorem test_illformed_monitor : (wellFormed (.unitCompletion 36) || wellFormed (.unitDeadlineMiss 63 0) ||
    wellFormed (.minClr 36)) = false := by decide

theorem test_illformed_domain : (wellFormed (.pwrModeOn 136) || wellFormed (.pwrModeAuto 255) ||
    wellFormed (.pwrModeRetain 136) || wellFormed (.pwrModeOff 136) || wellFormed (.pwrHoldWrite 136 true) ||
    wellFormed (.domainWake 136) || wellFormed (.domainWakeComplete 136) ||
    wellFormed (.sleepTransitionEnd 136)) = false := by decide

theorem test_illformed_ident : (wellFormed (.cavernRead 60 0 false 0) || wellFormed (.cavernWrite 63 0 false 0 0) ||
    wellFormed (.cavernBitSetWrite 60 0 false 0 0) || wellFormed (.cavernBitClearWrite 60 0 false 0 0) ||
    wellFormed (.bmxTransactionIssue 60 0 4 false 0)) = false := by decide

theorem test_illformed_width : (wellFormed (.hostPortAAccess 0 0 3 false 0 []) ||
    wellFormed (.hostPortAAccess 6 0 4 false 0 []) || wellFormed (.bmxTransactionIssue 0 0 0 false 0)) = false := by
  decide

theorem test_illformed_length : (wellFormed (.dmxRxFrame 0 0 0 (List.replicate 514 0) false 0) ||
    wellFormed (.trainSection 0 0 [] [] 0) || wellFormed (.msgSetdata 0 0 0 [0, 0, 0, 0, 0]) ||
    wellFormed (.msgAssign [0] 0) || wellFormed (.msgUser 0 (List.replicate 31 0)) ||
    wellFormed (.jtagResp (List.replicate 64 0) [])) = false := by decide +kernel

theorem test_illformed_index : (wellFormed (.synConfigWrite 3 0 0 0) || wellFormed (.synLock 3) ||
    wellFormed (.synUnlock 3) || wellFormed (.synStepWrite 3 0) || wellFormed (.pwmDpWrite 36 0 0) ||
    wellFormed (.comparatorTrip 12 0) || wellFormed (.comparatorRelease 15 0) || wellFormed (.twGo 5) ||
    wellFormed (.twTransactionDone 5 false false 0 [])) = false := by decide

theorem test_illformed_element : (wellFormed (.cartProbe 0 { element with id := [] }) ||
    wellFormed (.cartReauth 0 { element with key := [] }) || wellFormed (.cartProbe 0 { element with lifeA := [] }) ||
    wellFormed (.cartReauth 0 { element with lifeB := [] })) = false := by decide +kernel

theorem test_wellformed : (wellFormed (.cartProbe 0 element) && wellFormed (.blockResetEnd 35) &&
    wellFormed (.bmxTransactionIssue 59 0 8 false 0) && wellFormed (.jtagResp (List.replicate 64 0) (List.replicate 64 0)))
    = true := by decide +kernel

/-! ### Words written out from the encoding tables (R111, R112, R114) -/

theorem test_words_a : decodeWord 0b00011_00100_00101_0000000000_000000_1#32 = .gdeAdd 3 4 5 ∧
    decodeWord 0b00011_00100_00101_0000000001_000000_1#32 = .gdeSub 3 4 5 ∧
    decodeWord 0b11111_00000_10000_0000011011_000000_1#32 = .gdeRemu 31 0 16 ∧
    decodeWord 0b00111_00001_00000_0000100010_000000_1#32 = .gdeClz 7 1 0 ∧
    decodeWord 0b00000_00000_00000_0000000010_110000_1#32 = .gdeExret 0 0 0 := by decide

theorem test_words_i : decodeWord 0b00001_00010_111111111111111_000001_1#32 = .gdeAddi 1 2 0x7FFF ∧
    decodeWord 0b01010_10101_000000000000100_010100_1#32 = .gdeLdw 10 21 4 ∧
    decodeWord 0b01010_10101_000000000000100_011010_1#32 = .gdeStw 10 21 4 ∧
    decodeWord 0b00110_00111_100000000000000_100010_1#32 = .gdeBrlt 6 7 0x4000 := by decide

theorem test_words_u_j : decodeWord 0b00100_10000000000000000001_001010_1#32 = .gdeHimm 4 0x80001 ∧
    decodeWord 0b1000000000000000000000001_101000_1#32 = .gdeCall 0x1000001 := by decide

theorem test_words_system : decodeWord 0b01001_00000_00000000000110_0_110001_1#32 = .gdeMfs 9 0 12 ∧
    decodeWord 0b11111_01001_100000000000110_110001_1#32 = .gdeMts 31 9 6 := by decide

theorem test_halfwords : decodeHalf 0b0001_00101_111111_0#16 = .gdeAddq 5 0x3F ∧
    decodeHalf 0b0110_10000000001_0#16 = .gdeBraq 0x401 ∧
    decodeHalf 0b0111_00011_1_00100_0#16 = .gdeSubrq 3 4 ∧
    decodeHalf 0b1011_00011_0_11111_0#16 = .gdeShlq 3 31 := by decide

theorem test_unlisted_words : decodeWord 0b00000_00000_00000_0000000000_111111_1#32 = .gdeIllegalInstruction ∧
    decodeHalf 0 = .gdeIllegalInstruction := by decide

/-! ### States to build witnesses from -/

/-- The device after its boot, with the registers rs as listed and everything else as after reset. -/
def up (rs : List (Nat × W64)) : State :=
  { State.reset with rst := { State.reset.rst with phase := .running }, regs := rs }

/-- The same with the Guide changed. -/
def upGde (f : Gde → Gde) (rs : List (Nat × W64)) : State := { up rs with gde := f (up rs).gde }

/-- The Guide in bank b with the value v in g5. -/
def guideWith (b : Nat) (v : W32) : State :=
  upGde (fun g => { g with banks := [(b, { Bank.init with g := [(5, v)] })] }) [(rGDE_STAT, BitVec.ofNat 64 b)]

/-! ### The step, reset and the invariants -/

theorem witness_EveryStepRunsAndAnEmptyQueueTicks :
    State.reset.pending = [] ∧ State.reset.rst.phase = .inReset ∧ (up []).pending = [] := by decide +kernel

theorem witness_EveryStepKeepsTheInvariant : regsWf State.reset.regs = true ∧ memWf State.reset = true ∧
    zeroReg State.reset ∧ ∃ t, step State.reset = .next t := ⟨rfl, rfl, fun _ => rfl, _, rfl⟩

theorem witness_NoCommandLowersAFloor : ∃ t, exec (.keystoreWriteDone false) (up []) = .next t := ⟨_, rfl⟩

theorem witness_DeviceInResetIgnoresItsCommands :
    State.reset.rst.phase = .inReset ∧ actsInReset .cycleBoundary = false := by decide

/-! ### The Guide -/

/-- Instructions of 4 and of 2 bytes are executed, whatever registers they name. -/
theorem witness_GuideThreeRegisterResults : guideReady (up []) 4 [31, 0, 31] = true := by decide +kernel

theorem witness_GuideDivisionResults : guideReady (guideWith 8 0x80000000) 4 [31, 5, 0] = true ∧
    gReg (guideWith 8 0x80000000) 5 = 0x80000000#32 ∧ gReg (guideWith 8 0xFFFFFFFF) 5 = 0xFFFFFFFF#32 ∧
    gReg (up []) 0 = 0 := by decide +kernel

theorem witness_GuideImmediateAndShortResults :
    let s := guideWith 8 0x80000000
    guideReady s 4 [31, 5] = true ∧ guideReady s 4 [31] = true ∧ guideReady s 4 [] = true ∧
      guideReady s 2 [31, 5] = true ∧ guideReady s 2 [31] = true ∧ guideReady s 2 [] = true ∧
      (31 : BitVec 15).toNat < 32 ∧ 32 ≤ (32 : BitVec 15).toNat ∧ (31 : BitVec 5) ≠ 0 ∧ curBank s ≠ 9 ∧
      (bankOf s (curBank s)).exc = false := by decide +kernel

theorem witness_GuideBranchesAndJumps :
    let s := guideWith 8 0x80000000
    guideReady s 4 [0, 5] = true ∧ guideReady s 2 [5] = true ∧ gReg s 0 = 0 ∧ guideReady s 4 [] = true ∧
      guideReady s 2 [] = true ∧ guideReady s 4 [28] = true ∧ guideReady s 4 [31, 5] = true ∧
      guideReady s 2 [28, 5] = true ∧ gReg s 5 ≠ gReg s 0 ∧ gReg s 0 = gReg s 1 := by decide +kernel

/-- The edges of the two memories, an address of each alignment and one of none. -/
theorem witness_GuideLocalLoadsAndStores :
    let at1 := fun (v : W32) => guideWith 8 v
    let a := fun v => (gReg (at1 v) 5 + (0 : BitVec 15).signExtend 32).toNat
    guideReady (at1 0) 4 [31, 5] = true ∧ guideOwn (a 0x3FFFF) ∧ guideOwn (a 0x11FFF8) ∧ a 0x11FFF8 % 8 = 0 ∧
      guideOwn (a 0x100002) ∧ a 0x100002 % 2 = 0 ∧ a 0x100003 % 2 ≠ 0 ∧ a 0x100002 % 4 ≠ 0 ∧ a 0x100004 % 8 ≠ 0 ∧
      guideReady (at1 0) 2 [30, 29] = true ∧ guideOwn (gReg (at1 0) 29 + BitVec.ofNat 32 (4 * 63)).toNat ∧
      guideReady (at1 0) 4 [30, 31, 5] = true ∧ (30 : BitVec 5).toNat % 2 = 0 ∧ (30 : BitVec 5) ≠ 0 ∧
      (31 : BitVec 5).toNat % 2 = 1 ∧ curBank (at1 0) ≠ 9 ∧ (bankOf (at1 0) (curBank (at1 0))).exc = false := by
  unfold guideOwn; decide +kernel

/-- g29 leads ldq and stq to an address that is not aligned. -/
theorem witness_GuideLocalLoadsAndStores_short :
    let s := upGde (fun g => { g with banks := [(8, { Bank.init with g := [(29, 2)] })] }) []
    guideReady s 2 [31, 29] = true ∧ (gReg s 29 + BitVec.ofNat 32 (4 * (1 : BitVec 6).toNat)).toNat % 4 ≠ 0 := by
  decide +kernel

theorem witness_GuideEncodingRoundTrip : (∃ w, guideWord (.gdeRemu 31 31 31) = some w ∧ w.getLsbD 0 = true ∧
    decodeWord w ≠ .gdeIllegalInstruction) ∧
    ∃ h, guideHalf (.gdeShrq 31 31) = some h ∧ h.getLsbD 0 = false ∧ decodeHalf h ≠ .gdeIllegalInstruction :=
  ⟨⟨_, rfl, by decide, by decide⟩, _, rfl, by decide, by decide⟩

/-- A handler of BB whose double exception resets nothing: the source is at its reset value, INT. -/
theorem witness_GuideExceptionAndNmiEntryAndReturn :
    let s := guideWith 8 0
    let d := upGde (fun g => { g with banks := [(8, { Bank.init with exc := true })] }) []
    let u := raise srcDoubleExc (onBank 8 (fun x => { x with exc := false }) d)
    guideReady s 4 [] = true ∧ curBank s = 8 ∧ (bankOf s 8).exc = false ∧ guideReady d 4 [] = true ∧ curBank d = 8 ∧
      (bankOf d 8).exc = true ∧ u.held 16 = false ∧ u.running = true := by decide +kernel

theorem witness_GuideExceptionAndNmiEntryAndReturn_nmi :
    let s := upGde (fun g => { g with nmiSignal := true }) []
    let b := up [(rGDE_STAT, 9)]
    awake s ∧ guideLive s = true ∧ s.gde.nmiSignal = true ∧ bankLoads s = false ∧ curBank s ≠ 9 ∧
      guideReady b 4 [] = true ∧ curBank b = 9 ∧ b.gde.nstat ≤ 8 := by unfold awake; decide +kernel

theorem witness_GuideSystemInstructions :
    let l := upGde (fun g => { g with loads := [⟨8, 5, 0x40000000, 4, false, 0, 0, 0⟩] }) []
    guideReady (up []) 4 [] = true ∧ (up []).gde.loads = [] ∧ (up []).gde.stores = [] ∧ (up []).gde.posts = [] ∧ guideReady l 4 [] = true ∧
      l.gde.loads ≠ [] ∧ curBank (up []) = 8 ∧ guideReady (guideWith 7 0) 4 [] = true ∧ curBank (guideWith 7 0) ≠ 8 ∧
      curBank (guideWith 7 0) ≠ 9 ∧ (31 : BitVec 5) ≠ 0 := by decide +kernel

theorem witness_GuideSystemRegisters :
    guideReady (up []) 4 [31] = true ∧ curBank (up []) ≤ 9 ∧ (bankOf (up []) (curBank (up []))).slot < 64 ∧
      curBank (guideWith 9 0) = 9 ∧ guideReady (guideWith 9 0) 4 [31] = true ∧ 9 ≤ (9 : BitVec 14).toNat ∧
      guideReady (guideWith 8 0x3FF00) 4 [5] = true ∧ (gReg (guideWith 8 0x3FF00) 5).toNat % 256 = 0 ∧
      (gReg (guideWith 8 0x3FF00) 5).toNat < 0x40000 := by decide +kernel

theorem witness_VbaseIsAlignedAndInsideInstructionMemory :
    guideReady (guideWith 8 0x40000) 4 [5] = true ∧ 0x40000 ≤ (gReg (guideWith 8 0x40000) 5).toNat ∧
      guideReady (guideWith 8 1) 4 [5] = true ∧ (gReg (guideWith 8 1) 5).toNat % 256 ≠ 0 ∧
      curBank (guideWith 8 1) ≠ 9 ∧ (bankOf (guideWith 8 1) 8).exc = false ∧
      (takeException 1 0 false (guideWith 8 1)).held 16 = false := by decide +kernel

/-- Slots 0 and 63 of the highest and the lowest priority; an instance that pre-empted another. -/
theorem witness_TasksDispatchAndEnd :
    let s := upGde (fun g => { g with decided := some 63, pend := [63] }) []
    let c := [(rGDE_STAT, 7#64), (rGDE_TASK_CFG 0, 0x80000007#64), (rGDE_TASK_CFG 63, 0x80000001#64)]
    let e := upGde (fun g => { g with pend := [63, 0], active := [(5, 7), (6, 3)] }) c
    let f := upGde (fun g => { g with pend := [63], active := [(5, 7), (6, 3)] }) c
    awake s ∧ guideLive s = true ∧ s.gde.nmiSignal = false ∧ bankLoads s = false ∧ s.gde.decided = some 63 ∧
      guideReady e 4 [] = true ∧ curBank e < 8 ∧ e.gde.pend = [63] ++ 0 :: [] ∧ taskPrio e 63 < taskPrio e 0 ∧
      3 < taskPrio e 0 ∧ guideReady f 4 [] = true ∧ ∀ n ∈ f.gde.pend, ¬ 3 < taskPrio f n := by unfold awake; decide +kernel

theorem witness_RosterArbitrates :
    let s := upGde (fun g => { g with windowOpen := true, readies := [63, 0, 63], cancels := [0], pend := [5] })
      [(rGDE_TASK_CFG 63, 0x80000007#64)]
    (fwReaches s rGDE_ROSTER_READY ∧ fwReaches s rGDE_ROSTER_CANCEL ∧ fwReaches s (rGDE_TASK_CFG 63)) ∧ awake s ∧
      s.gde.windowOpen = true ∧ (∀ n ∈ s.gde.readies, n < 64) ∧ curBank s ≠ 9 ∧
      s.rb (rGDE_TASK_CFG 63) GDE_TASK_CFG.EN = true ∧ taskPrio s 5 < taskPrio s 63 := by
  unfold fwReaches awake; decide +kernel

theorem witness_RosterArbitrates_none :
    let s := upGde (fun g => { g with windowOpen := true, active := [(1, 7)], pend := [5] }) []
    let b := upGde (fun g => { g with windowOpen := true }) [(rGDE_STAT, 9)]
    s.gde.windowOpen = true ∧ curBank s ≠ 9 ∧ (∀ n ∈ s.gde.pend, ¬ 7 < taskPrio s n) ∧ b.gde.windowOpen = true ∧
      curBank b = 9 := by decide +kernel

/-- A load of a register of the peripherals with and without a free entry; a load and a store that have been answered. -/
theorem witness_GuideMatrixAccessesAndTheirEnds :
    let s := guideWith 8 0x40070000
    let a := gReg s 5 + (0 : BitVec 15).signExtend 32
    let ld : GLoad := ⟨8, 5, 0x40070000, 4, false, 0, 0, 0⟩
    let full := upGde (fun g => { g with loads := List.replicate 8 ld, banks := s.gde.banks }) []
    let queue := upGde (fun g => { g with posts := List.replicate 8 ⟨0x40070000, 4, 1⟩, banks := s.gde.banks }) []
    let x := routeAccess 0 a.toNat 4 false 0 [] (takeEntry 0 (setPc (guidePc s + 4) s))
    let y := routeAccess 0 a.toNat 4 true 0 [] (takeEntry 0 (setPc (guidePc s + 4) s))
    guideReady s 4 [31, 5] = true ∧ ¬ guideOwn a.toNat ∧ a.toNat % 4 = 0 ∧ guideFull s = false ∧
      x.2.running = true ∧ x.2.held 16 = false ∧ y.2.running = true ∧ y.2.held 16 = false ∧ s.gde.posts = [] ∧
      guideReady full 4 [31, 7] = true ∧ 8 ≤ full.gde.loads.length ∧ full.gde.waits = false ∧
      guideReady queue 4 [31, 7] = true ∧ 8 ≤ queue.gde.posts.length := by
  unfold guideOwn; decide +kernel

theorem witness_GuideMatrixAccessesAndTheirEnds_ends :
    let good : GLoad := ⟨9, 31, 0x40070000, 4, false, 1, 0, 1⟩
    let bad : GLoad := ⟨0, 30, 0x400, 8, false, 0, 4, 2⟩
    let e : GStore := ⟨0x40170000, 4, true, 3⟩
    let s := upGde (fun g => { g with loads := [good, bad], stores := [e] }) []
    let q := upGde (fun g => { g with posts := [⟨0x40070000, 4, 1⟩] }) []
    awake s ∧ s.gde.loads[0]? = some good ∧ s.gde.loads[1]? = some bad ∧ good.bank < 10 ∧ good.code = 0 ∧
      bad.code ≠ 0 ∧ inOrder s good.seq 0 good.addr = true ∧ inOrder s bad.seq 0 bad.addr = true ∧
      s.gde.stores[0]? = some e ∧ inOrder s e.seq 0 e.addr = true ∧ e.live = true ∧ s.jtag.busy = none ∧ s.txns = [] ∧
      identFree q 0 = true ∧ q.held 16 = false := by unfold awake; decide +kernel

/-! ### Registers, Cavern and the matrix's errors -/

/-- SEC_CE_LEN, whose write has no effect beside its fields. -/
theorem witness_RegisterWriteStoresByFieldType :
    let s := up []
    let a := rSEC_CE_LEN
    s.running = true ∧ (∃ d, regAt a = some d ∧ d.wide = false) ∧ a < 0x40190000 ∧ storesOnly s a ∧ regHeld s a = false ∧
      inCeBuf a = false ∧ a ≠ rCFL_XP_DATA ∧ mayAccess s (firstIdent 0) a ∧ mayAccess s (firstIdent 1) a ∧
      mayAccess s 0 (a + 0x10000000) ∧ mayAccess s 0 (a + 0x20000000) :=
  ⟨rfl, ⟨_, rfl, rfl⟩, by decide +kernel, ⟨by decide +kernel, fun _ _ _ _ => rfl⟩, by decide +kernel, by decide +kernel,
    by decide +kernel, by unfold mayAccess; decide +kernel, by unfold mayAccess; decide +kernel,
    by unfold mayAccess; decide +kernel, by unfold mayAccess; decide +kernel⟩

/-- The last source's counter. -/
theorem witness_ReadOfAnRcFieldClearsIt :
    let s := up [(rSMP_CNT 159, 0xFFFF)]
    let a := rSMP_CNT 159
    s.running = true ∧ mayAccess s (firstIdent 1) a ∧
      (∃ d, regAt a = some d ∧ d.flds.any (fun f => f.ty == .rc) = true) ∧
      a < 0x40190000 ∧ regHeld s a = false ∧ inCeBuf a = false ∧ regView (takeEntry 1 s) a = s.reg a ∧
      a ∉ [rDTM_TB_NS, rDTM_TB_SEC, rDTM_CYCLE] ∧ a ≠ rBMX_OUT 1 :=
  ⟨rfl, by unfold mayAccess; decide +kernel, ⟨_, rfl, by decide +kernel⟩, by decide +kernel, by decide +kernel,
    by decide +kernel, by decide +kernel, by decide +kernel, by decide +kernel⟩

/-- The last word of Cavern's second alias window, and a register in the bit-set window of the peripherals. -/
theorem witness_AliasReadIsNotPerformed :
    let s := up []
    s.running = true ∧ mayAccess s (firstIdent 3) 0x127FFFF8 ∧ regionOf 0x127FFFF8 = some (.cavern 2, 0x7FFFF8) ∧
      hasPath 3 (.cavern 2) false = true ∧ 0x7FFFF8 % 8 = 0 ∧ mayAccess s (firstIdent 0) (0x50000000 + 0x70000) ∧
      regionOf (0x50000000 + 0x70000) = some (.periph 1, 0x70000) ∧
      hasPath 0 (.periph 1) false = true ∧ ∃ d, regAt (periphBase + 0x70000) = some d ∧ d.wide = false :=
  ⟨rfl, by unfold mayAccess; decide +kernel, rfl, rfl, rfl, by unfold mayAccess; decide +kernel, rfl, rfl, _, rfl, rfl⟩

theorem witness_ErrorResponseIsCountedLoggedAndReported :
    let s := up []
    let t := up [(rBMX_ERR_INFO, 0x80000000)]
    s.running = true ∧ mayAccess s 0 0x40000 ∧ mayAccess s 0 0x4000FFFC ∧
      s.rb rBMX_ERR_INFO BMX_ERR_INFO.VALID = false ∧
      t.rb rBMX_ERR_INFO BMX_ERR_INFO.VALID = true ∧ regionOf 0x40000 = none ∧ regionOf 0xFFFFFFFF = none ∧
      regHit 0x4000FFFC 4 = .inl 4 := by unfold mayAccess; decide +kernel

/-- Word 0, the last word before the event log, the last word of Cavern; an unpowered half. -/
theorem witness_CavernAccesses :
    let s := up []
    let off := up [(rPWR_DOM_STAT 80, 3)]
    s.running = true ∧ (59 : BitVec 6).toNat < 60 ∧ masterOf 59 = 5 ∧ masterOf 23 = 1 ∧ masterOf 0 = 0 ∧
      (∀ i ∈ [0, 23, 59], ∀ win ∈ [0, 1, 2], mayAccess s i (0x10000000 + 0x1000000 * win + 0x7FFFF8)) ∧
      tget s.cav.flips 0 1048575 = 0 ∧ s.domOn (cavDomain 1048575) = true ∧ s.domOn (cavDomain 0) = true ∧
      s.domOn (cavDomain 1044479) = true ∧ 0x7FFFF8 / 8 = 1048575 ∧ 1044480 ≤ 1048575 ∧ 0x7FFFFD % 4 ≠ 0 ∧
      off.domOn (cavDomain 0) = false ∧ (∀ win ∈ [0, 1, 2], mayAccess off 0 (0x10000000 + 0x1000000 * win)) := by
  unfold mayAccess; decide +kernel

theorem witness_CavernErrorsAreCorrectedOrReported :
    let s := up []
    let off := up [(rMEM_CTL, 0)]
    tget s.cav.flips 0 0 = 0 ∧ s.domOn (cavDomain 0) = true ∧ s.running = true ∧ mayAccess s 0 0x10000000 ∧ awake s ∧
      onesBelow (0 : BitVec 48) 48 = 0 ∧ onesBelow (0x800000000000 : BitVec 48) 48 = 1 ∧
      onesBelow (0x800000000001 : BitVec 48) 48 = 2 ∧ s.rf rMEM_SCRUB_POS MEM_SCRUB_POS.WORD = 0 ∧
      (up [(rMEM_CTL, fput MEM_CTL.SCRUB_EN 0 1)]).rb rMEM_CTL MEM_CTL.SCRUB_EN = true ∧
      off.rb rMEM_CTL MEM_CTL.SCRUB_EN = false := by unfold mayAccess awake; decide +kernel

/-! ### Reset and boot -/

theorem witness_ResetsStartTheDeviceAgain :
    let s := up []
    let l := { s with rst := { s.rst with pinLow := true } }
    let w := { s with smp := { s.smp with chipWait := some (159, 7), lost := some (1, 0, 0) } }
    let d := { w with dtm := { w.dtm with ticks := 5007 } }
    s.rst.pinLow = false ∧ l.rst.pinLow = true ∧ s.running = true ∧ (0xA5C30001#32 >>> 16) = 0xA5C3 ∧
      (0xA5C30001#32).getLsbD 0 = true ∧ (0xA5C30000#32).getLsbD 0 = false ∧ (0xA5C20001#32 >>> 16) ≠ 0xA5C3 ∧
      w.smp.chipWait = some (159, 7) ∧ w.smp.lost ≠ none ∧ ¬ 7 + 5000 ≤ w.dtm.ticks ∧ d.smp.chipWait = some (159, 7) ∧
      7 + 5000 ≤ d.dtm.ticks ∧ s.smp.fifo = [] ∧ s.smp.lost = none ∧ s.rb (rSMP_SRC 159) SMP_SRC.NERR = false ∧
      s.smp.chipWait = none := by decide +kernel

/-- The alarm configuration of OTP names registers once each. -/
theorem witness_ResetsStartTheDeviceAgain_alarms :
    let s := up []
    let t := { s with sec := { s.sec with otp := { s.sec.otp with almDefault := [(rSEC_ALM 0, 1), (rSEC_ALM 6, 2)] } } }
    t.sec.otp.almDefault.Pairwise (fun p q => p.1 ≠ q.1) ∧ (∀ p ∈ t.sec.otp.almDefault, p.1 ≠ rPWR_STAT) := by
  decide +kernel

theorem witness_BlockResetHoldsAndClearsItsBlock :
    let s := up []
    let h := up [(rRST_BLK_STAT, 0x800010000)]
    s.running = true ∧ (0xA5C30023#32 >>> 16) = 0xA5C3 ∧ (0xA5C30023#32).toNat % 64 = 35 ∧
      (0xA5C30024#32).toNat % 64 = 36 ∧ s.held 35 = false ∧ h.held 35 = true ∧ h.held 16 = true ∧ awake h ∧
      (regAt (rGDE_TASK_CFG 63)).isSome = true ∧ regBlock (rGDE_TASK_CFG 63) = some 16 := by unfold awake; decide +kernel

/-- Out of reset, and with nRESET low. -/
theorem witness_BootReleasesTheGuide :
    let s := State.reset
    let l := { s with rst := { s.rst with pinLow := true } }
    s.rst.phase = .inReset ∧ s.rst.pinLow = false ∧ s.sec.lateAlarm = [] ∧ s.sec.eraseMark = none ∧
      l.rst.pinLow = true ∧ (up []).rst.phase ≠ .inReset := by decide +kernel

/-- The device waits for the host with bytes of an image taken and the length of a chunk in word 1. -/
def waiting (img : List Byte) (len : W32) : State :=
  let s := up []
  { s with rst := { s.rst with phase := .hostWait, hostImage := img }, hwn := { s.hwn with arr := [(1, len)] } }

/-- The first chunk at the least and the greatest length, a wrong length, and the last chunk of an image of 192 bytes. -/
theorem witness_BootReleasesTheGuide_host :
    let s := waiting [] 8
    let img := List.replicate 0x14 0#8 ++ [192, 0, 0, 0] ++ List.replicate 160 0#8
    let t := waiting img 8
    let d := ((idxs 16 ((8 + 3) / 4)).flatMap fun w => bytesOf 4 ((hwnWord t w).setWidth 64)).take 8
    s.rst.phase = .hostWait ∧ (hwnWord s 1).toNat = 8 ∧ s.rst.chunk % 65536 = 0 ∧ s.rst.needProfile = false ∧
      (hwnWord (waiting [] 16320) 1).toNat = 16320 ∧ 16320 % 8 = 0 ∧ (hwnWord (waiting [] 16328) 1).toNat = 16328 ∧
      d.length = 8 ∧ 128 ≤ (img ++ d).length ∧ imgNat (hostImg (img ++ d)) 0x14 4 = (img ++ d).length ∧
      ¬ (imgNat (hostImg (img ++ d)) 0 4 = 0x494F424D ∧ imgNat (hostImg (img ++ d)) 6 2 = 2) ∧
      t.sec.lateAlarm = [] := by decide +kernel

/-! ### The cycle -/

/-- A unit of the cycle in progress at tick t, the cycle having begun at tick 0. -/
def running (u t : Nat) : State :=
  let s := up []
  { s with cyc := { s.cyc with units := [(u, .running)] }, dtm := { s.dtm with ticks := t } }

theorem witness_CycleBoundaryAndMidInstant :
    let s := up []
    let m := { s with cyc := { s.cyc with midDone := true } }
    let f := fun g => cycleStart { m with cyc := { m.cyc with famNext := g } }
    awake s ∧ awake m ∧ m.dtm.setPend = none ∧ m.dtm.stepPend = none ∧ m.cyc.midDone = true ∧ s.cyc.midDone = false ∧
      (f none).cyc.famNext = none ∧ (f (some 0)).cyc.famNext = some (f (some 0)).cyc.fam ∧
      (f (some 3)).cyc.famNext = some 3 ∧ 3 ≠ (f (some 3)).cyc.fam ∧
      (∀ n, n < 16 → (cleOf s n).on = false ∨ (cleOf s n).double = false) := by unfold awake; decide +kernel

/-- No unit is in progress; the light pass is, and misses at the boundary. -/
theorem witness_CycleBoundaryAndMidInstant_units :
    let s := up []
    let r := { s with cyc := { s.cyc with midDone := true, units := [(35, .running)] } }
    (∀ v, unitOf s v = .idle) ∧ firstMiss (boundaryTick s + 1) s = none ∧ firstMiss (boundaryTick r + 1) r = some 35 :=
  ⟨fun _ => rfl, by decide +kernel, by decide +kernel⟩

/-- At, and one tick past, the deadline of the light pass; a Chamber that has finished; a CLE run. -/
theorem witness_UnitsCompleteOrMiss :
    let s := running 35 27500
    let c := { running 0 0 with chm := [(0, { chmOf (up []) 0 with ended := true })] }
    awake s ∧ unitOf s 35 = .running ∧ slackOf s 35 = some 0 ∧ slackOf (running 35 27501) 35 = none ∧
      unitOf c 0 = .running ∧ chmDone c 0 = true ∧ (slackOf c 0).isSome ∧ unitOf (running 16 0) 16 ≠ .idle ∧
      unitOf s 34 = .idle := by unfold awake; decide +kernel

/-- The table at reset is accepted; with the first deadline beyond the second it is not. -/
theorem witness_MonitorAndTableWrites :
    let s := up [(rDTM_CYC_STAT, fput DTM_CYC_STAT.DL_PENDING 0 1)]
    let b := up [(rDTM_CYC_STAT, fput DTM_CYC_STAT.DL_PENDING 0 1), (rDTM_DL_FLW, 0xFFFF)]
    let d := fun i => s.rf (rDTM_DL_FLW + 4 * i) DTM_DL_FLW.TICKS
    s.running = true ∧ (35 : BitVec 6).toNat < 36 ∧ s.rb rDTM_CYC_STAT DTM_CYC_STAT.DL_PENDING = true ∧
      d 0 < d 1 ∧ d 1 < d 2 ∧ d 2 < d 3 ∧ (∀ i, i < 7 → d i ≤ 30750) ∧
      d 1 + (if spc s = 6 then 4500 else 2250) ≤ d 2 ∧ ¬ b.rf rDTM_DL_FLW DTM_DL_FLW.TICKS <
        b.rf (rDTM_DL_FLW + 4) DTM_DL_FLW.TICKS := by decide +kernel

/-! ### Power, Water table and timers -/

/-- Registers that put domain n in a mode and a state. -/
def dom (n mode state : Nat) (d : Dom) : State :=
  let s := up [(rPWR_DOM_CTL n, BitVec.ofNat 64 (fput PWR_DOM_CTL.MODE 0 mode).toNat),
    (rPWR_DOM_STAT n, fput PWR_DOM_STAT.STATE 0 state)]
  { s with pwr := [(n, d)] }

/-- A protected domain, a tile memory under AUTO, one in transition, one off, at retention, asleep, under HOLD; the last domain;
the switching limit reached. -/
theorem witness_PowerModeWrites :
    let i := Dom.init
    let on := fun (h : W64) => up [(rPWR_DOM_CTL 2, h), (rPWR_DOM_STAT 2, fput PWR_DOM_STAT.STATE 0 0)]
    let eight := { dom 2 1 3 i with switched := List.replicate 8 0 }
    (up []).running = true ∧ (135 : BitVec 8).toNat < 136 ∧ (111 : BitVec 8).toNat = 111 ∧
      (dom 2 1 1 i).rf (rPWR_DOM_STAT 2) PWR_DOM_STAT.STATE = 1 ∧ autoDomain 2 = true ∧ autoDomain 135 = false ∧
      memDomain 2 = true ∧ memDomain 135 = false ∧ (dom 2 3 3 i).rf (rPWR_DOM_STAT 2) PWR_DOM_STAT.STATE = 3 ∧
      (dom 2 2 2 i).rf (rPWR_DOM_STAT 2) PWR_DOM_STAT.STATE = 2 ∧
      (tget (dom 2 1 2 { i with sleeping := true }).pwr Dom.init 2).sleeping = true ∧
      (dom 2 0 0 i).rf (rPWR_DOM_STAT 2) PWR_DOM_STAT.STATE = 0 ∧
      (tget (dom 2 1 2 i).pwr Dom.init 2).sleeping = false ∧
      (on (fput PWR_DOM_CTL.HOLD 0 1)).rb (rPWR_DOM_CTL 2) PWR_DOM_CTL.HOLD = true ∧
      (on 0).rb (rPWR_DOM_CTL 2) PWR_DOM_CTL.HOLD = false ∧
      (tget (dom 2 1 0 { i with mode := 1 }).pwr Dom.init 2).mode = 1 ∧
      (∀ p ∈ (dom 2 1 3 i).pwr, p.2.queued = false) ∧ (dom 2 1 3 i).switched.length < 8 ∧
      (∀ p ∈ eight.pwr, p.2.queued = false) ∧
      8 ≤ (eight.switched.filter fun x => decide (eight.dtm.ticks < x + 25)).length := by decide +kernel

/-- A Chamber's domain: to wake at the next boundary, asleep, waking with and without a mode that waits. -/
theorem witness_DomainsWakeAndSleep :
    let i := { Dom.init with mode := 1 }
    let w := dom 2 1 2 i
    let a := { w with
      cyc := { w.cyc with stage := 1 }, dtm := { w.dtm with tb := 33500000000000 } }
    let b := dom 2 1 1 { i with pendMode := some 3 }
    let c := dom 2 1 2 { i with sleeping := true, wakeReq := true }
    let l := fun (s : State) => (tget s.pwr Dom.init 2).mode = 1 ∧ autoDomain 2 = true ∧
      2 ≤ s.rf (rPWR_DOM_STAT 2) PWR_DOM_STAT.STATE ∧ stageOf s 0 ≠ 0
    awake a ∧ (2 : BitVec 8).toNat < 136 ∧ l a ∧
      boundaryTick a ≤ a.dtm.ticks + a.rf rPWR_WAKE_LEAD PWR_WAKE_LEAD.TICKS ∧ (2 : Nat) / 5 = 0 ∧
      (tget (dom 2 0 2 Dom.init).pwr Dom.init 2).mode ≠ 1 ∧ (tget a.pwr Dom.init 2).sleeping = false ∧
      b.rf (rPWR_DOM_STAT 2) PWR_DOM_STAT.STATE = 1 ∧ (tget b.pwr Dom.init 2).pendMode = some 3 ∧
      (tget b.pwr Dom.init 2).queued = false ∧ (tget (dom 2 1 1 { i with queued := true }).pwr Dom.init 2).queued = true ∧
      (dom 2 1 1 i).rf (rPWR_DOM_STAT 2) PWR_DOM_STAT.STATE = 1 ∧ (tget (dom 2 1 1 i).pwr Dom.init 2).pendMode = none ∧
      (tget c.pwr Dom.init 2).sleeping = true ∧ (tget c.pwr Dom.init 2).wakeReq = true ∧
      0 ∈ (idxs 0 36).filter (fun u => (unitDomains u).contains 2) ∧ unitOf a 0 ≠ .waking := by
  unfold awake; decide +kernel

theorem witness_DomainsWakeAndSleep_idle : ∀ u, unitOf (up []) u ≠ .waking := fun _ h => by cases h

/-- Codes at and beyond the greatest, and beyond the VID range; an AVSBus transaction at its last attempt. -/
theorem witness_WaterTableCommands :
    let s := up [(rWTB_FLOOR, 20), (rWTB_CEIL, 100)]
    let v := up [(rWTB_FLOOR, 20), (rWTB_CEIL, 100), (rWTB_CTL, fput WTB_CTL.IFACE 0 1)]
    let a := fun m k => { s with wtb := { s.wtb with mode := m, avs := some ⟨60, 0, 1200, k⟩ } }
    let w := { s with wtb := { s.wtb with settling := true, settleAt := 0 } }
    s.running = true ∧ 180 < (181 : BitVec 8).toNat ∧ s.rf rWTB_FLOOR WTB_FLOOR.CODE = 20 ∧
      s.rf rWTB_CEIL WTB_CEIL.CODE = 100 ∧ s.rb rWTB_CTL WTB_CTL.IFACE = false ∧ v.rb rWTB_CTL WTB_CTL.IFACE = true ∧
      v.rf rWTB_VID_BASE WTB_VID_BASE.CODE + 63 < 100 ∧ awake s ∧ w.wtb.settling = true ∧ w.wtb.avs = none ∧
      w.wtb.settleAt ≤ w.dtm.ticks ∧ s.wtb.settling = false ∧
      (a 2 2).wtb.avs = some ⟨60, 0, 1200, 2⟩ ∧ (a 2 2).wtb.mode ≠ 0 ∧ (a 2 3).wtb.avs = some ⟨60, 0, 1200, 3⟩ ∧
      (a 0 0).wtb.mode = 0 := by unfold awake; decide +kernel

/-- Timer 7 in each mode, at each edge selection. -/
theorem witness_TimersExpireWrapAndCapture :
    let t := fun (m e c due : Nat) (l : Bool) =>
      let s := up [(rTIM_CTL 7, fput TIM_CTL.TSEL (fput TIM_CTL.MODE 0 m) 11), (rTIM_DEB 7, fput TIM_DEB.EDGE 0 e),
        (rTIM_CNT 7, fput TIM_CNT.CNT 0 c)]
      { s with tim := [(7, { Timer.init with period := 5, due := due, level := l })] }
    let full := fun s => timLive s 7 = true ∧ timMode s 7 ≠ 3 ∧
      (tget s.tim Timer.init 7).period.toNat ≤ s.rf (rTIM_CNT 7) TIM_CNT.CNT
    let takes := fun s => s.domOn 135 = true ∧ s.held 35 = false ∧ s.rf (rTIM_CTL 7) TIM_CTL.TSEL = 11 ∧
      s.rf (rTIM_DEB 7) TIM_DEB.TICKS ≤ 0
    awake (t 1 0 5 0 false) ∧ (tget (t 1 0 5 0 false).tim Timer.init 7).due = 0 ∧ full (t 1 0 5 0 false) ∧
      timMode (t 1 0 5 0 false) 7 = 1 ∧ full (t 2 0 6 0 false) ∧ timMode (t 2 0 6 0 false) 7 = 2 ∧
      0 < (tget (t 2 0 1 1 false).tim Timer.init 7).due ∧ ¬ full (t 2 0 4 0 false) ∧
      timLive (t 3 0 0xFFFFFFFF 0 false) 7 = true ∧ timMode (t 3 0 0xFFFFFFFF 0 false) 7 = 3 ∧
      (t 3 0 0xFFFFFFFF 0 false).rf (rTIM_CNT 7) TIM_CNT.CNT = 0xFFFFFFFF ∧
      takes (t 3 3 0 0 false) ∧ (tget (t 3 3 0 0 false).tim Timer.init 7).level ≠ true ∧
      (t 3 3 0 0 false).rf (rTIM_DEB 7) TIM_DEB.EDGE % 2 = 1 ∧ takes (t 3 2 0 0 true) ∧
      (tget (t 3 2 0 0 true).tim Timer.init 7).level ≠ false ∧ 2 ≤ (t 3 2 0 0 true).rf (rTIM_DEB 7) TIM_DEB.EDGE ∧
      ¬ (t 3 2 0 0 false).rf (rTIM_DEB 7) TIM_DEB.EDGE % 2 = 1 ∧ takes (t 3 2 0 0 false) := by
  unfold awake; decide +kernel

/-! ### The host window and Siphon -/

/-- Port A at the last word; an unpowered and a held window. -/
theorem witness_HostPortsReadAndWriteTheArray :
    let s := up []
    let d := up [(rHWN_CTL, 1)]
    let u := up [(rPWR_DOM_STAT 133, fput PWR_DOM_STAT.STATE 0 3)]
    let h := up [(rRST_BLK_STAT, 0x200000000)]
    s.running = true ∧ (1 : BitVec 3).toNat < 2 ∧
      (∀ x ∈ [s, d, u, h], mayAccess x (firstIdent 1) (0x200000 + 0x3FFC) ∧ mayAccess x (firstIdent 0) (0x200000 + 0x3FF8)) ∧
      0x3FFC % 4 = 0 ∧ 0x3FF8 % 8 = 0 ∧ 0x3FFC % 8 ≠ 0 ∧ s.domOn 133 = true ∧
      s.held 33 = false ∧ s.rb rHWN_CTL HWN_CTL.DB_EN = false ∧ u.domOn 133 = false ∧ h.held 33 = true ∧
      h.domOn 133 = true ∧ d.rb rHWN_CTL HWN_CTL.DB_EN = true ∧ d.domOn 133 = true ∧ mayAccess d (firstIdent 0) (0x200000 + 12) ∧
      12 / 4 = 3 := by unfold mayAccess; decide +kernel

/-- The SPI slave ready and not, with and without doorbells; the parallel bus with each half held. -/
theorem witness_HostPortsReadAndWriteTheArray_host :
    let s := up []
    let o := { s with hwn := { s.hwn with spiOpen := true } }
    let d := up [(rHWN_CTL, 1)]
    let p := fun (x : Option Hold16) =>
      let t := up [(rHWN_STAT, fput HWN_STAT.HMODE 0 1)]
      { t with hwn := { t.hwn with hold := x } }
    awake s ∧ spiReady s = true ∧ spiReady o = false ∧ o.hwn.spiOpen = true ∧ s.domOn 133 = true ∧
      4096 ≤ (0x1000 : BitVec 16).toNat ∧ (0xFFF : BitVec 16).toNat < 4096 ∧ spiReady d = true ∧
      d.rb rHWN_CTL HWN_CTL.DB_EN = true ∧ parReady (p none) = true ∧ (p none).domOn 133 = true ∧
      (p none).rb rHWN_CTL HWN_CTL.DB_EN = false ∧ (0x1FFE : BitVec 13).getLsbD 0 = false ∧
      (0x1FFF : BitVec 13).getLsbD 0 = true ∧ (p (some ⟨4095, true, 5⟩)).hwn.hold = some ⟨4095, true, 5⟩ ∧
      (p (some ⟨4095, false, 5⟩)).hwn.hold = some ⟨4095, false, 5⟩ ∧ (p none).hwn.hold = none ∧ parReady s = false ∧
      (0x0C : Byte) ∉ [0x0B, 0x6B, 0x02, 0x32, 0x05] := by
  unfold awake; decide +kernel

/-- Channel 15 of Siphon with registers and an engine state, a descriptor at the first word of Cavern. -/
def siphon (ctl stat : W64) (x : SphCh) (desc : Cells 40) : State :=
  let s := up [(rSPH_CTL 15, ctl), (rSPH_STAT 15, stat), (rSPH_CUR 15, fput SPH_CUR.ADDR 0 0x400000)]
  { s with sph := [(15, x)], cav := { s.cav with words := desc } }

/-- EN set and clear, a block running, a trigger pending; a descriptor that is valid, invalid, and outside Cavern. -/
theorem witness_SiphonStartsAndMovesItsBlocks :
    let i := SphCh.init
    let en := fput SPH_CTL.EN 0 1
    let run := fput SPH_STAT.BUSY 0 1
    let s := siphon en 0 i [(2, 1), (6, 8)]
    let wd := fun k => tget s.cav.words 0 (0 + k)
    let x := fun k lo n => ((wd k).extractLsb' lo n).toNat
    let out := up [(rSPH_CTL 15, en)]
    (fwReaches s (rSPH_CTL 15) ∧ fwReaches s rSPH_TRIG) ∧ awake s ∧ s.rb (rSPH_CTL 15) SPH_CTL.EN = true ∧
      s.rb (rSPH_STAT 15) SPH_STAT.BUSY = false ∧ (siphon 0 0 i []).rb (rSPH_CTL 15) SPH_CTL.EN = false ∧
      (siphon en run i []).rb (rSPH_STAT 15) SPH_STAT.BUSY = true ∧
      (siphon en (fput SPH_STAT.PEND run 1) i []).rb (rSPH_STAT 15) SPH_STAT.PEND = true ∧
      s.rf (rSPH_CUR 15) SPH_CUR.ADDR * 64 = 0x10000000 ∧
      out.rf (rSPH_CUR 15) SPH_CUR.ADDR * 64 < 0x10000000 ∧
      (∀ k < 8, s.domOn (cavDomain (0 + k)) = true ∧ tget s.cav.flips 0 (0 + k) = 0) ∧
      ((∀ k < 8, x k 32 8 = 0) ∧ x 6 4 28 = 0 ∧ x 6 0 2 < 2 ∧ x 2 0 16 ≠ 0 ∧ x 0 0 32 % 4 = 0 ∧ x 1 0 32 % 4 = 0 ∧
        ((wd 3).extractLsb' 0 16).toInt % 4 = 0 ∧ ((wd 3).extractLsb' 16 16).toInt % 4 = 0 ∧
        ((wd 4).extractLsb' 0 32).toInt % 4 = 0 ∧ ((wd 5).extractLsb' 0 32).toInt % 4 = 0 ∧ x 6 3 1 = 1) ∧
      ((tget (siphon en 0 i []).cav.words 0 2).extractLsb' 0 16).toNat = 0 := by unfold fwReaches awake; decide +kernel

/-- A channel that reads its first element and one that writes it; responses to a read and a write, the last of a block, one
discarded, one that failed, one of a block that stops; two responses of one channel. -/
theorem witness_SiphonStartsAndMovesItsBlocks_elements :
    let en := fput SPH_CTL.EN 0 1
    let run := fput SPH_STAT.BUSY 0 1
    let b := { SphCh.init with src := 0x10000000, dst := 0x10000000, xcnt := 2, ycnt := 2 }
    let e : SphElem := ⟨0, 0x10000000, false, 9, 0, 0, false, false⟩
    let one := fun (x : SphElem) => { b with flight := [x], rnext := 4, wnext := 4, acked := 1 }
    let g := fun (x : SphCh) => siphon en run x []
    let calm := fun (x : SphCh) => sphNext (g x) 15 = none ∧ sphOf (sphGo (g x)) 15 = x
    let r := routeAccess 1 0x10000000 4 false 0 [] (takeEntry 1 (g b))
    (g b).held 32 = false ∧ (g b).running = true ∧ identFree (g b) 8 = true ∧ ((g b).mtx.sphTurn + 1 + 15) % 16 = 15 ∧
      sphNext (g b) 15 = some (0, false, 0) ∧ r.2.running = true ∧ r.2.held 32 = false ∧
      r.2.rb (rSPH_STAT 15) SPH_STAT.BUSY = true ∧
      sphNext (g { b with ready := [(1, 5), (0, 7)], rnext := 2 }) 15 = some (0, true, 7) ∧
      calm (one e) ∧ calm (one { e with write := true }) ∧ calm { one { e with write := true } with acked := 3 } ∧
      calm (one { e with dead := true }) ∧ calm (one { e with code := 8 }) ∧
      calm { one { e with write := true } with stopping := true } ∧
      inOrder (g (one e)) 0 23 0x10000000 = true ∧
      inOrder (g { one e with flight := [e, { e with write := true, seq := 1 }] }) 1 23 0x10000000 = false := by
  decide +kernel

/-- The last identifier; the matrix full and free; transactions that may and may not be answered. -/
theorem witness_MatrixTransactionsAreIssuedAndAnswered :
    let s := up []
    let f := up [(rBMX_OUT 5, fput BMX_OUT.OUT 0 4)]
    let h := up [(rRST_BLK_STAT, 0x100000000)]
    let a : Txn := ⟨5, 59, 0x10000000, 8, false, 0, 0, true, [], 0, false⟩
    let b : Txn := { a with addr := 0x10000008, code := 6, seq := 1 }
    let t := { s with txns := [a, b] }
    let w := { s with txns := [{ a with issued := false }] }
    let r := routeAccess 5 0x10000000 8 false 0 [] (takeTurn 59 (takeEntry 5 s))
    let l : GLoad := ⟨0, 30, 0x400, 8, false, 0, 4, 2⟩
    s.running = true ∧ (59 : BitVec 6).toNat < 60 ∧ identFree s 59 = true ∧ identHeld s 59 = false ∧ r.2.running = true ∧
      identFree f 59 = false ∧ identHeld h 8 = true ∧ (5 : BitVec 3).toNat < 6 ∧ t.txns[0]? = some a ∧
      a.issued = true ∧ inOrder t 0 59 0x10000000 = true ∧ t.txns[1]? = some b ∧
      inOrder t 1 59 0x10000008 = false ∧ inOrder { s with txns := [b] } 1 59 0x10000008 = true ∧
      w.txns[0]? = some { a with issued := false } ∧ (upGde (fun g => { g with loads := [l] }) []).gde.loads[0]? = some l ∧
      s.txns[127]? = none := by decide +kernel

/-! ### The Chambers -/

/-- Chamber 15 of a device that runs, in the state c. -/
def chamber (c : Chamber) : State :=
  let s := up []
  { s with chm := [(15, c)], cyc := { s.cyc with units := [(15, .running)] } }

/-- Fields of all zeros execute in either slot, alone and beside the same instruction. -/
theorem witness_ChamberDataInstructionResults :
    let s := chamber Chamber.init
    let ops : List (BitVec 6) := [1, 2, 3, 4, 5, 6, 7, 8, 9, 0xA, 0xB, 0xC, 0xD, 0x10, 0x11, 0x12, 0x13, 0x18, 0x19, 0x1A, 0x1B, 0x1C]
    (∀ op ∈ ops, chmGo 15 (shortBundle op 0 ⟨false, 0, none⟩) s ∧ chmGo 15 (shortBundle op 0 ⟨true, 0, none⟩) s ∧
      chmGo 15 (shortBundle op 0 ⟨true, 1#6 ++ 1#7 ++ 0#18, none⟩) s ∧ (shortEff Chamber.init (1#6 ++ 1#7 ++ 0#18)).mem = []) ∧
    chmGo 15 (shortBundle 1 0x17EFDFC ⟨true, 0, none⟩) s := by unfold chmGo; decide +kernel

theorem witness_ChamberAccumulatorAndMacResults :
    let s := chamber Chamber.init
    let ops : List (BitVec 6) := [0x28, 0x29, 0x2A, 0x2B, 0x2C, 0x2D, 0x2E, 0x2F, 0x30, 0x31]
    (∀ op ∈ ops, chmGo 15 (shortBundle op 0 ⟨false, 0, none⟩) s) ∧
    (∀ op ∈ [0x30#6, 0x31], chmGo 15 (shortBundle op 0x200 ⟨true, 0, none⟩) s) ∧
    (∀ aop ∈ [0#2, 1, 2, 3], chmGo 15 (shortBundle 0x34 (0#20 ++ aop ++ 0#3) ⟨true, 0, none⟩) s) ∧
    chmGo 15 (0#2 ++ 1#4 ++ 0#58) s := by unfold chmGo; decide +kernel

/-- Fields of all zeros; a double load; a control register of each kind; a repeat to the next bundle; a count of 0 and 1. -/
theorem witness_ChamberMemoryControlAndSequencer :
    let s := chamber Chamber.init
    (∀ op ∈ [0x20#6, 0x21, 0x38, 0x39, 0x3A, 0x3B, 0x3C, 0x3F], chmGo 15 (shortBundle op 0 ⟨true, 0, none⟩) s) ∧
    ∀ op ∈ [0x20#6, 0x21], chmGo 15 (shortBundle op 0x300 ⟨true, 0, none⟩) s := by unfold chmGo; decide +kernel

theorem witness_ChamberMemoryControlAndSequencer_repeats :
    let s := chamber Chamber.init
    (∀ op ∈ [0x3D#6, 0x3E], chmGo 15 (shortBundle op 1 ⟨true, 0, none⟩) s) ∧
    ∀ op ∈ [2#4, 3], chmGo 15 (0#2 ++ op ++ 0#58) s := by unfold chmGo; decide +kernel

theorem witness_ChamberMemoryControlAndSequencer_names :
    let s := chamber Chamber.init
    (∀ k ∈ [0#6, 16, 24, 32, 40, 41], chmGo 15 (shortBundle 0x39 (0#7 ++ k ++ 0#12) ⟨true, 0, none⟩) s) ∧
    chmGo 15 (shortBundle 0x3F (1#3 ++ 0x1F0000#22) ⟨true, 0, none⟩) s := by unfold chmGo; decide +kernel

theorem witness_ChamberMemoryControlAndSequencer_waiting :
    let i := Chamber.init
    chmGo 15 (shortBundle 0x3E 1 ⟨true, 0, none⟩) (chamber { i with d := [(0, 1)] }) ∧
    chmGo 15 (shortBundle 0x3B 0 ⟨true, 0, none⟩) (chamber { i with evq := [7] }) := by unfold chmGo; decide +kernel

/-- Pointers at the first words; a repeat at its end with passes left. -/
theorem witness_ChamberMemoryControlAndSequencer_values :
    let i := Chamber.init
    let l : Loop := ⟨0, 0, 2⟩
    (ptrNear 0 = true ∧ ptrSpace 0 = 0 ∧ tget i.xf 0 (ptrIndex 0) = 0) ∧ ptrNear (ptrMod i 0 0 1) = true ∧
    ptrIndex (ptrMod i 0 0 1) % 2 ≠ ptrIndex 0 % 2 ∧ ptrIndex (ptrMod i 0 0 1) % 2 = 1 ∧ condHolds i 0 = true ∧
    condHolds i 1 = false ∧ (∀ t ∈ i.stack, t.last ≠ i.pc) ∧ { i with stack := [l] }.stack = l :: [] ∧ l.last = i.pc ∧
    1 < l.left ∧ (1 : Nat) ≤ 1 ∧ tget i.l 0 0 = 0 ∧ tget { i with l := [(7, 0xFFFFF)] }.l 0 7 ≠ 0 := by
  decide +kernel

/-- A bundle of nops; the illegal forms; a repeat that ends at its own bundle; a load and its return, with and without error. -/
theorem witness_ChamberBundlesLoaderAndCavernAccesses :
    let i := Chamber.init
    let s := chamber i
    let far := { i with p := [(0, 0x200000)] }
    let end_ := { i with pc := 8191 }
    let b : W64 := shortBundle 0x20 0 ⟨true, 0, none⟩
    let e := bundleEff far b [] []
    let rep : W64 := shortBundle 0x3D 0 ⟨true, 0, none⟩
    let back := fun (c : Nat) => { i with acc := [⟨some 95, 0x200000, 5, c, 0, false⟩] }
    let waits := { i with acc := [⟨some 0, 0x200000, 5, 0, 0, false⟩] }
    let busy := { (chamber far) with chm := [(15, { far with acc := List.replicate 4 ⟨some 95, 0x200000, 5, 0, 0, false⟩ })] }
    chmGo 15 0x4000000000000000 s ∧ chmRuns s 15 = true ∧ tget i.pf 0 (8192 * i.act + i.pc) = 0 ∧
    formCauses i 0 (bundleEff i 0 [] []) ≠ [] ∧ formCauses i 0x8000000000000000 (bundleEff i 0x8000000000000000 [] []) ≠ [] ∧
    formCauses waits b (bundleEff waits b [] []) = [] ∧ waitsLoad waits (bundleEff waits b [] []) = true ∧
    fetchesPast end_ (bundleEff end_ 0x4000000000000000 [] []) = true ∧
    waitsLoad end_ (bundleEff end_ 0x4000000000000000 [] []) = false ∧
    formCauses i rep (bundleEff i rep [] []) = [] ∧ waitsLoad i (bundleEff i rep [] []) = false ∧
    fetchesPast i (bundleEff i rep [] []) = false ∧ loopCause i (bundleEff i rep [] []).seq ≠ 0 ∧
    chmRuns (chamber far) 15 = true ∧ formCauses far b e = [] ∧ waitsLoad far e = false ∧ fetchesPast far e = false ∧
    gatewayFree (chamber far) 15 1 = true ∧ gatewayFree busy 15 1 = false ∧ (tget far.p 0 0).toNat / 2 ^ 20 = 2 ∧
    tget s.cav.flips 0 0 = 0 ∧ s.domOn (cavDomain 0) = true ∧ awake (chamber (back 0)) ∧ (back 4).acc.length = 1 ∧
    inOrder (chamber (back 0)) 0 47 0x10000000 = true ∧ (back 0).acc.all (fun a => a.dest.all (fun d => decide (d < 96))) = true ∧
    i.acc = [] ∧ i.swapPend = false ∧ { i with swapPend := true }.swapPend = true := by
  unfold chmGo awake; decide +kernel

theorem witness_ChamberBundlesLoaderAndCavernAccesses_loader :
    let s := chamber Chamber.init
    s.running = true ∧ mayAccess s 0 (0x1040000 + 0x80000 * 15 + 8 * 8191) ∧ s.domOn (5 * 15 + 4) = true ∧
      s.held 15 = false ∧ fwReaches s (rCHM_LDR_CTL 15) := by
  unfold mayAccess fwReaches; decide +kernel

/-! ### Flowstone, the serial audio ports, DMX and Echo -/

/-- Slot 15 in state st with check result f, in use or not, and the Flowstone state q. -/
def flow (st f : Nat) (used : Bool) (q : Flw → Flw) (rs : List (Nat × W64)) : State :=
  let w := (fput FLW_SLOT_STAT.STATE 0 st) ||| (fput FLW_SLOT_STAT.FAIL 0 f) ||| (fput FLW_SLOT_STAT.INUSE 0 (if used then 1 else 0))
  let s := up ((rFLW_SLOT_STAT 15, w) :: rs)
  { s with flw := q s.flw }

/-- Slot 15 in use and not; every reason of a commit. -/
theorem witness_FlowstoneSlotsCommitsAndConfluenceWrites :
    let id := fun (q : Flw) => q
    let tv := [(rDTM_STAT, fput DTM_STAT.TIME_VALID 0 1)]
    let s := flow 2 0 false id tv
    let u := flow 2 0 true id tv
    let p := flow 2 0 false (fun q => { q with commit := some ⟨3, 9, .waiting, [], none⟩ }) tv
    fwReaches s rFLW_CMD ∧ fwReaches s rCFL_XP_DATA ∧ s.rb (rFLW_SLOT_STAT 15) FLW_SLOT_STAT.INUSE = false ∧
      u.rb (rFLW_SLOT_STAT 15) FLW_SLOT_STAT.INUSE = true ∧ fwReaches u rFLW_CMD ∧
      (flow 2 0 false id [(rFLW_STAT, fput FLW_STAT.PENDING 0 1)]).rb rFLW_STAT FLW_STAT.PENDING = true ∧
      (s.rb rFLW_STAT FLW_STAT.PENDING = false ∧ s.flw.xr = [] ∧ s.flw.morphs = []) ∧ s.timeValid = true ∧
      (flow 2 0 false id []).timeValid = false ∧ s.cyc.fam < 2 ∧ ¬ (2 - 2) * 125000 * 2 ^ 28 < s.dtm.tb ∧
      s.rf (rFLW_SLOT_STAT 15) FLW_SLOT_STAT.STATE = 2 ∧ (flow 3 4 false id tv).rf (rFLW_SLOT_STAT 15) FLW_SLOT_STAT.FAIL = 4 ∧
      (flow 1 0 false id tv).rf (rFLW_SLOT_STAT 15) FLW_SLOT_STAT.STATE ≠ 2 ∧ p.flw.commit.isSome = true ∧
      s.flw.commit.isSome = false ∧ isHead s = false ∧ isHead (up [(rGAL_CTL, 1), (rGAL_NODE, 0)]) = true ∧
      p.flw.commit.map (fun x => (x.slot, x.c)) = some (3, 9) := by
  unfold fwReaches; decide +kernel

/-- A set at the first words of Cavern, its check, its arming and its ends. -/
theorem witness_FlowstoneSlotsCommitsAndConfluenceWrites_work :
    let s := flow 1 0 false (fun q => { q with queue := [15] }) []
    let w := fun i => tget s.cav.words 0 (s.rf (rFLW_SLOT_BASE 15) FLW_SLOT_BASE.WORD + i)
    let a := flow 2 0 true (fun q => { q with commit := some ⟨15, 9, .busy, [], none⟩ }) [(rFLW_STAT, fput FLW_STAT.ARMING 0 1)]
    let b := flow 2 0 true (fun q => { q with commit := some ⟨15, 9, .waiting, [], none⟩ }) []
    awake s ∧ ((w 1).extractLsb' 0 14).toNat = 0 ∧
      (∀ i < 2, i < 1048576 ∧ s.domOn (cavDomain i) = true ∧ tget s.cav.flips 0 i = 0) ∧
      s.rb rFLW_STAT FLW_STAT.ARMING = false ∧ s.flw.queue = 15 :: [] ∧ awake a ∧
      a.flw.commit = some ⟨15, 9, .busy, [], none⟩ ∧ a.rb rFLW_STAT FLW_STAT.ARMING = true ∧
      b.flw.commit = some ⟨15, 9, .waiting, [], none⟩ ∧ s.flw.commit = none ∧ b.flw.queue = [] := by
  unfold awake; decide +kernel

/-- Port 7 with its registers, in the state st, with the port state x. -/
def port (ctl fmt clk : W64) (st : Nat) (x : Sap) : State :=
  let s := up [(rSAP_CTL 7, ctl), (rSAP_FMT 7, fmt), (rSAP_CLK 7, clk), (rSAP_STAT 7, fput SAP_STAT.STATE 0 st)]
  { s with sap := [(7, x)] }

/-- An idle port with a valid and with an invalid configuration; EN set and clear in each state. -/
theorem witness_SerialAudioPortsStartFrameSlipAndStop :
    let i := Sap.init
    let en := fput SAP_CTL.EN 0 1
    let bad := port 0 (fput SAP_FMT.FMT 0 3) 0 0 i
    let ok := port 0 0 0 0 i
    let sm := (ok.setRf (rSAP_CTL 7) SAP_CTL.EN 1)
    let tr := port en 0 0 4 i
    fwReaches ok (rSAP_CTL 7) ∧ bad.rf (rSAP_FMT 7) SAP_FMT.FMT = 3 ∧ ok.rf (rSAP_STAT 7) SAP_STAT.STATE = 0 ∧
      sapInvalid sm 7 = false ∧ ok.rb (rSAP_CTL 7) SAP_CTL.EN = false ∧ tr.rb (rSAP_CTL 7) SAP_CTL.EN = true ∧
      (∀ k ∈ [0, 1, 2, 3, 4], (port en 0 0 k i).rf (rSAP_STAT 7) SAP_STAT.STATE = k ∧ fwReaches (port en 0 0 k i) (rSAP_CTL 7) ∧
        (port en 0 0 k i).rb (rSAP_CTL 7) SAP_CTL.EN = true) ∧
      awake tr ∧ tr.held (24 + 7) = false ∧ i.left = 0 ∧ { i with left := 1 }.left ≠ 0 ∧ sapInvalid tr 7 = false ∧
      (port 0 0 0 4 i).rb (rSAP_CTL 7) SAP_CTL.EN = false := by unfold fwReaches awake; decide +kernel

/-- A direct and a buffered port, a clock source that runs and one that does not; buffers at their limits; a held port; a line
of two slots. -/
theorem witness_SerialAudioPortsStartFrameSlipAndStop_frames :
    let i := Sap.init
    let en := fput SAP_CTL.EN 0 1
    let d := { i with ctl := BitVec.setWidth 32 (fput SAP_CTL.MASTER 0 1) }
    let b := { i with ctl := BitVec.setWidth 32 (fput SAP_CTL.MODE 0 1) }
    let c := port en 0 0 3 d
    let l := { c with regs := (rSYN_CTL 0, fput SYN_CTL.EN 0 1) :: (rSYN_STAT 0, fput SYN_STAT.LOCK 0 1) :: c.regs }
    let clocked := fun (s : State) (x : Sap) => fget SAP_CTL.MASTER (x.ctl.setWidth 64) = 1 → fget SAP_CLK.SRC (x.clk.setWidth 64) ≤ 2 →
      s.rb (rSYN_CTL 0) SYN_CTL.EN = true ∧ s.rb (rSYN_STAT 0) SYN_STAT.LOCK = true
    (fget SAP_CTL.MODE (d.ctl.setWidth 64) = 0 ∧ fget SAP_CTL.MASTER (d.ctl.setWidth 64) = 1) ∧
      fget SAP_CTL.MODE (b.ctl.setWidth 64) ≠ 0 ∧ b.outOn = false ∧ b.outBuf.length < 16 ∧ clocked l d ∧ ¬ clocked c d ∧
      clocked (port en 0 0 3 b) b ∧ (sapOf l 7).ctl = d.ctl ∧ { b with outBuf := List.replicate 16 [] }.outBuf.length = 16 ∧
      { b with inOn := true, inBuf := List.replicate 30 [] }.inBuf.length = 30 ∧ l.rf (rSAP_STAT 7) SAP_STAT.STATE = 3 ∧
      awake l ∧ l.held (24 + 7) = false ∧ (up [(rRST_BLK_STAT, 0x80000000)]).held (24 + 7) = true ∧
      0 * sapSlotW 0 + sapWlen 0 ≤ (List.replicate 64 true).length ∧ (∀ c < 4, recBits l (80 + 4 * c) 0 7 / 16 ≠ 7) := by
  unfold awake; decide +kernel

/-- DMX transmitter 1 with its registers and state. -/
def dmxPort (ctl stat : W64) (x : Dmx) : State :=
  let s := up [(rDMX_CTL 1, ctl), (rDMX_STAT 1, stat)]
  { s with dmx := [(1, x)] }

theorem witness_DmxFramesAndEchoTriggers :
    let i := Dmx.init
    let ctl := fun (m r : Nat) => fput DMX_CTL.MODE 0 m ||| fput DMX_CTL.RDM 0 r
    let s := dmxPort (ctl 2 2) 0 { i with request := some 0, go := true, after := 0 }
    let a := dmxPort (ctl 1 1) (fput DMX_STAT.TX_BUSY 0 1) { i with await := true, swap := true }
    let l := { s with dtm := { s.dtm with ticks := 500001 } }
    let c := dmxPort (ctl 1 0 ||| fput DMX_CTL.SRC 0 1 ||| fput DMX_CTL.TX_LEN 0 513) 0 i
    let m := fun (s : State) => s.rf (rDMX_CTL 1) DMX_CTL.MODE
    fwReaches s (rDMX_CTL 1) ∧ s.domOn 135 = true ∧ m s = 2 ∧ s.rf (rDMX_CTL 1) DMX_CTL.RDM = 2 ∧ m a = 1 ∧
      a.rf (rDMX_CTL 1) DMX_CTL.RDM = 1 ∧ (dmxPort (ctl 2 1) 0 i).rf (rDMX_CTL 1) DMX_CTL.RDM ≠ 2 ∧ i.request = none ∧
      (dmxOf s 1).request = some 0 ∧ s.dtm.ticks - 0 ≤ 500000 ∧ 500000 < l.dtm.ticks - 0 ∧ awake s ∧ s.held 34 = false ∧
      a.rb (rDMX_STAT 1) DMX_STAT.TX_BUSY = true ∧ s.rb (rDMX_STAT 1) DMX_STAT.TX_BUSY = false ∧ (dmxOf s 1).go = true ∧
      (dmxOf s 1).after ≤ s.dtm.ticks ∧ m c = 1 ∧ (dmxOf c 1).await = false ∧ (dmxOf c 1).after ≤ c.dtm.ticks ∧
      c.rb (rDMX_CTL 1) DMX_CTL.SRC = true ∧ c.rf (rDMX_CTL 1) DMX_CTL.TX_LEN = 513 ∧
      (dmxOf a 1).swap = true ∧ (dmxOf a 1).await = true ∧ (dmxOf s 1).await = false := by
  unfold fwReaches awake; decide +kernel

theorem witness_DmxFramesAndEchoTriggers_receives :
    let s := dmxPort 0 0 Dmx.init
    let u := up [(rPWR_DOM_STAT 135, fput PWR_DOM_STAT.STATE 0 3)]
    s.rf (rDMX_LS 1) DMX_LS.TXBASE + 512 - 1 < 4096 ∧ 22000 ≤ (22000 : BitVec 32).toNat ∧ 2000 ≤ (2000 : BitVec 32).toNat ∧
      ¬ 22000 ≤ (21999 : BitVec 32).toNat ∧ (List.replicate 513 (0xCC : Byte)).length ≤ 513 ∧
      chainDark s = true ∧ chainDark { s with rst := { s.rst with lit := true, joined := true } } = false ∧
      u.domOn 135 = false ∧ awake u ∧ fwReaches s rECHO_CTL ∧ s.rb rECHO_STAT ECHO_STAT.BUSY = false ∧
      (up [(rECHO_STAT, fput ECHO_STAT.BUSY 0 1)]).rb rECHO_STAT ECHO_STAT.BUSY = true := by
  unfold fwReaches awake; decide +kernel

/-! ### Gallery -/

/-- Gallery runs with GAL_NODE as given and further registers, in the state q. -/
def gallery (node : W64) (rs : List (Nat × W64)) (q : Gal → Gal) : State :=
  let s := up ((rGAL_CTL, 1) :: (rGAL_NODE, node) :: rs)
  { s with gal := q s.gal }

/-- EN clear and set; a head that wrapped; a node reached by its ID and by 255; a queue full and with room; links up and
not, the second distinct cycle of a link; LINK frames and messages for others. -/
theorem witness_GalleryChainCommands :
    let id := fun (q : Gal) => q
    let s := gallery (fput GAL_NODE.ROLE 0 1 ||| fput GAL_NODE.ID 0 5 ||| fput GAL_NODE.POS 0 3) [] id
    let h := gallery (fput GAL_NODE.WRAP 0 1) [] id
    let off := up []
    let f := gallery 0 [] (fun q => { q with rxq := List.replicate 16 [] })
    let c := gallery 0 [] (fun q => { q with ctl := 1, idmode := some false, restore := some 9 })
    let st := rFLW_SLOT_STAT 15
    let u := gallery 0 [(st, fput FLW_SLOT_STAT.INUSE 0 1)] (fun q => { q with ctl := BitVec.setWidth 32 (fput GAL_CTL.HEAD 0 1) })
    let m := { s with flw := { s.flw with commit := some ⟨15, 9, .waiting, [], none⟩ } }
    fwReaches s rGAL_CTL ∧ s.rb rGAL_CTL GAL_CTL.EN = true ∧ off.rb rGAL_CTL GAL_CTL.EN = false ∧ fwReaches off rGAL_CTL ∧
      isHead h = true ∧ wrapped h = true ∧ h.gal.restore = none ∧ isHead s = false ∧ wrapped f = false ∧
      c.gal.restore ≠ none ∧ (headCfg c = false ∧ c.gal.idmode = some false) ∧ galOn s = true ∧
      ¬ ((7 : Byte) = 255 ∨ ((7 : Byte) ≠ 0 ∧ (7 : Byte).toNat = s.rf rGAL_NODE GAL_NODE.ID)) ∧
      (5 : Byte).toNat = s.rf rGAL_NODE GAL_NODE.ID ∧ s.held 18 = false ∧ m.flw.commit = some ⟨15, 9, .waiting, [], none⟩ ∧
      s.flw.commit = none ∧ slotInUse u 15 = true ∧ slotInUse s 15 = false ∧ headCfg u = true ∧
      (s.rf (rFLW_SLOT_BASE 15) FLW_SLOT_BASE.WORD + 0xFFFF + 0 < 1044480 ∧ s.domOn (cavDomain 0xFFFF) = true) ∧
      s.gal.rxq.length < 16 ∧ f.gal.rxq.length = 16 ∧ (List.replicate 6 0 : List Byte) = s.gal.mac ∧
      ([] : List Byte) ≠ s.gal.mac ∧ h.rf rGAL_NODE GAL_NODE.ROLE = 0 ∧ s.rf rGAL_NODE GAL_NODE.POS ≠ 4 ∧
      s.rf rGAL_NODE GAL_NODE.ROLE ≠ 0 ∧ s.rf rGAL_NODE GAL_NODE.POS = 3 ∧ s.gal.txq.length < 16 := by
  unfold fwReaches; decide +kernel

/-- A section 9 outbound and returning at the head, a member and the tail; of a valid and of a wrong FCS. -/
theorem witness_GalleryChainCommands_sections :
    let gig := fput GAL_PORT_STAT.PHY_UP 0 1 ||| fput GAL_PORT_STAT.FDX 0 1 ||| fput GAL_PORT_STAT.SPEED 0 2
    let link := [(rGAL_PORT_STAT 0, gig), (rGAL_PORT_STAT 1, gig)]
    let node := fun (r : Nat) => fput GAL_NODE.ROLE 0 r ||| fput GAL_NODE.ID 0 5
    let s := fun (r : Nat) => gallery (node r) link (fun q => q)
    let p := fun (f : Byte) => ([0x11, 9, f] ++ List.replicate 1093 0 : List Byte)
    let well := fun (s : State) (n : Nat) (p : List Byte) => trainPort s n = true ∧ (p.getD 0 0).toNat = 0x11 ∧
      (p.getD 1 0).toNat ≤ 12 ∧ p.length = secLen (p.getD 1 0).toNat ∧ s.rf rGAL_NODE GAL_NODE.ROLE ≠ 3
    (∀ r < 3, well (s r) 0 (p 0) ∧ well (s r) 1 (p 128)) ∧ ¬ well (s 3) 0 (p 0) ∧ sectionTrain (s 1) 0 9 0 (p 0) = (0, true) ∧
      (sectionTrain (s 1) 0 9 1 (p 0)).2 = false ∧ isHead (s 0) = true ∧ isHead (s 1) = false ∧ isHead (s 2) = false ∧
      (s 2).rf rGAL_NODE GAL_NODE.ROLE = 2 ∧ abandoned 9 0 false (s 1) = false ∧ abandoned 9 0 true (s 1) = true ∧
      ((p 0).getD 2 0).toNat / 64 % 2 = 0 ∧ 128 ≤ ((p 128).getD 2 0).toNat ∧ ([] : List Byte) ≠ (s 0).gal.mac ∧
      (List.replicate 6 0 : List Byte) = (s 0).gal.mac ∧ csGet (p 0) 0 = 0 ∧
      csGet ([0x11, 9, 0, 0, 0, 0, 0, 0, 0x80]) 0 ≠ 0 := by decide +kernel

/-- The train due: it may come still, it is late, it has come whole in time; none expected. -/
theorem witness_GalleryChainCommands_late :
    let s := fun (t : Nat) (f : Option Nat) (tr : GalTrain) =>
      let g := gallery 0 [] fun q => { q with first := f }
      let g := { g with dtm := { g.dtm with ticks := t, tb := t * 4 * 2 ^ 28 } }
      { g with gal := { g.gal with trains := [(trainDue g (g.cyc.idx + 1), tr)] } }
    let i := GalTrain.init
    let due := fun (s : State) => trainDue s (s.cyc.idx + 1)
    let l := s 31000 (some 0) i
    galOn l = true ∧ boundaryTick l ≤ l.dtm.ticks + 500 ∧ trainExpected l (due l) = true ∧
      inTime l (boundaryTick l) (due l) = false ∧ inTime (s 31000 (some 0) { i with full := some 30000 }) (boundaryTick l) (due l) = true ∧
      (s 0 (some 0) i).dtm.ticks + 500 < boundaryTick (s 0 (some 0) i) ∧ trainExpected (s 31000 none i) (due l) = false ∧
      { i with counted := true }.counted = true ∧ awake l := by unfold awake; decide +kernel

/-- The second distinct cycle of a link, a cycle seen before, no gigabit; links up, lost at both ports. -/
theorem witness_GalleryChainCommands_links :
    let gig := fput GAL_PORT_STAT.PHY_UP 0 1 ||| fput GAL_PORT_STAT.FDX 0 1 ||| fput GAL_PORT_STAT.SPEED 0 2
    let at1 := fun (w : W64) (q : GalPort) => gallery 0 [(rGAL_PORT_STAT 1, w)] (fun g => { g with ports := [(1, q)] })
    let i := GalPort.init
    let two := { i with links := [9, 77] }
    let s := at1 gig two
    let p : List Byte := [0x12] ++ List.replicate 47 0
    let on := at1 (gig ||| fput GAL_PORT_STAT.GLINK 0 1)
    let late := fun (s : State) => { s with dtm := { s.dtm with ticks := 63001 } }
    let long := fun (s : State) => { s with cyc := { s.cyc with idx := 48 } }
    let may := fun (s : State) (l : List Nat) => (∃ z ∈ l.tail, z ≠ l.headD 0) ∧ phyGig s 1 = true ∧ portMgmt s 1 = false
    galLive s 1 = true ∧ portMgmt s 1 = false ∧ (p.getD 0 0).toNat = 0x12 ∧ (p.getD 1 0).toNat = 0 ∧ p.length = 48 ∧
      stamps (gallery 0 [(rPWR_DOM_STAT 120, fput PWR_DOM_STAT.STATE 0 3)] (fun q => q)) = false ∧ may s (galPort s 1).links ∧ ¬ may s i.links ∧ ¬ may (at1 0 two) two.links ∧ glink s 1 = false ∧
      glink (on two) 1 = true ∧ wrapped s = false ∧ wrapped (gallery (fput GAL_NODE.WRAP 0 1) [] (fun q => q)) = true ∧
      (galPort (late (on { i with got := some 0 })) 1).got = some 0 ∧ 0 + 2 * 31250 + 500 < (late (on i)).dtm.ticks ∧
      ¬ 0 + 2 * 31250 + 500 < (on i).dtm.ticks ∧ i.heard.getD 0 + 48 ≤ (long (on i)).cyc.idx ∧
      glink (long (on i)) 1 = true ∧ ¬ i.heard.getD 0 + 48 ≤ (on i).cyc.idx := by decide +kernel

/-- A LINK frame that answers one the port sent, under a valid time. -/
theorem witness_GalleryChainCommands_samples :
    let s := gallery 0 [(rDTM_STAT, fput DTM_STAT.TIME_VALID 0 1)] (fun g => { g with ports := [(1, { GalPort.init with txs := [(0, 65536)] })] })
    let p : List Byte := [0x12] ++ List.replicate 30 0 ++ [1] ++ List.replicate 16 0
    stamps s = true ∧ timeOf p 22 = 65536 ∧ p.length = 48 ∧ (∃ y ∈ (galPort s 1).txs, y.2 = timeOf p 22 ∧ s.cyc.idx ≤ y.1 + 64) := by
  decide +kernel

/-- Queues with room, full, and with a message; a set; MDIO busy and not; the rings on and off. -/
theorem witness_GalleryQueuesManagementAndFrames :
    let id := fun (q : Gal) => q
    let s := gallery 0 [] id
    let f := gallery 0 [] (fun q => { q with txq := List.replicate 16 [], rxq := List.replicate 16 [], mdio := some true })
    let b := gallery 0 [(rGAL_MDIO, fput GAL_MDIO.BUSY 0 1 ||| fput GAL_MDIO.WR 0 1)] id
    let clean := fun (s : State) k => k < 1044480 ∧ s.domOn (cavDomain k) = true ∧ tget s.cav.flips 0 k = 0
    let l := gallery 0 [(rGAL_PORT_STAT 1, fput GAL_PORT_STAT.GLINK 0 1)] id
    fwReaches s rGAL_CTL ∧ s.gal.txq.length < 16 ∧ f.gal.txq.length = 16 ∧ f.gal.rxq.length ≤ 16 ∧ s.gal.rxq = [] ∧
      isHead s = true ∧ s.rb rGAL_SETTX GAL_SETTX.BUSY = false ∧ clean s (s.rf (rFLW_SLOT_BASE 15) FLW_SLOT_BASE.WORD + 1) ∧
      identFree s 28 = true ∧ b.rb rGAL_MDIO GAL_MDIO.BUSY = true ∧ s.rb rGAL_MDIO GAL_MDIO.BUSY = false ∧
      galOn (up []) = false ∧ s.rb rGAL_ETH_CTL GAL_ETH_CTL.TXEN = false ∧ awake s ∧ s.gal.mdio = none ∧
      f.gal.mdio = some true ∧ glink s 1 = false ∧ glink l 1 = true := by
  unfold fwReaches awake; decide +kernel

/-- A transmit descriptor at the first words, its frame of 5 bytes behind it; a receive descriptor and its buffer; a frame
bad, foreign with room and without, and own; a gap with nothing, with a frame, and with a LINK frame that is due. -/
theorem witness_GalleryQueuesManagementAndFrames_ordinary :
    let w1 : W40 := BitVec.ofNat 40 (2 ^ 18 + 2 ^ 16 + 5)
    let mem := fun (s : State) => { s with cav := { s.cav with words := [(0, 0x10000040), (1, w1), (8, 7)] } }
    let fd := fput GAL_PORT_STAT.PHY_UP 0 1 ||| fput GAL_PORT_STAT.FDX 0 1
    let up2 := [(rGAL_PORT_STAT 0, fd), (rGAL_PORT_STAT 1, fd)]
    let ctl := fput GAL_ETH_CTL.TXEN 0 1 ||| fput GAL_ETH_CTL.RXEN 0 1
    let rs := up2 ++ [(rGAL_ETH_CTL, ctl), (rGAL_ETH_TX, fput GAL_ETH_TX.LEN 0 1), (rGAL_ETH_RX, fput GAL_ETH_RX.LEN 0 1)]
    let q := fun (p : GalPort) => mem (gallery 0 rs (fun q => { q with ports := [(0, p)] }))
    let s := q GalPort.init
    let full := q { GalPort.init with queue := [⟨List.replicate 16384 0, false, none, 1⟩] }
    let d1 := (tget s.cav.words 0 1).toNat
    let own : List Byte := List.replicate 5 0 ++ [0]
    let other : List Byte := [2, 0, 0, 0, 0, 1, 0]
    let group : List Byte := [1, 0, 0, 0, 0, 1, 0]
    ethPort s 0 = true ∧ s.rb rGAL_ETH_CTL GAL_ETH_CTL.TXEN = true ∧ s.rf rGAL_ETH_TX GAL_ETH_TX.LEN = 1 ∧ s.gal.txIdx = 0 ∧
      identFree s 24 = true ∧ s.rf rGAL_ETH_TX GAL_ETH_TX.BASE = 0 ∧ ((tget s.cav.words 0 0).toNat % 2 ^ 32 - 0x10000000) / 8 = 8 ∧
      (tget s.cav.words 0 0).toNat % 8 = 0 ∧
      (∀ k < 11, s.domOn (cavDomain k) = true ∧ tget s.cav.flips 0 k = 0) ∧ (tget s.cav.words 0 1).getLsbD 16 = true ∧
      d1 / 2 ^ 18 % 4 = 1 ∧ d1 % 65536 = 5 ∧ ((galPort s 0).queue.map fun e => e.bytes.length).sum + 5 ≤ 16384 ∧
      galLive s 1 = true ∧ isGallery s own = false ∧ isGallery s other = false ∧ ptpFind s own = none ∧ ptpFind s other = none ∧
      own.take 6 = s.gal.mac ∧ ¬ other.take 6 = s.gal.mac ∧ (other.getD 0 0).toNat % 2 = 0 ∧ other.length ≤ 1518 ∧
      (group.getD 0 0).toNat % 2 = 1 ∧ ¬ group.take 6 = s.gal.mac ∧ group.take 6 ≠ daTrain ∧ group.take 6 ≠ daLink ∧
      16384 < ((galPort full 0).queue.map fun e => e.bytes.length).sum + other.length ∧ ethPort full 0 = true ∧
      s.rb rGAL_ETH_CTL GAL_ETH_CTL.RXEN = true ∧ (gallery 0 [] id).rb rGAL_ETH_CTL GAL_ETH_CTL.RXEN = false ∧
      0 < s.rf rGAL_ETH_RX GAL_ETH_RX.LEN ∧ s.rf rGAL_ETH_RX GAL_ETH_RX.BASE = 0 ∧ s.gal.rxIdx = 0 ∧ 0 + 1 < 8 ∧
      galLive s 0 = true ∧ (galPort s 0).linkDue = false ∧ (galPort s 0).queue = [] ∧ (galPort s 0).train = none ∧
      (galPort (q { GalPort.init with queue := [⟨other, false, none, 1⟩] }) 0).queue = ⟨other, false, none, 1⟩ :: [] ∧
      { GalPort.init with linkDue := true }.linkDue = true ∧ ({ GalPort.init with train := some 0 }).train = some 0 ∧
      0 + 27756 ≤ 30000 ∧ 30000 + 2 * (62 + 24) + 250 ≤ 0 + 31250 := by decide +kernel

/-! ### Datum, Cairn and the synthesizers -/

/-- Datum changed, with registers. -/
def datum (f : Dtm → Dtm) (rs : List (Nat × W64)) : State := let s := up rs; { s with dtm := f s.dtm }

/-- Both modes, TIME_VALID set and clear, a set and a step that wait, a commit pending, domain 119 on and off, the last
values inside the clamp and the first outside; the last master that takes a snapshot. -/
theorem witness_DatumSetsStepsModesAndSamples :
    let id := fun (x : Dtm) => x
    let s := datum id []
    let srv := datum id [(rDTM_CTL, fput DTM_CTL.MODE 0 1)]
    let tv := datum id [(rDTM_STAT, fput DTM_STAT.TIME_VALID 0 1)]
    let w := datum (fun x => { x with setPend := some 7, stepPend := some (-5) }) []
    let c := { tv with flw := { tv.flw with commit := some ⟨3, 9, .waiting, [], none⟩ } }
    let off := datum id [(rPWR_DOM_STAT 119, fput PWR_DOM_STAT.STATE 0 3)]
    s.running = true ∧ s.rb rDTM_CTL DTM_CTL.MODE = false ∧ srv.rb rDTM_CTL DTM_CTL.MODE = true ∧
      0x3FEF9DB2 ≤ (0x3FEF9DB2 : W32).toNat ∧ (0x4010624E : W32).toNat ≤ 0x4010624E ∧
      (0x3FEF9DB1 : W32).toNat < 0x3FEF9DB2 ∧ 0x4010624E < (0x4010624F : W32).toNat ∧ tv.timeValid = true ∧
      s.timeValid = false ∧ tv.flw.commit = none ∧ c.flw.commit ≠ none ∧ s.domOn 119 = true ∧ off.domOn 119 = false ∧
      (1 : BitVec 3).toNat < 2 ∧ mayAccess s (firstIdent 1) rDTM_TB_NS ∧ awake s ∧ s.dtm.setPend = none ∧ w.dtm.setPend = some 7 ∧
      s.dtm.stepPend = none ∧ w.dtm.stepPend = some (-5) ∧ w.timeValid = false := by
  unfold mayAccess awake; decide +kernel

/-- An edge of each selection wanted and not, the outputs high, low and disabled, timestamps behind the popped one. -/
theorem witness_DatumSetsStepsModesAndSamples_edges :
    let id := fun (x : Dtm) => x
    let p := fun n => (datum id [(rDTM_REF_IN, fput DTM_REF_IN.PEDGE 0 n)]).rf rDTM_REF_IN DTM_REF_IN.PEDGE
    let w := fun n => datum id [(rDTM_REF_IN, fput DTM_REF_IN.WEDGE 0 n)]
    let e : PtsEntry := ⟨1, true, 2, 3, 4, 5⟩
    let up_ := { Pulse.init with high := true, fall := 100 }
    let h := datum (fun x => { x with ppso := up_, frmo := up_, wclk := true, pts := [e, e] })
      [(rDTM_PPSO_CTL, fput DTM_PPSO_CTL.EN 0 1), (rDTM_FRMO_CTL, fput DTM_FRMO_CTL.EN 0 1)]
    let l := { h with dtm := (datum id []).dtm }
    let sec := fun n ok => datum (fun x => { x with secN := n, secOk := ok }) []
    p 0 = 0 ∧ p 1 = 1 ∧ p 2 = 2 ∧ p 3 = 3 ∧ (w 1).rf rDTM_REF_IN DTM_REF_IN.WEDGE = 1 ∧ (w 2).dtm.wclk = false ∧
      h.dtm.wclk = true ∧ (w 1).domOn 119 = true ∧ 2 ≤ (2 : W32).toNat ∧ (1 : W32).toNat < 2 ∧ h.dtm.ppso.high = true ∧
      h.dtm.frmo.high = true ∧ h.dtm.ppso.fall < h.dtm.tb + (h.reg rDTM_ADDEND).toNat ∧ l.dtm.ppso.high = false ∧
      l.dtm.frmo.high = false ∧ l.rb rDTM_PPSO_CTL DTM_PPSO_CTL.EN = true ∧ l.rb rDTM_FRMO_CTL DTM_FRMO_CTL.EN = true ∧
      (w 1).rb rDTM_PPSO_CTL DTM_PPSO_CTL.EN = false ∧ (w 1).rb rDTM_FRMO_CTL DTM_FRMO_CTL.EN = false ∧
      h.dtm.pts.tail = e :: [] ∧ l.dtm.pts.tail = [] ∧ (sec 7999 true).dtm.secN < 8000 ∧ 8000 ≤ (sec 8000 true).dtm.secN ∧
      (sec 8000 false).dtm.secOk = false ∧ (w 1).cyc.fam < 2 ∧ awake (w 1) := by unfold awake; decide +kernel

/-- Pin 15 with edges of each selection; two events of one timestamp; the FIFO full, one short, and with a record. -/
theorem witness_CairnStampsCommitsAndPops :
    let on := fun (c : Crn) => datum (fun x => { x with crn := c }) [(rCRN_PIN 15, fput CRN_PIN.EDGE 0 3)]
    let e : CrnEvent := ⟨8, 3, true, false⟩
    let f : CrnEvent := ⟨8, 4, true, false⟩
    let y : CrnEntry := ⟨1, 2, true, true, 3, none⟩
    let i := { Crn.init with pend := [f, e] }
    let full := { i with fifo := List.replicate 64 y }
    let r := { full with overrun := some (1, true, 5, 9) }
    let s := on { i with lastEdge := [(15, 0)] }
    let off := up [(rPWR_DOM_STAT 122, fput PWR_DOM_STAT.STATE 0 3)]
    awake s ∧ s.running = true ∧ s.domOn 122 = true ∧ off.domOn 122 = false ∧ s.rf (rCRN_PIN 15) CRN_PIN.EDGE = 3 ∧
      (∀ n ∈ [0, 1, 2], (up [(rCRN_PIN 15, fput CRN_PIN.EDGE 0 n)]).rf (rCRN_PIN 15) CRN_PIN.EDGE = n) ∧
      (∃ p ∈ s.dtm.crn.lastEdge, p.1 = 15 ∧ 8 * s.dtm.ticks + (7 : BitVec 3).toNat < p.2 + 128) ∧
      s.rf (rCRN_PIN 15) CRN_PIN.GLITCH ≤ (0 : W32).toNat ∧
      ¬ (up [(rCRN_PIN 15, fput CRN_PIN.GLITCH 0 1)]).rf (rCRN_PIN 15) CRN_PIN.GLITCH ≤ (0 : W32).toNat ∧
      (on i).dtm.crn.lastEdge = [] ∧ (on Crn.init).dtm.crn.pend = [] ∧
      (e ∈ i.pend ∧ ∀ f ∈ i.pend, e.stamp < f.stamp ∨ (e.stamp = f.stamp ∧ e.src < f.src) ∨ f = e) ∧ i.overrun = none ∧
      i.fifo.length < 64 ∧ { i with fifo := List.replicate 63 y }.fifo.length = 63 ∧ full.overrun = none ∧
      full.fifo.length = 64 ∧ r.overrun = some (1, true, 5, 9) ∧ r.fifo.tail.length < 64 ∧ i.fifo.tail.length < 64 := by
  unfold awake; decide +kernel

/-- Synthesizer 2 with a configuration inside the limits, new values inside and outside; ALIGN, EN and LOCK set and clear. -/
theorem witness_SynthesizersCheckRelockAndStep :
    let ok := fun (nint pdiv fr odiv : Nat) => decide (16 ≤ nint ∧ nint ≤ 255 ∧ 8 ≤ odiv ∧ odiv ≤ 1023 ∧
      2400000000 * (pdiv + 1) * 2 ^ 24 * 1000 ≤ 25000000 * (nint * 2 ^ 24 + fr) * 999 ∧
      25000000 * (nint * 2 ^ 24 + fr) * 1001 ≤ 3200000000 * (pdiv + 1) * 2 ^ 24 * 1000)
    let cv := fput SYN_CTL.NINT 0 100 ||| fput SYN_CTL.PDIV 0 0
    let s := up [(rSYN_CTL 2, cv), (rSYN_DIV 2, fput SYN_DIV.ODIV 0 8)]
    let a := up [(rSYN_CTL 2, fput SYN_CTL.ALIGN 0 1 ||| fput SYN_CTL.EN 0 1), (rSYN_STAT 2, fput SYN_STAT.LOCK 0 1),
      (rSYN_PHASE 2, fput SYN_PHASE.PEND 0 0x7FFF)]
    (2 : BitVec 2).toNat < 3 ∧ s.running = true ∧
      ok (s.rf (rSYN_CTL 2) SYN_CTL.NINT) (s.rf (rSYN_CTL 2) SYN_CTL.PDIV) 0xFFFFFF (s.rf (rSYN_DIV 2) SYN_DIV.ODIV) = true ∧
      ok 100 0 0 1023 = true ∧ ok 100 0 0 1024 = false ∧ ok 15 0 0 8 = false ∧ ok 16 0 0 8 = false ∧ ok 97 0 0 8 = true ∧
      ok 96 0 0 8 = false ∧ a.rb (rSYN_CTL 2) SYN_CTL.ALIGN = true ∧ s.rb (rSYN_CTL 2) SYN_CTL.ALIGN = false ∧
      (BitVec.ofNat 16 (s.rf (rSYN_PHASE 2) SYN_PHASE.PEND)).toInt + (0x8000 : BitVec 16).toInt = - 2 ^ 15 ∧
      (BitVec.ofNat 16 (a.rf (rSYN_PHASE 2) SYN_PHASE.PEND)).toInt + (1 : BitVec 16).toInt = 2 ^ 15 ∧ awake s ∧
      a.rb (rSYN_CTL 2) SYN_CTL.EN = true ∧ s.rb (rSYN_CTL 2) SYN_CTL.EN = false ∧ s.rb (rSYN_STAT 2) SYN_STAT.LOCK = false ∧
      a.rb (rSYN_STAT 2) SYN_STAT.LOCK = true := by unfold awake; decide +kernel

/-! ### The Control Law Engine -/

/-- Slot 15's run is on the datapath, in the state x, with Datum, the monitor and the queues as f leaves them. -/
def lawRun (x : CleSlot) (f : State → State) : State :=
  let s := up []
  f { s with cle := { s.cle with cur := some 15, slots := [(15, x)] }, cyc := { s.cyc with units := [(31, .running)] } }

/-- Every OP with fields of zeros; the tables' last legal values; an injection and none; vA = v15. -/
theorem witness_ControlLawInstructionResults :
    let i := CleSlot.init
    let s := lawRun i id
    let ops := [0x02, 0x03, 0x04, 0x05, 0x06, 0x07, 0x08, 0x10, 0x11, 0x12, 0x13, 0x14, 0x15, 0x16, 0x17, 0x18, 0x22, 0x23, 0x28,
      0x29, 0x2A, 0x2B, 0x2C, 0x2D, 0x2E, 0x30]
    (∀ op ∈ ops, lawGo op 15 0 s) ∧ lawGo 0x28 15 (0xF#4 ++ 0xF#4 ++ 14#4 ++ 19#5 ++ 0#9) s ∧
      lawGo 0x2E 15 (13#4 ++ 0xF#4 ++ 0#18) s ∧ lawNum i.f16 (tget i.v 0 0) = 0 ∧
      lawNum false (tget { i with v := [(0, 1)] }.v 0 0) ≠ 0 ∧ i.inj = none ∧ { i with inj := some 7 }.inj = some 7 := by
  unfold lawGo awake; decide +kernel

/-- Ports of each group; a run at its last index, with and without time left; illegal words of each cause; runs that wait. -/
theorem witness_ControlLawRunsPortsAndEnds :
    let i := CleSlot.init
    let s := lawRun i id
    let inp := fun (p : BitVec 10) => 0#12 ++ p ++ 0#4
    let late := lawRun i fun s => { s with dtm := { s.dtm with ticks := 1000000000 } }
    let q := lawRun i fun s => { s with cle := { s.cle with queue := [3] } }
    let u := lawRun i fun s => { s with cle := { s.cle with susp := some 3 } }
    lawGo 0 15 0 s ∧ (∀ p ∈ [0xFF#10, 0x140, 0x17F, 0x200, 0x207, 0x210, 0x22F], lawGo 0x20 15 (inp p) s) ∧
      lawGo 0x21 15 (inp 0x323) s ∧ lawGo 0x31 15 0 s ∧ { i with pc := 63 }.pc = 63 ∧ awake late ∧ slackOf (setUnit 31 .idle late) 31 = none ∧
      (slackOf (setUnit 31 .idle s) 31).isSome = true ∧  s.cle.cur = some 15 ∧
      cleIssues s 15 = true ∧ lawCause 0x02 1 = 2 ∧ lawCause 0x16 0x180 = 2 ∧ lawCause 0x10 0x3000 = 3 ∧
      lawCause 0x20 (inp 0x100) = 4 ∧ lawCause 0x21 (inp 0x104) = 4 ∧ ((0xFC000000 : W32).extractLsb' 26 6).toNat = 63 ∧
      i.echoCap = false ∧ i.inj = none ∧ i.ports = [] ∧ s.cle.susp = none ∧ q.cle.queue = 3 :: [] ∧ u.cle.susp = some 3 ∧
      u.cle.queue = [] := by
  unfold lawGo awake; decide +kernel

theorem witness_ControlLawRunsPortsAndEnds_window :
    let s := lawRun CleSlot.init id
    let off := up [(rPWR_DOM_STAT 124, fput PWR_DOM_STAT.STATE 0 3)]
    let h := up [(rRST_BLK_STAT, 0x100000)]
    fwReaches s rCLE_SWAP ∧ s.running = true ∧ s.held 20 = false ∧ s.domOn 124 = true ∧ off.domOn 124 = false ∧
      h.domOn 124 = true ∧ h.held 20 = true ∧
      ∀ x ∈ [s, off, h], mayAccess x 0 (0x300380 + 0x800 * 15 + 4 * 15) := by
  unfold fwReaches mayAccess; decide +kernel

/-! ### Drives, lights, converters and cartridges -/

/-- Lantern port 3 with registers, in the state x. -/
def lantern (x : Ltn) (rs : List (Nat × W64)) : State := { up rs with ltn := [(3, x)] }

/-- Group 15 and an axis run with EN, with and without HOLD; a write inside LATE_WIN; a group tripped and not. -/
theorem witness_PwmGroupsAndLanternPorts :
    let en := fput PWM_CTL.EN 0 1
    let run := fput PWM_STAT.RUN 0 1
    let s := up [(rPWM_CTL 15, en), (rPWM_STAT 15, run), (rPWM_CTL 3, en)]
    let l := { s with pwm := [(15, ⟨some 0, 0, false⟩)] }
    let f := { l with dtm := { l.dtm with ticks := 4000000 } }
    let y := up [(rPWM_CTL 15, en ||| fput PWM_CTL.SYNC 0 1)]
    let h := up [(rPWM_CTL 15, en ||| fput PWM_CTL.HOLD 0 1), (rPWM_STAT 15, run)]
    let t := up [(rGTE_TRIP, 0x8000)]
    let off := up [(rPWR_DOM_STAT 128, fput PWR_DOM_STAT.STATE 0 3)]
    let ticks := fun (s : State) => max 16 (s.rf (rPWM_CUR 35) PWM_CUR.PERIOD)
    fwReaches s (rPWM_CTL 15) ∧ s.rb (rPWM_CTL 15) PWM_CTL.EN = true ∧ t.rb (rPWM_CTL 15) PWM_CTL.EN = false ∧
      (35 : BitVec 6).toNat < 36 ∧ fwReaches s (rPWM_DP 35) ∧ pwmGroup 35 = 15 ∧ s.rb (rPWM_STAT 15) PWM_STAT.RUN = true ∧
      s.rb (rPWM_CTL 15) PWM_CTL.HOLD = false ∧ (tget l.pwm PwmGrp.init 15).reload = some 0 ∧
      l.dtm.ticks - 0 ≤ l.rf (rPWM_TRG 15) PWM_TRG.LATE_WIN ∧ (tget s.pwm PwmGrp.init 15).reload = none ∧
      tripped t 15 = true ∧ t.rb (rPWM_STAT 15) PWM_STAT.RUN = false ∧ awake s ∧ s.domOn (pwmDomain 15) = true ∧
      s.held 21 = false ∧ off.domOn (pwmDomain 15) = false ∧ h.rb (rPWM_CTL 15) PWM_CTL.HOLD = true ∧
      s.rb (rPWM_CTL 3) PWM_CTL.EN = true ∧ s.domOn (pwmDomain 3) = true ∧ y.rb (rPWM_CTL 15) PWM_CTL.SYNC = true ∧
      y.cyc.start + y.rf (rPWM_PHASE 15) PWM_PHASE.PHASE % 31250 ≤ y.dtm.ticks ∧ 0 + ticks f ≤ f.dtm.ticks ∧
      0 + ticks f / 2 + min (f.rf (rPWM_TRG 15) PWM_TRG.TRG_OFS) (ticks f / 2 - 1) ≤ f.dtm.ticks ∧
      f.rb (rPWM_STAT 15) PWM_STAT.RUN = true ∧ ¬ 0 + ticks l ≤ l.dtm.ticks ∧
      s.rf (rPWM_CTL 3) PWM_CTL.MINPW ≤ max 16 (s.rf (rPWM_DP 18) PWM_DP.PERIOD) * 32 ∧
      s.rf (rPWM_CTL 15) PWM_CTL.MINPW ≤ max 16 (s.rf (rPWM_DP 35) PWM_DP.PERIOD) * 32 := by
  unfold fwReaches awake; decide +kernel

/-- A frame that has started, one being sent, the pairs at and beyond the end of Cavern; EN with a rate it may and may not. -/
theorem witness_PwmGroupsAndLanternPorts_lantern :
    let i := Ltn.init
    let s := lantern { i with started := true, framePair := (0, 3), map := some (4, 4, 0) } []
    let e := fun p => lantern { i with sending := true, pend := p } [(rLTN_CTL 3, fput LTN_CTL.EN 0 1)]
    let syn := fun (n d : Nat) => [(rSYN_CTL 0, fput SYN_CTL.NINT 0 n), (rSYN_DIV 0, fput SYN_DIV.ODIV 0 d)]
    let bad := up [(rLTN_CTL 3, fput LTN_CTL.SRC 0 3)]
    let fast := lantern i (syn 100 1)
    let ok := fun x => lantern x (syn 100 8)
    let rate := fun (s : State) => (synHz s 0).mul (Frac.quot 1 (s.rf (rLTN_CTL 3) LTN_CTL.DIV + 1))
    let gone := ok { i with sending := true, sent := [] }
    awake s ∧ (ltnOf s 3).started = true ∧ (ltnOf s 3).sending = false ∧ s.domOn (129 + 3 / 2) = true ∧ unitOf s 35 = .idle ∧
      (ltnOf s 3).blankAt = none ∧ ¬ 0 + 64 ≤ s.dtm.ticks ∧ identFree s 59 = true ∧
      (∀ k < 8, s.domOn (cavDomain k) = true ∧ tget s.cav.flips 0 k = 0) ∧ i.started = false ∧ i.sending = false ∧
      (up [(rPWR_DOM_STAT (cavDomain 0), fput PWR_DOM_STAT.STATE 0 3)]).domOn (cavDomain 0) = false ∧
      (e none).rb (rLTN_CTL 3) LTN_CTL.EN = true ∧ (ltnOf (e none) 3).pend = none ∧ (ltnOf (e none) 3).sending = true ∧
      ((1044480 - 4096 : Nat), (2047 : Nat)).1 + 2 * (2047 + 1) ≤ 1044480 ∧ 1044480 < (1044480 - 4095) + 2 * (2047 + 1) ∧
      fwReaches s (rLTN_CTL 3) ∧ s.rb (rLTN_CTL 3) LTN_CTL.EN = false ∧ bad.rf (rLTN_CTL 3) LTN_CTL.SRC = 3 ∧
      (rate fast).le (Frac.ofNat 400000000) = false ∧ (rate (ok i)).le (Frac.ofNat 400000000) = true ∧
      (Frac.ofNat (8 * (ltnOf gone 3).sent.length * 250000000)).le ((rate gone).mul (Frac.ofNat (gone.dtm.ticks - 0))) = true ∧
      (Frac.ofNat (8 * 1 * 250000000)).le ((rate gone).mul (Frac.ofNat (gone.dtm.ticks - 0))) = false ∧
      (ltnOf gone 3).sending = true ∧ (ltnOf (ok i) 3).sending = false ∧
      (ltnOf (ok i) 3).pend = none := by unfold fwReaches awake; decide +kernel

/-- Converter 1 with registers, in the state x. -/
def converter (stat : W64) (x : Adc) (rs : List (Nat × W64)) : State :=
  { up ((rADC_CTL 1, fput ADC_CTL.EN 0 1) :: (rADC_STAT 1, stat ||| fput ADC_STAT.READY 0 1) :: rs) with adc := [(1, x)] }

/-- A converter that takes triggers in each state of its sequences, and one that takes none; conversions of a plain, a sensor
and a reserved channel, the last of their sequence, the sensor below HOT, at it and below its hysteresis. -/
theorem witness_ConvertersComparatorsAndGateReleases :
    let i := Adc.init
    let f := fun (x : Fld) => fput x 0 1
    let conv := fun (inj : Bool) (ch : Nat) (err : Bool) => { i with
      conv := some ⟨inj, 0, true, 0⟩, rslots := [(ch, 0), (ch, 0)], islots := [(ch, 0)], rerr := err, ierr := err }
    let s := converter 0 (conv false 15 false) []
    let l := { s with dtm := { s.dtm with ticks := 95 } }
    let therm := fput ADC_THERM.HOT 0 100 ||| fput ADC_THERM.HYS 0 10
    let hot := converter 0 (conv true 21 false) [(rADC_THERM, therm), (rADC_TSTAT, 0x20)]
    let cold := converter 0 (conv true 16 false) [(rADC_THERM, therm)]
    let d := fun (s : State) (uv : Nat) ch => ((min 4095 (uv * 4096 / 1600000) : Nat) : Int) - s.rf (rADC_TCAL (ch - 16)) ADC_TCAL.CODE
    let off := up []
    let live := fun s => s.rb (rADC_CTL 1) ADC_CTL.EN = true ∧ s.rb (rADC_STAT 1) ADC_STAT.READY = true ∧
      s.domOn 126 = true ∧ s.held 23 = false
    fwReaches s (rADC_CTL 1) ∧ awake s ∧ live s ∧ off.rb (rADC_CTL 1) ADC_CTL.EN = false ∧
      (∀ x ∈ [ADC_STAT.RPEND, ADC_STAT.RBUSY, ADC_STAT.IBUSY, ADC_STAT.RSUSP], (converter (f x) i []).rb (rADC_STAT 1) x = true ∧
        s.rb (rADC_STAT 1) x = false) ∧
      i.conv = none ∧ (adcOf s 1).conv = some ⟨false, 0, true, 0⟩ ∧ 0 ≤ s.dtm.ticks ∧ s.dtm.ticks < 0 + 5 * max 4 0 + 75 ∧
      0 + 5 * max 4 0 + 75 ≤ l.dtm.ticks ∧
      ({ i with conv := some ⟨true, 15, false, 1⟩ }.conv = some ⟨true, 15, false, 1⟩ ∧ s.dtm.ticks < 1) ∧
      0 + 1 < (adcOf s 1).rslots.length ∧ ¬ 0 + 1 < (adcOf hot 1).islots.length ∧ ((adcOf s 1).rslots.getD 0 (0, 0)).1 = 15 ∧
      (((conv false 25 true).rslots.getD 0 (0, 0)).1 = 25 ∧ (conv false 25 true).rerr = true ∧ (conv true 31 false).ierr = false) ∧
      hot.rbit rADC_TSTAT 5 = true ∧ cold.rbit rADC_TSTAT 0 = false ∧ d cold 39000 16 < cold.rf rADC_THERM ADC_THERM.HOT ∧
      cold.rf rADC_THERM ADC_THERM.HOT ≤ d cold 39063 16 ∧
      (hot.rf rADC_THERM ADC_THERM.HOT : Int) - hot.rf rADC_THERM ADC_THERM.HYS ≤ d hot 35157 21 ∧
      d hot 35156 21 < (hot.rf rADC_THERM ADC_THERM.HOT : Int) - hot.rf rADC_THERM ADC_THERM.HYS := by
  unfold fwReaches awake; decide +kernel

/-- Comparator 11 enabled and not, tripped and not; group 15 tripped, locked out, released by hand and by itself. -/
theorem witness_ConvertersComparatorsAndGateReleases_gate :
    let c := up [(rADC_CMP 11, fput ADC_CMP.EN 0 1 ||| fput ADC_CMP.THR 0 64)]
    let b := up [(rADC_CMP 11, fput ADC_CMP.EN 0 1 ||| fput ADC_CMP.THR 0 64 ||| fput ADC_CMP.POL 0 1)]
    let d := up [(rADC_CMP_STAT, 0x800)]
    let t := up [(rGTE_TRIP, 0x8000)]
    let l := up [(rGTE_TRIP, 0x80008000)]
    let m := { t with gte := { t.gte with grp := [(15, { GateGrp.init with manual := true })] } }
    let n := up [(rGTE_REC 108, 0x10000)]
    let thr := c.rf (rADC_CMP 11) ADC_CMP.THR * 1600000
    c.rb (rADC_CMP 11) ADC_CMP.EN = true ∧ c.rbit rADC_CMP_STAT 11 = false ∧ d.rbit rADC_CMP_STAT 11 = true ∧
      d.rb (rADC_CMP 11) ADC_CMP.EN = false ∧ c.rb (rADC_CMP 11) ADC_CMP.POL = false ∧ thr < 100001 * 1024 ∧
      ¬ thr < 100000 * 1024 ∧ b.rb (rADC_CMP 11) ADC_CMP.POL = true ∧ 99999 * 1024 < b.rf (rADC_CMP 11) ADC_CMP.THR * 1600000 ∧
      c.rf (rADC_CMP 11) ADC_CMP.HYS = 0 ∧ tripped t 15 = true ∧ releasable t 15 = true ∧ lockedOut t 15 = false ∧
      axisHolds t 3 = false ∧ tripped c 15 = false ∧ lockedOut l 15 = true ∧ autoRelease t 15 = true ∧
      autoRelease m 15 = false ∧ (gateGrp { m with gte := { m.gte with grp := [(15, { GateGrp.init with release := true })] } } 15).release = true ∧
      recBits c 108 16 8 = 0 ∧ recBits n 108 16 8 = 1 ∧
      ((gateGrp n 15).trips ++ [0]).length = 1 ∧ lockedOut n 15 = false ∧ t.running = true := by decide +kernel

/-- Cartridge 3 in the state st with EN, in the state x, with further registers. -/
def cartridge (st : Nat) (x : Cart) (rs : List (Nat × W64)) : State :=
  { up ((rLTN_CART_STAT 3, fput LTN_CART_STAT.STATE 0 st) :: (rLTN_CART_CFG 3, fput LTN_CART_CFG.EN 0 1) :: rs) with cart := [(3, x)] }

/-- Each state; the element's failures at their limits; its ID block good and not; record slots valid, in order and not. -/
theorem witness_CartridgesProbeAccountAndCommit :
    let i := Cart.init
    let live := fun (s : State) => s.rb (rLTN_CART_CFG 3) LTN_CART_CFG.EN = true ∧ s.domOn 135 = true ∧ s.held 22 = false
    let num := fun (l : List Byte) o k => beNat ((l.drop o).take k)
    let good : List Byte := [0x4B, 0x43, 0x54, 0x31, 1] ++ List.replicate 12 0 ++ [1] ++ List.replicate 526 0
    let rng := up [(rSEC_STAT, fput SEC_STAT.RNG_FAIL 0 1)]
    let off := up []
    let lr := lifeRecord 7 9
    let s := cartridge 3 { i with samples := 59, id := good } []
    let r := { up [(rLTN_CART_CFG 3, fput LTN_CART_CFG.EN 0 1 ||| fput LTN_CART_CFG.REAUTH 0 1), (rPWR_UPTIME, 60000000),
      (rLTN_CART_STAT 3, fput LTN_CART_STAT.STATE 0 3)] with cart := [(3, i)] }
    (∀ k ∈ [0, 1, 2, 3, 4, 5], (cartridge k i []).rf (rLTN_CART_STAT 3) LTN_CART_STAT.STATE = k ∧ live (cartridge k i [])) ∧
      awake s ∧ ¬ off.rb (rLTN_CART_CFG 3) LTN_CART_CFG.EN = true ∧ (cartridge 2 i []).rb (rLTN_CART_STAT 3) LTN_CART_STAT.EXPIRED = false ∧
      3 ≤ { element with fails := 3 }.fails ∧ { element with fails := 2 }.fails < 3 ∧
      (num good 0 4 = 0x4B435431 ∧ num good 4 1 = 1 ∧ num good 0x10 4 ≠ 0) ∧ num element.id 0 4 ≠ 0x4B435431 ∧
      off.domOn 134 = true ∧ off.rb rSEC_STAT SEC_STAT.RNG_FAIL = false ∧ rng.rb rSEC_STAT SEC_STAT.RNG_FAIL = true ∧
      lifeOk lr = true ∧ num lr 0 4 = 7 ∧ lifeOk (lifeRecord 8 9) = true ∧ lifeOk [] = false ∧
      (num good 0x10 4 * 14745600 ≤ num (lifeRecord 0 0xFFFFFFFFFFFF) 4 6 ∧ num lr 4 6 < num good 0x10 4 * 14745600) ∧
      s.rf (rLTN_CART_CFG 3) LTN_CART_CFG.REAUTH = 0 ∧ r.rf (rLTN_CART_CFG 3) LTN_CART_CFG.REAUTH = 1 ∧
      (cartOf r 3).authAt + 60000000 * 1 ≤ (r.reg rPWR_UPTIME).toNat ∧ (cartOf r 3).second < (r.reg rPWR_UPTIME).toNat / 1000000 ∧
      (s.reg rPWR_UPTIME).toNat / 1000000 ≤ (cartOf s 3).second ∧ live r ∧
      r.rf (rLTN_CART_STAT 3) LTN_CART_STAT.STATE = 3 := by unfold awake; decide +kernel

/-- Samples short of and at the commit; writes in place and failed; EN to set, to clear and as it is. -/
theorem witness_CartridgesProbeAccountAndCommit_commands :
    let i := Cart.init
    let ra := fput LTN_CART_CFG.EN 0 1 ||| fput LTN_CART_CFG.REAUTH 0 1
    let s := up [(rLTN_CART_STAT 3, fput LTN_CART_STAT.STATE 0 3), (rLTN_CART_CFG 3, ra)]
    let x := fput LTN_CART_STAT.EXPIRED 0 1
    let off := up [(rPWR_DOM_STAT 135, fput PWR_DOM_STAT.STATE 0 3)]
    s.rf (rLTN_CART_CFG 3) LTN_CART_CFG.REAUTH ≠ 0 ∧ s.rf (rLTN_CART_STAT 3) LTN_CART_STAT.STATE = 3 ∧
      i.samples + 1 < 60 ∧ 60 ≤ { i with samples := 59 }.samples + 1 ∧
      (up [(rLTN_CART_STAT 3, x)]).rb (rLTN_CART_STAT 3) LTN_CART_STAT.EXPIRED = true ∧ fwReaches s (rLTN_CART_STAT 3) ∧
      s.rb (rLTN_CART_CFG 3) LTN_CART_CFG.EN = true ∧ off.rb (rLTN_CART_CFG 3) LTN_CART_CFG.EN = false ∧ off.domOn 135 = false ∧
      (up []).rb (rLTN_CART_CFG 3) LTN_CART_CFG.EN = false ∧ (up []).domOn 135 = true := by
  unfold fwReaches; decide +kernel

/-- TW4 and TW3 idle and busy; an address of 0x5A and another; a transaction that ends at 16 bytes. -/
theorem witness_CartridgesProbeAccountAndCommit_wires :
    let busy := up [(rLTN_TW_STAT 4, fput LTN_TW_STAT.BUSY 0 1)]
    let deny := up [(rLTN_TW_CMD 3, fput LTN_TW_CMD.ADDR 0 0x5A)]
    (4 : BitVec 3).toNat < 5 ∧ fwReaches busy (rLTN_TW_STAT 4) ∧ busy.rb (rLTN_TW_STAT 4) LTN_TW_STAT.BUSY = true ∧
      deny.rb (rLTN_TW_STAT 3) LTN_TW_STAT.BUSY = false ∧ deny.rf (rLTN_TW_CMD 3) LTN_TW_CMD.ADDR = 0x5A ∧
      (up []).rf (rLTN_TW_CMD 3) LTN_TW_CMD.ADDR ≠ 0x5A ∧ (up []).rb (rLTN_TW_STAT 4) LTN_TW_STAT.BUSY = false ∧
      awake busy ∧ busy.domOn 135 = true := by unfold fwReaches awake; decide +kernel

/-! ### Sump and security -/

/-- A device with registers and the Sump state q. -/
def sump (q : Smp → Smp) (rs : List (Nat × W64)) : State := let s := up rs; { s with smp := q s.smp }

/-- A source enabled and not, logged and not, its class pending or not; the wait for chip reset; a signal under NMI_ACT. -/
theorem witness_SumpEscalatesLogsAndAcknowledges :
    let id := fun (q : Smp) => q
    let s := up []
    let off := up [(rSMP_SRC 159, 0)]
    let w := sump (fun q => { q with chipWait := some (3, 0) }) []
    let act := up [(rGDE_STAT, fput GDE_STAT.NMI_ACT 0 1)]
    let hold := up [(rRST_BLK_STAT, 0x800010000)]
    let p := up [(rSMP_PEND, 0x80)]
    (159 : Nat) < 160 ∧ off.rb (rSMP_SRC 159) SMP_SRC.EN = false ∧ s.rb (rSMP_SRC 159) SMP_SRC.EN = true ∧
      s.rb (rSMP_SRC 159) SMP_SRC.LOG = true ∧ w.smp.chipWait.isSome = true ∧ s.smp.chipWait = none ∧ hold.held 16 = true ∧
      s.held 16 = false ∧ s.rb rGDE_STAT GDE_STAT.HALT = false ∧ act.rb rGDE_STAT GDE_STAT.NMI_ACT = true ∧
      s.rb rGDE_STAT GDE_STAT.NMI_ACT = false ∧ blockOf 48 0 0 = none ∧ blockOf 58 0 0 = some 18 ∧ hold.held 35 = true ∧
      fwReaches s rSMP_ACK ∧ fwReaches s rSMP_CTL ∧ p.rbit rSMP_PEND 7 = true ∧ (id (sump id []).smp).lost = none := by
  unfold fwReaches; decide +kernel

/-- The FIFO with room and full, a LOST record; a commit of a record and of one behind it; CLEARING set. -/
theorem witness_SumpEscalatesLogsAndAcknowledges_log :
    let e : LogEntry := .fault true 7 3 255 5 9
    let s := sump (fun q => { q with fifo := [e] }) []
    let f := sump (fun q => { q with fifo := List.replicate 32 e }) []
    let l := sump (fun q => { q with fifo := List.replicate 32 e, lost := some (1, 2, 3) }) []
    let c := up [(rSMP_LOG_STAT, fput SMP_LOG_STAT.CLEARING 0 1)]
    s.smp.lost = none ∧ s.smp.fifo.length < 32 ∧ f.smp.fifo.length = 32 ∧ f.smp.lost = none ∧ l.smp.lost = some (1, 2, 3) ∧
      s.rb rSMP_LOG_STAT SMP_LOG_STAT.CLEARING = false ∧ s.smp.fifo = e :: [] ∧ awake s ∧ (up []).smp.fifo = [] ∧
      l.smp.fifo = e :: List.replicate 31 e ∧ (List.replicate 31 e).length < 32 ∧ identFree s 49 = true ∧ 5 ≤ (7 : BitVec 3).toNat ∧
      (4 : BitVec 3).toNat < 5 ∧ c.rb rSMP_LOG_STAT SMP_LOG_STAT.CLEARING = true ∧ (2 : Nat) ^ 21 - 1 < 2 ^ 21 ∧
      65535 < 65536 := by unfold awake; decide +kernel

/-- The security controller changed, with registers. -/
def secure (q : Sec → Sec) (rs : List (Nat × W64)) : State := let s := up rs; { s with sec := q s.sec }

/-- Window writes by the Guide and by others, listed and not, aligned and not, of a key and of the staging area, while a
write runs; each kind of write at the head; the staging of licences with BUSY set and clear. -/
theorem witness_KeyStoreRotationsAndCryptoEngine :
    let id := fun (x : Sec) => x
    let s := secure id []
    let kw := secure id [(rSEC_STAT, fput SEC_STAT.KEYWR 0 1)]
    let bz := secure id [(rSEC_ROT_STAT, fput SEC_ROT_STAT.BUSY 0 1)]
    let q := fun (o : KeyOp) => (secure (fun x => { x with keyOps := [o] }) []).sec.keyOps
    let low := fun (o n : Nat) => (o / 4 * 4, (o + n - 1) / 4 * 4)
    s.running = true ∧ (5 : BitVec 3).toNat < 6 ∧
      (∀ m ∈ [0, 1, 2, 3, 4, 5], mayAccess s (firstIdent m) (0x400000 + 0x840)) ∧ mayAccess s 0 0x400080 ∧ mayAccess s 0 0x400084 ∧
      mayAccess kw 0 0x400084 ∧ low 0x8 4 = (8, 8) ∧ low 0x801 4 = (0x800, 0x804) ∧ 0x801 % 4 ≠ 0 ∧
      low 0x800 8 = (0x800, 0x804) ∧ 0x800 % 8 = 0 ∧ low 0x20 4 = (0x20, 0x20) ∧ kw.rb rSEC_STAT SEC_STAT.KEYWR = true ∧
      s.rb rSEC_STAT SEC_STAT.KEYWR = false ∧ s.sec.staged.key.length = 32 ∧ s.sec.staged.pub.length = 64 ∧
      s.sec.staged.sig.length = 64 ∧ fwReaches s rSEC_ROT ∧ bz.rb rSEC_ROT_STAT SEC_ROT_STAT.BUSY = true ∧
      s.rb rSEC_ROT_STAT SEC_ROT_STAT.BUSY = false ∧ awake s ∧ s.sec.eraseMark = none ∧ s.sec.keyOps = [] ∧
      q (.install 3 FleetBank.blank) = .install 3 FleetBank.blank :: [] ∧ q (.retire 3) = .retire 3 :: [] ∧
      q (.root []) = .root [] :: [] ∧ q (.floor true 1) = .floor true 1 :: [] ∧ q .reopen = .reopen :: [] := by
  unfold mayAccess fwReaches awake; decide +kernel

/-- The engine ready, busy and unpowered; lengths at and beyond its buffer; keys stored, absent, derived and written. -/
theorem witness_KeyStoreRotationsAndCryptoEngine_engine :
    let id := fun (x : Sec) => x
    let s := secure id [(rSEC_CE_LEN, fput SEC_CE_LEN.LEN 0 4064)]
    let l := secure id [(rSEC_CE_LEN, fput SEC_CE_LEN.LEN 0 4097)]
    let busy := secure id [(rSEC_CE_STAT, fput SEC_CE_STAT.BUSY 0 1)]
    let off := secure id [(rPWR_DOM_STAT 134, fput PWR_DOM_STAT.STATE 0 3)]
    let fail := secure (fun x => { x with ce := some ⟨6, [], false, 0, 1⟩ }) [(rSEC_STAT, fput SEC_STAT.RNG_FAIL 0 1)]
    let slot := { FleetSlot.blank with active := true, b0 := { FleetBank.blank with key := [1] }, bank := false }
    let key := secure (fun x => { x with mram := { x.mram with slots := [(3, slot)] } }) []
    let run := fun op => (secure (fun x => { x with ce := some ⟨op, [1], true, 16, 16⟩ }) []).sec.ce
    fwReaches s rSEC_CE_CTL ∧ s.rb rSEC_CE_STAT SEC_CE_STAT.BUSY = false ∧ s.domOn 134 = true ∧
      busy.rb rSEC_CE_STAT SEC_CE_STAT.BUSY = true ∧ off.domOn 134 = false ∧
      s.rf rSEC_CE_LEN SEC_CE_LEN.ALEN + s.rf rSEC_CE_LEN SEC_CE_LEN.LEN + 32 ≤ 4096 ∧
      ¬ l.rf rSEC_CE_LEN SEC_CE_LEN.LEN ≤ 4096 ∧ (tget s.sec.mram.slots FleetSlot.blank 3).active = false ∧
      (tget key.sec.mram.slots FleetSlot.blank 3).active = true ∧ (tget key.sec.mram.slots FleetSlot.blank 3).b0.key ≠ [] ∧
      s.sec.ce = none ∧ (∀ op ∈ [1, 2, 3, 4, 5, 6], run op = some ⟨op, [1], true, 16, 16⟩) ∧ awake s ∧
      s.sec.rngStarting = false ∧ s.rb rSEC_STAT SEC_STAT.RNG_FAIL = false ∧ fail.sec.ce = some ⟨6, [], false, 0, 1⟩ ∧
      fail.rb rSEC_STAT SEC_STAT.RNG_FAIL = true ∧ fail.domOn 134 = true := by unfold fwReaches awake; decide +kernel

/-- An input armed, down and disabled; each phase and action; an erase with an operation and an install in progress and
without; both scopes; a licence valid and not. -/
theorem witness_ViolationsTakeTheirActionsAndErase :
    let id := fun (x : Sec) => x
    let s := secure id []
    let t := secure id [(rSEC_TAMP_CFG 3, fput SEC_TAMP_CFG.EN 0 1), (rSEC_MESH, fput SEC_MESH.EN 0 1)]
    let n := secure id [(rSEC_TAMP_CFG 3, 0), (rSEC_MESH, 0)]
    let act := fun k => (secure id [(rSEC_ALM 6, fput SEC_ALM.ACTION 0 k)]).rf (rSEC_ALM 6) SEC_ALM.ACTION
    let e := secure (fun x => { x with
      ce := some ⟨3, [1], true, 0, 0⟩, keyOps := [.root []], eraseMark := some false, debDown := [3] }) []
    t.rb (rSEC_TAMP_CFG 3) SEC_TAMP_CFG.EN = true ∧ t.rb (rSEC_TAMP_CFG 3) SEC_TAMP_CFG.POL = false ∧ 3 ∉ t.sec.debDown ∧
      max 1 (t.rf (rSEC_TAMP_CFG 3) SEC_TAMP_CFG.DEB) ≤ (1 : W32).toNat ∧ ¬ max 1 (t.rf (rSEC_TAMP_CFG 3) SEC_TAMP_CFG.DEB) ≤ (0 : W32).toNat ∧ 3 ∈ e.sec.debDown ∧
      n.rb (rSEC_TAMP_CFG 3) SEC_TAMP_CFG.EN = false ∧ n.rb rSEC_MESH SEC_MESH.EN = false ∧ t.rb rSEC_MESH SEC_MESH.EN = true ∧
      s.rst.phase = .running ∧ State.reset.rst.phase = .inReset ∧
      { State.reset.rst with phase := Phase.hostWait }.phase = .hostWait ∧ act 0 = 0 ∧ act 1 = 1 ∧ act 2 = 2 ∧ act 3 = 3 ∧
      e.sec.ce.any (·.stored) = true ∧ e.sec.keyOps.any KeyOp.installs = true ∧ s.sec.ce.any (·.stored) = false ∧
      s.sec.keyOps.any KeyOp.installs = false ∧ awake e ∧ e.sec.eraseMark = some false ∧
      (secure (fun x => { x with eraseMark := some true }) []).sec.eraseMark = some true ∧ fwReaches s rSEC_CTL ∧
      fwReaches s rSEC_DBG ∧ s.rb rSEC_STAT SEC_STAT.LIC_VALID = false ∧
      (secure id [(rSEC_STAT, fput SEC_STAT.LIC_VALID 0 1)]).rb rSEC_STAT SEC_STAT.LIC_VALID = true := by
  unfold fwReaches awake; decide +kernel

/-- Debug locked and unlocked; a Guide free, held, halted and not, whose next instruction is one and which stays; accesses of
each kind; an attempt open, refused and answered. -/
theorem witness_DebugPortUnlocksHaltsAndAccesses :
    let open1 := (rSEC_DBG, fput SEC_DBG.STATE 0 1)
    let s := secure (fun x => { x with unlocked := true }) [open1]
    let held := secure id [open1, (rRST_BLK_STAT, 0x10000)]
    let h := { s with gde := { s.gde with dbgHalted := true } }
    let t := taskDispatch (nmiEnter { h with gde := { h.gde with dbgHalted := false } })
    let wt := { h with gde := { h.gde with dbgHalted := false, waiting := true } }
    let j := { s with jtag := { s.jtag with busy := some 1 } }
    let full := { s with gde := { s.gde with loads := List.replicate 8 ⟨8, 5, 0x40000000, 4, false, 0, 0, 0⟩ } }
    s.rf rSEC_DBG SEC_DBG.STATE = 1 ∧ (up []).rf rSEC_DBG SEC_DBG.STATE ≠ 1 ∧ s.running = true ∧ s.held 16 = false ∧
      held.held 16 = true ∧ s.gde.dbgHalted = false ∧ h.gde.dbgHalted = true ∧ guideIssues t = true ∧
      guideIssues (taskDispatch (nmiEnter wt)) = false ∧
      s.jtag.busy = none ∧ j.jtag.busy ≠ none ∧ ((1 : BitVec 100) <<< 99).getLsbD 99 = true ∧ 0x100004 % 4 = 0 ∧
      0x100001 % 2 ≠ 0 ∧ guideOwn 0x11FFFF ∧ ¬ guideOwn 0x120000 ∧ guideFull full = true ∧
      guideFull s = false := by unfold guideOwn; decide +kernel

/-- A step after which debug stays, and one whose double exception resets the Guide. -/
theorem witness_DebugPortUnlocksHaltsAndAccesses_step :
    let s := secure (fun x => { x with unlocked := true }) [(rSEC_DBG, fput SEC_DBG.STATE 0 1),
      (rSMP_SRC srcDoubleExc, fput SMP_SRC.EN 0 1 ||| fput SMP_SRC.LEVEL 0 2)]
    let d := { s with gde := { s.gde with banks := [(8, { Bank.init with exc := true })] } }
    let run := fun (t : State) (p : State → Bool) => match guideRun (instrAt t.gde.imem (guidePc t).toNat) t with
      | .next w => p w
      | _ => false
    run (taskDispatch (nmiEnter s)) (fun w => w.running && !w.held 16 && w.rf rSEC_DBG SEC_DBG.STATE == 1) = true ∧
      run (taskDispatch (nmiEnter d)) (fun w => w.held 16) = true := by decide +kernel

/-- An attempt that may open and each ground that refuses it; a response that is taken, and its verification. -/
theorem witness_DebugPortUnlocksHaltsAndAccesses_attempts :
    let id := fun (x : Sec) => x
    let s := secure id []
    let f := secure (fun x => { x with lastFail := some 0, nonce := some [1], rngStarting := true }) []
    let r := secure (fun x => { x with nonce := some [1], response := some ([2], [3]) }) []
    let m := fun k => min 255 ((secure (fun x => { x with mram := { x.mram with dbgFail := k } }) []).sec.mram.dbgFail + 1)
    s.rst.phase ≠ .inReset ∧ s.sec.lastFail = none ∧ s.domOn 134 = true ∧ s.rb rSEC_STAT SEC_STAT.RNG_FAIL = false ∧
      s.sec.rngStarting = false ∧ (f.reg rPWR_UPTIME).toNat < 0 + 1000000 ∧ f.sec.lastFail = some 0 ∧
      State.reset.rst.phase = .inReset ∧ (f.sec.nonce ≠ none ∧ f.sec.response = none) ∧ s.sec.nonce = none ∧
      (r.sec.nonce = some [1] ∧ r.sec.response = some ([2], [3])) ∧ m 1 < 3 ∧ 3 ≤ m 2 := by decide +kernel

end Sys2Proof.Tests
end

section
/-! SUPPORT. The laws of the register map and of a register access through the matrix: rows are aligned and their
fields share no bit, a write and a read change a register field by field, and a transaction that is issued and answered
within its command shows only in PEAK of its master's BMX_OUT. O21 and O22 are settled at the end. -/

namespace Sys2Proof.Machine

open Sys2Proof

/-! ### The rows of the register map -/

/-- Two fields share no bit. -/
def FldsApart (f g : Fld) : Prop := f.hi < g.lo ∨ g.hi < f.lo

/-- A row of the register map is laid out as R4 to R6 ask: it and its repetitions lie at multiples of 4, and no two
fields share a bit. -/
def RowLaidOut (d : RegDesc) : Prop :=
  d.base % 4 = 0 ∧ (∀ p ∈ d.dims, p.2 % 4 = 0) ∧ d.flds.Pairwise FldsApart

theorem rowLaidOut_of_block : ∀ k < 25, ∀ d ∈ regsOfBlock k, RowLaidOut d := by
  unfold RowLaidOut FldsApart
  decide +kernel

theorem inDims_mod_four {dims : List (Nat × Nat)} (hd : ∀ p ∈ dims, p.2 % 4 = 0) {off : Nat}
    (h : inDims dims off = true) : off % 4 = 0 := by
  induction dims generalizing off with
  | nil => simp_all [inDims]
  | cons p r ih =>
    obtain ⟨n, st⟩ := p
    rw [inDims, Bool.and_eq_true] at h
    have hst : st % 4 = 0 := hd (n, st) (by simp)
    have hr : off % st % 4 = 0 := ih (fun q hq => hd q (by simp [hq])) h.2
    rwa [Nat.mod_mod_of_dvd _ (Nat.dvd_of_mod_eq_zero hst)] at hr

theorem findReg_some {ds : List RegDesc} {a : Nat} {d : RegDesc} (h : findReg ds a = some d) :
    d ∈ ds ∧ d.base ≤ a ∧ inDims d.dims (a - d.base) = true := by
  induction ds with
  | nil => cases h
  | cons e r ih =>
    unfold findReg at h
    split at h
    · rename_i hc
      cases h
      simpa using hc
    · obtain ⟨hm, hrest⟩ := ih h
      exact ⟨List.mem_cons_of_mem _ hm, hrest⟩

/-- The register at an address of the primary window: the address is aligned and the fields share no bit. -/
theorem regAt_laidOut {a : Nat} {d : RegDesc} (h : regAt a = some d) (ha : a < 0x40190000) :
    periphBase ≤ a ∧ a % 4 = 0 ∧ d.flds.Pairwise FldsApart := by
  unfold regAt at h
  split at h
  · cases h
  · rename_i hlo
    obtain ⟨hmem, hbase, hdims⟩ := findReg_some h
    have hk : (a - periphBase) / 0x10000 < 25 := by unfold periphBase at *; omega
    obtain ⟨hb, hst, hf⟩ := rowLaidOut_of_block _ hk d hmem
    have := inDims_mod_four hst hdims
    exact ⟨Nat.le_of_not_lt hlo, by omega, hf⟩

/-! ### A register after a write or a read, bit by bit (R6 to R8) -/

theorem fmask_getLsbD (f : Fld) (k : Nat) : (fmask f).getLsbD k = decide (k < 64 ∧ f.lo ≤ k ∧ k ≤ f.hi) := by
  unfold fmask Fld.width
  simp only [BitVec.getLsbD_shiftLeft, BitVec.getLsbD_setWidth, BitVec.getLsbD_allOnes]
  by_cases h : k < 64 ∧ f.lo ≤ k ∧ k ≤ f.hi
  · obtain ⟨h64, hlo, hhi⟩ := h
    simp [h64, hlo, hhi, Nat.not_lt.2 hlo]
    omega
  · simp only [h, decide_false, Bool.and_eq_false_iff, decide_eq_false_iff_not, Bool.not_eq_false',
      decide_eq_true_eq]
    omega

section Fold

variable {step : W64 → Fld → W64} {φ : Fld → Bool → Bool} {k : Nat}
  (hstep : ∀ acc f, (step acc f).getLsbD k = if f.lo ≤ k ∧ k ≤ f.hi then φ f (acc.getLsbD k) else acc.getLsbD k)
include hstep

/-- Going through the fields one by one leaves a bit that no field covers. -/
theorem foldl_getLsbD_uncovered {flds : List Fld} (h : ∀ f ∈ flds, ¬ (f.lo ≤ k ∧ k ≤ f.hi)) (v : W64) :
    (flds.foldl step v).getLsbD k = v.getLsbD k := by
  induction flds generalizing v with
  | nil => rfl
  | cons f r ih => rw [List.foldl_cons, ih fun g hg => h g (by simp [hg]), hstep, if_neg (h f (by simp))]

/-- Going through fields that share no bit changes a bit once, as the field that covers it says. -/
theorem foldl_getLsbD_covered {flds : List Fld} (hp : flds.Pairwise FldsApart) {f : Fld} (hf : f ∈ flds)
    (hlo : f.lo ≤ k) (hhi : k ≤ f.hi) (v : W64) : (flds.foldl step v).getLsbD k = φ f (v.getLsbD k) := by
  induction flds generalizing v with
  | nil => cases hf
  | cons g r ih =>
    obtain ⟨hg, hr⟩ := List.pairwise_cons.1 hp
    rw [List.foldl_cons]
    rcases List.mem_cons.1 hf with rfl | hf
    · have hrest : ∀ e ∈ r, ¬ (e.lo ≤ k ∧ k ≤ e.hi) := fun e he hc => by
        rcases hg e he with h | h <;> omega
      rw [foldl_getLsbD_uncovered hstep hrest, hstep, if_pos ⟨hlo, hhi⟩]
    · have hout : ¬ (g.lo ≤ k ∧ k ≤ g.hi) := fun hc => by
        rcases hg f hf with h | h <;> omega
      rw [ih hr hf, hstep, if_neg hout]

end Fold

/-- One field of a register replaced by the bits of x. -/
theorem replaceField_getLsbD (f : Fld) (acc x : W64) (k : Nat) :
    ((acc &&& ~~~ fmask f) ||| (x &&& fmask f)).getLsbD k =
      if f.lo ≤ k ∧ k ≤ f.hi then x.getLsbD k else acc.getLsbD k := by
  by_cases h64 : k < 64
  · simp only [BitVec.getLsbD_or, BitVec.getLsbD_and, BitVec.getLsbD_not, fmask_getLsbD]
    by_cases h : f.lo ≤ k ∧ k ≤ f.hi <;> simp [h64, h]
  · simp [BitVec.getLsbD_of_ge _ _ (Nat.le_of_not_lt h64)]

/-- A bit of a field after a write is what the field's type makes of it (R7, R8). -/
theorem regNext_getLsbD_field {flds : List Fld} (hp : flds.Pairwise FldsApart) {f : Fld} (hf : f ∈ flds) {k : Nat}
    (hlo : f.lo ≤ k) (hhi : k ≤ f.hi) (op : Nat) (lock : Bool) (old v : W64) :
    (regNext op lock flds old v).getLsbD k = (fieldBits op lock old v f.ty).getLsbD k :=
  foldl_getLsbD_covered (φ := fun g _ => (fieldBits op lock old v g.ty).getLsbD k)
    (fun acc g => replaceField_getLsbD g acc _ k) hp hf hlo hhi old

/-- A reserved bit keeps its value under a write (R6). -/
theorem regNext_getLsbD_reserved {flds : List Fld} {k : Nat} (h : ∀ f ∈ flds, ¬ (f.lo ≤ k ∧ k ≤ f.hi)) (op : Nat)
    (lock : Bool) (old v : W64) : (regNext op lock flds old v).getLsbD k = old.getLsbD k :=
  foldl_getLsbD_uncovered (φ := fun g _ => (fieldBits op lock old v g.ty).getLsbD k)
    (fun acc g => replaceField_getLsbD g acc _ k) h old

theorem clearIfRc_getLsbD (f : Fld) (acc : W64) (k : Nat) :
    (if f.ty = .rc then acc &&& ~~~ fmask f else acc).getLsbD k =
      if f.lo ≤ k ∧ k ≤ f.hi then (if f.ty = .rc then false else acc.getLsbD k) else acc.getLsbD k := by
  by_cases hty : f.ty = .rc
  · simpa [hty] using replaceField_getLsbD f acc 0 k
  · simp [hty]

/-- A bit of a field after a read: an RC field is cleared, any other keeps (R7). -/
theorem rcCleared_getLsbD_field {flds : List Fld} (hp : flds.Pairwise FldsApart) {f : Fld} (hf : f ∈ flds) {k : Nat}
    (hlo : f.lo ≤ k) (hhi : k ≤ f.hi) (old : W64) :
    (rcCleared flds old).getLsbD k = if f.ty = .rc then false else old.getLsbD k :=
  foldl_getLsbD_covered (φ := fun g b => if g.ty = .rc then false else b)
    (fun acc g => clearIfRc_getLsbD g acc k) hp hf hlo hhi old

/-- A reserved bit keeps its value under a read. -/
theorem rcCleared_getLsbD_reserved {flds : List Fld} {k : Nat} (h : ∀ f ∈ flds, ¬ (f.lo ≤ k ∧ k ≤ f.hi)) (old : W64) :
    (rcCleared flds old).getLsbD k = old.getLsbD k :=
  foldl_getLsbD_uncovered (φ := fun g b => if g.ty = .rc then false else b)
    (fun acc g => clearIfRc_getLsbD g acc k) h old

/-! ### The entry a transaction holds (R169) -/

theorem outOf_eq_of_reg {s t : State} {m : Nat} (h : t.reg (rBMX_OUT m) = s.reg (rBMX_OUT m)) : outOf t m = outOf s m := by
  unfold outOf State.rf
  rw [h]

theorem takeEntry_eq (m : Nat) (s : State) : takeEntry m s = { s with regs := (takeEntry m s).regs } := by
  unfold takeEntry
  dsimp only
  split <;> rfl

theorem reg_takeEntry_ne (m : Nat) (s : State) {b : Nat} (h : b ≠ rBMX_OUT m) : (takeEntry m s).reg b = s.reg b := by
  unfold takeEntry
  dsimp only
  split <;> simp [reg_setRf, h]

theorem reg_freeEntry_ne (m : Nat) (s : State) {b : Nat} (h : b ≠ rBMX_OUT m) : (freeEntry m s).reg b = s.reg b := by
  simp [freeEntry, reg_setRf, h]

theorem outOf_setRf_out (m : Nat) (s : State) {x : Nat} (h : x < 32) :
    outOf (s.setRf (rBMX_OUT m) BMX_OUT.OUT x) m = x := by
  unfold outOf State.rf
  rw [reg_setRf, if_pos rfl, fget_fput_same _ _ _ (by decide) (by decide)]
  exact Nat.mod_eq_of_lt h

theorem outOf_setRf_peak (m : Nat) (s : State) (x : Nat) :
    outOf (s.setRf (rBMX_OUT m) BMX_OUT.PEAK x) m = outOf s m := by
  unfold outOf State.rf
  rw [reg_setRf, if_pos rfl, fget_fput_apart _ _ _ _ (by decide) (by decide) (by decide)]

theorem outOf_takeEntry {m : Nat} {s : State} (h : outOf s m < 31) : outOf (takeEntry m s) m = outOf s m + 1 := by
  have hx := outOf_setRf_out m s (x := outOf s m + 1) (by omega)
  unfold takeEntry
  dsimp only
  split
  · rw [outOf_setRf_peak, hx]
  · exact hx

theorem outOf_freeEntry {m : Nat} {s : State} (h : outOf s m ≤ 32) : outOf (freeEntry m s) m = outOf s m - 1 :=
  outOf_setRf_out m s (by omega)

theorem quota_le (m : Nat) : quota m ≤ 16 := by
  unfold quota
  split
  · omega
  · split <;> omega

theorem identFree_outOf_lt {s : State} {ident : Nat} (h : identFree s ident = true) :
    outOf s (masterOf ident) < 31 := by
  have hq := quota_le (masterOf ident)
  unfold identFree at h
  rw [Bool.and_eq_true, decide_eq_true_eq] at h
  omega

/-- A transaction that changes one register, and not the entry's own, leaves the state as accessed says. -/
theorem accessed_setReg {m a : Nat} (hne : a ≠ rBMX_OUT m) {s : State} (hout : outOf s m < 31) (v data : W64) (code : Nat) :
    accessed m [a] data code s ((freeEntry m ((takeEntry m s).setReg a v)).answer data code) := by
  have hx : outOf ((takeEntry m s).setReg a v) m = outOf s m + 1 := by
    rw [outOf_eq_of_reg (reg_setReg_ne _ _ (Ne.symm hne)), outOf_takeEntry hout]
  refine ⟨?_, fun b hb => ?_, ?_⟩
  · conv => lhs; rw [takeEntry_eq]
    rfl
  · obtain ⟨hb1, hb2⟩ : b ≠ rBMX_OUT m ∧ b ≠ a := by simpa using hb
    rw [reg_answer, reg_freeEntry_ne _ _ hb1, reg_setReg_ne _ _ hb2, reg_takeEntry_ne _ _ hb1]
  · rw [outOf_eq_of_reg (reg_answer _ _ _ _), outOf_freeEntry (by omega), hx]
    omega

theorem reg_accessed_setReg {m a : Nat} (hne : a ≠ rBMX_OUT m) (s : State) (v data : W64) (code : Nat) :
    ((freeEntry m ((takeEntry m s).setReg a v)).answer data code).reg a = v := by
  rw [reg_answer, reg_freeEntry_ne _ _ hne, reg_setReg_same]

/-! ### The target of a register access (R4, R174, R180) -/

theorem regHit_of_regAt {a : Nat} {d : RegDesc} (h : regAt a = some d) (h4 : a % 4 = 0) :
    regHit a (if d.wide then 8 else 4) = .inr d := by
  have hw : a / 4 * 4 = a := by omega
  have hcov : regCover (a / 4 * 4 + 4 * 0) = some (a, d) := by
    unfold regCover
    simp [hw, h]
  unfold regHit
  simp only [idxs, List.range'_succ, List.findSome?_cons, hcov]
  simp

/-- The primary window and the two alias windows of a register address. -/
theorem regionOf_periph {a win : Nat} (hlo : periphBase ≤ a) (hhi : a < 0x40190000) (hwin : win < 3) :
    regionOf (a + 0x10000000 * win) = some (.periph win, a - periphBase) := by
  unfold periphBase at *
  unfold regionOf
  obtain rfl | rfl | rfl : win = 0 ∨ win = 1 ∨ win = 2 := by omega
  all_goals
    repeat rw [if_neg (by omega)]
    rw [if_pos (by omega)]
    simp only [Option.some.injEq, Prod.mk.injEq, true_and]
    omega

/-- Which master may write through which window: the Guide through all three, Siphon through the primary one (R167). -/
theorem hasPath_periph {m win : Nat} (hm : m < 2) (h : win = 0 ∨ m = 0) (write : Bool) :
    hasPath m (.periph win) write = true := by
  rcases h with rfl | rfl
  · obtain rfl | rfl : m = 0 ∨ m = 1 := by omega
    · rfl
    · rfl
  · cases win <;> rfl

theorem routeAccess_periph {m a win : Nat} (hlo : periphBase ≤ a) (hhi : a < 0x40190000) (hwin : win < 3) (hm : m < 2)
    (hp : win = 0 ∨ m = 0) (n : Nat) (write : Bool) (v : W64) (s : State) :
    routeAccess m (a + 0x10000000 * win) n write v [] s = periphAccess m win (a - periphBase) n write v s := by
  unfold routeAccess
  simp [regionOf_periph hlo hhi hwin, hasPath_periph hm hp, targetAccess]

section Periph

variable {m win off : Nat} {s : State} {d : RegDesc} (hd : regAt (periphBase + off) = some d)
  (h4 : (periphBase + off) % 4 = 0) (hce : inCeBuf (periphBase + off) = false)
  (hheld : regHeld s (periphBase + off) = false)
include hd h4 hce hheld

/-- A write of a register of its width, its block not held, is performed (R4, R179). -/
theorem periphAccess_write (v : W64) : periphAccess m win off (if d.wide then 8 else 4) true v s =
    ((0, 0), regWrite (periphBase + off) win v s) := by
  unfold periphAccess
  simp [regHit_of_regAt hd h4, hce, hheld]

/-- A read of a register of its width through the primary window, its block not held, is performed. -/
theorem periphAccess_read (v : W64) : periphAccess m 0 off (if d.wide then 8 else 4) false v s =
    (((regRead m (periphBase + off) s).1, 0), (regRead m (periphBase + off) s).2) := by
  unfold periphAccess
  simp [regHit_of_regAt hd h4, hce, hheld]

end Periph

/-! ### The matrix's own registers stand apart from what an access consults -/

theorem held_takeEntry (m : Nat) (s : State) : (takeEntry m s).held = s.held := by
  funext i
  unfold State.held State.rbit
  rw [reg_takeEntry_ne m s (by unfold rRST_BLK_STAT rBMX_OUT; omega)]

/-- The state matters to regHeld through the held blocks alone. Stated of the functions, since with an address applied
the kernel would evaluate the block number of an open term. -/
theorem regHeld_congr {s t : State} (h : s.held = t.held) : regHeld s = regHeld t := by
  delta regHeld
  simp only [h]

theorem regHeld_takeEntry (m : Nat) (s : State) (a : Nat) : regHeld (takeEntry m s) a = regHeld s a :=
  congrFun (regHeld_congr (held_takeEntry m s)) a

theorem locked_takeEntry (m : Nat) (s : State) (a : Nat) : locked (takeEntry m s) a = locked s a := by
  unfold locked State.rb State.rf
  rw [reg_takeEntry_ne m s (by unfold rSMP_CTL rBMX_OUT; omega), reg_takeEntry_ne m s (by unfold rSEC_CTL rBMX_OUT; omega)]

/-- A write of BMX_OUT does not store, so a register that only stores is not one. -/
theorem ne_rBMX_OUT_of_storesOnly {s : State} {a m : Nat} (h : storesOnly s a) (hm : m < 2) : a ≠ rBMX_OUT m := by
  rintro rfl
  have hkeep : ∀ new, regAct (rBMX_OUT m) 2 0 new s = s := fun new => by
    obtain rfl | rfl : m = 0 ∨ m = 1 := by omega
    · rfl
    · rfl
  have hreg : ∀ new, s.reg (rBMX_OUT m) = new := fun new => by
    conv => lhs; rw [← hkeep new, h.2]
    exact reg_setReg_same _ _ _
  exact absurd ((hreg 0).symm.trans (hreg 1)) (by decide)

/-! ### A register access within one command -/

theorem masterOf_firstIdent : ∀ {m : Nat}, m < 6 → masterOf (firstIdent m) = m := by decide

theorem firstIdent_lt : ∀ {m : Nat}, m < 6 → firstIdent m < 60 := by decide

/-- Where a transaction may be issued, its master's count of entries held can rise by one. -/
theorem outOf_lt_of_mayAccess {m a : Nat} (hm : m < 6) {s : State} (h : mayAccess s (firstIdent m) a) :
    outOf s m < 31 := by
  obtain ⟨-, hfree, -⟩ := h
  simpa only [masterOf_firstIdent hm] using identFree_outOf_lt hfree

/-- A transaction that may be issued is answered by its command. -/
theorem busCommand_of_mayAccess {m a : Nat} (hm : m < 6) {s : State} (hrun : s.running = true)
    (hmay : mayAccess s (firstIdent m) a) (n : Nat) (write : Bool) (d : W64) (coll : List (Nat × HwnAccess)) :
    busCommand m a n write d coll s =
      let r := busAccess (firstIdent m) a n write d coll s
      r.2.answer r.1.1 r.1.2 := by
  obtain ⟨hheld, hfree, horder, hposts⟩ := hmay
  have hid : ¬ 60 ≤ firstIdent m := Nat.not_le.2 (firstIdent_lt hm)
  have hqueue : (firstIdent m == 0 && !s.gde.posts.isEmpty) = false := by
    by_cases h0 : firstIdent m = 0
    · simp [hposts h0]
    · simp [h0]
  unfold busCommand busAs
  rw [if_neg (by omega), if_neg (by simp [hrun, hid, hheld]), if_neg (by simp [hfree, horder, hqueue])]

/-- A transaction its target acknowledges: the entry is freed and the data answered. -/
theorem busCommand_of_acknowledged {m a n : Nat} {write : Bool} {d data : W64} (hm : m < 6) {s t : State}
    (hrun : s.running = true) (hmay : mayAccess s (firstIdent m) a)
    (hack : routeAccess m a n write d [] (takeEntry m s) = ((data, 0), t)) :
    busCommand m a n write d [] s = (freeEntry m t).answer data 0 := by
  rw [busCommand_of_mayAccess hm hrun hmay]
  simp [busAccess, withEntry, masterOf_firstIdent hm, hack]

section Access

variable {m a : Nat} {s : State} {d : RegDesc}
  (hrun : s.running = true) (hm : m < 2) (hd : regAt a = some d) (ha : a < 0x40190000) (hheld : regHeld s a = false)
  (hce : inCeBuf a = false)
include hrun hm hd ha hheld hce

/-- A write of a register that only stores, through window win, makes of each field what its type says and leaves the
reserved bits. -/
theorem regWrite_accessed {win : Nat} (hwin : win < 3) (hp : win = 0 ∨ m = 0)
    (hmay : mayAccess s (firstIdent m) (a + 0x10000000 * win)) (hst : storesOnly s a) (hxp : a ≠ rCFL_XP_DATA) (v : W64) :
    ∃ t, busCommand m (a + 0x10000000 * win) (if d.wide then 8 else 4) true v [] s = t ∧ accessed m [a] 0 0 s t ∧
      (∀ f ∈ d.flds, ∀ k, f.lo ≤ k → k ≤ f.hi → (t.reg a).getLsbD k =
        (fieldBits win false (s.reg a) (if d.wide then v else v &&& 0xFFFFFFFF#64) f.ty).getLsbD k) ∧
      ∀ k, (∀ f ∈ d.flds, ¬ (f.lo ≤ k ∧ k ≤ f.hi)) → (t.reg a).getLsbD k = (s.reg a).getLsbD k := by
  obtain ⟨hlo, h4, hflds⟩ := regAt_laidOut hd ha
  have hne := ne_rBMX_OUT_of_storesOnly hst hm
  obtain ⟨hlock, hact⟩ := hst
  have hout := outOf_lt_of_mayAccess (by omega) hmay
  have hw : regWrite a win v (takeEntry m s) = (takeEntry m s).setReg a
      (regNext win false d.flds (s.reg a) (if d.wide then v else v &&& 0xFFFFFFFF#64)) := by
    unfold regWrite
    simp [hd, hxp, locked_takeEntry, hlock, hact, reg_takeEntry_ne m s hne]
  have hack : routeAccess m (a + 0x10000000 * win) (if d.wide then 8 else 4) true v [] (takeEntry m s) =
      ((0, 0), regWrite a win v (takeEntry m s)) := by
    rw [routeAccess_periph hlo ha hwin hm hp]
    obtain ⟨off, rfl⟩ := Nat.exists_eq_add_of_le hlo
    rw [Nat.add_sub_cancel_left, periphAccess_write hd h4 hce (by rwa [regHeld_takeEntry])]
  rw [hw] at hack
  refine ⟨_, busCommand_of_acknowledged (by omega) hrun hmay hack, accessed_setReg hne hout _ _ _,
    fun f hf k hlo hhi => ?_, fun k hk => ?_⟩
  · rw [reg_accessed_setReg hne, regNext_getLsbD_field hflds hf hlo hhi]
  · rw [reg_accessed_setReg hne, regNext_getLsbD_reserved hk]

/-- A read of a register that shows what it holds answers it, clears its RC fields and leaves every other bit. -/
theorem regRead_accessed (hmay : mayAccess s (firstIdent m) a) (hview : regView (takeEntry m s) a = s.reg a)
    (htb : a ∉ [rDTM_TB_NS, rDTM_TB_SEC, rDTM_CYCLE]) (hne : a ≠ rBMX_OUT m) :
    ∃ t, busCommand m a (if d.wide then 8 else 4) false 0 [] s = t ∧ accessed m [a] (s.reg a) 0 s t ∧
      (∀ f ∈ d.flds, ∀ k, f.lo ≤ k → k ≤ f.hi →
        (t.reg a).getLsbD k = (if f.ty = .rc then false else (s.reg a).getLsbD k)) ∧
      ∀ k, (∀ f ∈ d.flds, ¬ (f.lo ≤ k ∧ k ≤ f.hi)) → (t.reg a).getLsbD k = (s.reg a).getLsbD k := by
  obtain ⟨hlo, h4, hflds⟩ := regAt_laidOut hd ha
  obtain ⟨htb1, htb2, htb3⟩ : a ≠ rDTM_TB_NS ∧ a ≠ rDTM_TB_SEC ∧ a ≠ rDTM_CYCLE := by simpa using htb
  have hout := outOf_lt_of_mayAccess (by omega) hmay
  have hr : regRead m a (takeEntry m s) = (s.reg a, (takeEntry m s).setReg a (rcCleared d.flds (s.reg a))) := by
    unfold regRead
    simp [htb1, htb2, htb3, hd, hview, reg_takeEntry_ne m s hne]
  have hack : routeAccess m a (if d.wide then 8 else 4) false 0 [] (takeEntry m s) =
      ((s.reg a, 0), (takeEntry m s).setReg a (rcCleared d.flds (s.reg a))) := by
    refine (routeAccess_periph (win := 0) hlo ha (by omega) hm (.inl rfl) _ _ _ _).trans ?_
    obtain ⟨off, rfl⟩ := Nat.exists_eq_add_of_le hlo
    rw [Nat.add_sub_cancel_left, periphAccess_read hd h4 hce (by rwa [regHeld_takeEntry]), hr]
  refine ⟨_, busCommand_of_acknowledged (by omega) hrun hmay hack, accessed_setReg hne hout _ _ _,
    fun f hf k hlo hhi => ?_, fun k hk => ?_⟩
  · rw [reg_accessed_setReg hne, rcCleared_getLsbD_field hflds hf hlo hhi]
  · rw [reg_accessed_setReg hne, rcCleared_getLsbD_reserved hk]

end Access

/-! ### The obligations -/

/-- Settles O21: each command is a write through its window, and fieldBits is what the statement says of each type. -/
theorem registerWriteStoresByFieldType : Obligations.RegisterWriteStoresByFieldType := by
  unfold Obligations.RegisterWriteStoresByFieldType
  intro m addr wide v s d a w hrun hd hwide ha hst hheld hce hxp goes
  subst hwide
  refine ⟨fun hm hmay => ?primary, fun hmay => ?bitSet, fun hmay => ?bitClear⟩
  case primary =>
    obtain ⟨t, ht, hacc, hfld, hres⟩ :=
      regWrite_accessed hrun hm hd ha hheld hce (win := 0) (by omega) (.inl rfl) hmay hst hxp v
    exact ⟨t, congrArg _ ht, hacc, fun f hf k hlo hhi => (hfld f hf k hlo hhi).trans (by cases f.ty <;> rfl), hres⟩
  case bitSet =>
    obtain ⟨t, ht, hacc, hfld, hres⟩ :=
      regWrite_accessed hrun (m := 0) (by omega) hd ha hheld hce (win := 1) (by omega) (.inr rfl) hmay hst hxp v
    exact ⟨t, congrArg _ ht, hacc, fun f hf k hlo hhi => (hfld f hf k hlo hhi).trans (by cases f.ty <;> rfl), hres⟩
  case bitClear =>
    obtain ⟨t, ht, hacc, hfld, hres⟩ :=
      regWrite_accessed hrun (m := 0) (by omega) hd ha hheld hce (win := 2) (by omega) (.inr rfl) hmay hst hxp v
    exact ⟨t, congrArg _ ht, hacc, fun f hf k hlo hhi => (hfld f hf k hlo hhi).trans (by cases f.ty <;> rfl), hres⟩

/-- Settles O22: the command is a read through the primary window. -/
theorem readOfAnRcFieldClearsIt : Obligations.ReadOfAnRcFieldClearsIt := by
  unfold Obligations.ReadOfAnRcFieldClearsIt
  intro m addr s d a hrun hm hmay hd ha hheld hce hview htb hne
  obtain ⟨t, ht, hchange⟩ := regRead_accessed hrun hm hd ha hheld hce hmay hview htb hne
  exact ⟨t, congrArg _ ht, hchange⟩

end Sys2Proof.Machine
end

section
/-! SUPPORT. The rules that the commands of several blocks share: a register field after a write, a command that reaches
its block, a block's registers held together, and an engine's read of clean Cavern words, which uses entries of the
matrix and changes nothing else. -/

namespace Sys2Proof.Machine

open Sys2Proof

/-! ### A register field after a write -/

theorem rf_setRf_same (s : State) (a : Nat) (f : Fld) (x : Nat) (hf : f.lo ≤ f.hi) (h64 : f.hi < 64)
    (hx : x < 2 ^ f.width) : (s.setRf a f x).rf a f = x := by
  unfold State.rf
  rw [reg_setRf, if_pos rfl, fget_fput_same _ _ _ hf h64, Nat.mod_eq_of_lt hx]

theorem rf_setRf_apart (s : State) (a : Nat) (f g : Fld) (x : Nat) (hf : f.lo ≤ f.hi) (h64 : f.hi < 64)
    (h : f.hi < g.lo ∨ g.hi < f.lo) : (s.setRf a f x).rf a g = s.rf a g := by
  unfold State.rf
  rw [reg_setRf, if_pos rfl, fget_fput_apart _ _ _ _ hf h64 h]

theorem reg_setRf_ne (s : State) {a b : Nat} (f : Fld) (x : Nat) (h : b ≠ a) : (s.setRf a f x).reg b = s.reg b := by
  rw [reg_setRf, if_neg h]

theorem rb_setRb_same (s : State) (a : Nat) (f : Fld) (b : Bool) (hf : f.lo ≤ f.hi) (h64 : f.hi < 64) :
    (s.setRb a f b).rb a f = b := by
  have hw : 1 < 2 ^ f.width := Nat.one_lt_two_pow (by unfold Fld.width; omega)
  unfold State.rb State.setRb
  rw [rf_setRf_same s a f _ hf h64 (by split <;> omega)]
  cases b <;> rfl

theorem rf_congr {s t : State} {a : Nat} (h : t.reg a = s.reg a) (f : Fld) : t.rf a f = s.rf a f := by
  unfold State.rf; rw [h]

theorem rb_congr {s t : State} {a : Nat} (h : t.reg a = s.reg a) (f : Fld) : t.rb a f = s.rb a f := by
  unfold State.rb; rw [rf_congr h]

theorem reg_bumpSat_ne (s : State) {a b : Nat} (f : Fld) (h : b ≠ a) : (s.bumpSat a f).reg b = s.reg b := by
  unfold State.bumpSat
  split
  · exact reg_setRf_ne s f _ h
  · rfl

/-- What bumpSat makes of its register depends on that register alone. -/
theorem reg_bumpSat_congr {s t : State} {a : Nat} (h : t.reg a = s.reg a) (f : Fld) :
    (t.bumpSat a f).reg a = (s.bumpSat a f).reg a := by
  unfold State.bumpSat
  rw [rf_congr h]
  split
  · rw [reg_setRf, reg_setRf, h]
  · exact h

theorem bumpSat_eq (s : State) (a : Nat) (f : Fld) : s.bumpSat a f = { s with regs := (s.bumpSat a f).regs } := by
  unfold State.bumpSat
  split <;> rfl

/-! ### Commands that reach their block -/

theorem ctl_of_fwReaches {a : Nat} {s : State} (h : fwReaches s a) (f : State → State) :
    ctl a f s = (f s).answer 0 0 := by
  obtain ⟨hrun, hheld⟩ := h
  simp [ctl, hrun, hheld]

theorem ev_of_awake {s : State} (h : awake s) (f : State → State) : ev f s = f s := if_neg h

theorem regBlock_of_flw {a : Nat} (h : (a - periphBase) / 0x10000 = 17) : regBlock a = some 18 := by
  simp only [regBlock, h]

theorem regBlock_of_cfl {a : Nat} (h : (a - periphBase) / 0x10000 = 16) : regBlock a = some 17 := by
  simp only [regBlock, h]

/-- Stated of the functions: with an address applied the kernel would evaluate the block number of an open term. -/
theorem regHeld_eq_comp (s : State) : regHeld s = fun a => (regBlock a).elim false s.held := by
  delta regHeld
  funext a
  cases regBlock a <;> rfl

theorem regHeld_of_regBlock {a k : Nat} (h : regBlock a = some k) (s : State) : regHeld s a = s.held k :=
  (congrFun (regHeld_eq_comp s) a).trans (congrArg (fun o => Option.elim o false s.held) h)

/-- Writes to two registers of one block reach it together. -/
theorem fwReaches_of_regBlock {s : State} {a b k : Nat} (h : fwReaches s a) (ha : regBlock a = some k)
    (hb : regBlock b = some k) : fwReaches s b :=
  ⟨h.1, (regHeld_of_regBlock hb s).trans ((regHeld_of_regBlock ha s).symm.trans h.2)⟩

theorem regBlock_rFLW_CMD : regBlock rFLW_CMD = some 18 := regBlock_of_flw (by decide)

theorem regBlock_rFLW_SLOT_BASE {k : Nat} (h : k < 16) : regBlock (rFLW_SLOT_BASE k) = some 18 :=
  regBlock_of_flw (by unfold rFLW_SLOT_BASE periphBase; omega)

theorem regBlock_rCFL_IN {i : Nat} (h : i < 256) : regBlock (rCFL_IN i) = some 17 :=
  regBlock_of_cfl (by unfold rCFL_IN periphBase; omega)

/-! ### A clean read through the matrix (R144, R169, R174) -/

/-- Word w of Cavern lies in the array, its half is powered and no bit of it has flipped. -/
def cleanWord (s : State) (w : Nat) : Prop :=
  w < 1048576 ∧ s.domOn (cavDomain w) = true ∧ tget s.cav.flips 0 w = 0

/-- Two changes of the register store alone are one. -/
theorem frame_trans {s t u : State} (h : t = { s with regs := t.regs }) (k : u = { t with regs := u.regs }) :
    u = { s with regs := u.regs } :=
  k.trans (congrArg (fun x : State => { x with regs := u.regs }) h)

/-- t is s after entries of master m were taken and freed. -/
def entriesUsed (m : Nat) (s t : State) : Prop := onlyRegs [rBMX_OUT m] s t ∧ outOf t m = outOf s m

theorem entriesUsed_refl (m : Nat) (s : State) : entriesUsed m s s := ⟨⟨rfl, fun _ _ => rfl⟩, rfl⟩

theorem entriesUsed_trans {m : Nat} {s t u : State} (h : entriesUsed m s t) (k : entriesUsed m t u) :
    entriesUsed m s u := by
  obtain ⟨⟨hst, hsr⟩, hso⟩ := h
  obtain ⟨⟨htu, htr⟩, hto⟩ := k
  exact ⟨⟨frame_trans hst htu, fun a ha => (htr a ha).trans (hsr a ha)⟩, hto.trans hso⟩

theorem entriesUsed_entryUsed {m : Nat} {s : State} (h : outOf s m < 31) : entriesUsed m s (entryUsed m s) := by
  unfold entryUsed
  refine ⟨⟨?_, fun a ha => ?_⟩, ?_⟩
  · conv => lhs; rw [takeEntry_eq]
    rfl
  · have ha : a ≠ rBMX_OUT m := by simpa using ha
    rw [reg_freeEntry_ne _ _ ha, reg_takeEntry_ne _ _ ha]
  · rw [outOf_freeEntry (by rw [outOf_takeEntry h]; omega), outOf_takeEntry h, Nat.add_sub_cancel]

theorem cavDomain_lt {w : Nat} (h : w < 1048576) : cavDomain w < 112 := by
  unfold cavDomain; split <;> omega

theorem cav_of_entriesUsed {m : Nat} {s t : State} (h : entriesUsed m s t) : t.cav = s.cav := by
  obtain ⟨⟨hframe, -⟩, -⟩ := h
  rw [hframe]

/-- A word stays clean while entries are taken and freed. -/
theorem cleanWord_of_entriesUsed {m w : Nat} {s t : State} (h : entriesUsed m s t) (hw : cleanWord s w) :
    cleanWord t w := by
  have hcav := cav_of_entriesUsed h
  obtain ⟨⟨hframe, hregs⟩, -⟩ := h
  obtain ⟨hlt, hon, hflip⟩ := hw
  have hd := cavDomain_lt hlt
  have hdom : t.reg (rPWR_DOM_STAT (cavDomain w)) = s.reg (rPWR_DOM_STAT (cavDomain w)) :=
    hregs _ (by simp only [List.mem_singleton]; unfold rPWR_DOM_STAT rBMX_OUT; omega)
  have hpwr : t.pwr = s.pwr := by rw [hframe]
  refine ⟨hlt, ?_, by rwa [hcav]⟩
  unfold State.domOn at hon ⊢
  rwa [rf_congr hdom, hpwr]

theorem regionOf_cavern {w : Nat} (h : w < 1048576) : regionOf (0x10000000 + 8 * w) = some (.cavern 0, 8 * w) := by
  unfold regionOf
  repeat rw [if_neg (by omega)]
  rw [if_pos (by omega), Nat.add_sub_cancel_left]

/-- A word of which no bit has flipped reads as it stands. -/
theorem cavFetch_clean {w : Nat} {s : State} (h : tget s.cav.flips 0 w = 0) :
    cavFetch w s = (some (tget s.cav.words 0 w), s) := by
  have hn : onesBelow (0 : BitVec 48) 48 = 0 := by decide
  unfold cavFetch
  rw [h]
  exact if_pos hn

theorem engineFetch_clean {ident w a : Nat} {s : State} (ha : regionOf a = some (.cavern 0, 8 * w))
    (hw : cleanWord s w) : engineFetch ident a s = (.inr (tget s.cav.words 0 w), s) := by
  obtain ⟨-, hon, hflip⟩ := hw
  have hpath : hasPath (masterOf ident) (.cavern 0) false = true := by simp [hasPath]
  simp [engineFetch, ha, hpath, hon, cavFetch_clean hflip]

/-- An engine's read of a clean word with an entry free gives the word. -/
theorem matrixRead_clean {ident w : Nat} {s : State} (hfree : identFree s ident = true) (hw : cleanWord s w) :
    matrixRead ident w s = (some (tget s.cav.words 0 w), entryUsed (masterOf ident) s) := by
  have hused := entriesUsed_entryUsed (identFree_outOf_lt hfree)
  have htouch : touchEntry ident s = entryUsed (masterOf ident) s := by
    simp only [touchEntry, hfree, if_true]; rfl
  unfold matrixRead matrixReadAt
  rw [htouch, engineFetch_clean (regionOf_cavern hw.1) (cleanWord_of_entriesUsed hused hw), cav_of_entriesUsed hused]

end Sys2Proof.Machine
end

section
/-! SUPPORT. Flowstone's commands: slots, the check of a set, commits and arming (R274 to R283), with Confluence's live
writes. O44 is settled at the end. -/

namespace Sys2Proof.Machine

open Sys2Proof

/-! ### Slots (R274, R278) -/

/-- The state with Flowstone's state changed. -/
def onFlw (f : Flw → Flw) (s : State) : State := { s with flw := f s.flw }

@[simp] theorem reg_onFlw (f : Flw → Flw) (s : State) (a : Nat) : (onFlw f s).reg a = s.reg a := rfl

theorem rFLW_SLOT_STAT_inj {j k : Nat} : rFLW_SLOT_STAT j = rFLW_SLOT_STAT k ↔ j = k := by
  unfold rFLW_SLOT_STAT; omega

/-- Slot k of t shows the state st and the FAIL code f, and is in use as it is in s. -/
def slotShows (k st f : Nat) (s t : State) : Prop :=
  t.rf (rFLW_SLOT_STAT k) FLW_SLOT_STAT.STATE = st ∧ t.rf (rFLW_SLOT_STAT k) FLW_SLOT_STAT.FAIL = f ∧
    t.rb (rFLW_SLOT_STAT k) FLW_SLOT_STAT.INUSE = s.rb (rFLW_SLOT_STAT k) FLW_SLOT_STAT.INUSE

theorem slotShows_congr {k st f : Nat} {s t u : State} (h : slotShows k st f s t)
    (hreg : u.reg (rFLW_SLOT_STAT k) = t.reg (rFLW_SLOT_STAT k)) : slotShows k st f s u := by
  unfold slotShows
  rwa [rf_congr hreg, rf_congr hreg, rb_congr hreg]

theorem slotShows_trans {k st f : Nat} {s u t : State} (hreg : u.reg (rFLW_SLOT_STAT k) = s.reg (rFLW_SLOT_STAT k))
    (h : slotShows k st f u t) : slotShows k st f s t := by
  unfold slotShows at h ⊢
  rwa [rb_congr hreg] at h

theorem reg_setSlot_ne (k st f : Nat) (s : State) {a : Nat} (h : a ≠ rFLW_SLOT_STAT k) :
    (setSlot k st f s).reg a = s.reg a := by
  unfold setSlot
  rw [reg_setRf_ne _ _ _ h, reg_setRf_ne _ _ _ h]

theorem setSlot_slotShows (k : Nat) {st f : Nat} (hst : st < 4) (hf : f < 16) (s : State) :
    slotShows k st f s (setSlot k st f s) := by
  unfold slotShows setSlot State.rb
  refine ⟨?_, ?_, ?_⟩
  · rw [rf_setRf_apart _ _ _ _ _ (by decide) (by decide) (by decide),
      rf_setRf_same _ _ _ _ (by decide) (by decide) hst]
  · rw [rf_setRf_same _ _ _ _ (by decide) (by decide) hf]
  · rw [rf_setRf_apart _ _ _ _ _ (by decide) (by decide) (by decide),
      rf_setRf_apart _ _ _ _ _ (by decide) (by decide) (by decide)]

theorem stage_of_free {k : Nat} {s : State} (h : slotInUse s k = false) : stage k s =
    onFlw (fun q => { q with queue := if k ∈ q.queue then q.queue else q.queue ++ [k] }) (setSlot k 1 0 s) := by
  have hq : (setSlot k 1 0 s).flw = s.flw := rfl
  unfold stage onFlw
  simp only [h, hq, List.contains_iff_mem]
  by_cases hk : k ∈ s.flw.queue
  · simp only [hk, if_true]; rfl
  · simp only [hk, if_false]; rfl

theorem emptySlot_eq (k : Nat) (s : State) :
    emptySlot k s = onFlw (fun q => { q with queue := q.queue.filter fun j => j != k }) (setSlot k 0 0 s) := rfl

theorem discard_of_free {k : Nat} {s : State} (h : slotInUse s k = false) : discard k s = emptySlot k s := by
  simp [discard, h]

theorem slotBaseWrite_of_free {k : Nat} {s : State} (h : slotInUse s k = false) (w : Nat) :
    slotBaseWrite k w s = emptySlot k (s.setRf (rFLW_SLOT_BASE k) FLW_SLOT_BASE.WORD w) := by
  simp [slotBaseWrite, h]

/-- The morph area stays where it is while a commit is pending or a ramp or morph runs. -/
theorem morphBaseWrite_eq (w : Nat) (s : State) : morphBaseWrite w s =
    if s.rb rFLW_STAT FLW_STAT.PENDING = true ∨ s.flw.xr ≠ [] ∨ s.flw.morphs ≠ [] then cmdErr s
    else s.setRf rFLW_MORPH_BASE FLW_MORPH_BASE.WORD w := by
  unfold morphBaseWrite rampsRun
  simp only [Bool.or_eq_true, Bool.not_eq_true', List.isEmpty_eq_false_iff]

/-! ### INUSE follows the commits, ramps and morphs (R274) -/

/-- A commit, a put-back, a ramp or a morph of slot k stands in s. -/
def slotHolds (s : State) (k : Nat) : Bool :=
  (match s.flw.commit with
    | some c => c.slot == k
    | none => false) || (match s.flw.dropped with
    | some d => d.slot == k
    | none => false) || s.flw.xr.any (fun p => p.2.slot == k) || s.flw.morphs.any (fun m => m.slot == k)

/-- INUSE of slot k shows whether something of the slot stands. -/
def showSlot (k : Nat) (s : State) : State :=
  if s.rb (rFLW_SLOT_STAT k) FLW_SLOT_STAT.INUSE = slotHolds s k then s
  else s.setRb (rFLW_SLOT_STAT k) FLW_SLOT_STAT.INUSE (slotHolds s k)

theorem showInUse_eq (s : State) : showInUse s = forEach (idxs 0 16) showSlot s := rfl

theorem showSlot_eq (k : Nat) (s : State) : showSlot k s = { s with regs := (showSlot k s).regs } := by
  unfold showSlot
  split <;> rfl

theorem reg_showSlot_ne {k a : Nat} (s : State) (h : a ≠ rFLW_SLOT_STAT k) : (showSlot k s).reg a = s.reg a := by
  unfold showSlot
  split
  · rfl
  · exact reg_setRf_ne s _ _ h

theorem rb_showSlot (k : Nat) (s : State) :
    (showSlot k s).rb (rFLW_SLOT_STAT k) FLW_SLOT_STAT.INUSE = slotHolds s k := by
  unfold showSlot
  split
  · assumption
  · exact rb_setRb_same s _ _ _ (by decide) (by decide)

theorem rf_state_showSlot (k j : Nat) (s : State) : (showSlot k s).rf (rFLW_SLOT_STAT j) FLW_SLOT_STAT.STATE =
    s.rf (rFLW_SLOT_STAT j) FLW_SLOT_STAT.STATE := by
  by_cases h : j = k
  · subst h
    unfold showSlot
    split
    · rfl
    · exact rf_setRf_apart s _ _ _ _ (by decide) (by decide) (by decide)
  · exact rf_congr (reg_showSlot_ne s (mt rFLW_SLOT_STAT_inj.1 h)) _

theorem slotHolds_showSlot (k j : Nat) (s : State) : slotHolds (showSlot k s) j = slotHolds s j := by
  rw [showSlot_eq]; rfl

/-- INUSE of the slots of l has been brought up to date: nothing else has changed. -/
structure SlotsShown (l : List Nat) (s t : State) : Prop where
  frame : t = { s with regs := t.regs }
  regs : ∀ a, (∀ k ∈ l, a ≠ rFLW_SLOT_STAT k) → t.reg a = s.reg a
  state : ∀ j, t.rf (rFLW_SLOT_STAT j) FLW_SLOT_STAT.STATE = s.rf (rFLW_SLOT_STAT j) FLW_SLOT_STAT.STATE
  inUse : ∀ k ∈ l, t.rb (rFLW_SLOT_STAT k) FLW_SLOT_STAT.INUSE = slotHolds s k

theorem slotsShown_forEach (l : List Nat) (s : State) : SlotsShown l s (forEach l showSlot s) := by
  induction l generalizing s with
  | nil => exact ⟨rfl, fun _ _ => rfl, fun _ => rfl, by simp⟩
  | cons k r ih =>
    obtain ⟨hframe, hregs, hstate, hin⟩ := ih (showSlot k s)
    refine ⟨?_, fun a ha => ?_, fun j => ?_, fun j hj => ?_⟩
    · exact frame_trans (showSlot_eq k s) hframe
    · exact (hregs a fun j hj => ha j (by simp [hj])).trans (reg_showSlot_ne s (ha k (by simp)))
    · exact (hstate j).trans (rf_state_showSlot k j s)
    · by_cases hr : j ∈ r
      · exact (hin j hr).trans (slotHolds_showSlot k j s)
      · obtain rfl : j = k := by simpa [hr] using hj
        have hkept : (forEach r showSlot (showSlot j s)).reg (rFLW_SLOT_STAT j) =
            (showSlot j s).reg (rFLW_SLOT_STAT j) := hregs _ fun i hi he => hr (rFLW_SLOT_STAT_inj.1 he ▸ hi)
        exact (rb_congr hkept _).trans (rb_showSlot j s)

theorem slotsShown_showInUse (s : State) : SlotsShown (idxs 0 16) s (showInUse s) := by
  rw [showInUse_eq]
  exact slotsShown_forEach _ s

/-! ### The check of a set that can be read (R278) -/

theorem flowstoneFree_of_entriesUsed {s t : State} (h : entriesUsed 3 s t) (hfree : identFree s 48 = true) :
    identFree t 48 = true := by
  obtain ⟨⟨hframe, -⟩, hout⟩ := h
  have htx : txnsOut t 48 = txnsOut s 48 := by rw [hframe]; rfl
  have hm : masterOf 48 = 3 := rfl
  simp only [identFree, hm] at hfree ⊢
  rwa [hout, htx]

/-- n clean words read as Flowstone: their values, and entries of the gateway used. -/
theorem flwRead_clean {w n : Nat} {s : State} (hfree : identFree s 48 = true) (hw : ∀ i < n, cleanWord s (w + i)) :
    ∃ t, flwRead w n s = (some ((List.range n).map fun i => tget s.cav.words 0 (w + i)), t) ∧
      entriesUsed 3 s t := by
  induction n generalizing w s with
  | zero => exact ⟨s, rfl, entriesUsed_refl 3 s⟩
  | succ n ih =>
    have hused : entriesUsed 3 s (entryUsed 3 s) := entriesUsed_entryUsed (identFree_outOf_lt (ident := 48) hfree)
    obtain ⟨t, hread, ht⟩ := ih (w := w + 1) (flowstoneFree_of_entriesUsed hused hfree) fun i hi =>
      cleanWord_of_entriesUsed hused (by simpa [Nat.add_assoc, Nat.add_comm 1 i] using hw (i + 1) (by omega))
    have hfirst : matrixRead 48 w s = (some (tget s.cav.words 0 w), entryUsed 3 s) :=
      matrixRead_clean hfree (hw 0 (by omega))
    refine ⟨t, ?_, entriesUsed_trans hused ht⟩
    simp only [flwRead, hfirst, hread, cav_of_entriesUsed hused, List.range_succ_eq_map, List.map_cons, List.map_map,
      Nat.add_zero, Function.comp_def, Nat.succ_eq_add_one, Nat.add_assoc, Nat.add_comm 1]

theorem bits40_eq_extractLsb (v : W40) (lo n : Nat) : bits40 v lo n = (v.extractLsb' lo n).toNat := by
  rw [bits40, BitVec.extractLsb'_toNat, Nat.shiftRight_eq_div_pow]

theorem setWord_map_range (w : Nat → W40) {i n : Nat} (h : i < n) : setWord ((List.range n).map w) i = w i := by
  simp [setWord, h]

/-- LEN of the set at Cavern word base. -/
def setLenAt (s : State) (base : Nat) : Nat := ((tget s.cav.words 0 (base + 1)).extractLsb' 0 14).toNat

/-- The words of the set at Cavern word base. -/
def setWordsAt (s : State) (base : Nat) : List W40 :=
  (List.range (setLenAt s base)).map fun i => tget s.cav.words 0 (base + i)

/-- Flowstone has an entry free, and the set at Cavern word base and its header are clean. -/
def setReadable (s : State) (base : Nat) : Prop :=
  identFree s 48 = true ∧ ∀ i < max (setLenAt s base) 2, cleanWord s (base + i)

/-- The first failed check of R278 for a set that can be read; 0 where it passes. -/
def setFault (s : State) (base : Nat) : Nat :=
  if logBase < base + max (setLenAt s base) 2 then 5
  else if (tget s.cav.words 0 (base + 0)).setWidth 32 ≠ 0x464C5354#32 ∨ setLenAt s base < 1489 ∨
      10240 < setLenAt s base ∨ ((tget s.cav.words 0 (base + 3)).extractLsb' 0 2).toNat ≠ s.cyc.fam then 1
  else if setLayoutOk (nInputs s) (nBuses s) (setWordsAt s base) = false then 2
  else if setCrcOk (setWordsAt s base) = false then 3 else 0

/-- What holds of both branches holds of the choice: a code is bounded branch by branch. -/
theorem ite_both (P : Nat → Prop) {c : Prop} [Decidable c] {a b : Nat} (ha : P a) (hb : P b) :
    P (if c then a else b) := by
  by_cases hc : c
  · rw [if_pos hc]; exact ha
  · rw [if_neg hc]; exact hb

/-- What holds of each of the set check's codes holds of the first failed check. -/
theorem setFault_of_codes (P : Nat → Prop) (h5 : P 5) (h1 : P 1) (h2 : P 2) (h3 : P 3) (h0 : P 0)
    (s : State) (base : Nat) : P (setFault s base) :=
  ite_both P h5 (ite_both P h1 (ite_both P h2 (ite_both P h3 h0)))

theorem setFault_lt (s : State) (base : Nat) : setFault s base < 16 :=
  setFault_of_codes (· < 16) (by decide) (by decide) (by decide) (by decide) (by decide) s base

theorem setFault_ne_four (s : State) (base : Nat) : setFault s base ≠ 4 :=
  setFault_of_codes (· ≠ 4) (by decide) (by decide) (by decide) (by decide) (by decide) s base

/-- The two words of the header. -/
theorem readHeader_clean {s : State} {base : Nat} (h : setReadable s base) :
    ∃ t hd, flwRead base 2 s = (some hd, t) ∧ setLen hd = setLenAt s base ∧ entriesUsed 3 s t := by
  obtain ⟨hfree, hclean⟩ := h
  obtain ⟨t, hread, ht⟩ := flwRead_clean (n := 2) hfree fun i hi => hclean i (by omega)
  refine ⟨t, _, hread, ?_, ht⟩
  rw [setLen, setBits, setWord_map_range _ (by omega), bits40_eq_extractLsb]
  rfl

/-- The words of the set, after the header. -/
theorem readSet_clean {s t : State} {base : Nat} (h : setReadable s base) (ht : entriesUsed 3 s t) :
    ∃ u, flwRead base (setLenAt s base) t = (some (setWordsAt s base), u) ∧ entriesUsed 3 s u := by
  obtain ⟨hfree, hclean⟩ := h
  obtain ⟨u, hread, hu⟩ := flwRead_clean (n := setLenAt s base) (flowstoneFree_of_entriesUsed ht hfree) fun i hi =>
    cleanWord_of_entriesUsed ht (hclean i (by omega))
  exact ⟨u, by rw [hread, cav_of_entriesUsed ht]; rfl, entriesUsed_trans ht hu⟩

theorem badHeader_iff (s : State) (base : Nat) :
    ((setWord (setWordsAt s base) 0).setWidth 32 ≠ 0x464C5354#32 ∨ setLenAt s base < 1489 ∨
      10240 < setLenAt s base ∨ setBits (setWordsAt s base) 3 0 2 ≠ s.cyc.fam) ↔
    ((tget s.cav.words 0 (base + 0)).setWidth 32 ≠ 0x464C5354#32 ∨ setLenAt s base < 1489 ∨
      10240 < setLenAt s base ∨ ((tget s.cav.words 0 (base + 3)).extractLsb' 0 2).toNat ≠ s.cyc.fam) := by
  by_cases hlen : setLenAt s base < 1489
  · simp only [hlen, true_or, or_true]
  · have h0 : setWord (setWordsAt s base) 0 = tget s.cav.words 0 (base + 0) := setWord_map_range _ (by omega)
    have h3 : setWord (setWordsAt s base) 3 = tget s.cav.words 0 (base + 3) := setWord_map_range _ (by omega)
    rw [setBits, h0, h3, bits40_eq_extractLsb]

theorem setCheck_clean {k : Nat} {s : State} (h : setReadable s (s.rf (rFLW_SLOT_BASE k) FLW_SLOT_BASE.WORD)) :
    ∃ t, setCheck k s = (setFault s (s.rf (rFLW_SLOT_BASE k) FLW_SLOT_BASE.WORD), t) ∧ entriesUsed 3 s t := by
  unfold setCheck
  generalize s.rf (rFLW_SLOT_BASE k) FLW_SLOT_BASE.WORD = base at h ⊢
  obtain ⟨t, hd, hhead, hlen, ht⟩ := readHeader_clean h
  obtain ⟨u, hset, hu⟩ := readSet_clean h ht
  by_cases hlog : logBase < base + max (setLenAt s base) 2
  · have hf : setFault s base = 5 := if_pos hlog
    rw [hf]
    by_cases h2 : logBase < base + 2
    · exact ⟨s, by simp only [h2, if_true], entriesUsed_refl 3 s⟩
    · exact ⟨t, by simp only [h2, if_false, hhead, hlen, hlog, if_true], ht⟩
  · have h2 : ¬ logBase < base + 2 := by omega
    exact ⟨u, by simp only [h2, if_false, hhead, hlen, hlog, hset, setFault, badHeader_iff, Bool.not_eq_true'], hu⟩

theorem checkDone_of_queue {k : Nat} {r : List Nat} {s : State} (harm : s.rb rFLW_STAT FLW_STAT.ARMING = false)
    (hq : s.flw.queue = k :: r) : checkDone s =
      let c := setCheck k (onFlw (fun q => { q with queue := r }) s)
      if c.1 = 0 then setSlot k 2 0 c.2
      else if c.1 = 3 ∨ c.1 = 4 then raise srcSetCheck (setSlot k 3 c.1 c.2)
      else raise srcSetLayout (setSlot k 3 c.1 c.2) := by
  unfold checkDone
  simp only [harm, hq]
  rfl

/-- The check at the head of the queue, its set readable. -/
theorem checkDone_clean {k : Nat} {r : List Nat} {s : State} (harm : s.rb rFLW_STAT FLW_STAT.ARMING = false)
    (hq : s.flw.queue = k :: r) {f : Nat} (hf : setFault s (s.rf (rFLW_SLOT_BASE k) FLW_SLOT_BASE.WORD) = f)
    (h : setReadable s (s.rf (rFLW_SLOT_BASE k) FLW_SLOT_BASE.WORD)) :
    ∃ t, checkDone s = (if f = 0 then t else raise (if f = 3 then srcSetCheck else srcSetLayout) t) ∧
      t = onFlw (fun q => { q with queue := r }) { s with regs := t.regs } ∧
      slotShows k (if f = 0 then 2 else 3) f s t ∧ outOf t 3 = outOf s 3 ∧
      regsBut [rFLW_SLOT_STAT k, rBMX_OUT 3] s t := by
  obtain ⟨u, hcheck, ⟨hframe, hregs⟩, hout⟩ := setCheck_clean (s := onFlw (fun q => { q with queue := r }) s) h
  replace hcheck : setCheck k (onFlw (fun q => { q with queue := r }) s) = (f, u) := hcheck.trans (by rw [← hf]; rfl)
  have h4 : f ≠ 4 := hf ▸ setFault_ne_four _ _
  have h16 : f < 16 := hf ▸ setFault_lt _ _
  have hstat : rBMX_OUT 3 ≠ rFLW_SLOT_STAT k := by unfold rBMX_OUT rFLW_SLOT_STAT; omega
  refine ⟨setSlot k (if f = 0 then 2 else 3) f u, ?_, ?_, ?_, ?_, fun a ha => ?_⟩
  · rw [checkDone_of_queue harm hq, hcheck]
    by_cases h0 : f = 0
    · simp only [h0, if_true]
    · by_cases h3 : f = 3
      · simp [h3]
      · simp [h0, h3, h4]
  · conv => lhs; rw [hframe]
    rfl
  · exact slotShows_trans (hregs _ (by simpa using hstat.symm)) (setSlot_slotShows k (by split <;> omega) h16 u)
  · exact (outOf_eq_of_reg (reg_setSlot_ne k _ _ u hstat)).trans hout
  · obtain ⟨h1, h2⟩ : a ≠ rFLW_SLOT_STAT k ∧ a ≠ rBMX_OUT 3 := by simpa using ha
    exact (reg_setSlot_ne k _ _ u h1).trans (hregs a (by simpa using h2))

/-! ### Arming (R282, R283) -/

/-- The commit c once arming has read the set at Cavern word base again (R282, R283). -/
def armedAs (c : Commit) (s : State) (base : Nat) : Commit :=
  if 1489 ≤ setLenAt s base ∧ setLenAt s base ≤ 10240 ∧ setCrcOk (setWordsAt s base) = true
  then { c with arm := .done, shadow := setWordsAt s base } else { c with arm := .mismatch }

theorem armDone_clean {c : Commit} {s : State} (hc : s.flw.commit = some c) (hbusy : c.arm = .busy)
    (h : setReadable s (s.rf (rFLW_SLOT_BASE c.slot) FLW_SLOT_BASE.WORD)) :
    ∃ t, armDone s = t ∧ t.rb rFLW_STAT FLW_STAT.ARMING = false ∧ regsBut [rFLW_STAT, rBMX_OUT 3] s t ∧
      t = onFlw (fun q => { q with
          commit := some (armedAs c s (s.rf (rFLW_SLOT_BASE c.slot) FLW_SLOT_BASE.WORD)) })
        { s with regs := t.regs } := by
  obtain ⟨t, hd, hhead, hlen, ht⟩ := readHeader_clean h
  obtain ⟨u, hset, ⟨hframe, hregs⟩, -⟩ := readSet_clean h ht
  have harm : armDone s = onFlw (fun q => { q with
      commit := some (armedAs c s (s.rf (rFLW_SLOT_BASE c.slot) FLW_SLOT_BASE.WORD)) })
        (u.setRb rFLW_STAT FLW_STAT.ARMING false) := by
    unfold armDone armedAs
    simp only [hc, hbusy, if_true, hhead, hlen, hset, Bool.and_eq_true, decide_eq_true_eq, and_assoc]
    split <;> rfl
  rw [harm]
  refine ⟨_, rfl, ?_, fun a ha => ?_, ?_⟩
  · exact rb_setRb_same u _ _ _ (by decide) (by decide)
  · obtain ⟨h1, h2⟩ : a ≠ rFLW_STAT ∧ a ≠ rBMX_OUT 3 := by simpa using ha
    exact (reg_setRf_ne u _ _ h1).trans (hregs a (by simpa using h2))
  · conv => lhs; rw [hframe]
    rfl

theorem armStart_of_waiting {x : Commit} {s : State} (hx : s.flw.commit = some x) (hwait : x.arm = .waiting) :
    armStart s =
      onFlw (fun q => { q with commit := some { x with arm := .busy } }) (s.setRf rFLW_STAT FLW_STAT.ARMING 1) := by
  unfold armStart
  simp only [hx, hwait, if_true]
  rfl

theorem armStart_of_none {s : State} (h : s.flw.commit = none) : armStart s = s := by
  unfold armStart
  rw [h]

theorem armDone_of_none {s : State} (h : s.flw.commit = none) : armDone s = s := by
  unfold armDone
  rw [h]

/-- Arming is served before a check, and an empty queue has none. -/
theorem checkDone_of_idle {s : State} (h : s.rb rFLW_STAT FLW_STAT.ARMING = true ∨ s.flw.queue = []) :
    checkDone s = s := by
  unfold checkDone
  rcases h with harm | hq
  · rw [if_pos harm]
  · rw [hq, ite_self]

/-! ### Commits (R281, R282) -/

/-- FLW_LAST of a commit of slot k at cycle c with reason r. -/
def lastWord (k c r : Nat) : W64 :=
  fput FLW_LAST.REASON (fput FLW_LAST.SLOT (fput FLW_LAST.C (fput FLW_LAST.VALID 0 1) c) k) r

/-- Flowstone once it has recorded the decision on a commit. -/
def recorded (k c : Nat) (s : State) : State := s.setReg rFLW_LAST (lastWord k c (commitReason k c s))

/-- The reason of a refusal, or 0 (R281). -/
theorem commitReason_eq (k c : Nat) (s : State) : commitReason k c s =
    if c < 2 ∨ (if s.cyc.fam < 2 then (c - 2) * 125000 * 2 ^ 28 < s.dtm.tb
      else (c - 2) * 1000000000 * 2 ^ 28 < s.dtm.tb * 7350) then 1
    else if s.timeValid = false then 2
    else if slotState s k = 3 ∧ (s.rf (rFLW_SLOT_STAT k) FLW_SLOT_STAT.FAIL = 3 ∨
      s.rf (rFLW_SLOT_STAT k) FLW_SLOT_STAT.FAIL = 4) then 3
    else if slotState s k ≠ 2 then 4 else if s.flw.commit.isSome then 5 else 0 := by
  unfold commitReason cyclesTb
  by_cases hfam : s.cyc.fam < 2
  · simp only [hfam, if_true, Nat.mul_one, Bool.not_eq_true']
  · simp only [hfam, if_false, Bool.not_eq_true']

theorem commitReason_lt (k c : Nat) (s : State) : commitReason k c s < 16 := by
  rw [commitReason_eq]
  exact ite_both (· < 16) (by decide) (ite_both (· < 16) (by decide) (ite_both (· < 16) (by decide)
    (ite_both (· < 16) (by decide) (ite_both (· < 16) (by decide) (by decide)))))

/-- A commit is accepted in time, for a slot that is STAGED, with no other pending. -/
theorem slotState_of_commitReason_zero {k c : Nat} {s : State} (h : commitReason k c s = 0) : slotState s k = 2 := by
  refine Decidable.byContradiction fun hne => ?_
  rw [commitReason_eq, if_pos (c := slotState s k ≠ 2) hne] at h
  exact ite_both (· ≠ 0) (by decide)
    (ite_both (· ≠ 0) (by decide) (ite_both (· ≠ 0) (by decide) (by decide))) h

theorem commitArrives_of_refused {k c : Nat} {s : State} (h0 : commitReason k c s ≠ 0)
    (h5 : commitReason k c s ≠ 5) : commitArrives k c s = recorded k c s := by
  unfold commitArrives
  simp only [h5, h0, ne_eq, not_false_eq_true, if_true, if_false]
  rfl

theorem commitArrives_of_busy {k c : Nat} {s : State} (h5 : commitReason k c s = 5) :
    commitArrives k c s = (recorded k c s).bumpSat rFLW_BUSY_CNT FLW_BUSY_CNT.CNT := by
  unfold commitArrives recorded
  simp only [h5, if_true]
  rfl

/-- The commit of slot k at cycle c is pending and waits for arming; INUSE is still to follow. -/
def madePending (k c : Nat) (s : State) : State :=
  { s.setRb rFLW_STAT FLW_STAT.PENDING true with
    rst := { s.rst with joined := true, lit := true }
    flw := { s.flw with commit := some ⟨k, c, .waiting, [], none⟩ } }

theorem reg_madePending_ne (k c : Nat) (s : State) {a : Nat} (h : a ≠ rFLW_STAT) :
    (madePending k c s).reg a = s.reg a := by
  change (s.setRf rFLW_STAT FLW_STAT.PENDING 1).reg a = s.reg a
  exact reg_setRf_ne s _ _ h

theorem commitArrives_of_accepted {k c : Nat} {s : State} (h0 : commitReason k c s = 0) :
    commitArrives k c s = showInUse (madePending k c (recorded k c s)) := by
  unfold commitArrives recorded
  simp only [h0, ne_eq, not_true_eq_false, if_false]
  rfl

theorem reg_showInUse_ne (s : State) {a : Nat} (h : ∀ k, a ≠ rFLW_SLOT_STAT k) : (showInUse s).reg a = s.reg a :=
  (slotsShown_showInUse s).regs a fun k _ => h k

/-- Every commit that arrives is recorded. -/
theorem reg_last_commitArrives (k c : Nat) (s : State) :
    (commitArrives k c s).reg rFLW_LAST = lastWord k c (commitReason k c s) := by
  have hrec : (recorded k c s).reg rFLW_LAST = lastWord k c (commitReason k c s) := reg_setReg_same _ _ _
  by_cases h0 : commitReason k c s = 0
  · rw [commitArrives_of_accepted h0, reg_showInUse_ne _ fun k => by unfold rFLW_LAST rFLW_SLOT_STAT; omega]
    exact (reg_madePending_ne k c _ (by decide)).trans hrec
  · by_cases h5 : commitReason k c s = 5
    · rw [commitArrives_of_busy h5, reg_bumpSat_ne _ _ (by decide), hrec]
    · rw [commitArrives_of_refused h0 h5, hrec]

/-- The fields of FLW_LAST. -/
theorem rf_last_of_reg {k c r : Nat} {s : State} (h : s.reg rFLW_LAST = lastWord k c r) (hk : k < 16) (hc : c < 2 ^ 48)
    (hr : r < 16) : s.rb rFLW_LAST FLW_LAST.VALID = true ∧ s.rf rFLW_LAST FLW_LAST.REASON = r ∧
      s.rf rFLW_LAST FLW_LAST.SLOT = k ∧ s.rf rFLW_LAST FLW_LAST.C = c := by
  unfold State.rb State.rf
  rw [h, lastWord]
  refine ⟨?_, ?_, ?_, ?_⟩
  · simp (disch := decide) only [fget_fput_apart, fget_fput_same]
    rfl
  · simp (disch := decide) only [fget_fput_same]
    exact Nat.mod_eq_of_lt hr
  · simp (disch := decide) only [fget_fput_apart, fget_fput_same]
    exact Nat.mod_eq_of_lt hk
  · simp (disch := decide) only [fget_fput_apart, fget_fput_same]
    exact Nat.mod_eq_of_lt hc

/-- What an accepted commit changes. -/
theorem commitArrives_accepted_spec {k c : Nat} {s t : State} (hk : k < 16) (h0 : commitReason k c s = 0)
    (ht : commitArrives k c s = t) :
    t = onFlw (fun q => { q with commit := some ⟨k, c, .waiting, [], none⟩ })
        { s with regs := t.regs, rst := { s.rst with joined := true, lit := true } } ∧
      t.rb rFLW_STAT FLW_STAT.PENDING = true ∧ t.rb (rFLW_SLOT_STAT k) FLW_SLOT_STAT.INUSE = true ∧
      t.rf (rFLW_SLOT_STAT k) FLW_SLOT_STAT.STATE = 2 ∧
      regsBut (rFLW_LAST :: rFLW_STAT :: (List.range 16).map rFLW_SLOT_STAT) s t := by
  rw [commitArrives_of_accepted h0] at ht
  subst ht
  obtain ⟨hframe, hregs, hstate, hin⟩ := slotsShown_showInUse (madePending k c (recorded k c s))
  have hmem : ∀ j, j ∈ idxs 0 16 ↔ j < 16 := fun j => by simp [idxs, List.mem_range']
  have hslot : ∀ j, rFLW_SLOT_STAT j ≠ rFLW_STAT ∧ rFLW_SLOT_STAT j ≠ rFLW_LAST := fun j => by
    unfold rFLW_SLOT_STAT rFLW_STAT rFLW_LAST; omega
  refine ⟨hframe, ?_, ?_, ?_, fun a ha => ?_⟩
  · rw [rb_congr (hregs rFLW_STAT fun j _ => (hslot j).1.symm)]
    exact rb_setRb_same (recorded k c s) _ _ _ (by decide) (by decide)
  · rw [hin k ((hmem k).2 hk)]
    simp [slotHolds, madePending]
  · rw [hstate, rf_congr (reg_madePending_ne k c _ (hslot k).1),
      rf_congr (t := recorded k c s) (reg_setReg_ne s _ (hslot k).2)]
    exact slotState_of_commitReason_zero h0
  · simp only [List.mem_cons, List.mem_map, List.mem_range, not_or, not_exists, not_and] at ha
    obtain ⟨hlast, hstat, hslots⟩ := ha
    rw [hregs a fun j hj he => hslots j ((hmem j).1 hj) he.symm, reg_madePending_ne k c _ hstat]
    exact reg_setReg_ne s _ hlast

/-- A message is for the node (R330). -/
theorem msgMine_iff (dest : BitVec 8) (s : State) :
    msgMine dest.toNat s = true ↔ dest = 255 ∨ (dest ≠ 0 ∧ dest.toNat = nodeId s) := by
  have h255 : dest.toNat = 255 ↔ dest = 255 := by rw [← BitVec.toNat_inj]; rfl
  have h0 : dest.toNat = 0 ↔ dest = 0 := by rw [← BitVec.toNat_inj]; rfl
  simp only [msgMine, Bool.or_eq_true, Bool.and_eq_true, beq_iff_eq, bne_iff_ne, ne_eq, h255, h0]

theorem commitMsg_of_taken {dest slot c : Nat} {s : State} (hmine : msgMine dest s = true)
    (hnew : ¬ ∃ x, s.flw.commit = some x ∧ x.slot = slot ∧ x.c = c) :
    commitMsg dest slot c s = commitArrives slot c s := by
  unfold commitMsg
  cases hc : s.flw.commit with
  | none => simp [hmine]
  | some x =>
    have hx : x.slot = slot → x.c ≠ c := fun h1 h2 => hnew ⟨x, hc, h1, h2⟩
    simpa [hmine] using fun h1 h2 => absurd h2 (hx h1)

theorem commitMsg_of_ignored {dest slot c : Nat} {s : State}
    (h : ¬ msgMine dest s = true ∨ ∃ x, s.flw.commit = some x ∧ x.slot = slot ∧ x.c = c) :
    commitMsg dest slot c s = s := by
  unfold commitMsg
  rcases h with hother | ⟨x, hc, hslot, hcyc⟩
  · simp [hother]
  · simp [hc, hslot, hcyc]

/-! ### The commands -/

section Commands

variable {s : State} (hfw : fwReaches s rFLW_CMD)
include hfw

theorem exec_flwStage (slot : BitVec 4) :
    exec (.flwStage slot) s = .next ((stage slot.toNat s).answer 0 0) := congrArg _ (ctl_of_fwReaches hfw _)

theorem exec_flwDiscard (slot : BitVec 4) :
    exec (.flwDiscard slot) s = .next ((discard slot.toNat s).answer 0 0) := congrArg _ (ctl_of_fwReaches hfw _)

theorem exec_flwSlotBaseWrite (slot : BitVec 4) (word : BitVec 20) :
    exec (.flwSlotBaseWrite slot word) s = .next ((slotBaseWrite slot.toNat word.toNat s).answer 0 0) :=
  congrArg _ (ctl_of_fwReaches
    (fwReaches_of_regBlock hfw regBlock_rFLW_CMD (regBlock_rFLW_SLOT_BASE slot.isLt)) _)

theorem exec_flwMorphBaseWrite (word : BitVec 20) :
    exec (.flwMorphBaseWrite word) s = .next ((morphBaseWrite word.toNat s).answer 0 0) :=
  congrArg _ (ctl_of_fwReaches (fwReaches_of_regBlock hfw regBlock_rFLW_CMD (regBlock_of_flw (by decide))) _)

theorem exec_flwLocalCommit (slot : BitVec 4) (cyc : BitVec 48) :
    exec (.flwLocalCommit slot cyc) s = .next ((commitArrives slot.toNat cyc.toNat s).answer 0 0) :=
  congrArg _ (ctl_of_fwReaches (fwReaches_of_regBlock hfw regBlock_rFLW_CMD (regBlock_of_flw (by decide))) _)

theorem exec_flwChainCommit (slot : BitVec 4) (dest : BitVec 8) (cyc : BitVec 48) :
    exec (.flwChainCommit slot dest cyc) s =
      .next ((commitWrite true slot.toNat dest.toNat cyc.toNat s).answer 0 0) :=
  congrArg _ (ctl_of_fwReaches (fwReaches_of_regBlock hfw regBlock_rFLW_CMD (regBlock_of_flw (by decide))) _)

/-- On a slot in use each of the three sets CMD_ERR alone. -/
theorem exec_slotCommand_inUse (slot : BitVec 4) (word : BitVec 20) (h : slotInUse s slot.toNat = true) :
    ∀ i ∈ [Instr.flwStage slot, .flwDiscard slot, .flwSlotBaseWrite slot word],
      exec i s = .next ((cmdErr s).answer 0 0) := by
  simp only [List.forall_mem_cons, List.not_mem_nil, false_imp_iff, implies_true, and_true]
  refine ⟨?_, ?_, ?_⟩
  · rw [exec_flwStage hfw, stage, if_pos h]
  · rw [exec_flwDiscard hfw, discard, if_pos h]
  · rw [exec_flwSlotBaseWrite hfw, slotBaseWrite, if_pos h]

theorem exec_flwStage_free (slot : BitVec 4) (h : slotInUse s slot.toNat = false) :
    ∃ t, exec (.flwStage slot) s = .next t ∧ slotShows slot.toNat 1 0 s t ∧
      regsBut [rFLW_SLOT_STAT slot.toNat] s t ∧
      t = (onFlw (fun q => { q with queue := if slot.toNat ∈ q.queue then q.queue else q.queue ++ [slot.toNat] })
        { s with regs := t.regs }).answer 0 0 := by
  rw [exec_flwStage hfw, stage_of_free h]
  refine ⟨_, rfl, ?_, fun a ha => ?_, rfl⟩
  · exact slotShows_congr (setSlot_slotShows _ (by decide) (by decide) s) rfl
  · rw [reg_answer, reg_onFlw, reg_setSlot_ne _ _ _ s (by simpa using ha)]

theorem exec_flwDiscard_free (slot : BitVec 4) (h : slotInUse s slot.toNat = false) :
    ∃ t, exec (.flwDiscard slot) s = .next t ∧ slotShows slot.toNat 0 0 s t ∧
      regsBut [rFLW_SLOT_STAT slot.toNat] s t ∧
      t = (onFlw (fun q => { q with queue := q.queue.filter fun j => j != slot.toNat })
        { s with regs := t.regs }).answer 0 0 := by
  rw [exec_flwDiscard hfw, discard_of_free h, emptySlot_eq]
  refine ⟨_, rfl, ?_, fun a ha => ?_, rfl⟩
  · exact slotShows_congr (setSlot_slotShows _ (by decide) (by decide) s) rfl
  · rw [reg_answer, reg_onFlw, reg_setSlot_ne _ _ _ s (by simpa using ha)]

theorem exec_flwSlotBaseWrite_free (slot : BitVec 4) (word : BitVec 20) (h : slotInUse s slot.toNat = false) :
    ∃ t, exec (.flwSlotBaseWrite slot word) s = .next t ∧ slotShows slot.toNat 0 0 s t ∧
      regsBut [rFLW_SLOT_STAT slot.toNat, rFLW_SLOT_BASE slot.toNat] s t ∧
      t.rf (rFLW_SLOT_BASE slot.toNat) FLW_SLOT_BASE.WORD = word.toNat ∧
      t = (onFlw (fun q => { q with queue := q.queue.filter fun j => j != slot.toNat })
        { s with regs := t.regs }).answer 0 0 := by
  have hne : rFLW_SLOT_BASE slot.toNat ≠ rFLW_SLOT_STAT slot.toNat := by unfold rFLW_SLOT_BASE rFLW_SLOT_STAT; omega
  have hempty := slotShows_trans (reg_setRf_ne s FLW_SLOT_BASE.WORD word.toNat hne.symm)
    (setSlot_slotShows slot.toNat (st := 0) (f := 0) (by decide) (by decide) _)
  rw [exec_flwSlotBaseWrite hfw, slotBaseWrite_of_free h, emptySlot_eq]
  refine ⟨_, rfl, slotShows_congr hempty rfl, fun a ha => ?_, ?_, rfl⟩
  · obtain ⟨h1, h2⟩ : a ≠ rFLW_SLOT_STAT slot.toNat ∧ a ≠ rFLW_SLOT_BASE slot.toNat := by simpa using ha
    rw [reg_answer, reg_onFlw, reg_setSlot_ne _ _ _ _ h1, reg_setRf_ne s _ _ h2]
  · rw [rf_congr (t := State.answer _ 0 0) (s := s.setRf (rFLW_SLOT_BASE slot.toNat) FLW_SLOT_BASE.WORD word.toNat)
      (by rw [reg_answer, reg_onFlw, reg_setSlot_ne _ _ _ _ hne])]
    exact rf_setRf_same s _ _ _ (by decide) (by decide) word.isLt

/-- A commit of the node alone is recorded, and refused or accepted (R281, R282). -/
theorem exec_flwLocalCommit_spec (slot : BitVec 4) (cyc : BitVec 48) {r : Nat}
    (hr : commitReason slot.toNat cyc.toNat s = r) :
    ∃ t, exec (.flwLocalCommit slot cyc) s = .next t ∧ t.rb rFLW_LAST FLW_LAST.VALID = true ∧
      t.rf rFLW_LAST FLW_LAST.REASON = r ∧ t.rf rFLW_LAST FLW_LAST.SLOT = slot.toNat ∧
      t.rf rFLW_LAST FLW_LAST.C = cyc.toNat ∧
      (r ≠ 0 → r ≠ 5 → onlyRegsAck [rFLW_LAST] s t) ∧
      (r = 5 → onlyRegsAck [rFLW_LAST, rFLW_BUSY_CNT] s t ∧
        t.reg rFLW_BUSY_CNT = (s.bumpSat rFLW_BUSY_CNT FLW_BUSY_CNT.CNT).reg rFLW_BUSY_CNT) ∧
      (r = 0 → t = (onFlw (fun q => { q with commit := some ⟨slot.toNat, cyc.toNat, .waiting, [], none⟩ })
          { s with regs := t.regs, rst := { s.rst with joined := true, lit := true } }).answer 0 0 ∧
        t.rb rFLW_STAT FLW_STAT.PENDING = true ∧ t.rb (rFLW_SLOT_STAT slot.toNat) FLW_SLOT_STAT.INUSE = true ∧
        t.rf (rFLW_SLOT_STAT slot.toNat) FLW_SLOT_STAT.STATE = 2 ∧
        regsBut (rFLW_LAST :: rFLW_STAT :: (List.range 16).map rFLW_SLOT_STAT) s t) := by
  subst hr
  obtain ⟨hvalid, hreason, hslot, hcyc⟩ := rf_last_of_reg (reg_last_commitArrives slot.toNat cyc.toNat s) slot.isLt
    cyc.isLt (commitReason_lt _ _ _)
  refine ⟨_, exec_flwLocalCommit hfw slot cyc, hvalid, hreason, hslot, hcyc,
    fun h0 h5 => ?_, fun h5 => ?_, fun h0 => ?_⟩
  · rw [commitArrives_of_refused h0 h5]
    exact ⟨rfl, fun a ha => reg_setReg_ne s _ (by simpa using ha)⟩
  · rw [commitArrives_of_busy h5]
    refine ⟨⟨?_, fun a ha => ?_⟩, ?_⟩
    · conv => lhs; rw [bumpSat_eq]
      rfl
    · obtain ⟨h1, h2⟩ : a ≠ rFLW_LAST ∧ a ≠ rFLW_BUSY_CNT := by simpa using ha
      exact (reg_bumpSat_ne _ _ h2).trans (reg_setReg_ne s _ h1)
    · exact reg_bumpSat_congr (reg_setReg_ne s _ (by decide)) _
  · obtain ⟨hframe, hrest⟩ := commitArrives_accepted_spec slot.isLt h0 rfl
    exact ⟨congrArg (fun t : State => t.answer 0 0) hframe, hrest⟩

/-- A chain commit on a node that is not the head. -/
theorem exec_flwChainCommit_member (slot : BitVec 4) (dest : BitVec 8) (cyc : BitVec 48) (h : isHead s = false) :
    exec (.flwChainCommit slot dest cyc) s = .next ((cmdErr s).answer 0 0) := by
  rw [exec_flwChainCommit hfw]
  simp [commitWrite, h]

/-- The head sends a chain commit, and takes it where DEST names it and it is not the one that is pending. -/
theorem exec_flwChainCommit_head (slot : BitVec 4) (dest : BitVec 8) (cyc : BitVec 48) (h : isHead s = true) :
    let u := { s with gal := { s.gal with commits := s.gal.commits ++
      [padMsg ([0x01, dest, slot.setWidth 8] ++ natBe 6 cyc.toNat)] } }
    let mine := dest = 255 ∨ (dest ≠ 0 ∧ dest.toNat = nodeId s)
    let again := ∃ x, s.flw.commit = some x ∧ x.slot = slot.toNat ∧ x.c = cyc.toNat
    (mine → ¬ again → exec (.flwChainCommit slot dest cyc) s = exec (.flwLocalCommit slot cyc) u) ∧
      (¬ mine ∨ again → exec (.flwChainCommit slot dest cyc) s = .next (u.answer 0 0)) := by
  intro u mine again
  have hsend : exec (.flwChainCommit slot dest cyc) s =
      .next ((commitMsg dest.toNat slot.toNat cyc.toNat u).answer 0 0) := by
    rw [exec_flwChainCommit hfw]
    simp only [commitWrite, h, chainCommit, BitVec.ofNat_toNat, BitVec.setWidth_eq]
    rfl
  rw [hsend]
  refine ⟨fun hmine hagain => ?_, fun hnot => ?_⟩
  · rw [commitMsg_of_taken ((msgMine_iff dest u).2 hmine) hagain]
    exact (exec_flwLocalCommit (s := u) hfw slot cyc).symm
  · rw [commitMsg_of_ignored (hnot.imp_left (mt (msgMine_iff dest u).1))]

end Commands

/-! ### Confluence's writes (R263, R268) -/

theorem exec_cflXpDataWrite {s : State} (h : fwReaches s rCFL_XP_DATA) (gain : W32) :
    ∃ t, exec (.cflXpDataWrite gain) s = .next t ∧
      t = { s with cfl := { s.cfl with xpPend := t.cfl.xpPend }, resp := ⟨0, 0⟩ } ∧
      ∀ d j, tget t.cfl.xpPend d j =
        if j = 64 * s.rf rCFL_XP_ADDR CFL_XP_ADDR.INPUT + s.rf rCFL_XP_ADDR CFL_XP_ADDR.BUS then gain
        else tget s.cfl.xpPend d j := by
  refine ⟨(xpWrite gain s).answer 0 0, congrArg _ (ctl_of_fwReaches h _), rfl, fun d j => ?_⟩
  rw [← xpKey]
  change tget (tins (tdel s.cfl.xpPend _) _ gain) d j = _
  by_cases hj : j = xpKey (s.rf rCFL_XP_ADDR CFL_XP_ADDR.INPUT) (s.rf rCFL_XP_ADDR CFL_XP_ADDR.BUS)
  · rw [if_pos hj, hj]
    exact tget_tins_same _ _ _ _ fun p hp => (mem_tdel hp).2
  · rw [if_neg hj, tget_tins_ne _ _ _ hj, tget_tdel_ne _ _ hj]

theorem exec_cflMuteWrite {s : State} (h : fwReaches s rCFL_XP_DATA) (input : BitVec 8) (mute : Bool) :
    exec (.cflMuteWrite input mute) s =
      .next ((s.setRf (rCFL_IN input.toNat) CFL_IN.MUTE (if mute then 1 else 0)).answer 0 0) :=
  congrArg _ (ctl_of_fwReaches
    (fwReaches_of_regBlock h (regBlock_of_cfl (by decide)) (regBlock_rCFL_IN input.isLt)) _)

/-! ### The obligation -/

/-- Settles O44: each command reaches its block and is what its lemma above says; the check and the arming read a clean
set, so that the words they judge are the words that stand in Cavern. -/
theorem flowstoneSlotsCommitsAndConfluenceWrites : Obligations.FlowstoneSlotsCommitsAndConfluenceWrites := by
  unfold Obligations.FlowstoneSlotsCommitsAndConfluenceWrites
  intro slot cyc dest input word mute gain s
  refine ⟨fun hfw => ⟨fun hused => ?used, fun hfree => ⟨?stage, ?discard, ?base⟩,
      ⟨fun hbusy => ?morphBusy, fun hidle => ?morph⟩, ?localCommit, fun hmember => ?member, fun hhead => ?head⟩,
    fun haw hread => ⟨fun r harm hq => ?check, fun c1 sh sw hc => ?armed⟩,
    fun haw => ⟨fun x hx hwait => ?arming, fun hnone => ?noCommit, fun hwait => ?noCheck⟩,
    fun hcfl => ⟨?gain, ?mute⟩⟩
  case used => exact exec_slotCommand_inUse hfw slot word hused
  case stage => exact exec_flwStage_free hfw slot hfree
  case discard => exact exec_flwDiscard_free hfw slot hfree
  case base => exact exec_flwSlotBaseWrite_free hfw slot word hfree
  case morphBusy => rw [exec_flwMorphBaseWrite hfw, morphBaseWrite_eq, if_pos hbusy]; rfl
  case morph => rw [exec_flwMorphBaseWrite hfw, morphBaseWrite_eq, if_neg hidle]
  case localCommit => exact exec_flwLocalCommit_spec hfw slot cyc (commitReason_eq _ _ _)
  case member => exact exec_flwChainCommit_member hfw slot dest cyc hmember
  case head => exact exec_flwChainCommit_head hfw slot dest cyc hhead
  case check =>
    obtain ⟨t, ht, hframe, hslot, hout, hregs⟩ := checkDone_clean harm hq rfl hread
    exact ⟨t, (congrArg _ (ev_of_awake haw checkDone)).trans (congrArg _ ht), hframe, hslot, hout, hregs⟩
  case armed =>
    obtain ⟨t, ht, harm, hregs, hframe⟩ := armDone_clean hc rfl hread
    exact ⟨t, (congrArg _ (ev_of_awake haw armDone)).trans (congrArg _ ht), harm, hregs, hframe⟩
  case arming =>
    exact (congrArg _ (ev_of_awake haw armStart)).trans (congrArg _ (armStart_of_waiting hx hwait))
  case noCommit =>
    exact ⟨(congrArg _ (ev_of_awake haw armStart)).trans (congrArg _ (armStart_of_none hnone)),
      (congrArg _ (ev_of_awake haw armDone)).trans (congrArg _ (armDone_of_none hnone))⟩
  case noCheck =>
    exact (congrArg _ (ev_of_awake haw checkDone)).trans (congrArg _ (checkDone_of_idle hwait))
  case gain => exact exec_cflXpDataWrite hcfl gain
  case mute => exact exec_cflMuteWrite hcfl input mute

end Sys2Proof.Machine
end

section
/-! SUPPORT. Why O47 fails where counting a bad FCS resets Gallery: the Sump may answer source 81 with the block reset
of Gallery (R490, R501), which forgets the train whose sections come, before the section is placed in a train (R335).
O47 is refuted at the end. -/

namespace Sys2Proof.Machine

open Sys2Proof

/-- A member of the chain, node 5, whose GAL0 carries trains and has taken sections of train 5. The Sump answers a bad
FCS with the block reset of Gallery (R490, R501). -/
def fcsResetsGallery : State :=
  { State.reset with
    rst := { State.reset.rst with phase := .running }
    regs := [(rGAL_CTL, fput GAL_CTL.EN 0 1), (rGAL_NODE, fput GAL_NODE.ROLE (fput GAL_NODE.ID 0 5) 1),
      (rGAL_PORT_STAT 0, fput GAL_PORT_STAT.PHY_UP (fput GAL_PORT_STAT.FDX (fput GAL_PORT_STAT.SPEED 0 2) 1) 1),
      (rSMP_SRC srcGalFcs, fput SMP_SRC.EN (fput SMP_SRC.LEVEL 0 2) 1)]
    gal := { Gal.init with curTrain := [(0, 5)] } }

/-- The HEAD section of train 6, outbound on the near arm. -/
def headOfTrain6 : List Byte := galHeader 1 0 false false 6 ++ natBe 6 6 ++ List.replicate 218 0

/-- The train that port n notes as the last of which a section came invalid, in the state an outcome leads to. -/
def notedBad (n : Nat) : Out → Option Nat
  | .next t => (galPort t n).badTrain
  | _ => none

/-- GAL0 takes the section: the port carries trains, the section is well-formed and the node has its role. -/
theorem fcsResetsGallery_takes_headOfTrain6 :
    trainPort fcsResetsGallery 0 = true ∧ headOfTrain6.length = secLen 0 ∧
      fcsResetsGallery.rf rGAL_NODE GAL_NODE.ROLE ≠ 3 := by decide +kernel

/-- The section comes with a bad FCS and is noted as one of train 1, the one after train 0 of a Gallery that has been
reset. -/
theorem notedBad_of_headOfTrain6 :
    notedBad 0 (exec (.trainSection 0 0 (List.replicate 6 0) headOfTrain6 1) fcsResetsGallery) = some 1 := by
  decide +kernel

/-- Refutes O47: the outbound HEAD section of train 6 comes with a bad FCS at a member. The statement has it noted under
the train it belongs to in the state it met, train 6; the reset that counting the bad FCS brings on makes it train 1. -/
theorem not_galleryChainCommands : ¬ Obligations.GalleryChainCommands := by
  unfold Obligations.GalleryChainCommands
  intro h
  obtain ⟨hport, hlen, hrole⟩ := fcsResetsGallery_takes_headOfTrain6
  obtain ⟨-, -, hsec, -⟩ := h 0 0 (List.replicate 6 0) headOfTrain6 [] [] 1 false 0 0 0 0 0 0 [] fcsResetsGallery
  obtain ⟨-, hmember, -⟩ := hsec ⟨hport, rfl, Nat.zero_le _, hlen, hrole⟩
  obtain ⟨-, -, houtbound⟩ := hmember (by decide +kernel) (by decide +kernel)
  obtain ⟨hinvalid, -⟩ := houtbound rfl (by decide) rfl
  have hsame : (some 1 : Option Nat) = some 6 := calc
    some 1 = notedBad 0 (exec (.trainSection 0 0 (List.replicate 6 0) headOfTrain6 1) fcsResetsGallery) :=
      notedBad_of_headOfTrain6.symm
    _ = _ := congrArg (notedBad 0) (hinvalid (by decide +kernel))
    _ = some 6 := by decide +kernel
  exact absurd hsame (by decide)

end Sys2Proof.Machine
end

section
/-! SUPPORT. A table filtered by its indices, or written twice at one index, and the writes of the power modes: when a
mode is refused, waits or takes effect, and how a domain begins to wake and to sleep (R64 to R74). O33 is settled at the
end. -/

namespace Sys2Proof.Machine

open Sys2Proof

/-! ### Tables -/

section Tables

variable {α : Type}

/-- A read after the entries whose index does not satisfy p have been dropped. -/
theorem tget_filter (p : Nat → Bool) (t : Tab α) (d : α) (k : Nat) :
    tget (t.filter fun q => p q.1) d k = if p k = true then tget t d k else d := by
  induction t with
  | nil => simp [tget]
  | cons q r ih =>
    obtain ⟨i, v⟩ := q
    by_cases hi : i = k
    · subst hi
      by_cases hp : p i = true
      · simp [hp, tget]
      · simp [hp, ih]
    · by_cases hp : p i = true <;> simp [hp, tget, hi, ih]

theorem tget_tclear (t : Tab α) (d : α) (lo hi k : Nat) :
    tget (tclear t lo hi) d k = if lo ≤ k ∧ k ≤ hi then d else tget t d k := by
  unfold tclear
  rw [tget_filter fun j => !(decide (lo ≤ j) && decide (j ≤ hi))]
  by_cases h : lo ≤ k ∧ k ≤ hi
  · simp [h]
  · rw [if_pos (by simp; omega), if_neg h]

theorem tdel_of_fresh {t : Tab α} {k : Nat} (h : ∀ p ∈ t, p.1 ≠ k) : tdel t k = t := by
  induction t with
  | nil => rfl
  | cons q r ih =>
    obtain ⟨i, v⟩ := q
    have hi : i ≠ k := h (i, v) (by simp)
    simp [tdel, hi, ih fun p hp => h p (by simp [hp])]

/-- Deleting what was inserted at an index that was free. -/
theorem tdel_tins {t : Tab α} {k : Nat} (v : α) (h : ∀ p ∈ t, p.1 ≠ k) : tdel (tins t k v) k = t := by
  induction t with
  | nil => simp [tins, tdel]
  | cons q r ih =>
    obtain ⟨i, w⟩ := q
    have hi : i ≠ k := h (i, w) (by simp)
    have hr : ∀ p ∈ r, p.1 ≠ k := fun p hp => h p (by simp [hp])
    by_cases hlt : k < i
    · simp [tins, hlt, tdel, hi, tdel_of_fresh hr]
    · simp [tins, hlt, tdel, hi, ih hr]

/-- Of two writes at one index the later one stands. -/
theorem tset_tset [DecidableEq α] (t : Tab α) (d : α) (k : Nat) (v w : α) :
    tset (tset t d k v) d k w = tset t d k w := by
  have hfresh : ∀ p ∈ tdel t k, p.1 ≠ k := fun _ hp => (mem_tdel hp).2
  have hdel : tdel (tset t d k v) k = tdel t k := by
    unfold tset
    split
    · exact tdel_of_fresh hfresh
    · exact tdel_tins v hfresh
  change (if w = d then tdel (tset t d k v) k else tins (tdel (tset t d k v) k) k w) = _
  rw [hdel]
  rfl

/-- An entry inserted is the one that satisfies q where no other does. -/
theorem filter_tins {q : Nat × α → Bool} {t : Tab α} {k : Nat} {v : α} (hv : q (k, v) = true)
    (h : ∀ p ∈ t, q p = false) : (tins t k v).filter q = [(k, v)] := by
  induction t with
  | nil => simp [tins, hv]
  | cons e r ih =>
    obtain ⟨i, w⟩ := e
    have he : q (i, w) = false := h (i, w) (by simp)
    have hr : ∀ p ∈ r, q p = false := fun p hp => h p (by simp [hp])
    by_cases hlt : k < i
    · have hnone : r.filter q = [] := List.filter_eq_nil_iff.2 (by simpa using hr)
      simp [tins, hlt, hv, he, hnone]
    · simp [tins, hlt, he, ih hr]

end Tables

/-! ### Commands of blocks that no block reset holds (R85, R86) -/

theorem ctl_of_regBlock_none {a : Nat} (h : regBlock a = none) {s : State} (hrun : s.running = true)
    (f : State → State) : ctl a f s = (f s).answer 0 0 :=
  ctl_of_fwReaches ⟨hrun, (congrFun (regHeld_eq_comp s) a).trans (congrArg (fun o => Option.elim o false s.held) h)⟩ f

theorem regBlock_of_pwr {a : Nat} (h : (a - periphBase) / 0x10000 = 1) : regBlock a = none := by
  simp only [regBlock, h]

theorem regBlock_rPWR_DOM_CTL {n : Nat} (h : n < 136) : regBlock (rPWR_DOM_CTL n) = none :=
  regBlock_of_pwr (by unfold rPWR_DOM_CTL periphBase; omega)

/-! ### What a domain loses as it goes off leaves the power controller alone (R64, R66) -/

theorem forEach_pwr {α : Type} (l : List α) {f : α → State → State} (h : ∀ a t, (f a t).pwr = t.pwr) (s : State) :
    (forEach l f s).pwr = s.pwr := by
  induction l generalizing s with
  | nil => rfl
  | cons a r ih => exact (ih (f a s)).trans (h a s)

theorem loseChamber_pwr (n k : Nat) (s : State) : (loseChamber n k s).pwr = s.pwr := by
  unfold loseChamber
  dsimp only
  split <;> rfl

theorem loseEngine_pwr (s : State) : (loseEngine s).pwr = s.pwr := by
  unfold loseEngine
  split <;> rfl

theorem loseRun_pwr (u : Nat) (s : State) : (loseRun u s).pwr = s.pwr := by
  unfold loseRun
  split <;> rfl

theorem loseLaw_pwr (s : State) : (loseLaw s).pwr = s.pwr := by
  unfold loseLaw
  exact forEach_pwr _ loseRun_pwr _

theorem showPts_pwr (s : State) : (showPts s).pwr = s.pwr := by
  unfold showPts
  dsimp only
  split <;> rfl

theorem showCairn_pwr (s : State) : (showCairn s).pwr = s.pwr := by
  unfold showCairn
  dsimp only
  split
  · rfl
  · split <;> rfl

theorem setCartState_pwr (c st : Nat) (s : State) : (setCartState c st s).pwr = s.pwr := by
  unfold setCartState showCartOk
  dsimp only
  split <;> rfl

theorem cartDiscard_pwr (c : Nat) (s : State) : (cartDiscard c s).pwr = s.pwr := by
  unfold cartDiscard
  split <;> rfl

theorem cartsOff_pwr (s : State) : (cartsOff s).pwr = s.pwr := by
  unfold cartsOff
  refine forEach_pwr _ (fun c t => ?_) s
  split
  · rfl
  · exact (setCartState_pwr c 0 _).trans (cartDiscard_pwr c t)

theorem losePwm_pwr (g : Nat) (s : State) : (losePwm g s).pwr = s.pwr := rfl

theorem loseLtn_pwr (n : Nat) (s : State) : (loseLtn n s).pwr = s.pwr := rfl

theorem loseDomain_pwr (n : Nat) (s : State) : (loseDomain n s).pwr = s.pwr := by
  unfold loseDomain
  simp only [apply_ite State.pwr, loseChamber_pwr, showPts_pwr, showCairn_pwr, loseLaw_pwr, loseEngine_pwr,
    cartsOff_pwr, forEach_pwr _ losePwm_pwr, forEach_pwr _ loseLtn_pwr, forEach_pwr _ fun k t => setRf_pwr t _ _ _]
  simp only [losePort, clearHistory, showHold, onDtm, setCrn, onEcho, setAdc, setReg_pwr, resetRegs_pwr, ite_self]

/-- A Cavern bank that goes off reads zero, and no other word changes. -/
theorem loseDomain_cavern {n : Nat} (h80 : 80 ≤ n) (h112 : n < 112) (s : State) (w : Nat) :
    tget (loseDomain n s).cav.words 0 w =
      if (n - 80) * 32768 ≤ w ∧ w < (n - 79) * 32768 then 0 else tget s.cav.words 0 w := by
  unfold loseDomain
  rw [if_neg (by omega), if_pos h112]
  refine (tget_tclear _ _ _ _ _).trans (ite_congr (propext ?_) (fun _ => rfl) fun _ => rfl)
  omega

/-! ### A mode takes effect (R64, R68) -/

/-- Mode m is in effect for domain n. -/
def inMode (n m : Nat) (s : State) : State := setDom n { domOf s n with mode := m } s

theorem applyMode_eq (n m : Nat) (s : State) : applyMode n m s =
    if m = 0 ∨ (m = 1 ∧ !autoDomain n) then domWake n (inMode n m s)
    else if m = 1 then
      if s.rb (rPWR_DOM_CTL n) PWR_DOM_CTL.HOLD then domWake n (inMode n m s) else inMode n m s
    else if m = 2 ∧ memDomain n then
      if domState s n = 2 then inMode n m s else domSleep n 2 (inMode n m s)
    else if domState s n = 3 then inMode n m s
    else domSleep n 3 (loseDomain n (inMode n m s)) := rfl

theorem applyMode_wake {n m : Nat} (h : m = 0 ∨ m = 1 ∧ autoDomain n = false) (s : State) :
    applyMode n m s = domWake n (inMode n m s) := by
  rw [applyMode_eq, if_pos (by simpa using h)]

theorem applyMode_auto {n : Nat} (h : autoDomain n = true) (s : State) : applyMode n 1 s =
    if s.rb (rPWR_DOM_CTL n) PWR_DOM_CTL.HOLD = true then domWake n (inMode n 1 s) else inMode n 1 s := by
  simp [applyMode_eq, h]

theorem applyMode_retain {n : Nat} (h : memDomain n = true) (s : State) : applyMode n 2 s =
    if domState s n = 2 then inMode n 2 s else domSleep n 2 (inMode n 2 s) := by
  simp [applyMode_eq, h]

theorem applyMode_off {n m : Nat} (h : m = 3 ∨ m = 2 ∧ memDomain n = false) (s : State) : applyMode n m s =
    if domState s n = 3 then inMode n m s else domSleep n 3 (loseDomain n (inMode n m s)) := by
  rcases h with rfl | ⟨rfl, hmem⟩
  · simp [applyMode_eq]
  · simp [applyMode_eq, hmem]

/-- A domain of the mode that has just taken effect enters the sleep transition. -/
theorem domSleep_of_pwr {n st : Nat} {t : State} {p : Tab Dom} {e : Dom} (h : t.pwr = tset p Dom.init n e) :
    domSleep n st t = { t.setRf (rPWR_DOM_STAT n) PWR_DOM_STAT.STATE st with
      pwr := tset p Dom.init n { e with sleeping := true, wakeReq := false } } := by
  have hdom : domOf t n = e := by
    unfold domOf
    rw [h, tget_tset_same]
  unfold domSleep setDom setDomState
  rw [hdom, setRf_pwr, h, tset_tset]

/-! ### A mode is written (R64, R65, R74) -/

theorem protectedDomain_iff (n : Nat) : protectedDomain n = true ↔ n = 131 ∨ n = 132 ∨ n = 111 := by
  unfold protectedDomain
  simp [or_assoc]

/-- A write of the domain's control register leaves the state it reports. -/
theorem domState_setRf_ctl (n : Nat) (f : Fld) (x : Nat) (s : State) :
    domState (s.setRf (rPWR_DOM_CTL n) f x) n = domState s n :=
  rf_congr (reg_setRf_ne s f x (by unfold rPWR_DOM_CTL rPWR_DOM_STAT; omega)) _

theorem domOf_setRf (n a : Nat) (f : Fld) (x : Nat) (s : State) : domOf (s.setRf a f x) n = domOf s n := rfl

section PowerMode

variable {n m : Nat} {s : State} (hn : n < 136)
include hn

theorem powerMode_of_refused (hm : 2 ≤ m) (hp : protectedDomain n = true) :
    powerMode n m s = raise srcRefusedPower s :=
  (if_neg (Nat.not_le.2 hn)).trans (if_pos ⟨hm, hp⟩)

variable (hp : ¬ (2 ≤ m ∧ protectedDomain n = true))
include hp

theorem powerMode_of_busy (hb : (domOf s n).sleeping = true ∨ domState s n = 1) : powerMode n m s =
    setDom n { domOf s n with pendMode := some m } (s.setRf (rPWR_DOM_CTL n) PWR_DOM_CTL.MODE m) := by
  rw [← domState_setRf_ctl n PWR_DOM_CTL.MODE m] at hb
  exact (if_neg (Nat.not_le.2 hn)).trans ((if_neg hp).trans (if_pos (by simpa [domOf_setRf] using hb)))

theorem powerMode_of_settled (hb : ¬ ((domOf s n).sleeping = true ∨ domState s n = 1)) :
    powerMode n m s = applyMode n m (s.setRf (rPWR_DOM_CTL n) PWR_DOM_CTL.MODE m) := by
  rw [← domState_setRf_ctl n PWR_DOM_CTL.MODE m] at hb
  exact (if_neg (Nat.not_le.2 hn)).trans ((if_neg hp).trans (if_neg (by simpa [domOf_setRf] using hb)))

end PowerMode

theorem powerHold_eq {n : Nat} (hn : n < 136) (h : Bool) (s : State) : powerHold n h s =
    let t := s.setRf (rPWR_DOM_CTL n) PWR_DOM_CTL.HOLD (if h then 1 else 0)
    if h = true ∧ domMode s n = 1 then domWake n t else t := by
  refine (if_neg (Nat.not_le.2 hn)).trans (ite_congr (propext ?_) (fun _ => rfl) fun _ => rfl)
  rw [Bool.and_eq_true, beq_iff_eq]
  rfl

theorem domMode_eq_one_iff (s : State) (n : Nat) :
    domMode s n = 1 ↔ (domOf s n).mode = 1 ∧ autoDomain n = true := by
  unfold domMode
  cases hauto : autoDomain n
  · by_cases hm : (domOf s n).mode = 1
    · simp [hm]
    · simp [hm]
  · simp

/-! ### A domain begins to wake (R70, R74) -/

theorem domWake_of_sleeping {n : Nat} {s : State} (h : (domOf s n).sleeping = true) :
    domWake n s = setDom n { domOf s n with wakeReq := true } s := if_pos h

theorem domWake_of_powered {n : Nat} {s : State} (h : (domOf s n).sleeping = false) (hst : domState s n < 2) :
    domWake n s = s :=
  (if_neg (by simp [h])).trans (if_neg (Nat.not_le.2 hst))

/-- The switch-ons that wait are those of one domain. -/
theorem switchAt_single {n t : Nat} {s : State} {e : Dom} (h : s.pwr.filter (fun p => p.2.queued) = [(n, e)]) :
    switchAt t s = if switchFree t s = true then
      { (setDom n { domOf s n with queued := false } s) with switched := (t :: s.switched).take 8 } else s := by
  unfold switchAt
  rw [h]
  rfl

/-- A domain that is not powered, no other switch-on waiting, is switched on where the limit allows. -/
theorem domWake_of_down {n : Nat} {s : State} (h : (domOf s n).sleeping = false) (hst : 2 ≤ domState s n)
    (hq : ∀ p ∈ s.pwr, p.2.queued = false) :
    let waking := fun (wait : Bool) => setDom n { domOf s n with queued := wait } (setDomState n 1 s)
    domWake n s = if switchFree s.dtm.ticks s = true then
      { waking false with switched := (s.dtm.ticks :: s.switched).take 8 } else waking true := by
  intro waking
  have hwait : (waking true).pwr.filter (fun p => p.2.queued) = [(n, { domOf s n with queued := true })] := by
    have hne : ({ domOf s n with queued := true } : Dom) ≠ Dom.init := fun he => by
      simpa [Dom.init] using congrArg Dom.queued he
    change (tset s.pwr Dom.init n { domOf s n with queued := true }).filter _ = _
    unfold tset
    rw [if_neg hne]
    exact filter_tins rfl fun p hp => hq p (mem_tdel hp).1
  have hdom : domOf (waking true) n = { domOf s n with queued := true } := tget_tset_same _ _ _ _
  calc domWake n s = switchAt s.dtm.ticks (waking true) := (if_neg (by simp [h])).trans (if_pos hst)
    _ = _ := switchAt_single hwait
    _ = _ := by
      refine ite_congr rfl (fun _ => ?_) fun _ => rfl
      rw [hdom]
      change ({ waking true with pwr := tset (tset s.pwr Dom.init n _) Dom.init n _, switched := _ } : State) = _
      rw [tset_tset]
      rfl

/-! ### The obligation -/

/-- A write of a domain's control register of which f is the effect. -/
theorem next_ctl_dom {n : Nat} (hn : n < 136) {s t : State} (hrun : s.running = true) {f : State → State}
    (h : f s = t) : (.next (ctl (rPWR_DOM_CTL n) f s) : Out) = .next (t.answer 0 0) := by
  rw [ctl_of_regBlock_none (regBlock_rPWR_DOM_CTL hn) hrun, h]

/-- A mode that takes effect at once, with the effect t. -/
theorem powerMode_of_applyMode {n m : Nat} (hn : n < 136) {s t : State} (hp : ¬ (2 ≤ m ∧ protectedDomain n = true))
    (hb : ¬ ((domOf s n).sleeping = true ∨ domState s n = 1))
    (h : applyMode n m (s.setRf (rPWR_DOM_CTL n) PWR_DOM_CTL.MODE m) = t) : powerMode n m s = t :=
  (powerMode_of_settled hn hp hb).trans h

/-- Settles O33: a write is refused, waits, or takes effect as applyMode says; a wake is domWake in its three cases. -/
theorem powerModeWrites : Obligations.PowerModeWrites := by
  unfold Obligations.PowerModeWrites
  intro dom hold s hrun hn n ctl stat d state busy prot toNext waits takes sleeps
  have hstate : ∀ m, domState (s.setRf ctl PWR_DOM_CTL.MODE m) n = state := fun m => domState_setRf_ctl n _ m s
  have hholdBit : ∀ m, (s.setRf ctl PWR_DOM_CTL.MODE m).rb ctl PWR_DOM_CTL.HOLD = s.rb ctl PWR_DOM_CTL.HOLD := fun m =>
    congrArg (· == 1) (rf_setRf_apart s ctl _ _ m (by decide) (by decide) (by decide))
  have hlow : ∀ m, m < 2 → ¬ (2 ≤ m ∧ protectedDomain n = true) := fun m hm h => absurd h.1 (Nat.not_le.2 hm)
  have hopen : ¬ prot → ∀ m, ¬ (2 ≤ m ∧ protectedDomain n = true) := fun h m hm =>
    h ((protectedDomain_iff n).1 hm.2)
  refine ⟨fun hprot => ?refused, fun hb => ?waits, fun hb => ⟨?on, fun h => ?autoWakes, fun ha hh => ?auto,
    fun hprot hmem => ?retain, fun p hmem hprot harr => ?off⟩, ⟨fun h => ?holdWakes, fun h => ?hold⟩,
    ⟨fun hsl => ?asleep, fun hsl hst => ?powered, fun hsl hst hq => ?down⟩, fun w h80 h112 => ?bank⟩
  case refused =>
    have hprot := (protectedDomain_iff n).2 hprot
    exact ⟨next_ctl_dom hn hrun (powerMode_of_refused hn (by decide) hprot),
      next_ctl_dom hn hrun (powerMode_of_refused hn (by decide) hprot)⟩
  case waits =>
    exact ⟨next_ctl_dom hn hrun (powerMode_of_busy hn (hlow 0 (by decide)) hb),
      next_ctl_dom hn hrun (powerMode_of_busy hn (hlow 1 (by decide)) hb), fun hprot =>
      ⟨next_ctl_dom hn hrun (powerMode_of_busy hn (hopen hprot 2) hb),
        next_ctl_dom hn hrun (powerMode_of_busy hn (hopen hprot 3) hb)⟩⟩
  case on =>
    exact next_ctl_dom hn hrun (powerMode_of_applyMode hn (hlow 0 (by decide)) hb (applyMode_wake (.inl rfl) _))
  case autoWakes =>
    refine next_ctl_dom hn hrun (powerMode_of_applyMode hn (hlow 1 (by decide)) hb ?_)
    by_cases ha : autoDomain n = true
    · have hh : s.rb ctl PWR_DOM_CTL.HOLD = true := h.resolve_left (by simp [ha])
      rw [applyMode_auto ha, hholdBit, if_pos hh]
      rfl
    · exact applyMode_wake (.inr ⟨rfl, by simpa using ha⟩) _
  case auto =>
    refine next_ctl_dom hn hrun (powerMode_of_applyMode hn (hlow 1 (by decide)) hb ?_)
    rw [applyMode_auto ha, hholdBit, if_neg (by simp [hh])]
    rfl
  case retain =>
    have hmode := fun t => powerMode_of_applyMode (t := t) hn (hopen hprot 2) hb
    refine ⟨fun hst => next_ctl_dom hn hrun (hmode _ ?_), fun hst => next_ctl_dom hn hrun (hmode _ ?_)⟩
    · rw [applyMode_retain hmem, hstate, if_pos hst]
      rfl
    · rw [applyMode_retain hmem, hstate, if_neg hst]
      exact domSleep_of_pwr (p := s.pwr) (e := { d with mode := 2 }) rfl
  case off =>
    obtain ⟨c, m⟩ := p
    simp only [List.mem_cons, Prod.mk.injEq, List.not_mem_nil, or_false] at hmem
    have hm : m = 3 ∨ m = 2 ∧ memDomain n = false := by
      rcases hmem with ⟨-, rfl⟩ | ⟨-, rfl⟩
      · exact .inl rfl
      · exact .inr ⟨rfl, harr rfl⟩
    have hexec : ∀ t, applyMode n m (s.setRf ctl PWR_DOM_CTL.MODE m) = t → toNext c t := fun t ht => by
      have hmode := powerMode_of_applyMode hn (hopen hprot m) hb ht
      rcases hmem with ⟨rfl, rfl⟩ | ⟨rfl, rfl⟩
      · exact next_ctl_dom hn hrun hmode
      · exact next_ctl_dom hn hrun hmode
    refine ⟨fun hst => hexec _ ?_, fun hst => hexec _ ?_⟩
    · rw [applyMode_off hm, hstate, if_pos hst]
      rfl
    · rw [applyMode_off hm, hstate, if_neg hst]
      exact domSleep_of_pwr (p := s.pwr) (e := { d with mode := m }) (loseDomain_pwr n _)
  case holdWakes =>
    obtain ⟨hh, hauto⟩ := h
    exact next_ctl_dom hn hrun ((powerHold_eq hn hold s).trans (if_pos ⟨hh, (domMode_eq_one_iff s n).2 hauto⟩))
  case hold =>
    refine next_ctl_dom hn hrun ((powerHold_eq hn hold s).trans (if_neg fun hc => h ?_))
    exact ⟨hc.1, (domMode_eq_one_iff s n).1 hc.2⟩
  case asleep => exact domWake_of_sleeping hsl
  case powered => exact domWake_of_powered hsl hst
  case down =>
    refine ⟨fun hfew => ?_, fun hmany => ?_⟩
    · exact (domWake_of_down hsl hst hq).trans (if_pos (decide_eq_true hfew))
    · exact (domWake_of_down hsl hst hq).trans (if_neg fun hc => absurd (of_decide_eq_true hc) (Nat.not_lt.2 hmany))
  case bank => exact loseDomain_cavern h80 h112 s w

end Sys2Proof.Machine
end

section
/-! SUPPORT. The state that a chip reset and the power-on reset leave, register by register and word by word (R61, R83,
R87), and when the Sump's chip reset is due (R491). O27 is settled at the end. -/

namespace Sys2Proof.Machine

open Sys2Proof

/-! ### A chip reset (R83, R87, R105) -/

/-- A chip reset records its cause, and then its source, in what it keeps. -/
theorem chipReset_eq (cause src : Nat) (s : State) : ∃ t : State, chipReset cause src s =
      (t.setRf rRST_CAUSE RST_CAUSE.CAUSE cause).setRf rRST_CAUSE RST_CAUSE.SRC src ∧
    t.regs = keepRegs s.regs alwaysOnRegs := ⟨_, rfl, rfl⟩

theorem rf_cause_chipReset {cause : Nat} (h : cause < 8) (src : Nat) (s : State) :
    (chipReset cause src s).rf rRST_CAUSE RST_CAUSE.CAUSE = cause := by
  obtain ⟨t, ht, -⟩ := chipReset_eq cause src s
  rw [ht, rf_setRf_apart _ _ _ _ _ (by decide) (by decide) (by decide)]
  exact rf_setRf_same _ _ _ _ (by decide) (by decide) h

theorem rf_src_chipReset (cause : Nat) {src : Nat} (h : src < 256) (s : State) :
    (chipReset cause src s).rf rRST_CAUSE RST_CAUSE.SRC = src := by
  obtain ⟨t, ht, -⟩ := chipReset_eq cause src s
  rw [ht]
  exact rf_setRf_same _ _ _ _ (by decide) (by decide) h

theorem tget_keepRegs (regs : Cells 64) (rs : List (Nat × Nat)) (d : W64) (a : Nat) :
    tget (keepRegs regs rs) d a = if ∃ r ∈ rs, r.1 ≤ a ∧ a ≤ r.2 then tget regs d a else d := by
  refine (tget_filter (fun k => rs.any fun r => decide (r.1 ≤ k) && decide (k ≤ r.2)) regs d a).trans
    (ite_congr (propext ?_) (fun _ => rfl) fun _ => rfl)
  simp only [List.any_eq_true, Bool.and_eq_true, decide_eq_true_eq]

/-- Of the registers only those of the always-on domain keep. -/
theorem reg_chipReset (cause src : Nat) (s : State) {a : Nat} (h : a ≠ rRST_CAUSE) :
    (chipReset cause src s).reg a = if ∃ r ∈ alwaysOnRegs, r.1 ≤ a ∧ a ≤ r.2 then s.reg a else resetValue a := by
  obtain ⟨t, ht, hregs⟩ := chipReset_eq cause src s
  rw [ht, reg_setRf_ne _ _ _ h, reg_setRf_ne _ _ _ h]
  unfold State.reg
  rw [hregs, tget_keepRegs]

/-- Of Cavern only the event-log region keeps. -/
theorem cavWord_chipReset (cause src : Nat) (s : State) (w : Nat) :
    tget (chipReset cause src s).cav.words 0 w = if 1044480 ≤ w then tget s.cav.words 0 w else 0 :=
  (tget_filter (fun k => decide (logBase ≤ k)) s.cav.words 0 w).trans
    (ite_congr (decide_eq_true_eq (p := logBase ≤ w)) (fun _ => rfl) fun _ => rfl)

/-- A recognised nRESET low starts a chip reset, unless nRESET was low already. -/
theorem pinReset_low (s : State) : pinReset true s =
    if s.rst.pinLow = true then s else chipReset 1 0 { s with rst := { s.rst with pinLow := true } } := if_pos rfl

/-! ### The Sump's chip reset (R491) -/

theorem sumpDue_iff {n tk : Nat} {s : State} (h : s.smp.chipWait = some (n, tk)) : sumpDue s = true ↔
    (s.smp.fifo = [] ∧ s.smp.lost = none ∧
      (s.rb (rSMP_SRC n) SMP_SRC.NERR = true → nErrLow s = true ∧ s.smp.nerrAt + 2500 ≤ s.dtm.ticks)) ∨
    tk + 5000 ≤ s.dtm.ticks := by
  unfold sumpDue
  rw [h]
  cases hnerr : s.rb (rSMP_SRC n) SMP_SRC.NERR
  · simp [hnerr]
  · simp [hnerr, and_assoc]

theorem sumpReset_of_wait {n tk : Nat} {s : State} (h : s.smp.chipWait = some (n, tk)) :
    sumpReset s = if sumpDue s = true then chipReset 3 n s else s := by
  unfold sumpReset
  rw [h]

theorem sumpReset_of_none {s : State} (h : s.smp.chipWait = none) : sumpReset s = s := by
  unfold sumpReset
  rw [h]

/-! ### A write of RST_CTL (R85) -/

theorem regBlock_rRST_CTL : regBlock rRST_CTL = none := by decide

theorem exec_softwareChipReset {s t : State} (hrun : s.running = true) {v : W32} (h : rstCtlWrite v s = t) :
    exec (.softwareChipReset v) s = .next (t.answer 0 0) :=
  congrArg Host.Outcome.next ((ctl_of_regBlock_none regBlock_rRST_CTL hrun _).trans (by rw [h]))

theorem rstCtlWrite_eq (v : W32) (s : State) : rstCtlWrite v s =
    if (v >>> 16) = 0xA5C3 ∧ v.getLsbD 0 = true then chipReset 2 0 s else raise srcBadKey s :=
  ite_congr (congrArg (· ∧ _) (propext (BitVec.toNat_inj (y := 0xA5C3)))) (fun _ => rfl) fun _ => rfl

/-! ### The power-on reset (R61, R83, R516) -/

/-- The alarm configuration changes registers alone. -/
theorem loadAlarms_eq (l : List (Nat × W64)) (s : State) :
    loadAlarms l s = { s with regs := (loadAlarms l s).regs } := by
  induction l generalizing s with
  | nil => rfl
  | cons p r ih => exact frame_trans (t := s.setReg p.1 p.2) rfl (ih _)

theorem reg_loadAlarms_ne {l : List (Nat × W64)} {a : Nat} (h : ∀ p ∈ l, p.1 ≠ a) (s : State) :
    (loadAlarms l s).reg a = s.reg a := by
  induction l generalizing s with
  | nil => rfl
  | cons p r ih =>
    exact (ih (fun q hq => h q (by simp [hq])) _).trans (reg_setReg_ne s p.2 (Ne.symm (h p (by simp))))

/-- A configuration that names each register once gives each the value it names. -/
theorem reg_loadAlarms_mem {l : List (Nat × W64)} (hl : l.Pairwise fun p q => p.1 ≠ q.1) {p : Nat × W64} (hp : p ∈ l)
    (s : State) : (loadAlarms l s).reg p.1 = p.2 := by
  induction l generalizing s with
  | nil => cases hp
  | cons q r ih =>
    obtain ⟨hq, hr⟩ := List.pairwise_cons.1 hl
    rcases List.mem_cons.1 hp with rfl | hp
    · exact (reg_loadAlarms_ne (fun e he => Ne.symm (hq e he)) _).trans (reg_setReg_same s p.1 p.2)
    · exact ih hr hp _

/-- The power-on reset loads the alarms and samples the strap in a state whose registers are at their reset values. -/
theorem powerOn_eq (vsel : Nat) (s : State) : ∃ t, powerOn vsel s =
      (loadAlarms s.sec.otp.almDefault t).setRf rPWR_STAT PWR_STAT.VSEL vsel ∧ (∀ a, t.reg a = resetValue a) ∧
    t = { State.reset with
      pending := s.pending, free := s.free, resp := s.resp
      rst := { State.reset.rst with pinLow := s.rst.pinLow }
      sec := { State.reset.sec with otp := s.sec.otp, mram := s.sec.mram, eraseMark := s.sec.eraseMark } } :=
  ⟨_, rfl, fun _ => rfl, rfl⟩

theorem powerOn_frame (vsel : Nat) (s : State) : powerOn vsel s = { State.reset with
    pending := s.pending, free := s.free, resp := s.resp, regs := (powerOn vsel s).regs
    rst := { State.reset.rst with pinLow := s.rst.pinLow }
    sec := { State.reset.sec with otp := s.sec.otp, mram := s.sec.mram, eraseMark := s.sec.eraseMark } } := by
  obtain ⟨t, ht, -, hframe⟩ := powerOn_eq vsel s
  have hregs : powerOn vsel s = { t with regs := (powerOn vsel s).regs } := by
    rw [ht]
    exact frame_trans (loadAlarms_eq _ t) (u := State.setRf _ _ _ _) rfl
  rw [hregs, hframe]

/-! ### The obligation -/

/-- Settles O27: each command is a chip reset or the power-on reset, or its refusal, and these are what the lemmas above
say of them. -/
theorem resetsStartTheDeviceAgain : Obligations.ResetsStartTheDeviceAgain := by
  unfold Obligations.ResetsStartTheDeviceAgain
  intro v vsel n s keeps chip
  have hchip : ∀ (pin : Bool) (resp : Resp) (cause src : Nat), cause < 8 → src < 256 →
      let x := { s with rst := { s.rst with pinLow := pin }, resp := resp }
      chip cause src x (chipReset cause src x) := fun _ _ cause src hc hs =>
    ⟨rfl, rf_cause_chipReset hc src _, rf_src_chipReset cause hs _, fun _ ha => reg_chipReset cause src _ ha,
      cavWord_chipReset cause src _⟩
  refine ⟨fun hpin => ?pinFalls, fun hpin => ?pinStaysLow, rfl,
    fun hrun => ⟨fun hkey hchipBit => ?keyed, fun hbad => ?badKey⟩,
    fun tk hn hwait => ⟨fun hdue => ?due, fun hnot => ?early⟩, fun hnone => ?noWait, ?powerOn⟩
  case pinFalls =>
    exact ⟨_, congrArg Host.Outcome.next ((pinReset_low s).trans (if_neg (by simp [hpin]))),
      hchip true s.resp 1 0 (by decide) (by decide)⟩
  case pinStaysLow => exact congrArg Host.Outcome.next ((pinReset_low s).trans (if_pos hpin))
  case keyed =>
    exact ⟨_, exec_softwareChipReset hrun ((rstCtlWrite_eq v s).trans (if_pos ⟨hkey, hchipBit⟩)),
      hchip s.rst.pinLow ⟨0, 0⟩ 2 0 (by decide) (by decide)⟩
  case badKey =>
    refine exec_softwareChipReset hrun ((rstCtlWrite_eq v s).trans (if_neg fun ⟨hkey, hbit⟩ => ?_))
    rcases hbad with hbad | hbad
    · exact hbad hkey
    · exact Bool.false_ne_true (hbad.symm.trans hbit)
  case due =>
    exact ⟨_, congrArg Host.Outcome.next ((sumpReset_of_wait hwait).trans (if_pos ((sumpDue_iff hwait).2 hdue))),
      hchip s.rst.pinLow s.resp 3 n (by decide) hn⟩
  case early =>
    exact congrArg Host.Outcome.next ((sumpReset_of_wait hwait).trans (if_neg (mt (sumpDue_iff hwait).1 hnot)))
  case noWait => exact congrArg Host.Outcome.next (sumpReset_of_none hnone)
  case powerOn =>
    obtain ⟨t, ht, hreset, -⟩ := powerOn_eq vsel.toNat s
    refine ⟨_, rfl, powerOn_frame _ s, ?_, fun a ha hnot => ?_, fun hdistinct p hp hne => ?_⟩
    · rw [ht]
      exact rf_setRf_same _ _ _ _ (by decide) (by decide) vsel.isLt
    · rw [ht, reg_setRf_ne _ _ _ ha, reg_loadAlarms_ne hnot, hreset]
    · rw [ht, reg_setRf_ne _ _ _ hne, reg_loadAlarms_mem hdistinct hp]

end Sys2Proof.Machine
end

section
/-! SUPPORT. A transaction of the bus matrix from its issue to its response or its timeout (R165, R169, R172, R174, R175,
R178). O39 is settled at the end. -/

namespace Sys2Proof.Machine

open Sys2Proof

/-! ### What the tracking entries leave alone (R169, R178) -/

theorem held_freeEntry (m : Nat) (s : State) : (freeEntry m s).held = s.held := by
  funext i
  unfold State.held State.rbit
  rw [reg_freeEntry_ne m s (by unfold rRST_BLK_STAT rBMX_OUT; omega)]

theorem identHeld_congr {s t : State} (h : t.held = s.held) (ident : Nat) : identHeld t ident = identHeld s ident := by
  unfold identHeld
  rw [h]

theorem issueSeq_takeEntry (m : Nat) (s : State) :
    issueSeq (takeEntry m s) = { takeEntry m s with mtx := { s.mtx with issues := s.mtx.issues + 1 } } := by
  have hmtx : (takeEntry m s).mtx = s.mtx := by rw [takeEntry_eq]
  unfold issueSeq
  rw [hmtx]

theorem regBlock_rBMX_OUT {m : Nat} (h : m < 6) : regBlock (rBMX_OUT m) = none := by
  have hblock : (rBMX_OUT m - periphBase) / 0x10000 = 13 := by unfold rBMX_OUT periphBase; omega
  simp only [regBlock, hblock]

/-! ### Issue (R165, R169, R178) -/

/-- The transaction of place i takes an entry and its target answers it, unless that resets the device. -/
theorem issueAt_of_getElem? {i : Nat} {x : Txn} {s : State} (hx : s.txns[i]? = some x) :
    let r := routeAccess x.master x.addr x.bytes x.write x.data x.coll
      (takeTurn x.ident (issueSeq (takeEntry x.master s)))
    r.2.running = true → issueAt i s = { r.2 with
      txns := r.2.txns.modify i fun y => { y with data := r.1.1, code := r.1.2, issued := true, seq := s.mtx.issues } } := by
  intro r hrun
  simp only [issueAt, hx]
  exact if_neg (by rw [hrun]; decide)

theorem bmxIssue_of_held {ident : Nat} {s : State} (h : identHeld s ident = true) (a n : Nat) (wr : Bool) (d : W64)
    (coll : List (Nat × HwnAccess)) : bmxIssue ident a n wr d coll s = s := if_pos (.inr (.inr h))

/-- A transaction joins the list, and is issued where an entry is free and no posted store of the Guide comes first. -/
theorem bmxIssue_of_unheld {ident : Nat} {s : State} (hrun : s.running = true) (hid : ident < 60)
    (hheld : identHeld s ident = false) (a n : Nat) (wr : Bool) (d : W64) (coll : List (Nat × HwnAccess)) :
    bmxIssue ident a n wr d coll s =
      let u := { s with txns := s.txns ++ [newTxn ident a n wr d coll] }
      if identFree s ident = true ∧ (ident = 0 → s.gde.posts = []) then issueAt s.txns.length u
      else countStall (masterOf ident) u := by
  have hgo : ¬ ((!s.running) = true ∨ 60 ≤ ident ∨ identHeld s ident = true) := by simp [hrun, hheld, hid]
  have hfree : (identFree s ident && (ident != 0 || s.gde.posts.isEmpty)) = true ↔
      identFree s ident = true ∧ (ident = 0 → s.gde.posts = []) := by
    by_cases h0 : ident = 0 <;> simp [h0]
  simp only [bmxIssue, if_neg hgo, hfree, List.length_append, List.length_singleton, Nat.add_sub_cancel]

/-! ### What waits for an entry (R169) -/

theorem mayIssue_of_issued {s : State} {x : Txn} (h : x.issued = true) : mayIssue s x = false := by simp [mayIssue, h]

theorem postDrain_of_empty (n : Nat) {s : State} (h : s.gde.posts = []) : postDrain n s = s := by
  cases n with
  | zero => rfl
  | succ n => exact if_pos (by simp [h])

theorem issueWaiting_of_none_waits {m : Nat} {s : State} (h : ∀ y ∈ s.txns, y.master = m → y.issued = true)
    (hposts : m = 0 → s.gde.posts = []) : issueWaiting m s = s := by
  have hdrain : (if m = 0 then postDrain 8 s else s) = s := by
    split
    · exact postDrain_of_empty 8 (hposts ‹_›)
    · rfl
  have hnone : (s.txns.findIdx? fun x => x.master == m && mayIssue s x) = none := by
    rw [List.findIdx?_eq_none_iff]
    intro y hy
    by_cases hm : y.master = m
    · simp [mayIssue_of_issued (h y hy hm)]
    · simp [hm]
  simp only [issueWaiting, hdrain, hnone]

/-! ### The response (R169, R172, R174, R178) -/

/-- The transaction x of place i is off the list, and its entry free. -/
def txnFreed (i : Nat) (x : Txn) (s : State) : State :=
  let f := { s with txns := s.txns.eraseIdx i }
  if x.early then f else freeEntry x.master f

/-- The transaction x of place i is off the list with its entry free, its master, unless held, has data d and code c, and
a transaction of that master that waits has been issued. -/
def txnAnswered (i : Nat) (x : Txn) (d : W64) (c : Nat) (s : State) : State :=
  issueWaiting x.master (if identHeld s x.ident then txnFreed i x s else (txnFreed i x s).answer d c)

theorem identHeld_txnFreed (i : Nat) (x : Txn) (s : State) (ident : Nat) :
    identHeld (txnFreed i x s) ident = identHeld s ident := by
  refine identHeld_congr ?_ ident
  unfold txnFreed
  split
  · rfl
  · exact held_freeEntry _ _

theorem respond_of_none {i : Nat} {s : State} (h : s.txns[i]? = none) : respond i s = s := by simp only [respond, h]

section Listed

variable {i : Nat} {x : Txn} {s : State} (hx : s.txns[i]? = some x)
include hx

/-- A transaction that may not be answered, and not be issued first, is left alone. -/
theorem respond_of_not_mayAnswer (hi : mayIssue s x = false) (ha : mayAnswer s x = false) : respond i s = s := by
  simp [respond, hx, hi, ha]

theorem respond_of_mayAnswer (hissued : x.issued = true) (hord : inOrder s x.seq x.ident x.addr = true) :
    respond i s =
      if x.code = 0 then txnAnswered i x (if x.write then 0 else x.data) 0 s
      else errorResponse x.ident x.addr x.write x.code (txnAnswered i x 0 x.code s) := by
  have hheld := identHeld_txnFreed i x s x.ident
  unfold txnFreed at hheld
  by_cases hc : x.code = 0 <;>
    simp [respond, hx, mayIssue_of_issued hissued, mayAnswer, hissued, hord, hc, txnAnswered, txnFreed, hheld]

/-! ### The timeout (R175) -/

theorem txnTimeout_of_unissued (h : x.issued = false) : txnTimeout i s = s := by simp [txnTimeout, hx, h]

theorem txnTimeout_of_refused (h : timeoutCode x.code = none) : txnTimeout i s = s := by simp [txnTimeout, hx, h]

end Listed

theorem txnTimeout_of_none {i : Nat} {s : State} (h : s.txns[i]? = none) : txnTimeout i s = s := by
  simp only [txnTimeout, h]

/-- The transaction of place i has drawn code c. -/
def withCode (i c : Nat) (s : State) : State := { s with txns := s.txns.modify i fun x => { x with code := c } }

theorem map_filter_modify {α β : Type} {p : α → Bool} {g : α → β} {f : α → α} (hp : ∀ x, p (f x) = p x)
    (hg : ∀ x, g (f x) = g x) (l : List α) (i : Nat) : ((l.modify i f).filter p).map g = (l.filter p).map g := by
  induction l generalizing i with
  | nil => simp
  | cons a r ih => cases i <;> simp [List.filter_cons, hp, apply_ite (List.map g), hg, ih]

/-- The place of a transaction among those in flight does not rest on the code it has drawn (R172). -/
theorem inOrder_withCode (i c : Nat) (s : State) : inOrder (withCode i c s) = inOrder s := by
  have htxns := map_filter_modify (p := fun x : Txn => x.issued && !x.early) (g := fun x => (x.seq, x.ident, x.addr))
    (f := fun x => { x with code := c }) (fun _ => rfl) (fun _ => rfl) s.txns i
  have hflights : flights (withCode i c s) = flights s := by simp only [flights, withCode, tileOf, htxns]
  unfold inOrder
  rw [hflights]

theorem txnFreed_withCode (i c : Nat) (x : Txn) (s : State) :
    txnFreed i { x with code := c } (withCode i c s) = txnFreed i x s := by
  unfold txnFreed withCode
  rw [List.eraseIdx_modify_of_eq]

/-- A transaction whose target has granted it is answered at its timeout with no data and the code of R175. -/
theorem txnTimeout_of_granted {i c : Nat} {x : Txn} {s : State} (hx : s.txns[i]? = some x) (hissued : x.issued = true)
    (hord : inOrder s x.seq x.ident x.addr = true) (hc : timeoutCode x.code = some c) (hc0 : c ≠ 0) :
    txnTimeout i s = errorResponse x.ident x.addr x.write c (txnAnswered i x 0 c s) := by
  have hlate : txnTimeout i s = respond i (withCode i c s) := by simp only [txnTimeout, hx, hissued, hc, withCode]
  have hx' : (withCode i c s).txns[i]? = some { x with code := c } := by simp [withCode, hx]
  rw [hlate, respond_of_mayAnswer hx' hissued (by rw [inOrder_withCode]; exact hord), if_neg hc0]
  unfold txnAnswered
  rw [txnFreed_withCode]
  rfl

theorem timeoutCode_eq_none {c : Nat} (h : c = 1 ∨ c = 2 ∨ c = 0xA) : timeoutCode c = none := by
  rcases h with rfl | rfl | rfl <;> rfl

theorem timeoutCode_eq_some {c : Nat} (h : ¬ (c = 1 ∨ c = 2 ∨ c = 0xA)) :
    timeoutCode c = some (if c = 0 then 0xB else c) := by
  by_cases hc : c = 0 <;> simp [timeoutCode, hc, h]

/-! ### The commands -/

theorem exec_bmxTransactionIssue (ident : BitVec 6) (addr : W32) (bytes : BitVec 4) (wr : Bool) (v : W64) (s : State) :
    exec (.bmxTransactionIssue ident addr bytes wr v) s =
      .next (bmxIssue ident.toNat addr.toNat bytes.toNat wr v [] s) := rfl

theorem exec_peakClr {m3 : BitVec 3} (hm : m3.toNat < 6) {s : State} (hrun : s.running = true) :
    exec (.peakClr m3) s = .next ((peakClr m3.toNat s).answer 0 0) :=
  congrArg Host.Outcome.next ((if_pos hm).trans (ctl_of_regBlock_none (regBlock_rBMX_OUT hm) hrun _))

section Awake

variable {s : State} (hawake : awake s)
include hawake

theorem exec_bmxTransactionResponse (ref : TxnRef) : exec (.bmxTransactionResponse ref) s = .next (respondTo ref s) :=
  congrArg Host.Outcome.next (ev_of_awake hawake _)

theorem exec_bmxTimeout (ref : TxnRef) : exec (.bmxTimeout ref) s = .next (timeoutOf ref s) :=
  congrArg Host.Outcome.next (ev_of_awake hawake _)

/-- The command that stands for the code a load has drawn is its response. -/
theorem exec_guideLoad {l : GLoad} {place : BitVec 3} (hl : s.gde.loads[place.toNat]? = some l) :
    exec (if l.code = 0 then .guideLoadComplete place else .guideLoadError place) s =
      .next (guideEntryFreed (loadAnswer place.toNat s)) := by
  have hends : ∀ error : Bool, ((l.code != 0) == error) = true → loadEnds place.toNat error s = loadAnswer place.toNat s :=
    fun error he => if_pos (by simpa [hl] using he)
  by_cases hc : l.code = 0
  · rw [if_pos hc, ← hends false (by simp [hc])]
    exact congrArg Host.Outcome.next (ev_of_awake hawake _)
  · rw [if_neg hc, ← hends true (by simp [hc])]
    exact congrArg Host.Outcome.next (ev_of_awake hawake _)

theorem exec_chamberCavernLoadReturn (tile : BitVec 4) :
    exec (.chamberCavernLoadReturn tile) s = .next (chamberReturns tile.toNat s) :=
  congrArg Host.Outcome.next (ev_of_awake hawake _)

end Awake

/-! ### The obligation -/

/-- Settles O39: the issue, the response and the timeout are what the lemmas above say of them; the response to the Guide's
loads and to a Chamber's access is the response command of that unit. -/
theorem matrixTransactionsAreIssuedAndAnswered : Obligations.MatrixTransactionsAreIssuedAndAnswered := by
  unfold Obligations.MatrixTransactionsAreIssuedAndAnswered
  intro ident addr bytes wr v index place tile m3 s id m new u i resp late free
  refine ⟨fun hrun hid => ⟨fun hheld => ?held, fun hheld hfull => ?waits, fun hheld hfree => ?issues⟩,
    fun hrun hm => exec_peakClr hm hrun, fun hawake => ⟨fun x hx => ?listed, fun hnone => ?unlisted,
      fun l hl => ?load, fun t ht => ?chamber, issueWaiting_of_none_waits⟩⟩
  case held => exact congrArg Host.Outcome.next (bmxIssue_of_held hheld _ _ _ _ _)
  case waits =>
    rw [exec_bmxTransactionIssue, bmxIssue_of_unheld hrun hid hheld]
    exact congrArg Host.Outcome.next (if_neg hfull)
  case issues =>
    intro r y hr
    rw [exec_bmxTransactionIssue, bmxIssue_of_unheld hrun hid hheld]
    refine congrArg Host.Outcome.next ((if_pos hfree).trans ?_)
    have hnew : u.txns[s.txns.length]? = some new := List.getElem?_concat_length
    have hissue := issueAt_of_getElem? hnew
    rw [issueSeq_takeEntry] at hissue
    exact hissue hr
  case listed =>
    have hresp : exec resp s = .next (respond i s) := exec_bmxTransactionResponse hawake _
    have hlate : exec late s = .next (txnTimeout i s) := exec_bmxTimeout hawake _
    intro first f f' goes ends
    rw [hresp, hlate]
    refine ⟨fun ⟨hissued, hord⟩ => ⟨?response, fun hc => ?refused, fun hc => ?timeout⟩, fun hissued hord => ?early,
      fun hwaits => ⟨?unissued, fun hnot => ?stillWaits⟩⟩
    case response =>
      rw [respond_of_mayAnswer hx hissued hord]
      by_cases hc : x.code = 0
      · simp only [ends, hc, if_true]
        rfl
      · simp only [ends, hc, if_false]
        rfl
    case refused => rw [txnTimeout_of_refused hx (timeoutCode_eq_none hc)]
    case timeout =>
      have hc0 : (if x.code = 0 then 0xB else x.code) ≠ 0 := by
        split
        · decide
        · assumption
      rw [txnTimeout_of_granted hx hissued hord (timeoutCode_eq_some hc) hc0]
      exact congrArg Host.Outcome.next (if_neg hc0).symm
    case early => rw [respond_of_not_mayAnswer hx (mayIssue_of_issued hissued) (by simp [mayAnswer, hord])]
    case unissued => rw [txnTimeout_of_unissued hx hwaits]
    case stillWaits =>
      rw [respond_of_not_mayAnswer hx (by rcases hnot with h | h <;> simp [mayIssue, h]) (by simp [mayAnswer, hwaits])]
  case unlisted =>
    exact ⟨(exec_bmxTransactionResponse hawake _).trans (congrArg Host.Outcome.next (respond_of_none hnone)),
      (exec_bmxTimeout hawake _).trans (congrArg Host.Outcome.next (txnTimeout_of_none hnone))⟩
  case load => exact (exec_bmxTransactionResponse hawake _).trans (exec_guideLoad hawake hl).symm
  case chamber =>
    rw [exec_chamberCavernLoadReturn hawake] at ht
    cases ht
    exact exec_bmxTransactionResponse hawake _

end Sys2Proof.Machine
end
